-- ==== Sys2Proof/Word.lean ====
section
/-!
DEFINITION. The word types of the PT1624: bytes, the 48-bit link word (R15), the 32-bit result and aux words (R73, R74).
-/
namespace Sys2Proof

/-- One byte. -/
abbrev Byte := BitVec 8

/-- One link word, 48 bits, sent least significant bit first (R15). -/
abbrev LinkBits := BitVec 48

/-- One branch, 0 to 3 (R12). -/
abbrev BranchNo := Fin 4

/-- One field channel, 0 to 15 (R12). -/
abbrev ChanNo := Fin 16

/-- One handle slot, 0 to 127 (R35). -/
abbrev SlotNo := Fin 128

/-- One queue, 0 to 63 (R212). -/
abbrev QueueNo := Fin 64

/-- One DMA channel, 0 to 15 (R234). -/
abbrev DmaNo := Fin 16

/-- One filter unit, 0 to 31 (R100). -/
abbrev UnitNo := Fin 32

end Sys2Proof
end

