-- ==== Sys2Proof/Syntax.lean ====
section
/-!
DEFINITION. The commands of the block: one constructor of Instr for each row of spec/opcode_table.json, with the operands of the happening.

Conventions (log entry 3): a command that is a request carries a Req or a Request; a happening whose instant is not fixed by
the cycle carries it as t, the module's own ring time in ns (R5).
-/
namespace Sys2Proof

/-- Who sends a request, and when it reaches the dictionary engine: REQ_ID and SEQ of R256, and the ring time t in ns. -/
structure Req where
  id  : Nat
  seq : Nat
  t   : Nat
  deriving DecidableEq, Repr

/-- The request record of R256, NODE apart. data is the little-endian number in the LEN bytes of DATA. -/
structure Request where
  id      : Nat
  seq     : Nat
  op      : Nat
  len     : Nat
  ix      : Nat
  sub     : Nat
  segment : Nat := 0
  hnd     : Nat := 0
  total   : Nat := 0
  data    : Nat := 0
  t       : Nat := 0
  deriving DecidableEq, Repr

/-- The two directions of a branch link (R16). -/
inductive Dir where
  | toCrown
  | toBranch
  deriving DecidableEq, Repr

/-- The converter whose result or bits a word carries (R16, R80). -/
inductive Role where
  | p
  | c
  | t
  deriving DecidableEq, Repr

/-- The converter whose modulator bits a BITSTREAM word carries, and whether that modulator was overloaded among them (R16, R72). -/
structure BitsOf where
  role : Role
  ov   : Bool := false
  deriving DecidableEq, Repr

/-- What the hardware of a branch measured in one window (R64 to R89, R131, R132, R137): packets subtracted and residue at the end for
P, C and T, with the residues sampled at the start where they are sampled afresh (s), overload of each, the two half values of an
open-wire test in µV, the longest unbroken activity of the loop-output saturation detector in ns and whether it was active at all,
whether the input limiter and the transmitter supply limited, the mean of VFb in 10 mV, for a MONITOR handle the mean sample in µV, or
in m°C for the die temperature, and what T's tracking measured last: the drifted against the healthy reference, in 0.1 ppm (R86). -/
structure WinMeas where
  nP      : Nat := 0
  sP      : Nat := 0
  rP      : Nat := 0
  nC      : Nat := 0
  sC      : Nat := 0
  rC      : Nat := 0
  nT      : Nat := 0
  sT      : Nat := 0
  rT      : Nat := 0
  ovP     : Bool := false
  ovC     : Bool := false
  ovT     : Bool := false
  vFirst  : Int := 0
  vSecond : Int := 0
  satNs   : Nat := 0
  satEver : Bool := false
  limiter : Bool := false
  txLim   : Bool := false
  vf      : Nat := 0
  mon     : Int := 0
  track   : Int := 0
  deriving DecidableEq, Repr

/-- The operand fields of one step of the active table (R189), with the step's index. -/
structure StepOp where
  idx   : Nat
  slot  : Nat
  hslot : Nat := 0
  queue : Nat := 0
  param : Nat := 0
  deriving DecidableEq, Repr

/-- A request record inside a cycle frame: NODE and the record (R256, R294). -/
structure FrameReq where
  node : Nat
  req  : Request
  deriving DecidableEq, Repr

/-- A canopy beacon (R349). -/
structure Beacon where
  rank       : Nat := 0
  leader     : Bool := false
  state      : Nat := 0
  verMinor   : Nat := 0
  verMajor   : Nat := 1
  ownSafe    : Bool := false
  timeLost   : Bool := false
  adopt      : Bool := false
  viewStale  : Bool := false
  cstate     : Nat := 0
  node       : Nat := 0
  cycle      : Nat := 0
  serial     : Nat := 0
  offset     : Int := 0
  admitted   : Nat := 0
  grant      : Nat := 8
  grantKind  : Nat := 0
  viewSeq    : Nat := 0
  term       : Nat := 0
  digestTag  : Nat := 0
  deriving DecidableEq, Repr

/-- The canopy transfer record (R360). -/
structure Transfer where
  sender  : Nat := 0
  kind    : Nat := 0
  target  : Nat := 0
  pos     : Nat := 0
  total   : Nat := 0
  vseq    : Nat := 0
  payload : List Nat := []
  deriving DecidableEq, Repr

/-- A Tsupo cycle frame as it passes the node (R288, R289, R294, R347): the header fields, the bytes of this node's output part,
the requests in frame order, the canopy region, the port it entered, whether its FCS is good, wrong here or marked upstream. -/
structure Frame where
  verMajor   : Nat := 1
  ftype      : Nat := 1
  copy       : Bool := false
  posaddr    : Bool := false
  ringSync   : Bool := false
  broken     : Bool := false
  hops       : Nat := 0
  cycleIndex : Nat := 0
  ringTime   : Nat := 0
  cycleNs    : Nat := 1000000
  pdLen      : Nat := 0
  acycGroups : Nat := 0
  sealCount  : Nat := 0
  pdEpoch    : Nat := 0
  served     : Nat := 0
  outputs    : List Nat := []
  requests   : List FrameReq := []
  beacons    : List Beacon := []
  transfer   : Option Transfer := none
  portB      : Bool := false
  fcsOk      : Bool := true
  upstream   : Bool := false
  tArr       : Nat := 0
  tEnd       : Nat := 0
  deriving DecidableEq, Repr

/-- Increments of one channel's life counters reported by a branch (R374); what trips and clamp events add is counted with them. -/
structure LifeInc where
  chan      : ChanNo
  onTime    : Nat := 0
  cycles    : Nat := 0
  energy    : Nat := 0
  peakTemp  : Int := 0
  tcycles   : Nat := 0
  deriving DecidableEq, Repr

/-- The header of an image and the outcome of hashing its body (R387): fields of the header and the SHA-256 of the body read. -/
structure ImageHeader where
  kind      : Nat := 1
  version   : Nat := 0
  length    : Nat := 0
  keyId     : Nat := 0
  bodyHash  : Nat := 0
  signature : Nat := 0
  deriving DecidableEq, Repr

/-- The commands. One constructor per row of spec/opcode_table.json, in the table's order. -/
inductive Instr where
  -- branch links (R15 to R19)
  | apply (b : BranchNo) (w : LinkBits) (t : Nat)
  | posture (b : BranchNo) (w : LinkBits) (t : Nat)
  | stage (b : BranchNo) (w : LinkBits) (t : Nat)
  | conv (b : BranchNo) (w : LinkBits) (t : Nat)
  | config (b : BranchNo) (w : LinkBits) (t : Nat)
  | heartbeat (b : BranchNo) (d : Dir) (w : LinkBits) (t : Nat)
  | protEvent (b : BranchNo) (w : LinkBits) (t : Nat)
  | status (b : BranchNo) (w : LinkBits) (vf : Nat) (die t0 t1 t2 t3 : Int) (t : Nat)
  | resultWord (b : BranchNo) (w : LinkBits) (r : Role) (t : Nat)
  | bitstream (b : BranchNo) (w : LinkBits) (x : BitsOf) (t : Nat)
  -- loss, hold and adoption (R333 to R338)
  | branchLinkLost (b : BranchNo) (t : Nat)
  | crownLinkLost (b : BranchNo) (t : Nat)
  | holdEnd (b : BranchNo) (t : Nat)
  | crownHoldEnd (b : BranchNo) (t : Nat)
  | linkUp (b : BranchNo) (t : Nat)
  | branchConfigured (b : BranchNo) (t : Nat)
  | brRelease (r : Req) (mask : Nat)
  -- handles (R42 to R52)
  | hmCreate (r : Req) (rcd : Nat)
  | createComplete (t : Nat)
  | hmDestroy (r : Req) (h : Nat)
  | destroyComplete (t : Nat)
  | arm (r : Req) (h : Nat)
  | start (r : Req) (h : Nat)
  | stop (r : Req) (h : Nat)
  | safe (r : Req) (h : Nat)
  | resume (r : Req) (h : Nat)
  | clear (r : Req) (h : Nat)
  -- module commands (R54)
  | goPreop (r : Req)
  | goOperate (r : Req)
  | devSafe (r : Req)
  | devResume (r : Req)
  | hold (r : Req)
  | enterService (r : Req)
  | leaveService (r : Req)
  | pupCodeWrite (r : Req) (isValue : Bool) (n : ChanNo) (v : Nat)
  | pupWriteDone (t : Nat)
  | restoreComplete (t : Nat)
  -- converters (R64 to R96)
  | windowEnd (h : SlotNo) (m : WinMeas) (t : Nat)
  | fastBlockEnd (h : SlotNo) (m : WinMeas) (t : Nat)
  | mainsTimeout (h : SlotNo) (t : Nat)
  | refReady (b : BranchNo) (t : Nat)
  | refinFault (b : BranchNo) (mv : Nat) (t : Nat)
  | refinRestored (b : BranchNo) (mv : Nat) (t : Nat)
  | calibrationCycle (b : BranchNo) (devA devB zero : Int) (t : Nat)
  | cvUrgentReq (r : Req) (h : Nat)
  | urgentResult (h : SlotNo) (m : WinMeas) (t : Nat)
  | monitorUrgentDone (h : SlotNo) (mon : Int) (t : Nat)
  -- filter chain (R100 to R126)
  | crDataWrite (r : Req) (v : Nat)
  | crDataRead (r : Req)
  | bankDescriptorWrite (r : Req) (i : UnitNo) (k : Fin 3) (sub v : Nat)
  | bkLoad (r : Req) (i : UnitNo) (k : Fin 3)
  | bkLoadComplete (t : Nat)
  | fiBankReq (r : Req) (i : UnitNo) (v : Nat)
  | syncLandEdge (rising : Bool) (t : Nat)
  -- loops and levels (R131 to R151)
  | limiterAct (h : SlotNo) (mv : Nat) (t : Nat)
  | txsupLimitTimeout (n : ChanNo) (t : Nat)
  | txsupOffEnd (n : ChanNo) (t : Nat)
  | lpComplianceAck (r : Req) (h : Nat)
  | trimWrite (r : Req) (h : Nat) (span : Bool) (v : Nat)
  | tbEnable (r : Req)
  | tbEnableTimeout (t : Nat)
  | buttonPress (span trd : Bool) (t : Nat)
  | buttonRepeat (trd : Bool) (t : Nat)
  | buttonRelease (t : Nat)
  | levelRawChange (n : ChanNo) (raw : Bool) (t : Nat)
  | levelEdgeAccepted (n : ChanNo) (t : Nat)
  | lineFaultDeclared (n : ChanNo) (short : Bool) (na : Nat) (t : Nat)
  | lineFaultEnd (n : ChanNo) (na : Nat) (t : Nat)
  | lvCountClear (r : Req) (h : Nat)
  -- load switches (R159 to R185)
  | pwmPeriodStart (n : ChanNo) (vf : Nat) (t : Nat)
  | overcurrentTrip (n : ChanNo) (ma : Nat) (t : Nat)
  | shortCircuit (n : ChanNo) (t : Nat)
  | thermalTrip (n : ChanNo) (temp : Int) (t : Nat)
  | cool (n : ChanNo) (temp : Int) (t : Nat)
  | tempWarn (b : BranchNo) (set : Bool) (temp : Int) (who : Nat) (t : Nat)
  | attemptSuccess (n : ChanNo) (t : Nat)
  | tLimExpiry (n : ChanNo) (ma : Nat) (t : Nat)
  | retryGapEnd (n : ChanNo) (temp : Int) (t : Nat)
  | retryRestore (n : ChanNo) (t : Nat)
  | clampEvent (n : ChanNo) (energy : Nat) (tempStart : Int) (tStart : Nat) (t : Nat)
  | swClampAck (r : Req) (h : Nat)
  | loadTest (n : ChanNo) (vS vO : Nat) (t : Nat)
  | iselChange (b : BranchNo) (sel : Fin 4) (t : Nat)
  | halfRetired (n : ChanNo) (half : Bool) (t : Nat)
  | halvesLost (n : ChanNo) (t : Nat)
  | stuckOn (n : ChanNo) (half : Bool) (ma : Nat) (t : Nat)
  -- the sequencer (R189 to R208)
  | cycleFix (t : Nat)
  | cycleBoundary (t : Nat)
  | nop (o : StepOp)
  | startConv (o : StepOp)
  | urgentConv (o : StepOp)
  | latchResult (o : StepOp)
  | openPacket (o : StepOp)
  | pushResult (o : StepOp)
  | commitPacket (o : StepOp)
  | applyOutput (o : StepOp)
  | sampleInputs (o : StepOp)
  | syncFilters (o : StepOp)
  | diagWindow (o : StepOp)
  | markTime (o : StepOp)
  | waitCycle (o : StepOp)
  | sqSwap (r : Req) (v : Nat)
  | sqSwapCheckDone (t : Nat)
  | guDetAck (r : Req) (v : Nat)
  -- queues (R212 to R237)
  | quEnable (r : Req) (q : QueueNo)
  | quDisable (r : Req) (q : QueueNo)
  | quRead (r : Req) (q : QueueNo)
  | quRead3 (r : Req) (q : QueueNo)
  | mark (r : Req) (q : QueueNo)
  | rewind (r : Req) (q : QueueNo)
  | release (r : Req) (q : QueueNo)
  | flush (r : Req) (q : QueueNo)
  | ack (r : Req) (q : QueueNo)
  | quReleaseAt (r : Req) (q : QueueNo) (p : Nat)
  | quWrite (r : Req) (q : QueueNo) (bytes : List Nat)
  | quWriteEndCommit (r : Req) (q : QueueNo)
  | quWriteEndAbort (r : Req) (q : QueueNo)
  | spillTransfer (c : DmaNo) (t : Nat)
  | fillTransfer (c : DmaNo) (t : Nat)
  | writeBeatResume (q : QueueNo) (held : Nat) (t : Nat)
  | dmStart (r : Req) (c : DmaNo)
  | dmStop (r : Req) (c : DmaNo)
  | dmTrigger (r : Req) (c : DmaNo)
  | captureCopy (c : DmaNo) (t : Nat)
  | dmRdData (r : Req) (c : DmaNo)
  | xspiNoStrobe (nor : Bool) (t : Nat)
  | coefRepair (addr : Nat) (readable : Bool) (t : Nat)
  | scrub (mem : Fin 3) (reading : Bool) (corrected : Nat) (double : List Nat) (t : Nat)
  -- the dictionary (R256 to R273)
  | registerWrite (q : Request)
  | echo (q : Request)
  | segmentedRead (q : Request)
  | segmentedWrite (q : Request)
  | deferredComplete (t : Nat)
  | txOpen (r : Req) (v : Nat)
  | txCommit (r : Req) (n : Nat)
  | txCommitDone (t : Nat)
  | txAbort (r : Req) (n : Nat)
  | txTimeout (n : Nat) (t : Nat)
  | pvUnlock (r : Req) (code : Nat)
  | pvLock (r : Req) (v : Nat)
  | pvServiceCode (r : Req) (code : Nat)
  | pvTimeout (id : Nat) (t : Nat)
  | pvLockoutEnd (t : Nat)
  -- the ring (R283 to R304)
  | cycleFrame (f : Frame)
  | delayFrame (portB : Bool) (copy : Bool) (num : Nat) (t : Nat)
  | foreignFrame (portB : Bool) (fcsOk upstream : Bool) (t : Nat)
  | portLinkLost (portB : Bool) (t : Nat)
  | portLinkUp (portB : Bool) (t : Nat)
  | loopReopen (portB : Bool) (t : Nat)
  | pdwExpired (t : Nat)
  -- the local port (R310 to R320)
  | spiRead (addr words : Nat) (cutShort : Bool) (tick t : Nat)
  | spiWrite (addr : Nat) (data : List Nat) (cutShort : Bool) (t : Nat)
  | ptValueLoRead (h : SlotNo) (tick t : Nat)
  | ptValueHiRead (h : SlotNo) (j : Fin 3) (tick t : Nat)
  | ptStatusWrite (v : Nat) (t : Nat)
  | ptIrqAck (v : Nat) (t : Nat)
  | ptMbCtrl (v : Nat) (t : Nat)
  -- watchdogs (R323 to R332)
  | wdCheckin (w1 : Bool) (r : Req) (id : Nat)
  | wdKey1 (w1 : Bool) (r : Req) (tick : Nat)
  | wdKey2 (w1 : Bool) (r : Req) (tick : Nat)
  | wdWindowClose (w1 : Bool) (t : Nat)
  | wdStage2 (w1 : Bool) (t : Nat)
  | wd1Enable (r : Req)
  | wd1Disable (r : Req)
  | wdoPulseEnd (t : Nat)
  -- canopy, heartwood, calendar (R362 to R385)
  | cnAdopt (r : Req)
  | fold (t : Nat)
  | lifeFlush (t : Nat)
  | hwFlush (r : Req)
  | counterReport (b : BranchNo) (incs : List LifeInc) (t : Nat)
  | ringRecord (year : Nat) (late : Bool) (t : Nat)
  | evRead (r : Req)
  | calCompare (cal : Nat) (t : Nat)
  | calFree (t : Nat)
  | calTimeWrite (r : Req) (v : Nat)
  -- grafts (R386 to R393)
  | erase (r : Req)
  | grHkData (r : Req) (bytes : List Nat)
  | verify (r : Req)
  | swap (r : Req)
  | confirm (r : Req)
  | cancel (r : Req)
  | hkSwapReady (ms : Nat) (t : Nat)
  | hkSwapTimeout (t : Nat)
  | hkWaitTimeout (t : Nat)
  | hkConfirmTimeout (t : Nat)
  | calStart (r : Req)
  | calLow (r : Req)
  | calHigh (r : Req)
  | calApply (r : Req)
  | calAbort (r : Req)
  | calRestore (r : Req)
  | calGraftTimeout (t : Nat)
  | grUcStart (r : Req) (b : BranchNo)
  | ucSwitched (b : BranchNo) (version ms : Nat) (t : Nat)
  | ucReverted (b : BranchNo) (ms : Nat) (t : Nat)
  | ucAbandoned (b : BranchNo) (t : Nat)
  -- supplies, start and ladder (R396 to R414)
  | vinValid (t : Nat)
  | pwrWarnSet (t : Nat)
  | pwrWarnCleared (minMv us : Nat) (t : Nat)
  | brownOut (t : Nat)
  | vinAbsent (t : Nat)
  | vbakMeasure (mv : Nat) (t : Nat)
  | rstn (t : Nat)
  | clockLoss (t : Nat)
  | pwrResetCmd (r : Req) (v : Nat)
  | crownStart (vio vbak : Nat) (nor : Option Nat) (testHigh : Bool) (psram : Nat) (bank0 bank1 : Bool) (failed : List Nat) (t : Nat)
  | branchStart (b : BranchNo) (t : Nat)
  | vfbValid (b : BranchNo) (t : Nat)
  | underVoltageLock (b : BranchNo) (vf : Nat) (t : Nat)
  | lockReleased (b : BranchNo) (ms : Nat) (t : Nat)
  | branchOff (b : BranchNo) (t : Nat)
  | vfWarn (b : BranchNo) (set : Bool) (vf : Nat) (t : Nat)
  | vfHigh (b : BranchNo) (set : Bool) (vf : Nat) (t : Nat)
  | descent (t : Nat)
  | wake (source : Nat) (t : Nat)
  | txsupCurrentLimit (n : ChanNo) (active : Bool) (t : Nat)
  | lineFaultComparator (n : ChanNo) (short active : Bool) (t : Nat)
  | watchComplianceJudgement (h : SlotNo) (satNs : Nat) (satEver : Bool) (t : Nat)
  | housekeepingCoreResetEnd (t : Nat)
  | vbakLost (t : Nat)
  deriving DecidableEq, Repr

end Sys2Proof
end

