-- ==== Sys2Proof/Machine/Bits.lean ====
section
/-!
DEFINITION. Bit fields, two's complement, little-endian bytes, CRC and SHA-256, rounding of fractions.
-/
namespace Sys2Proof.Machine

/-- Bits lo to lo + n - 1 of v. -/
def bitsOf (v lo n : Nat) : Nat := (v >>> lo) % 2 ^ n

/-- Bit i of v. -/
def bitOf (v i : Nat) : Bool := v.testBit i

/-- v with bit i set to b. -/
def setBit (v i : Nat) (b : Bool) : Nat :=
  if b then v ||| 2 ^ i else if v.testBit i then v ^^^ 2 ^ i else v

/-- 1 for true. -/
def nat01 (b : Bool) : Nat := if b then 1 else 0

/-- The n-bit two's complement of i. -/
def ofInt (n : Nat) (i : Int) : Nat := (i % (2 ^ n : Nat)).toNat

/-- The integer that an n-bit two's complement pattern stands for. -/
def toInt (n : Nat) (v : Nat) : Int :=
  let w := v % 2 ^ n
  if w < 2 ^ (n - 1) then (w : Int) else (w : Int) - (2 ^ n : Nat)

/-- i limited to lo..hi. -/
def clampInt (lo hi i : Int) : Int := if i < lo then lo else if hi < i then hi else i

/-- n bytes of v, least significant first. -/
def bytesLE : Nat → Nat → List Nat
  | 0, _ => []
  | n + 1, v => v % 256 :: bytesLE n (v / 256)

/-- The number whose little-endian bytes are given. -/
def ofBytesLE : List Nat → Nat
  | [] => 0
  | b :: r => b % 256 + 256 * ofBytesLE r

/-- Little-endian concatenation of fields given as (bytes, value). -/
def packLE : List (Nat × Nat) → Nat
  | [] => 0
  | (n, v) :: r => v % 256 ^ n + 256 ^ n * packLE r

/-- floor((2 n + d) / (2 d)), the nearest integer to n / d with ties towards plus infinity; d = 0 gives 0. -/
def roundDiv (n : Int) (d : Nat) : Int := if d = 0 then 0 else (2 * n + d) / (2 * (d : Int))

/-- One byte of the CRC-8 of R15, polynomial 0x07. -/
def crc8Byte (c b : Nat) : Nat :=
  let f := fun (x : Nat) => if x.testBit 7 then (x * 2 % 256) ^^^ 0x07 else x * 2 % 256
  f (f (f (f (f (f (f (f (c ^^^ b))))))))

/-- CRC-8 over bytes, initial value 0xFF (R15). -/
def crc8 (bs : List Nat) : Nat := bs.foldl crc8Byte 0xFF

/-- One byte of the CRC-16 of R215, polynomial 0x1021, most significant bit first. -/
def crc16Byte (c b : Nat) : Nat :=
  let f := fun (x : Nat) => if x.testBit 15 then (x * 2 % 65536) ^^^ 0x1021 else x * 2 % 65536
  f (f (f (f (f (f (f (f (c ^^^ (b * 256)))))))))

/-- CRC-16 over bytes, initial value 0xFFFF (R215). -/
def crc16 (bs : List Nat) : Nat := bs.foldl crc16Byte 0xFFFF

/-- One byte of the reflected CRC-32 (IEEE 802.3). -/
def crc32Byte (c b : Nat) : Nat :=
  let f := fun (x : Nat) => if x.testBit 0 then (x / 2) ^^^ 0xEDB88320 else x / 2
  f (f (f (f (f (f (f (f (c ^^^ b))))))))

/-- CRC-32 (IEEE 802.3) over bytes (R110, R366). -/
def crc32 (bs : List Nat) : Nat := bs.foldl crc32Byte 0xFFFFFFFF ^^^ 0xFFFFFFFF

/-- The largest r below 2 ^ n, added to base, whose e-th power does not exceed v: one bit a step. -/
def rootFrom (e v : Nat) : Nat → Nat → Nat
  | 0, base => base
  | n + 1, base => rootFrom e v n (if (base + 2 ^ n) ^ e ≤ v then base + 2 ^ n else base)

/-- The first 32 bits of the fraction of the e-th root of p. -/
def rootFraction (e p : Nat) : Nat := rootFrom e (p * 2 ^ (32 * e)) 37 0 % 2 ^ 32

/-- The primes below 54, and those from 59 to 311. -/
def lowPrimes : List Nat := [2, 3, 5, 7, 11, 13, 17, 19, 23, 29, 31, 37, 41, 43, 47, 53]
def highPrimes : List Nat :=
  [59, 61, 67, 71, 73, 79, 83, 89, 97, 101, 103, 107, 109, 113, 127, 131, 137, 139, 149, 151, 157, 163, 167, 173] ++
  [179, 181, 191, 193, 197, 199, 211, 223, 227, 229, 233, 239, 241, 251, 257, 263, 269, 271, 277, 281, 283, 293, 307, 311]

/-- The round constants of SHA-256: the fractions of the cube roots of the first 64 primes. -/
def shaK : List Nat := (lowPrimes ++ highPrimes).map (rootFraction 3)

/-- The words SHA-256 starts from: the fractions of the square roots of the first 8 primes. -/
def shaStart : List Nat := (lowPrimes.take 8).map (rootFraction 2)

/-- Rotation of a 32-bit word to the right. -/
def rotr (n x : Nat) : Nat := (x >>> n) ||| (x <<< (32 - n)) % 2 ^ 32

/-- The message schedule, newest word first, extended by n words. -/
def shaSchedule : Nat → List Nat → List Nat
  | 0, w => w
  | n + 1, w =>
    let s0 := let x := w.getD 14 0; rotr 7 x ^^^ rotr 18 x ^^^ (x >>> 3)
    let s1 := let x := w.getD 1 0; rotr 17 x ^^^ rotr 19 x ^^^ (x >>> 10)
    shaSchedule n ((w.getD 15 0 + s0 + w.getD 6 0 + s1) % 2 ^ 32 :: w)

/-- One round of the compression on the eight working words. -/
def shaRound (v : List Nat) (kw : Nat × Nat) : List Nat :=
  match v with
  | [a, b, c, d, e, f, g, h] =>
    let s1 := rotr 6 e ^^^ rotr 11 e ^^^ rotr 25 e
    let ch := (e &&& f) ^^^ ((e ^^^ 0xFFFFFFFF) &&& g)
    let t1 := h + s1 + ch + kw.1 + kw.2
    let s0 := rotr 2 a ^^^ rotr 13 a ^^^ rotr 22 a
    let maj := (a &&& b) ^^^ (a &&& c) ^^^ (b &&& c)
    [(t1 + s0 + maj) % 2 ^ 32, a, b, c, (d + t1) % 2 ^ 32, e, f, g]
  | _ => v

/-- One 64-byte block, its words given most significant byte first. -/
def shaBlock (h : List Nat) (words : List Nat) : List Nat :=
  let w := (shaSchedule 48 words.reverse).reverse
  let v := (shaK.zip w).foldl shaRound h
  (h.zip v).map (fun p => (p.1 + p.2) % 2 ^ 32)

/-- Big-endian words of a byte list. -/
def wordsBE : List Nat → List Nat
  | a :: b :: c :: d :: r => (a * 2 ^ 24 + b * 2 ^ 16 + c * 2 ^ 8 + d) :: wordsBE r
  | _ => []

/-- The blocks of a word list; n bounds their number. -/
def shaBlocks : Nat → List Nat → List Nat → List Nat
  | 0, h, _ => h
  | n + 1, h, w => if w.length < 16 then h else shaBlocks n (shaBlock h (w.take 16)) (w.drop 16)

/-- SHA-256 of a byte list, as 32 bytes. -/
def sha256 (bs : List Nat) : List Nat :=
  let l := bs.length
  let pad := (119 - l % 64) % 64
  let msg := bs ++ [0x80] ++ List.replicate pad 0 ++ (bytesLE 8 (8 * l)).reverse
  let h := shaBlocks (msg.length / 64 + 1) shaStart (wordsBE msg)
  (h.map (fun w => (bytesLE 4 w).reverse)).flatten

end Sys2Proof.Machine
end

