-- ==== Sys2Proof/Config.lean ====
section
/-!
DEFINITION. What an implementation fixes and the values the spec leaves open. Every constant here is opaque: it has no body, so no
proof can see its value (log entries 5 to 11 say which rule leaves it open).
-/
namespace Sys2Proof

/-- A free value: the n-th value of which the spec says only that there is one (log entry 7). -/
opaque Config.freeValue : Nat → BitVec 64

/-- The configuration digest of a branch: SHA-256 over the values of R336, whose serialisation the spec does not give. The argument
lists the (object, value) pairs in the model's order (log entry 8). -/
opaque Config.branchDigest : List (Nat × Nat) → BitVec 256

/-- ECDSA P-256 verification of R387: key number, digest of header bits 0 to 351, signature (log entry 9). -/
opaque Config.ecdsaVerify : Nat → Nat → Nat → Bool

/-- The identity objects of R278 that the spec leaves to the part: order code, serial number, die issues, versions, file name. -/
opaque Config.identity : Nat → Nat

/-- The firmware's settings of watchdog W0 within the limits of R330: T_OPEN, T_CLOSE, t_WARN and the required mask by index
0 to 3 (R323, R341). -/
opaque Config.wd0 : Nat → Nat

/-- The rate a proportional-integral law forms from an offset and the previous rate (R297); the law's gains are not given. -/
opaque Config.piRate : Int → Int → Int

/-- The law by which the crown disciplines a branch oscillator (R22): the trim in 0.1 ppm from the previous trim, the ns between two
HEARTBEAT words and whether the ring's cycle is locked; the law is not given. -/
opaque Config.trimLaw : Int → Nat → Bool → Int

end Sys2Proof
end

