-- ==== Sys2Proof/Machine/Reg.lean ====
section
/-! DEFINITION. The names of the dictionary objects (R250, R255): the key of index:sub is index * 256 + sub. -/
namespace Sys2Proof.Machine

/-- 02F0:01 (R31). -/
abbrev Reg.OPS_IN_USE : Nat := 0x02F001
/-- 02F0:02 (R31). -/
abbrev Reg.OPS_PEAK : Nat := 0x02F002
/-- 02F0:03 (R31). -/
abbrev Reg.OPS_BUSY_COUNT : Nat := 0x02F003
/-- 02F0:04 (R31). -/
abbrev Reg.OPS_PROT_LOST : Nat := 0x02F004
/-- 02F0:05 (R31). -/
abbrev Reg.OPS_EVT_LOST : Nat := 0x02F005
/-- 02F1:01 (R31). -/
abbrev Reg.SPR_T_FREE : Nat := 0x02F101
/-- 02F1:02 (R31). -/
abbrev Reg.SPR_HALVES : Nat := 0x02F102
/-- 02F1:03 (R31). -/
abbrev Reg.SPR_IMAGES : Nat := 0x02F103
/-- 02F1:04 (R31). -/
abbrev Reg.SPR_CFG_BANKS : Nat := 0x02F104
/-- 02F1:05 (R31). -/
abbrev Reg.SPR_MAINT : Nat := 0x02F105
/-- 02F2:01 + n (R31). -/
abbrev Reg.LINK_STATE (n : Nat) : Nat := 0x02F201 + n
/-- 02F2:05 + n (R31). -/
abbrev Reg.LINK_DISCARD (n : Nat) : Nat := 0x02F205 + n
/-- 1000:01 (R47). -/
abbrev Reg.HM_CREATE : Nat := 0x100001
/-- 1000:02 (R47). -/
abbrev Reg.HM_DESTROY : Nat := 0x100002
/-- 1000:03 (R47). -/
abbrev Reg.HM_REFUSE : Nat := 0x100003
/-- 1000:04 (R47). -/
abbrev Reg.HM_REFUSE_REQ : Nat := 0x100004
/-- 1000:05 (R47). -/
abbrev Reg.HM_SLOTS_FREE : Nat := 0x100005
/-- 1000:06 (R47). -/
abbrev Reg.HM_FILTERS_FREE : Nat := 0x100006
/-- 1000:07 (R47). -/
abbrev Reg.HM_CMD_DROPPED : Nat := 0x100007
/-- 1010:01 + n (R47). -/
abbrev Reg.PUP_CODE (n : Nat) : Nat := 0x101001 + n
/-- 1011:01 + n (R47). -/
abbrev Reg.PUP_VALUE (n : Nat) : Nat := 0x101101 + n
/-- I:01 of slot k (R48). -/
abbrev Reg.HND_ID (k : Nat) : Nat := (0x2000 + 0x40 * k) * 256 + 0x1
/-- I:02 of slot k (R48). -/
abbrev Reg.HND_KIND (k : Nat) : Nat := (0x2000 + 0x40 * k) * 256 + 0x2
/-- I:03 of slot k (R48). -/
abbrev Reg.HND_STATE (k : Nat) : Nat := (0x2000 + 0x40 * k) * 256 + 0x3
/-- I:04 of slot k (R48). -/
abbrev Reg.HND_CMD (k : Nat) : Nat := (0x2000 + 0x40 * k) * 256 + 0x4
/-- I:05 of slot k (R48). -/
abbrev Reg.HND_BIND (k : Nat) : Nat := (0x2000 + 0x40 * k) * 256 + 0x5
/-- I:06 of slot k (R48). -/
abbrev Reg.HND_FILTER (k : Nat) : Nat := (0x2000 + 0x40 * k) * 256 + 0x6
/-- I:07 of slot k (R48). -/
abbrev Reg.HND_POSTURE (k : Nat) : Nat := (0x2000 + 0x40 * k) * 256 + 0x7
/-- I:08 of slot k (R48). -/
abbrev Reg.HND_POSTURE_VALUE (k : Nat) : Nat := (0x2000 + 0x40 * k) * 256 + 0x8
/-- I:09 of slot k (R48). -/
abbrev Reg.HND_SAFE_CAUSE (k : Nat) : Nat := (0x2000 + 0x40 * k) * 256 + 0x9
/-- I:0A of slot k (R48). -/
abbrev Reg.HND_DRIVER (k : Nat) : Nat := (0x2000 + 0x40 * k) * 256 + 0xA
/-- I:10 of slot k (R97). -/
abbrev Reg.CV_WINDOW (k : Nat) : Nat := (0x2000 + 0x40 * k) * 256 + 0x10
/-- I:11 of slot k (R97). -/
abbrev Reg.CV_WINDOW_N (k : Nat) : Nat := (0x2000 + 0x40 * k) * 256 + 0x11
/-- I:12 of slot k (R97). -/
abbrev Reg.CV_MAINS_SRC (k : Nat) : Nat := (0x2000 + 0x40 * k) * 256 + 0x12
/-- I:13 of slot k (R97). -/
abbrev Reg.CV_MAINS_STATE (k : Nat) : Nat := (0x2000 + 0x40 * k) * 256 + 0x13
/-- I:14 of slot k (R97). -/
abbrev Reg.CV_FORMAT (k : Nat) : Nat := (0x2000 + 0x40 * k) * 256 + 0x14
/-- I:15 of slot k (R97). -/
abbrev Reg.CV_RANGE (k : Nat) : Nat := (0x2000 + 0x40 * k) * 256 + 0x15
/-- I:16 of slot k (R97). -/
abbrev Reg.CV_PLAUS_PCT (k : Nat) : Nat := (0x2000 + 0x40 * k) * 256 + 0x16
/-- I:17 of slot k (R97). -/
abbrev Reg.CV_PLAUS_CNT (k : Nat) : Nat := (0x2000 + 0x40 * k) * 256 + 0x17
/-- I:18 of slot k (R97). -/
abbrev Reg.CV_PLAUS_STATE (k : Nat) : Nat := (0x2000 + 0x40 * k) * 256 + 0x18
/-- I:19 of slot k (R97). -/
abbrev Reg.CV_ROLE (k : Nat) : Nat := (0x2000 + 0x40 * k) * 256 + 0x19
/-- I:1A of slot k (R97). -/
abbrev Reg.CV_OW_PERIOD (k : Nat) : Nat := (0x2000 + 0x40 * k) * 256 + 0x1A
/-- I:1B of slot k (R97). -/
abbrev Reg.CV_OW_CURRENT (k : Nat) : Nat := (0x2000 + 0x40 * k) * 256 + 0x1B
/-- I:1C of slot k (R97). -/
abbrev Reg.CV_OW_RLIMIT (k : Nat) : Nat := (0x2000 + 0x40 * k) * 256 + 0x1C
/-- I:1D of slot k (R97). -/
abbrev Reg.CV_OW_RSRC (k : Nat) : Nat := (0x2000 + 0x40 * k) * 256 + 0x1D
/-- I:1E of slot k (R97). -/
abbrev Reg.CV_URGENT_REQ (k : Nat) : Nat := (0x2000 + 0x40 * k) * 256 + 0x1E
/-- I:1F of slot k (R97). -/
abbrev Reg.CV_URGENT (k : Nat) : Nat := (0x2000 + 0x40 * k) * 256 + 0x1F
/-- I:20 of slot k (R152). -/
abbrev Reg.LP_IN_VALUE (k : Nat) : Nat := (0x2000 + 0x40 * k) * 256 + 0x20
/-- I:21 of slot k (R152). -/
abbrev Reg.LP_BAND (k : Nat) : Nat := (0x2000 + 0x40 * k) * 256 + 0x21
/-- I:22 of slot k (R152). -/
abbrev Reg.LP_STATUS (k : Nat) : Nat := (0x2000 + 0x40 * k) * 256 + 0x22
/-- I:23 of slot k (R152). -/
abbrev Reg.LP_R_EXT (k : Nat) : Nat := (0x2000 + 0x40 * k) * 256 + 0x23
/-- I:24 of slot k (R152). -/
abbrev Reg.LP_TX_SET (k : Nat) : Nat := (0x2000 + 0x40 * k) * 256 + 0x24
/-- I:28 of slot k (R152). -/
abbrev Reg.LP_TRIM_ZERO (k : Nat) : Nat := (0x2000 + 0x40 * k) * 256 + 0x28
/-- I:29 of slot k (R152). -/
abbrev Reg.LP_TRIM_SPAN (k : Nat) : Nat := (0x2000 + 0x40 * k) * 256 + 0x29
/-- I:2A of slot k (R152). -/
abbrev Reg.LP_TRIM_TIME (k : Nat) : Nat := (0x2000 + 0x40 * k) * 256 + 0x2A
/-- I:20 of slot k (R153). -/
abbrev Reg.LP_OUT_SET (k : Nat) : Nat := (0x2000 + 0x40 * k) * 256 + 0x20
/-- I:21 of slot k (R153). -/
abbrev Reg.LP_OUT_ACTUAL (k : Nat) : Nat := (0x2000 + 0x40 * k) * 256 + 0x21
/-- I:23 of slot k (R153). -/
abbrev Reg.LP_ALARM_LOW (k : Nat) : Nat := (0x2000 + 0x40 * k) * 256 + 0x23
/-- I:24 of slot k (R153). -/
abbrev Reg.LP_ALARM_HIGH (k : Nat) : Nat := (0x2000 + 0x40 * k) * 256 + 0x24
/-- I:25 of slot k (R153). -/
abbrev Reg.LP_COMPLIANCE_POLICY (k : Nat) : Nat := (0x2000 + 0x40 * k) * 256 + 0x25
/-- I:26 of slot k (R153). -/
abbrev Reg.LP_COMPLIANCE_ACK (k : Nat) : Nat := (0x2000 + 0x40 * k) * 256 + 0x26
/-- I:27 of slot k (R153). -/
abbrev Reg.LP_OUT_TARGET (k : Nat) : Nat := (0x2000 + 0x40 * k) * 256 + 0x27
/-- I:10 of slot k (R156). -/
abbrev Reg.LV_STATE (k : Nat) : Nat := (0x2000 + 0x40 * k) * 256 + 0x10
/-- I:11 of slot k (R156). -/
abbrev Reg.LV_DEBOUNCE (k : Nat) : Nat := (0x2000 + 0x40 * k) * 256 + 0x11
/-- I:12 of slot k (R156). -/
abbrev Reg.LV_INVERT (k : Nat) : Nat := (0x2000 + 0x40 * k) * 256 + 0x12
/-- I:13 of slot k (R156). -/
abbrev Reg.LV_LINE_DETECT (k : Nat) : Nat := (0x2000 + 0x40 * k) * 256 + 0x13
/-- I:14 of slot k (R156). -/
abbrev Reg.LV_COUNT_RISE (k : Nat) : Nat := (0x2000 + 0x40 * k) * 256 + 0x14
/-- I:15 of slot k (R156). -/
abbrev Reg.LV_COUNT_FALL (k : Nat) : Nat := (0x2000 + 0x40 * k) * 256 + 0x15
/-- I:16 of slot k (R156). -/
abbrev Reg.LV_TIME_RISE (k : Nat) : Nat := (0x2000 + 0x40 * k) * 256 + 0x16
/-- I:17 of slot k (R156). -/
abbrev Reg.LV_TIME_FALL (k : Nat) : Nat := (0x2000 + 0x40 * k) * 256 + 0x17
/-- I:18 of slot k (R156). -/
abbrev Reg.LV_COUNT_CLEAR (k : Nat) : Nat := (0x2000 + 0x40 * k) * 256 + 0x18
/-- I:19 of slot k (R156). -/
abbrev Reg.LV_SENSOR_CURRENT (k : Nat) : Nat := (0x2000 + 0x40 * k) * 256 + 0x19
/-- I:10 of slot k (R186). -/
abbrev Reg.SW_CMD (k : Nat) : Nat := (0x2000 + 0x40 * k) * 256 + 0x10
/-- I:11 of slot k (R186). -/
abbrev Reg.SW_DUTY (k : Nat) : Nat := (0x2000 + 0x40 * k) * 256 + 0x11
/-- I:12 of slot k (R186). -/
abbrev Reg.SW_PWM_FREQ (k : Nat) : Nat := (0x2000 + 0x40 * k) * 256 + 0x12
/-- I:13 of slot k (R186). -/
abbrev Reg.SW_STATE (k : Nat) : Nat := (0x2000 + 0x40 * k) * 256 + 0x13
/-- I:14 of slot k (R186). -/
abbrev Reg.SW_FLAGS (k : Nat) : Nat := (0x2000 + 0x40 * k) * 256 + 0x14
/-- I:15 of slot k (R186). -/
abbrev Reg.SW_I_TRIP (k : Nat) : Nat := (0x2000 + 0x40 * k) * 256 + 0x15
/-- I:16 of slot k (R186). -/
abbrev Reg.SW_T_FILT (k : Nat) : Nat := (0x2000 + 0x40 * k) * 256 + 0x16
/-- I:17 of slot k (R186). -/
abbrev Reg.SW_THERMAL_POLICY (k : Nat) : Nat := (0x2000 + 0x40 * k) * 256 + 0x17
/-- I:18 of slot k (R186). -/
abbrev Reg.SW_RETRY_N (k : Nat) : Nat := (0x2000 + 0x40 * k) * 256 + 0x18
/-- I:19 of slot k (R186). -/
abbrev Reg.SW_RETRY_GAP (k : Nat) : Nat := (0x2000 + 0x40 * k) * 256 + 0x19
/-- I:1A of slot k (R186). -/
abbrev Reg.SW_I_LIM (k : Nat) : Nat := (0x2000 + 0x40 * k) * 256 + 0x1A
/-- I:1B of slot k (R186). -/
abbrev Reg.SW_T_LIM (k : Nat) : Nat := (0x2000 + 0x40 * k) * 256 + 0x1B
/-- I:1C of slot k (R186). -/
abbrev Reg.SW_RETRY_LEFT (k : Nat) : Nat := (0x2000 + 0x40 * k) * 256 + 0x1C
/-- I:1D of slot k (R186). -/
abbrev Reg.SW_COMP_K (k : Nat) : Nat := (0x2000 + 0x40 * k) * 256 + 0x1D
/-- I:1E of slot k (R186). -/
abbrev Reg.SW_COMP_VREF (k : Nat) : Nat := (0x2000 + 0x40 * k) * 256 + 0x1E
/-- I:1F of slot k (R186). -/
abbrev Reg.SW_DUTY_ACTUAL (k : Nat) : Nat := (0x2000 + 0x40 * k) * 256 + 0x1F
/-- I:20 of slot k (R186). -/
abbrev Reg.SW_LOADTEST (k : Nat) : Nat := (0x2000 + 0x40 * k) * 256 + 0x20
/-- I:21 of slot k (R186). -/
abbrev Reg.SW_V_OL (k : Nat) : Nat := (0x2000 + 0x40 * k) * 256 + 0x21
/-- I:22 of slot k (R186). -/
abbrev Reg.SW_I_OUT (k : Nat) : Nat := (0x2000 + 0x40 * k) * 256 + 0x22
/-- I:23 of slot k (R186). -/
abbrev Reg.SW_TEMP (k : Nat) : Nat := (0x2000 + 0x40 * k) * 256 + 0x23
/-- I:24 of slot k (R186). -/
abbrev Reg.SW_HALF_SHARE (k : Nat) : Nat := (0x2000 + 0x40 * k) * 256 + 0x24
/-- I:25 of slot k (R186). -/
abbrev Reg.SW_CLAMP_LAST (k : Nat) : Nat := (0x2000 + 0x40 * k) * 256 + 0x25
/-- I:26 of slot k (R186). -/
abbrev Reg.SW_CLAMP_SINGLE (k : Nat) : Nat := (0x2000 + 0x40 * k) * 256 + 0x26
/-- I:27 of slot k (R186). -/
abbrev Reg.SW_CLAMP_REP (k : Nat) : Nat := (0x2000 + 0x40 * k) * 256 + 0x27
/-- I:28 of slot k (R186). -/
abbrev Reg.SW_CLAMP_ACK (k : Nat) : Nat := (0x2000 + 0x40 * k) * 256 + 0x28
/-- I:29 of slot k (R186). -/
abbrev Reg.SW_TRIP_CAUSE (k : Nat) : Nat := (0x2000 + 0x40 * k) * 256 + 0x29
/-- I:20 of slot k (R155). -/
abbrev Reg.VI_VALUE (k : Nat) : Nat := (0x2000 + 0x40 * k) * 256 + 0x20
/-- 0200:01 (R55). -/
abbrev Reg.DEV_STATE : Nat := 0x020001
/-- 0200:02 (R55). -/
abbrev Reg.DEV_CMD : Nat := 0x020002
/-- 0200:03 (R55). -/
abbrev Reg.DEV_SAFE_CAUSE : Nat := 0x020003
/-- 9010+b:01 (R98). -/
abbrev Reg.BR_REF_SEL (b : Nat) : Nat := (0x9010 + b) * 256 + 0x1
/-- 9010+b:02 (R98). -/
abbrev Reg.BR_REF_STATUS (b : Nat) : Nat := (0x9010 + b) * 256 + 0x2
/-- 9010+b:03 (R98). -/
abbrev Reg.BR_CAL_PERIOD (b : Nat) : Nat := (0x9010 + b) * 256 + 0x3
/-- 9010+b:04 (R98). -/
abbrev Reg.BR_T_STATE (b : Nat) : Nat := (0x9010 + b) * 256 + 0x4
/-- 9010+b:05 (R98). -/
abbrev Reg.BR_T_CHANNEL (b : Nat) : Nat := (0x9010 + b) * 256 + 0x5
/-- 9010+b:06 (R98). -/
abbrev Reg.BR_VOTES (b : Nat) : Nat := (0x9010 + b) * 256 + 0x6
/-- 9010+b:07 (R98). -/
abbrev Reg.BR_RETIRED (b : Nat) : Nat := (0x9010 + b) * 256 + 0x7
/-- 9010+b:08 (R98). -/
abbrev Reg.BR_REF_RATIO (b : Nat) : Nat := (0x9010 + b) * 256 + 0x8
/-- I:01 of filter unit i (R127). -/
abbrev Reg.FI_HANDLE (i : Nat) : Nat := (0x5000 + 0x40 * i) * 256 + 0x1
/-- I:02 of filter unit i (R127). -/
abbrev Reg.FI_STATE (i : Nat) : Nat := (0x5000 + 0x40 * i) * 256 + 0x2
/-- I:03 of filter unit i (R127). -/
abbrev Reg.FI_CLASS (i : Nat) : Nat := (0x5000 + 0x40 * i) * 256 + 0x3
/-- I:04 of filter unit i (R127). -/
abbrev Reg.FI_CIC_ORDER (i : Nat) : Nat := (0x5000 + 0x40 * i) * 256 + 0x4
/-- I:05 of filter unit i (R127). -/
abbrev Reg.FI_CIC_M (i : Nat) : Nat := (0x5000 + 0x40 * i) * 256 + 0x5
/-- I:06 of filter unit i (R127). -/
abbrev Reg.FI_CIC_SHIFT (i : Nat) : Nat := (0x5000 + 0x40 * i) * 256 + 0x6
/-- I:07 of filter unit i (R127). -/
abbrev Reg.FI_BANKS (i : Nat) : Nat := (0x5000 + 0x40 * i) * 256 + 0x7
/-- I:08 of filter unit i (R127). -/
abbrev Reg.FI_ACTIVE (i : Nat) : Nat := (0x5000 + 0x40 * i) * 256 + 0x8
/-- I:09 of filter unit i (R127). -/
abbrev Reg.FI_FADE_TARGET (i : Nat) : Nat := (0x5000 + 0x40 * i) * 256 + 0x9
/-- I:0A of filter unit i (R127). -/
abbrev Reg.FI_PENDING (i : Nat) : Nat := (0x5000 + 0x40 * i) * 256 + 0xA
/-- I:0B of filter unit i (R127). -/
abbrev Reg.FI_BANK_REQ (i : Nat) : Nat := (0x5000 + 0x40 * i) * 256 + 0xB
/-- I:0C of filter unit i (R127). -/
abbrev Reg.FI_FADE_LEN (i : Nat) : Nat := (0x5000 + 0x40 * i) * 256 + 0xC
/-- I:0D of filter unit i (R127). -/
abbrev Reg.FI_FADE_STATE (i : Nat) : Nat := (0x5000 + 0x40 * i) * 256 + 0xD
/-- I:0E of filter unit i (R127). -/
abbrev Reg.FI_FADE_POS (i : Nat) : Nat := (0x5000 + 0x40 * i) * 256 + 0xE
/-- I:0F of filter unit i (R127). -/
abbrev Reg.FI_D (i : Nat) : Nat := (0x5000 + 0x40 * i) * 256 + 0xF
/-- I:10 of filter unit i (R127). -/
abbrev Reg.FI_L (i : Nat) : Nat := (0x5000 + 0x40 * i) * 256 + 0x10
/-- I:11 of filter unit i (R127). -/
abbrev Reg.FI_M (i : Nat) : Nat := (0x5000 + 0x40 * i) * 256 + 0x11
/-- I:12 of filter unit i (R127). -/
abbrev Reg.FI_DELAY_NS (i : Nat) : Nat := (0x5000 + 0x40 * i) * 256 + 0x12
/-- I:13 of filter unit i (R127). -/
abbrev Reg.FI_TS_MODE (i : Nat) : Nat := (0x5000 + 0x40 * i) * 256 + 0x13
/-- I:14 of filter unit i (R127). -/
abbrev Reg.FI_OUT_PERIOD_NS (i : Nat) : Nat := (0x5000 + 0x40 * i) * 256 + 0x14
/-- I:15 of filter unit i (R127). -/
abbrev Reg.FI_SYNC_GROUP (i : Nat) : Nat := (0x5000 + 0x40 * i) * 256 + 0x15
/-- I:16 of filter unit i (R127). -/
abbrev Reg.FI_LOAD (i : Nat) : Nat := (0x5000 + 0x40 * i) * 256 + 0x16
/-- I:17 of filter unit i (R127). -/
abbrev Reg.FI_SAT_COUNT (i : Nat) : Nat := (0x5000 + 0x40 * i) * 256 + 0x17
/-- I:18 of filter unit i (R127). -/
abbrev Reg.FI_ACTIVE_CRC (i : Nat) : Nat := (0x5000 + 0x40 * i) * 256 + 0x18
/-- J:01 of bank k of unit i (R128). -/
abbrev Reg.BK_BASE (i k : Nat) : Nat := (0x5810 + 3 * i + k) * 256 + 0x1
/-- J:02 of bank k of unit i (R128). -/
abbrev Reg.BK_N2 (i k : Nat) : Nat := (0x5810 + 3 * i + k) * 256 + 0x2
/-- J:03 of bank k of unit i (R128). -/
abbrev Reg.BK_M2 (i k : Nat) : Nat := (0x5810 + 3 * i + k) * 256 + 0x3
/-- J:04 of bank k of unit i (R128). -/
abbrev Reg.BK_S2 (i k : Nat) : Nat := (0x5810 + 3 * i + k) * 256 + 0x4
/-- J:05 of bank k of unit i (R128). -/
abbrev Reg.BK_N3 (i k : Nat) : Nat := (0x5810 + 3 * i + k) * 256 + 0x5
/-- J:06 of bank k of unit i (R128). -/
abbrev Reg.BK_M3 (i k : Nat) : Nat := (0x5810 + 3 * i + k) * 256 + 0x6
/-- J:07 of bank k of unit i (R128). -/
abbrev Reg.BK_S3 (i k : Nat) : Nat := (0x5810 + 3 * i + k) * 256 + 0x7
/-- J:08 of bank k of unit i (R128). -/
abbrev Reg.BK_LOAD (i k : Nat) : Nat := (0x5810 + 3 * i + k) * 256 + 0x8
/-- J:09 of bank k of unit i (R128). -/
abbrev Reg.BK_STATE (i k : Nat) : Nat := (0x5810 + 3 * i + k) * 256 + 0x9
/-- J:0A of bank k of unit i (R128). -/
abbrev Reg.BK_SYM (i k : Nat) : Nat := (0x5810 + 3 * i + k) * 256 + 0xA
/-- J:0B of bank k of unit i (R128). -/
abbrev Reg.BK_DELAY_CLK (i k : Nat) : Nat := (0x5810 + 3 * i + k) * 256 + 0xB
/-- J:0C of bank k of unit i (R128). -/
abbrev Reg.BK_DCGAIN (i k : Nat) : Nat := (0x5810 + 3 * i + k) * 256 + 0xC
/-- J:0D of bank k of unit i (R128). -/
abbrev Reg.BK_CRC (i k : Nat) : Nat := (0x5810 + 3 * i + k) * 256 + 0xD
/-- 5800:01 (R129). -/
abbrev Reg.FE_CAPACITY : Nat := 0x580001
/-- 5800:02 (R129). -/
abbrev Reg.FE_RESERVED : Nat := 0x580002
/-- 5800:03 (R129). -/
abbrev Reg.FE_RING_SYNC_MASK : Nat := 0x580003
/-- 5800:04 (R129). -/
abbrev Reg.FE_LAND_SYNC_MASK : Nat := 0x580004
/-- 5800:05 (R129). -/
abbrev Reg.FE_LAND_SYNC_EDGE : Nat := 0x580005
/-- 5800:06 (R129). -/
abbrev Reg.FE_SYNC_COUNT : Nat := 0x580006
/-- 5801:01 (R129). -/
abbrev Reg.CR_ADDR : Nat := 0x580101
/-- 5801:02 (R129). -/
abbrev Reg.CR_DATA : Nat := 0x580102
/-- 9020:01 (R157). -/
abbrev Reg.TB_ENABLE : Nat := 0x902001
/-- 9020:02 (R157). -/
abbrev Reg.TB_HANDLE : Nat := 0x902002
/-- 9020:03 (R157). -/
abbrev Reg.TB_STATUS : Nat := 0x902003
/-- 9020:04 (R157). -/
abbrev Reg.TB_LANDS : Nat := 0x902004
/-- 9020:05 (R157). -/
abbrev Reg.TB_LAST_DELTA : Nat := 0x902005
/-- 0210:01 (R209). -/
abbrev Reg.SQ_SWAP : Nat := 0x021001
/-- 0210:02 (R209). -/
abbrev Reg.SQ_SWAP_TIME : Nat := 0x021002
/-- 0210:03 (R209). -/
abbrev Reg.SQ_SWAP_STATE : Nat := 0x021003
/-- 0210:04 (R209). -/
abbrev Reg.SQ_CHECK : Nat := 0x021004
/-- 0210:05 (R209). -/
abbrev Reg.SQ_CYCLE_SRC : Nat := 0x021005
/-- 0210:06 (R209). -/
abbrev Reg.SQ_LOCAL_PERIOD : Nat := 0x021006
/-- 0210:07 (R209). -/
abbrev Reg.SQ_CYCLE_NS : Nat := 0x021007
/-- 0210:08 (R209). -/
abbrev Reg.SQ_LOCK : Nat := 0x021008
/-- 0210:09 (R209). -/
abbrev Reg.SQ_CYCLE_INDEX : Nat := 0x021009
/-- 0210:0A (R209). -/
abbrev Reg.SQ_LATCH_GUARD : Nat := 0x02100A
/-- 0210:0B (R209). -/
abbrev Reg.SQ_OVERRUN : Nat := 0x02100B
/-- 0210:0C (R209). -/
abbrev Reg.SQ_SKIPPED : Nat := 0x02100C
/-- 0210:0D (R209). -/
abbrev Reg.SQ_UNBOUND : Nat := 0x02100D
/-- 0210:0E (R209). -/
abbrev Reg.SQ_MAX_LATE : Nat := 0x02100E
/-- 0210:0F (R209). -/
abbrev Reg.SQ_BUF_DROPPED : Nat := 0x02100F
/-- 0210:10 + n (R209). -/
abbrev Reg.SQ_MARK (n : Nat) : Nat := 0x021010 + n
/-- 0211:01 (R210). -/
abbrev Reg.GU_MODE : Nat := 0x021101
/-- 0211:02 (R210). -/
abbrev Reg.GU_DET_HOLDS : Nat := 0x021102
/-- 0211:03 (R210). -/
abbrev Reg.GU_DET_CAUSE : Nat := 0x021103
/-- 0211:04 (R210). -/
abbrev Reg.GU_DET_FIRST : Nat := 0x021104
/-- 0211:05 (R210). -/
abbrev Reg.GU_DET_LAST : Nat := 0x021105
/-- 0211:06 (R210). -/
abbrev Reg.GU_DET_COUNT : Nat := 0x021106
/-- 0211:07 (R210). -/
abbrev Reg.GU_DET_ACK : Nat := 0x021107
/-- 0211:08 (R210). -/
abbrev Reg.GU_ATOM_LAST_TXN : Nat := 0x021108
/-- 0211:09 (R210). -/
abbrev Reg.GU_ATOM_RECOVERIES : Nat := 0x021109
/-- Q:01 (R246). -/
abbrev Reg.QU_STATE (q : Nat) : Nat := (0x4000 + 0x10 * q) * 256 + 0x1
/-- Q:02 (R246). -/
abbrev Reg.QU_ENABLE (q : Nat) : Nat := (0x4000 + 0x10 * q) * 256 + 0x2
/-- Q:03 (R246). -/
abbrev Reg.QU_SEG_SIZE (q : Nat) : Nat := (0x4000 + 0x10 * q) * 256 + 0x3
/-- Q:04 (R246). -/
abbrev Reg.QU_SPILL_CHAN (q : Nat) : Nat := (0x4000 + 0x10 * q) * 256 + 0x4
/-- Q:05 (R246). -/
abbrev Reg.QU_SPILL_MARK (q : Nat) : Nat := (0x4000 + 0x10 * q) * 256 + 0x5
/-- Q:06 (R246). -/
abbrev Reg.QU_PRODUCER (q : Nat) : Nat := (0x4000 + 0x10 * q) * 256 + 0x6
/-- Q:07 (R246). -/
abbrev Reg.QU_WM_HIGH (q : Nat) : Nat := (0x4000 + 0x10 * q) * 256 + 0x7
/-- Q:08 (R246). -/
abbrev Reg.QU_WM_LOW (q : Nat) : Nat := (0x4000 + 0x10 * q) * 256 + 0x8
/-- Q:09 (R246). -/
abbrev Reg.QU_MAX_PACKET (q : Nat) : Nat := (0x4000 + 0x10 * q) * 256 + 0x9
/-- Q:0A (R246). -/
abbrev Reg.QU_POINTERS (q : Nat) : Nat := (0x4000 + 0x10 * q) * 256 + 0xA
/-- Q:0B (R246). -/
abbrev Reg.QU_LEVEL (q : Nat) : Nat := (0x4000 + 0x10 * q) * 256 + 0xB
/-- Q:0C (R246). -/
abbrev Reg.QU_READ (q : Nat) : Nat := (0x4000 + 0x10 * q) * 256 + 0xC
/-- Q:0D (R246). -/
abbrev Reg.QU_READ3 (q : Nat) : Nat := (0x4000 + 0x10 * q) * 256 + 0xD
/-- Q:0E (R246). -/
abbrev Reg.QU_CMD (q : Nat) : Nat := (0x4000 + 0x10 * q) * 256 + 0xE
/-- Q:0F (R246). -/
abbrev Reg.QU_RELEASE_AT (q : Nat) : Nat := (0x4000 + 0x10 * q) * 256 + 0xF
/-- Q:10 (R246). -/
abbrev Reg.QU_NOTICE (q : Nat) : Nat := (0x4000 + 0x10 * q) * 256 + 0x10
/-- Q:11 (R246). -/
abbrev Reg.QU_WRITE (q : Nat) : Nat := (0x4000 + 0x10 * q) * 256 + 0x11
/-- Q:12 (R246). -/
abbrev Reg.QU_WRITE_END (q : Nat) : Nat := (0x4000 + 0x10 * q) * 256 + 0x12
/-- Q:13 (R246). -/
abbrev Reg.QU_COMMITTED (q : Nat) : Nat := (0x4000 + 0x10 * q) * 256 + 0x13
/-- Q:14 (R246). -/
abbrev Reg.QU_ABORTED (q : Nat) : Nat := (0x4000 + 0x10 * q) * 256 + 0x14
/-- Q:15 (R246). -/
abbrev Reg.QU_LAST_ABORT (q : Nat) : Nat := (0x4000 + 0x10 * q) * 256 + 0x15
/-- Q:16 (R246). -/
abbrev Reg.QU_STALLS (q : Nat) : Nat := (0x4000 + 0x10 * q) * 256 + 0x16
/-- Q:17 (R246). -/
abbrev Reg.QU_VOID (q : Nat) : Nat := (0x4000 + 0x10 * q) * 256 + 0x17
/-- D:01 (R247). -/
abbrev Reg.DM_ROLE (c : Nat) : Nat := (0x4410 + c) * 256 + 0x1
/-- D:02 (R247). -/
abbrev Reg.DM_QUEUE (c : Nat) : Nat := (0x4410 + c) * 256 + 0x2
/-- D:03 (R247). -/
abbrev Reg.DM_BASE (c : Nat) : Nat := (0x4410 + c) * 256 + 0x3
/-- D:04 (R247). -/
abbrev Reg.DM_SIZE (c : Nat) : Nat := (0x4410 + c) * 256 + 0x4
/-- D:05 (R247). -/
abbrev Reg.DM_POLICY (c : Nat) : Nat := (0x4410 + c) * 256 + 0x5
/-- D:06 (R247). -/
abbrev Reg.DM_POST (c : Nat) : Nat := (0x4410 + c) * 256 + 0x6
/-- D:07 (R247). -/
abbrev Reg.DM_TRIG_CODE (c : Nat) : Nat := (0x4410 + c) * 256 + 0x7
/-- D:08 (R247). -/
abbrev Reg.DM_CTRL (c : Nat) : Nat := (0x4410 + c) * 256 + 0x8
/-- D:09 (R247). -/
abbrev Reg.DM_STATE (c : Nat) : Nat := (0x4410 + c) * 256 + 0x9
/-- D:0A (R247). -/
abbrev Reg.DM_WRITE_INDEX (c : Nat) : Nat := (0x4410 + c) * 256 + 0xA
/-- D:0B (R247). -/
abbrev Reg.DM_OLDEST (c : Nat) : Nat := (0x4410 + c) * 256 + 0xB
/-- D:0C (R247). -/
abbrev Reg.DM_WRAPS (c : Nat) : Nat := (0x4410 + c) * 256 + 0xC
/-- D:0D (R247). -/
abbrev Reg.DM_RD_ADDR (c : Nat) : Nat := (0x4410 + c) * 256 + 0xD
/-- D:0E (R247). -/
abbrev Reg.DM_RD_DATA (c : Nat) : Nat := (0x4410 + c) * 256 + 0xE
/-- D:0F (R247). -/
abbrev Reg.DM_DROPPED (c : Nat) : Nat := (0x4410 + c) * 256 + 0xF
/-- D:10 (R247). -/
abbrev Reg.DM_TRIG_TIME (c : Nat) : Nat := (0x4410 + c) * 256 + 0x10
/-- 4400:01 (R248). -/
abbrev Reg.QM_SRAM_FREE : Nat := 0x440001
/-- 4400:02 (R248). -/
abbrev Reg.QM_NOTICE_SUMMARY : Nat := 0x440002
/-- 4400:03 (R248). -/
abbrev Reg.QM_PSRAM_STATE : Nat := 0x440003
/-- 4400:04 (R248). -/
abbrev Reg.QM_PSRAM_RAW : Nat := 0x440004
/-- 4400:05 (R248). -/
abbrev Reg.QM_PSRAM_USABLE : Nat := 0x440005
/-- 4400:06 (R248). -/
abbrev Reg.QM_NOR_STATE : Nat := 0x440006
/-- 4400:07 (R248). -/
abbrev Reg.QM_NOR_SIZE : Nat := 0x440007
/-- 4400:08 (R248). -/
abbrev Reg.QM_XSPI_CLOCK : Nat := 0x440008
/-- 4400:09 (R248). -/
abbrev Reg.QM_PSRAM_RD_OP : Nat := 0x440009
/-- 4400:0A (R248). -/
abbrev Reg.QM_PSRAM_WR_OP : Nat := 0x44000A
/-- 4400:0B (R248). -/
abbrev Reg.QM_PSRAM_LATENCY : Nat := 0x44000B
/-- 4400:0C (R248). -/
abbrev Reg.QM_SCRUB_RATE : Nat := 0x44000C
/-- 4400:0D (R248). -/
abbrev Reg.QM_SCRUB_PASS : Nat := 0x44000D
/-- 4400:0E (R248). -/
abbrev Reg.QM_ECC_SRAM_CORR : Nat := 0x44000E
/-- 4400:0F (R248). -/
abbrev Reg.QM_ECC_SRAM_DOUBLE : Nat := 0x44000F
/-- 4400:10 (R248). -/
abbrev Reg.QM_ECC_COEF_CORR : Nat := 0x440010
/-- 4400:11 (R248). -/
abbrev Reg.QM_ECC_COEF_DOUBLE : Nat := 0x440011
/-- 4400:12 (R248). -/
abbrev Reg.QM_ECC_PSRAM_CORR : Nat := 0x440012
/-- 4400:13 (R248). -/
abbrev Reg.QM_ECC_PSRAM_DOUBLE : Nat := 0x440013
/-- 0100:01 (R278). -/
abbrev Reg.ID_VENDOR : Nat := 0x010001
/-- 0100:02 (R278). -/
abbrev Reg.ID_ORDER_CODE : Nat := 0x010002
/-- 0100:03 (R278). -/
abbrev Reg.ID_SERIAL : Nat := 0x010003
/-- 0100:04 (R278). -/
abbrev Reg.ID_DIE_ISSUE : Nat := 0x010004
/-- 0100:05 (R278). -/
abbrev Reg.ID_HK_VERSION : Nat := 0x010005
/-- 0100:06 (R278). -/
abbrev Reg.ID_BR_UCODE : Nat := 0x010006
/-- 0100:07 (R278). -/
abbrev Reg.ID_DICT_VERSION : Nat := 0x010007
/-- 0100:08 (R278). -/
abbrev Reg.ID_BMD_NAME : Nat := 0x010008
/-- 0220:01 (R279). -/
abbrev Reg.TX_OPEN : Nat := 0x022001
/-- 0220:02 (R279). -/
abbrev Reg.TX_COMMIT : Nat := 0x022002
/-- 0220:03 (R279). -/
abbrev Reg.TX_ABORT : Nat := 0x022003
/-- 0220:04 (R279). -/
abbrev Reg.TX_STATUS : Nat := 0x022004
/-- 0220:05 (R279). -/
abbrev Reg.TX_OPEN_COUNT : Nat := 0x022005
/-- 0220:06 (R279). -/
abbrev Reg.TX_NEXT : Nat := 0x022006
/-- 0220:07 (R279). -/
abbrev Reg.TX_TIMEOUT : Nat := 0x022007
/-- 0230:01 (R280). -/
abbrev Reg.PV_UNLOCK : Nat := 0x023001
/-- 0230:02 (R280). -/
abbrev Reg.PV_LOCK : Nat := 0x023002
/-- 0230:03 (R280). -/
abbrev Reg.PV_SERVICE_CODE : Nat := 0x023003
/-- 0230:04 (R280). -/
abbrev Reg.PV_TIMEOUT : Nat := 0x023004
/-- 0230:05 (R280). -/
abbrev Reg.PV_LEVEL : Nat := 0x023005
/-- 0230:06 (R280). -/
abbrev Reg.PV_FAILS : Nat := 0x023006
/-- 0230:07 (R280). -/
abbrev Reg.PV_LOCKOUT : Nat := 0x023007
/-- 0230:08 (R280). -/
abbrev Reg.PV_DEFAULT_CODE : Nat := 0x023008
/-- 0240:01 (R281). -/
abbrev Reg.DR_EPOCH : Nat := 0x024001
/-- 0240:02 (R281). -/
abbrev Reg.DR_REPEATS : Nat := 0x024002
/-- 0240:03 (R281). -/
abbrev Reg.DR_TOO_OLD : Nat := 0x024003
/-- 0240:04 (R281). -/
abbrev Reg.DR_EVICTIONS : Nat := 0x024004
/-- 0240:05 (R281). -/
abbrev Reg.DR_REQUESTERS : Nat := 0x024005
/-- 0240:06 (R281). -/
abbrev Reg.DR_DEFERRED : Nat := 0x024006
/-- 0240:07 (R281). -/
abbrev Reg.DR_PD_DENIED : Nat := 0x024007
/-- F000:01 + n (R282). -/
abbrev Reg.PI_OUT_MAP (n : Nat) : Nat := 0xF00001 + n
/-- F100:01 + n (R282). -/
abbrev Reg.PI_IN_MAP (n : Nat) : Nat := 0xF10001 + n
/-- F200:01 (R282). -/
abbrev Reg.PI_OUT_LEN : Nat := 0xF20001
/-- F200:02 (R282). -/
abbrev Reg.PI_IN_LEN : Nat := 0xF20002
/-- F200:03 (R282). -/
abbrev Reg.PI_TOGGLE_ECHO : Nat := 0xF20003
/-- 0800:01 (R305). -/
abbrev Reg.RG_NODE_ADDR : Nat := 0x080001
/-- 0800:02 (R305). -/
abbrev Reg.RG_OUT_OFFSET : Nat := 0x080002
/-- 0800:03 (R305). -/
abbrev Reg.RG_IN_OFFSET : Nat := 0x080003
/-- 0800:04 (R305). -/
abbrev Reg.RG_PD_EPOCH : Nat := 0x080004
/-- 0800:05 (R305). -/
abbrev Reg.RG_POSITION : Nat := 0x080005
/-- 0800:06 (R305). -/
abbrev Reg.RG_SEAL_LAST : Nat := 0x080006
/-- 0800:07 (R305). -/
abbrev Reg.RG_LAST_CHECK : Nat := 0x080007
/-- 0810:01 (R306). -/
abbrev Reg.RT_TIME : Nat := 0x081001
/-- 0810:02 (R306). -/
abbrev Reg.RT_STATE : Nat := 0x081002
/-- 0810:03 (R306). -/
abbrev Reg.RT_OFFSET : Nat := 0x081003
/-- 0810:04 (R306). -/
abbrev Reg.RT_PROP_DELAY : Nat := 0x081004
/-- 0810:05 (R306). -/
abbrev Reg.RT_PROP_DELAY_B : Nat := 0x081005
/-- 0810:06 (R306). -/
abbrev Reg.RT_UTC_OFFSET : Nat := 0x081006
/-- 0810:07 (R306). -/
abbrev Reg.RT_DELAY_STAMPS : Nat := 0x081007
/-- 0810:08 (R306). -/
abbrev Reg.RT_RATE : Nat := 0x081008
/-- 0820:01 (R307). -/
abbrev Reg.RP_LINK_A : Nat := 0x082001
/-- 0820:02 (R307). -/
abbrev Reg.RP_LINK_B : Nat := 0x082002
/-- 0820:03 (R307). -/
abbrev Reg.RP_LOOP : Nat := 0x082003
/-- 0820:04 (R307). -/
abbrev Reg.RP_FCS_A : Nat := 0x082004
/-- 0820:05 (R307). -/
abbrev Reg.RP_FCS_B : Nat := 0x082005
/-- 0820:06 (R307). -/
abbrev Reg.RP_FCS_UPSTREAM : Nat := 0x082006
/-- 0820:07 (R307). -/
abbrev Reg.RP_LINK_LOSSES : Nat := 0x082007
/-- 0820:08 (R307). -/
abbrev Reg.RP_REOPEN_MS : Nat := 0x082008
/-- 0820:09 (R307). -/
abbrev Reg.RP_SERVED : Nat := 0x082009
/-- 0820:0A (R307). -/
abbrev Reg.RP_REFUSED : Nat := 0x08200A
/-- 0830:01 (R308). -/
abbrev Reg.PDW_CYCLES : Nat := 0x083001
/-- 0830:02 (R308). -/
abbrev Reg.PDW_STATE : Nat := 0x083002
/-- 0830:03 (R308). -/
abbrev Reg.PDW_REMAIN : Nat := 0x083003
/-- 0830:04 (R308). -/
abbrev Reg.PDW_EXPIRIES : Nat := 0x083004
/-- 0840:01 (R308). -/
abbrev Reg.SY_LAND_MODE : Nat := 0x084001
/-- 0840:02 (R308). -/
abbrev Reg.SY_PULSE_NS : Nat := 0x084002
/-- 0840:03 (R308). -/
abbrev Reg.SY_RING_SYNCS : Nat := 0x084003
/-- 0400:01 (R341). -/
abbrev Reg.WD0_STATE : Nat := 0x040001
/-- 0400:02 (R341). -/
abbrev Reg.WD0_T_OPEN : Nat := 0x040002
/-- 0400:03 (R341). -/
abbrev Reg.WD0_T_CLOSE : Nat := 0x040003
/-- 0400:04 (R341). -/
abbrev Reg.WD0_T_WARN : Nat := 0x040004
/-- 0400:05 (R341). -/
abbrev Reg.WD0_REQUIRED : Nat := 0x040005
/-- 0400:06 (R341). -/
abbrev Reg.WD0_WARNINGS : Nat := 0x040006
/-- 0400:07 (R341). -/
abbrev Reg.WD0_RETURNS : Nat := 0x040007
/-- 0400:08 (R341). -/
abbrev Reg.WD0_RESETS : Nat := 0x040008
/-- 0401:01 (R342). -/
abbrev Reg.WD1_ENABLE : Nat := 0x040101
/-- 0401:02 (R342). -/
abbrev Reg.WD1_STATE : Nat := 0x040102
/-- 0401:03 (R342). -/
abbrev Reg.WD1_T_OPEN : Nat := 0x040103
/-- 0401:04 (R342). -/
abbrev Reg.WD1_T_CLOSE : Nat := 0x040104
/-- 0401:05 (R342). -/
abbrev Reg.WD1_T_WARN : Nat := 0x040105
/-- 0401:06 (R342). -/
abbrev Reg.WD1_REQUIRED : Nat := 0x040106
/-- 0401:07 (R342). -/
abbrev Reg.WD1_POLICY : Nat := 0x040107
/-- 0401:08 (R342). -/
abbrev Reg.WD1_CHECKIN : Nat := 0x040108
/-- 0401:09 (R342). -/
abbrev Reg.WD1_KEY : Nat := 0x040109
/-- 0401:0A (R342). -/
abbrev Reg.WD1_TICK : Nat := 0x04010A
/-- 0401:0B (R342). -/
abbrev Reg.WD1_SEEN : Nat := 0x04010B
/-- 0401:0C (R342). -/
abbrev Reg.WD1_REPEAT : Nat := 0x04010C
/-- 0401:0D (R342). -/
abbrev Reg.WD1_LAST_VIOL : Nat := 0x04010D
/-- 0401:0E (R342). -/
abbrev Reg.WD1_LAST_TICK : Nat := 0x04010E
/-- 0401:0F (R342). -/
abbrev Reg.WD1_RETURNS : Nat := 0x04010F
/-- 0401:10 (R342). -/
abbrev Reg.WD1_STAGE2 : Nat := 0x040110
/-- 0401:11 (R342). -/
abbrev Reg.WD1_VIOLATIONS : Nat := 0x040111
/-- 0401:12 (R342). -/
abbrev Reg.WD1_INCOMPLETE : Nat := 0x040112
/-- 0410:01 (R343). -/
abbrev Reg.FAULT_CAUSE : Nat := 0x041001
/-- 0410:02 (R343). -/
abbrev Reg.FAULT_MASK : Nat := 0x041002
/-- 0410:03 (R343). -/
abbrev Reg.FAULT_LAND : Nat := 0x041003
/-- 0410:04 (R343). -/
abbrev Reg.WDO_PULSES : Nat := 0x041004
/-- 0420:01 + n (R344). -/
abbrev Reg.HOLD_TIME (n : Nat) : Nat := 0x042001 + n
/-- 0420:05 + n (R344). -/
abbrev Reg.HOLD_LAST (n : Nat) : Nat := 0x042005 + n
/-- 0420:09 + n (R344). -/
abbrev Reg.ADOPT_RESULT (n : Nat) : Nat := 0x042009 + n
/-- 0420:0D (R344). -/
abbrev Reg.BR_RELEASE : Nat := 0x04200D
/-- 0420:0E (R344). -/
abbrev Reg.HOLD_COUNT : Nat := 0x04200E
/-- 0420:0F + n (R344). -/
abbrev Reg.BR_DIGEST (n : Nat) : Nat := 0x04200F + n
/-- 7000:01 (R364). -/
abbrev Reg.CN_ENABLE : Nat := 0x700001
/-- 7000:02 (R364). -/
abbrev Reg.CN_CANOPY_ID : Nat := 0x700002
/-- 7000:03 (R364). -/
abbrev Reg.CN_RANK : Nat := 0x700003
/-- 7000:04 (R364). -/
abbrev Reg.CN_MEMBERS : Nat := 0x700004
/-- 7000:05 (R364). -/
abbrev Reg.CN_REQUIRED : Nat := 0x700005
/-- 7000:06 (R364). -/
abbrev Reg.CN_LEADER_PREF : Nat := 0x700006
/-- 7000:07 (R364). -/
abbrev Reg.CN_POLICY : Nat := 0x700007
/-- 7000:08 (R364). -/
abbrev Reg.CN_REGION_OFFSET : Nat := 0x700008
/-- 7000:09 (R364). -/
abbrev Reg.CN_APPLY_AT : Nat := 0x700009
/-- 7000:0A (R364). -/
abbrev Reg.CN_ADOPT : Nat := 0x70000A
/-- 7000:10 (R364). -/
abbrev Reg.CN_STATE : Nat := 0x700010
/-- 7000:11 (R364). -/
abbrev Reg.CN_CAUSE : Nat := 0x700011
/-- 7000:12 (R364). -/
abbrev Reg.CN_ADMITTED : Nat := 0x700012
/-- 7000:13 (R364). -/
abbrev Reg.CN_LEADER : Nat := 0x700013
/-- 7000:14 (R364). -/
abbrev Reg.CN_TERM : Nat := 0x700014
/-- 7000:15 (R364). -/
abbrev Reg.CN_SELF : Nat := 0x700015
/-- 7000:16 (R364). -/
abbrev Reg.CN_TIME_LOST : Nat := 0x700016
/-- 7000:17 (R364). -/
abbrev Reg.CN_MINOR : Nat := 0x700017
/-- 7000:18 (R364). -/
abbrev Reg.CN_PROTO_VERSION : Nat := 0x700018
/-- 7000:19 (R364). -/
abbrev Reg.CN_DIGEST : Nat := 0x700019
/-- 7000:1A (R364). -/
abbrev Reg.CN_DELTA : Nat := 0x70001A
/-- 7020+r:01 (R364). -/
abbrev Reg.CN_VIEW (b i : Nat) : Nat := (0x7020 + b) * 256 + 0x1 + i
/-- 8000:01 + n (R373). -/
abbrev Reg.HW_WEAR (n : Nat) : Nat := 0x800001 + n
/-- 8000:08 (R373). -/
abbrev Reg.HW_LINES_FAILED : Nat := 0x800008
/-- 8000:09 (R373). -/
abbrev Reg.HW_RECORDS_LOST : Nat := 0x800009
/-- 8000:0A (R373). -/
abbrev Reg.HW_FOLDED : Nat := 0x80000A
/-- 8000:0B (R373). -/
abbrev Reg.HW_FLUSH : Nat := 0x80000B
/-- 8000:0C (R373). -/
abbrev Reg.HW_LAST_FLUSH : Nat := 0x80000C
/-- 8000:0D (R373). -/
abbrev Reg.HW_SUSPENDED : Nat := 0x80000D
/-- 8100+n:01 (R378). -/
abbrev Reg.LC_CHANNEL (b : Nat) : Nat := (0x8100 + b) * 256 + 0x1
/-- 8110:01 (R378). -/
abbrev Reg.LC_MODULE : Nat := 0x811001
/-- 8200:01 (R378). -/
abbrev Reg.RR_FIRST_YEAR : Nat := 0x820001
/-- 8200:02 (R378). -/
abbrev Reg.RR_BLOCKS : Nat := 0x820002
/-- 8200:03 (R378). -/
abbrev Reg.RR_SELECT : Nat := 0x820003
/-- 8200:04 (R378). -/
abbrev Reg.RR_RECORD : Nat := 0x820004
/-- 8010:01 (R382). -/
abbrev Reg.EV_TOTAL : Nat := 0x801001
/-- 8010:02 (R382). -/
abbrev Reg.EV_OLDEST : Nat := 0x801002
/-- 8010:03 (R382). -/
abbrev Reg.EV_READ_NUM : Nat := 0x801003
/-- 8010:04 (R382). -/
abbrev Reg.EV_READ : Nat := 0x801004
/-- 8010:05 (R382). -/
abbrev Reg.EV_STAGED : Nat := 0x801005
/-- 8020:01 (R385). -/
abbrev Reg.CAL_TIME : Nat := 0x802001
/-- 8020:02 (R385). -/
abbrev Reg.CAL_STATE : Nat := 0x802002
/-- 8020:03 (R385). -/
abbrev Reg.CAL_TRIM : Nat := 0x802003
/-- 8020:04 (R385). -/
abbrev Reg.CAL_OFFSET : Nat := 0x802004
/-- 8020:05 (R385). -/
abbrev Reg.CAL_LAST_DISC : Nat := 0x802005
/-- A000:01 (R394). -/
abbrev Reg.GR_HK_STATE : Nat := 0xA00001
/-- A000:02 (R394). -/
abbrev Reg.GR_HK_CMD : Nat := 0xA00002
/-- A000:03 (R394). -/
abbrev Reg.GR_HK_ADDR : Nat := 0xA00003
/-- A000:04 (R394). -/
abbrev Reg.GR_HK_DATA : Nat := 0xA00004
/-- A000:05 (R394). -/
abbrev Reg.GR_HK_BANKS : Nat := 0xA00005
/-- A000:06 (R394). -/
abbrev Reg.GR_HK_CONFIRM_S : Nat := 0xA00006
/-- A000:07 (R394). -/
abbrev Reg.GR_HK_MIN_VERSION : Nat := 0xA00007
/-- A000:08 (R394). -/
abbrev Reg.GR_HK_REFUSE : Nat := 0xA00008
/-- A000:09 (R394). -/
abbrev Reg.GR_HK_WAIT_S : Nat := 0xA00009
/-- A000:0A (R394). -/
abbrev Reg.GR_HK_SWAP_MS : Nat := 0xA0000A
/-- A010:01 (R394). -/
abbrev Reg.GR_CAL_HANDLE : Nat := 0xA01001
/-- A010:02 (R394). -/
abbrev Reg.GR_CAL_CONV : Nat := 0xA01002
/-- A010:03 (R394). -/
abbrev Reg.GR_CAL_CMD : Nat := 0xA01003
/-- A010:04 (R394). -/
abbrev Reg.GR_CAL_LOW_REF : Nat := 0xA01004
/-- A010:05 (R394). -/
abbrev Reg.GR_CAL_HIGH_REF : Nat := 0xA01005
/-- A010:06 (R394). -/
abbrev Reg.GR_CAL_STATE : Nat := 0xA01006
/-- A020:01 (R394). -/
abbrev Reg.GR_UC_START : Nat := 0xA02001
/-- A020:02 (R394). -/
abbrev Reg.GR_UC_STATE : Nat := 0xA02002
/-- A020:03 (R394). -/
abbrev Reg.GR_UC_BRANCH : Nat := 0xA02003
/-- A020:04 (R394). -/
abbrev Reg.GR_UC_WAIT_S : Nat := 0xA02004
/-- A020:05 (R394). -/
abbrev Reg.GR_UC_HOLD_MS : Nat := 0xA02005
/-- 0300:01 (R415). -/
abbrev Reg.PWR_VIN : Nat := 0x030001
/-- 0300:02 (R415). -/
abbrev Reg.PWR_VIO : Nat := 0x030002
/-- 0300:03 (R415). -/
abbrev Reg.PWR_VBAK : Nat := 0x030003
/-- 0300:04 (R415). -/
abbrev Reg.PWR_FLAGS : Nat := 0x030004
/-- 0300:05 (R415). -/
abbrev Reg.PWR_DIP_MIN : Nat := 0x030005
/-- 0300:06 (R415). -/
abbrev Reg.PWR_DIP_TIME : Nat := 0x030006
/-- 0300:07 (R415). -/
abbrev Reg.PWR_DIP_AT : Nat := 0x030007
/-- 0300:08 (R415). -/
abbrev Reg.PWR_RESET_CAUSE : Nat := 0x030008
/-- 0300:09 (R415). -/
abbrev Reg.PWR_RESET_CMD : Nat := 0x030009
/-- 0310+b:01 (R416). -/
abbrev Reg.VF_WARN_LEVEL (b : Nat) : Nat := (0x0310 + b) * 256 + 0x1
/-- 0310+b:02 (R416). -/
abbrev Reg.VF_UVLO_POLICY (b : Nat) : Nat := (0x0310 + b) * 256 + 0x2
/-- 0310+b:03 (R416). -/
abbrev Reg.VF_VALUE (b : Nat) : Nat := (0x0310 + b) * 256 + 0x3
/-- 0310+b:04 (R416). -/
abbrev Reg.VF_STATUS (b : Nat) : Nat := (0x0310 + b) * 256 + 0x4
/-- 0310+b:05 (R416). -/
abbrev Reg.BR_POWER_STATE (b : Nat) : Nat := (0x0310 + b) * 256 + 0x5
/-- 0310+b:06 (R416). -/
abbrev Reg.VF_MIN (b : Nat) : Nat := (0x0310 + b) * 256 + 0x6
/-- 0310+b:07 (R416). -/
abbrev Reg.VF_UVLO_COUNT (b : Nat) : Nat := (0x0310 + b) * 256 + 0x7
/-- 0310+b:08 (R416). -/
abbrev Reg.VF_OFF_COUNT (b : Nat) : Nat := (0x0310 + b) * 256 + 0x8
/-- 0320:01 (R417). -/
abbrev Reg.PL_RUNG : Nat := 0x032001
/-- 0320:02 (R417). -/
abbrev Reg.PL_TARGET : Nat := 0x032002
/-- 0320:03 (R417). -/
abbrev Reg.PL_QUIET_MS : Nat := 0x032003
/-- 0320:04 (R417). -/
abbrev Reg.PL_WAKE_MASK : Nat := 0x032004
/-- 0320:05 (R417). -/
abbrev Reg.PL_WAKE_TIME : Nat := 0x032005
/-- 0320:06 (R417). -/
abbrev Reg.PL_BLOCK : Nat := 0x032006
/-- 0320:07 (R417). -/
abbrev Reg.PL_LAST_WAKE : Nat := 0x032007
/-- 0320:08 (R417). -/
abbrev Reg.PL_DESCENTS : Nat := 0x032008
/-- 6000+s:01, step s of the active table (R198). -/
abbrev Reg.SQ_ACTIVE (s : Nat) : Nat := (0x6000 + s) * 256 + 1
/-- 6400+s:01, step s of the shadow table (R198). -/
abbrev Reg.SQ_SHADOW (s : Nat) : Nat := (0x6400 + s) * 256 + 1

end Sys2Proof.Machine
end

