-- ==== Sys2Proof/Machine/Dict.lean ====
section
/-! DEFINITION. The object dictionary: type, access, default, persistence, privilege and range of every object (R251, R252, R254,
R261 and the object tables of every chapter). A default the tables write as a dash is 0 here (log entry 2). -/
namespace Sys2Proof.Machine

/-- The types of R251: unsigned and signed integers of n bytes, F32, printable strings, octets up to n bytes, and records or
arrays of n bytes. TIME64 and HANDLE are unsigned, Q24 is signed. -/
inductive Ty where
  | bool
  | u (n : Nat)
  | i (n : Nat)
  | f32
  | str (n : Nat)
  | octets (n : Nat)
  | record (n : Nat)
  deriving DecidableEq, Repr

/-- The access codes of R252. -/
inductive Acc where
  | ro
  | rw
  | wo
  | rws
  | rwt
  deriving DecidableEq, Repr

/-- How an object persists (R254): volatile, kept in heartwood, or held in the branch store. -/
inductive Persist where
  | vol
  | kept
  | branch
  deriving DecidableEq, Repr

/-- The range an object table states (R8): any value, a span, a span or one extra value, or the multiples of a step in a span. -/
inductive Rng where
  | any
  | span (lo hi : Int)
  | gaps (extra lo hi : Int)
  | mult (lo hi step : Int)
  deriving DecidableEq, Repr

/-- One row of an object table. -/
structure Info where
  ty      : Ty
  acc     : Acc
  dflt    : Nat
  persist : Persist
  svc     : Bool
  rng     : Rng
  deriving DecidableEq, Repr

/-- The value of a row list at a sub-index. -/
def rowAt : List (Nat × Nat × Info) → Nat → Option Info
  | [], _ => none
  | (lo, hi, r) :: rest, sub => if lo ≤ sub ∧ sub ≤ hi then some r else rowAt rest sub

/-- I:01 to I:0A, every slot (R48). -/
def rowsCommon : List (Nat × Nat × Info) := [
  (0x01, 0x01, ⟨.u 2, .ro, 0, .kept, false, .any⟩)  /- HND_ID -/,
  (0x02, 0x02, ⟨.u 1, .ro, 0, .kept, false, .any⟩)  /- HND_KIND -/,
  (0x03, 0x03, ⟨.u 1, .ro, 0, .kept, false, .any⟩)  /- HND_STATE -/,
  (0x04, 0x04, ⟨.u 1, .wo, 0, .kept, false, .span 1 6⟩)  /- HND_CMD -/,
  (0x05, 0x05, ⟨.u 4, .ro, 0, .kept, false, .any⟩)  /- HND_BIND -/,
  (0x06, 0x06, ⟨.u 1, .ro, 0xff, .kept, false, .any⟩)  /- HND_FILTER -/,
  (0x07, 0x07, ⟨.u 1, .rw, 0, .kept, false, .span 0 5⟩)  /- HND_POSTURE -/,
  (0x08, 0x08, ⟨.u 4, .rw, 0x3d0900, .kept, false, .span 0 24000000⟩)  /- HND_POSTURE_VALUE -/,
  (0x09, 0x09, ⟨.u 1, .ro, 0, .kept, false, .any⟩)  /- HND_SAFE_CAUSE -/,
  (0x0A, 0x0A, ⟨.u 2, .ro, 0, .kept, false, .any⟩)  /- HND_DRIVER -/
  ]

/-- I:10 to I:1F of measuring kinds (R97). -/
def rowsConv : List (Nat × Nat × Info) := [
  (0x10, 0x10, ⟨.u 1, .rw, 0, .kept, false, .span 0 5⟩)  /- CV_WINDOW -/,
  (0x11, 0x11, ⟨.u 2, .rw, 0x50, .kept, false, .span 1 4000⟩)  /- CV_WINDOW_N -/,
  (0x12, 0x12, ⟨.u 2, .rw, 0, .kept, false, .any⟩)  /- CV_MAINS_SRC -/,
  (0x13, 0x13, ⟨.u 1, .ro, 0, .vol, false, .any⟩)  /- CV_MAINS_STATE -/,
  (0x14, 0x14, ⟨.u 1, .rw, 0, .kept, false, .any⟩)  /- CV_FORMAT -/,
  (0x15, 0x15, ⟨.u 1, .rw, 0, .kept, false, .span 0 1⟩)  /- CV_RANGE -/,
  (0x16, 0x16, ⟨.u 2, .rw, 0x32, .kept, false, .span 5 1000⟩)  /- CV_PLAUS_PCT -/,
  (0x17, 0x17, ⟨.u 1, .rw, 2, .kept, false, .any⟩)  /- CV_PLAUS_CNT -/,
  (0x18, 0x18, ⟨.u 1, .ro, 0, .vol, false, .any⟩)  /- CV_PLAUS_STATE -/,
  (0x19, 0x19, ⟨.u 1, .ro, 0, .kept, false, .any⟩)  /- CV_ROLE -/,
  (0x1A, 0x1A, ⟨.u 2, .rw, 0, .kept, false, .gaps 0 2 65535⟩)  /- CV_OW_PERIOD -/,
  (0x1B, 0x1B, ⟨.u 1, .rw, 1, .kept, false, .span 0 2⟩)  /- CV_OW_CURRENT -/,
  (0x1C, 0x1C, ⟨.u 4, .rw, 0x186a0, .kept, false, .span 100 10000000⟩)  /- CV_OW_RLIMIT -/,
  (0x1D, 0x1D, ⟨.u 4, .ro, 0, .vol, false, .any⟩)  /- CV_OW_RSRC -/,
  (0x1E, 0x1E, ⟨.u 1, .wo, 0, .vol, false, .span 1 1⟩)  /- CV_URGENT_REQ -/,
  (0x1F, 0x1F, ⟨.record 16, .ro, 0, .vol, false, .any⟩)  /- CV_URGENT -/
  ]

/-- LOOP_IN objects (R152). -/
def rowsLoopIn : List (Nat × Nat × Info) := [
  (0x20, 0x20, ⟨.i 4, .ro, 0, .vol, false, .any⟩)  /- LP_IN_VALUE -/,
  (0x21, 0x21, ⟨.u 1, .ro, 0, .vol, false, .any⟩)  /- LP_BAND -/,
  (0x22, 0x22, ⟨.u 2, .ro, 0, .vol, false, .any⟩)  /- LP_STATUS -/,
  (0x23, 0x23, ⟨.u 4, .rws, 0x186a0, .kept, false, .span 10000 100000⟩)  /- LP_R_EXT -/,
  (0x24, 0x24, ⟨.u 1, .rw, 1, .kept, false, .span 0 1⟩)  /- LP_TX_SET -/,
  (0x28, 0x28, ⟨.i 4, .rw, 0, .kept, true, .span (-500000) 500000⟩)  /- LP_TRIM_ZERO -/,
  (0x29, 0x29, ⟨.i 4, .rw, 0, .kept, true, .span (-800000) 800000⟩)  /- LP_TRIM_SPAN -/,
  (0x2A, 0x2A, ⟨.u 8, .ro, 0, .kept, false, .any⟩)  /- LP_TRIM_TIME -/
  ]

/-- LOOP_OUT objects (R153). -/
def rowsLoopOut : List (Nat × Nat × Info) := [
  (0x20, 0x20, ⟨.u 4, .rw, 0x3d0900, .kept, false, .span 0 24000000⟩)  /- LP_OUT_SET -/,
  (0x21, 0x21, ⟨.i 4, .ro, 0, .vol, false, .any⟩)  /- LP_OUT_ACTUAL -/,
  (0x22, 0x22, ⟨.u 2, .ro, 0, .vol, false, .any⟩)  /- LP_STATUS -/,
  (0x23, 0x23, ⟨.u 4, .rw, 0x36ee80, .kept, false, .span 3000000 3600000⟩)  /- LP_ALARM_LOW -/,
  (0x24, 0x24, ⟨.u 4, .rw, 0x1406f40, .kept, false, .span 21000000 23000000⟩)  /- LP_ALARM_HIGH -/,
  (0x25, 0x25, ⟨.u 1, .rw, 0, .kept, false, .span 0 1⟩)  /- LP_COMPLIANCE_POLICY -/,
  (0x26, 0x26, ⟨.u 1, .wo, 0, .vol, false, .span 1 1⟩)  /- LP_COMPLIANCE_ACK -/,
  (0x27, 0x27, ⟨.u 4, .ro, 0, .vol, false, .any⟩)  /- LP_OUT_TARGET -/,
  (0x28, 0x28, ⟨.i 4, .rw, 0, .kept, true, .span (-500000) 500000⟩)  /- LP_TRIM_ZERO -/,
  (0x29, 0x29, ⟨.i 4, .rw, 0, .kept, true, .span (-800000) 800000⟩)  /- LP_TRIM_SPAN -/,
  (0x2A, 0x2A, ⟨.u 8, .ro, 0, .kept, false, .any⟩)  /- LP_TRIM_TIME -/
  ]

/-- LEVEL_IN objects (R155). -/
def rowsLevel : List (Nat × Nat × Info) := [
  (0x10, 0x10, ⟨.u 1, .ro, 0, .vol, false, .any⟩)  /- LV_STATE -/,
  (0x11, 0x11, ⟨.u 2, .rw, 0x3e8, .kept, false, .span 0 65000⟩)  /- LV_DEBOUNCE -/,
  (0x12, 0x12, ⟨.u 1, .rw, 0, .kept, false, .span 0 1⟩)  /- LV_INVERT -/,
  (0x13, 0x13, ⟨.u 1, .rw, 3, .kept, false, .any⟩)  /- LV_LINE_DETECT -/,
  (0x14, 0x14, ⟨.u 4, .ro, 0, .branch, false, .any⟩)  /- LV_COUNT_RISE -/,
  (0x15, 0x15, ⟨.u 4, .ro, 0, .branch, false, .any⟩)  /- LV_COUNT_FALL -/,
  (0x16, 0x16, ⟨.u 8, .ro, 0, .vol, false, .any⟩)  /- LV_TIME_RISE -/,
  (0x17, 0x17, ⟨.u 8, .ro, 0, .vol, false, .any⟩)  /- LV_TIME_FALL -/,
  (0x18, 0x18, ⟨.u 1, .wo, 0, .vol, false, .span 1 1⟩)  /- LV_COUNT_CLEAR -/,
  (0x19, 0x19, ⟨.u 4, .ro, 0, .vol, false, .any⟩)  /- LV_SENSOR_CURRENT -/
  ]

/-- SWITCH and SWITCH_PAIR objects (R186). -/
def rowsSwitch : List (Nat × Nat × Info) := [
  (0x10, 0x10, ⟨.u 1, .rw, 0, .kept, false, .span 0 2⟩)  /- SW_CMD -/,
  (0x11, 0x11, ⟨.u 2, .rw, 0x8000, .kept, false, .span 1 65535⟩)  /- SW_DUTY -/,
  (0x12, 0x12, ⟨.u 2, .rw, 0xc8, .kept, false, .span 100 2000⟩)  /- SW_PWM_FREQ -/,
  (0x13, 0x13, ⟨.u 1, .ro, 0, .vol, false, .any⟩)  /- SW_STATE -/,
  (0x14, 0x14, ⟨.u 2, .ro, 0, .vol, false, .any⟩)  /- SW_FLAGS -/,
  (0x15, 0x15, ⟨.u 1, .rw, 0xc, .kept, false, .span 1 32⟩)  /- SW_I_TRIP -/,
  (0x16, 0x16, ⟨.u 2, .rw, 0x3e8, .kept, false, .span 10 10000⟩)  /- SW_T_FILT -/,
  (0x17, 0x17, ⟨.u 1, .rw, 0, .kept, false, .span 0 1⟩)  /- SW_THERMAL_POLICY -/,
  (0x18, 0x18, ⟨.u 1, .rw, 8, .kept, false, .span 1 31⟩)  /- SW_RETRY_N -/,
  (0x19, 0x19, ⟨.u 2, .rw, 0x2710, .kept, false, .span 50 50000⟩)  /- SW_RETRY_GAP -/,
  (0x1A, 0x1A, ⟨.u 1, .rw, 0x18, .kept, false, .span 8 48⟩)  /- SW_I_LIM -/,
  (0x1B, 0x1B, ⟨.u 1, .rw, 0x32, .kept, false, .span 1 200⟩)  /- SW_T_LIM -/,
  (0x1C, 0x1C, ⟨.u 1, .ro, 8, .branch, false, .any⟩)  /- SW_RETRY_LEFT -/,
  (0x1D, 0x1D, ⟨.u 1, .rw, 0, .kept, false, .span 0 2⟩)  /- SW_COMP_K -/,
  (0x1E, 0x1E, ⟨.u 2, .rw, 0x12c0, .kept, false, .span 1000 6000⟩)  /- SW_COMP_VREF -/,
  (0x1F, 0x1F, ⟨.u 4, .ro, 0, .vol, false, .any⟩)  /- SW_DUTY_ACTUAL -/,
  (0x20, 0x20, ⟨.u 1, .rw, 3, .kept, false, .any⟩)  /- SW_LOADTEST -/,
  (0x21, 0x21, ⟨.u 2, .rw, 0xfa0, .kept, false, .span 1000 20000⟩)  /- SW_V_OL -/,
  (0x22, 0x22, ⟨.i 4, .ro, 0, .vol, false, .any⟩)  /- SW_I_OUT -/,
  (0x23, 0x23, ⟨.i 2, .ro, 0, .vol, false, .any⟩)  /- SW_TEMP -/,
  (0x24, 0x24, ⟨.u 1, .ro, 0x32, .vol, false, .any⟩)  /- SW_HALF_SHARE -/,
  (0x25, 0x25, ⟨.u 4, .ro, 0, .vol, false, .any⟩)  /- SW_CLAMP_LAST -/,
  (0x26, 0x26, ⟨.u 2, .rw, 0x12c, .kept, false, .span 1 300⟩)  /- SW_CLAMP_SINGLE -/,
  (0x27, 0x27, ⟨.u 2, .rw, 0x1e, .kept, false, .span 1 30⟩)  /- SW_CLAMP_REP -/,
  (0x28, 0x28, ⟨.u 1, .wo, 0, .vol, false, .span 1 1⟩)  /- SW_CLAMP_ACK -/,
  (0x29, 0x29, ⟨.u 1, .ro, 0, .vol, false, .any⟩)  /- SW_TRIP_CAUSE -/
  ]

/-- Filter unit objects (R127). -/
def rowsFilter : List (Nat × Nat × Info) := [
  (0x01, 0x01, ⟨.u 2, .ro, 0, .vol, false, .any⟩)  /- FI_HANDLE -/,
  (0x02, 0x02, ⟨.u 1, .ro, 0, .vol, false, .any⟩)  /- FI_STATE -/,
  (0x03, 0x03, ⟨.u 1, .ro, 0, .kept, false, .any⟩)  /- FI_CLASS -/,
  (0x04, 0x04, ⟨.u 1, .rws, 3, .kept, false, .span 1 4⟩)  /- FI_CIC_ORDER -/,
  (0x05, 0x05, ⟨.u 2, .rws, 0x100, .kept, false, .span 1 256⟩)  /- FI_CIC_M -/,
  (0x06, 0x06, ⟨.u 1, .rws, 2, .kept, false, .span 0 31⟩)  /- FI_CIC_SHIFT -/,
  (0x07, 0x07, ⟨.u 1, .ro, 1, .vol, false, .any⟩)  /- FI_BANKS -/,
  (0x08, 0x08, ⟨.u 1, .ro, 0, .kept, false, .any⟩)  /- FI_ACTIVE -/,
  (0x09, 0x09, ⟨.u 1, .ro, 0xff, .vol, false, .any⟩)  /- FI_FADE_TARGET -/,
  (0x0A, 0x0A, ⟨.u 1, .ro, 0xff, .vol, false, .any⟩)  /- FI_PENDING -/,
  (0x0B, 0x0B, ⟨.u 1, .wo, 0, .vol, false, .span 0 2⟩)  /- FI_BANK_REQ -/,
  (0x0C, 0x0C, ⟨.u 2, .rw, 0x40, .kept, false, .span 1 1024⟩)  /- FI_FADE_LEN -/,
  (0x0D, 0x0D, ⟨.u 1, .ro, 0, .vol, false, .any⟩)  /- FI_FADE_STATE -/,
  (0x0E, 0x0E, ⟨.u 2, .ro, 0, .vol, false, .any⟩)  /- FI_FADE_POS -/,
  (0x0F, 0x0F, ⟨.u 2, .ro, 0, .vol, false, .any⟩)  /- FI_D -/,
  (0x10, 0x10, ⟨.u 4, .ro, 0, .vol, false, .any⟩)  /- FI_L -/,
  (0x11, 0x11, ⟨.u 4, .ro, 0, .vol, false, .any⟩)  /- FI_M -/,
  (0x12, 0x12, ⟨.u 4, .ro, 0, .vol, false, .any⟩)  /- FI_DELAY_NS -/,
  (0x13, 0x13, ⟨.u 1, .ro, 0, .vol, false, .any⟩)  /- FI_TS_MODE -/,
  (0x14, 0x14, ⟨.u 4, .ro, 0, .vol, false, .any⟩)  /- FI_OUT_PERIOD_NS -/,
  (0x15, 0x15, ⟨.u 1, .rw, 0xff, .kept, false, .gaps 255 0 7⟩)  /- FI_SYNC_GROUP -/,
  (0x16, 0x16, ⟨.u 4, .ro, 0, .vol, false, .any⟩)  /- FI_LOAD -/,
  (0x17, 0x17, ⟨.u 4, .ro, 0, .vol, false, .any⟩)  /- FI_SAT_COUNT -/,
  (0x18, 0x18, ⟨.u 4, .ro, 0, .kept, false, .any⟩)  /- FI_ACTIVE_CRC -/
  ]

/-- Bank objects (R128). -/
def rowsBank : List (Nat × Nat × Info) := [
  (0x01, 0x01, ⟨.u 2, .rw, 0, .kept, false, .any⟩)  /- BK_BASE -/,
  (0x02, 0x02, ⟨.u 1, .rw, 0, .kept, false, .any⟩)  /- BK_N2 -/,
  (0x03, 0x03, ⟨.u 1, .rw, 1, .kept, false, .span 1 16⟩)  /- BK_M2 -/,
  (0x04, 0x04, ⟨.u 1, .rw, 0, .kept, false, .span 0 31⟩)  /- BK_S2 -/,
  (0x05, 0x05, ⟨.u 1, .rw, 0, .kept, false, .span 0 63⟩)  /- BK_N3 -/,
  (0x06, 0x06, ⟨.u 1, .rw, 1, .kept, false, .span 1 8⟩)  /- BK_M3 -/,
  (0x07, 0x07, ⟨.u 1, .rw, 0, .kept, false, .span 0 31⟩)  /- BK_S3 -/,
  (0x08, 0x08, ⟨.u 1, .wo, 0, .vol, false, .span 1 1⟩)  /- BK_LOAD -/,
  (0x09, 0x09, ⟨.u 1, .ro, 0, .kept, false, .any⟩)  /- BK_STATE -/,
  (0x0A, 0x0A, ⟨.u 1, .ro, 0, .kept, false, .any⟩)  /- BK_SYM -/,
  (0x0B, 0x0B, ⟨.u 4, .ro, 0, .kept, false, .any⟩)  /- BK_DELAY_CLK -/,
  (0x0C, 0x0C, ⟨.f32, .ro, 0x3f800000, .kept, false, .any⟩)  /- BK_DCGAIN -/,
  (0x0D, 0x0D, ⟨.u 4, .ro, 0, .kept, false, .any⟩)  /- BK_CRC -/
  ]

/-- Queue objects (R246). -/
def rowsQueue : List (Nat × Nat × Info) := [
  (0x01, 0x01, ⟨.u 1, .ro, 0, .vol, false, .any⟩)  /- QU_STATE -/,
  (0x02, 0x02, ⟨.u 1, .rw, 0, .kept, false, .span 0 1⟩)  /- QU_ENABLE -/,
  (0x03, 0x03, ⟨.u 4, .rws, 0x1000, .kept, false, .mult 256 65536 256⟩)  /- QU_SEG_SIZE -/,
  (0x04, 0x04, ⟨.u 1, .rws, 0xff, .kept, false, .gaps 255 0 15⟩)  /- QU_SPILL_CHAN -/,
  (0x05, 0x05, ⟨.u 4, .rws, 0x1000, .kept, false, .any⟩)  /- QU_SPILL_MARK -/,
  (0x06, 0x06, ⟨.u 1, .rws, 0, .kept, false, .span 0 2⟩)  /- QU_PRODUCER -/,
  (0x07, 0x07, ⟨.u 4, .rw, 0xffffffff, .kept, false, .any⟩)  /- QU_WM_HIGH -/,
  (0x08, 0x08, ⟨.u 4, .rw, 0, .kept, false, .any⟩)  /- QU_WM_LOW -/,
  (0x09, 0x09, ⟨.u 4, .ro, 0x400, .vol, false, .any⟩)  /- QU_MAX_PACKET -/,
  (0x0A, 0x0A, ⟨.record 21, .ro, 0, .vol, false, .any⟩)  /- QU_POINTERS -/,
  (0x0B, 0x0B, ⟨.u 4, .ro, 0, .vol, false, .any⟩)  /- QU_LEVEL -/,
  (0x0C, 0x0C, ⟨.record 9, .ro, 0, .vol, false, .any⟩)  /- QU_READ -/,
  (0x0D, 0x0D, ⟨.record 27, .ro, 0, .vol, false, .any⟩)  /- QU_READ3 -/,
  (0x0E, 0x0E, ⟨.u 1, .wo, 0, .vol, false, .span 1 5⟩)  /- QU_CMD -/,
  (0x0F, 0x0F, ⟨.u 4, .wo, 0, .vol, false, .any⟩)  /- QU_RELEASE_AT -/,
  (0x10, 0x10, ⟨.record 5, .ro, 0, .vol, false, .any⟩)  /- QU_NOTICE -/,
  (0x11, 0x11, ⟨.octets 24, .wo, 0, .vol, false, .any⟩)  /- QU_WRITE -/,
  (0x12, 0x12, ⟨.u 1, .wo, 0, .vol, false, .span 1 2⟩)  /- QU_WRITE_END -/,
  (0x13, 0x13, ⟨.u 4, .ro, 0, .vol, false, .any⟩)  /- QU_COMMITTED -/,
  (0x14, 0x14, ⟨.u 4, .ro, 0, .vol, false, .any⟩)  /- QU_ABORTED -/,
  (0x15, 0x15, ⟨.u 1, .ro, 0, .vol, false, .any⟩)  /- QU_LAST_ABORT -/,
  (0x16, 0x16, ⟨.u 4, .ro, 0, .vol, false, .any⟩)  /- QU_STALLS -/,
  (0x17, 0x17, ⟨.u 4, .ro, 0, .vol, false, .any⟩)  /- QU_VOID -/
  ]

/-- DMA channel objects (R247). DM_RD_ADDR: the table says a multiple of 8 within the ring; the model accepts every multiple of 8 up to
16 777 208, the highest offset of the largest ring, also at or beyond the DM_SIZE in force, and refuses others with RANGE (DESIGN CHOICE,
log entry 71). -/
def rowsDma : List (Nat × Nat × Info) := [
  (0x01, 0x01, ⟨.u 1, .rws, 0, .kept, false, .span 0 2⟩)  /- DM_ROLE -/,
  (0x02, 0x02, ⟨.u 1, .rws, 0, .kept, false, .span 0 63⟩)  /- DM_QUEUE -/,
  (0x03, 0x03, ⟨.u 4, .rws, 0, .kept, false, .mult 0 4294967295 65536⟩)  /- DM_BASE -/,
  (0x04, 0x04, ⟨.u 4, .rws, 0x100000, .kept, false, .mult 65536 16777216 65536⟩)  /- DM_SIZE -/,
  (0x05, 0x05, ⟨.u 1, .rws, 1, .kept, false, .span 0 2⟩)  /- DM_POLICY -/,
  (0x06, 0x06, ⟨.u 2, .rws, 0, .kept, false, .any⟩)  /- DM_POST -/,
  (0x07, 0x07, ⟨.u 2, .rws, 0, .kept, false, .any⟩)  /- DM_TRIG_CODE -/,
  (0x08, 0x08, ⟨.u 1, .wo, 0, .vol, false, .span 1 3⟩)  /- DM_CTRL -/,
  (0x09, 0x09, ⟨.u 1, .ro, 0, .vol, false, .any⟩)  /- DM_STATE -/,
  (0x0A, 0x0A, ⟨.u 4, .ro, 0, .vol, false, .any⟩)  /- DM_WRITE_INDEX -/,
  (0x0B, 0x0B, ⟨.u 4, .ro, 0, .vol, false, .any⟩)  /- DM_OLDEST -/,
  (0x0C, 0x0C, ⟨.u 4, .ro, 0, .vol, false, .any⟩)  /- DM_WRAPS -/,
  (0x0D, 0x0D, ⟨.u 4, .rw, 0, .vol, false, .mult 0 16777208 8⟩)  /- DM_RD_ADDR -/,
  (0x0E, 0x0E, ⟨.record 9, .ro, 0, .vol, false, .any⟩)  /- DM_RD_DATA -/,
  (0x0F, 0x0F, ⟨.u 4, .ro, 0, .vol, false, .any⟩)  /- DM_DROPPED -/,
  (0x10, 0x10, ⟨.u 8, .ro, 0, .vol, false, .any⟩)  /- DM_TRIG_TIME -/
  ]

/-- Objects of 02F0 (R31). -/
def rows02F0 : List (Nat × Nat × Info) := [
  (0x01, 0x01, ⟨.u 2, .ro, 0, .vol, false, .any⟩)  /- OPS_IN_USE -/,
  (0x02, 0x02, ⟨.u 2, .ro, 0, .vol, false, .any⟩)  /- OPS_PEAK -/,
  (0x03, 0x03, ⟨.u 4, .ro, 0, .vol, false, .any⟩)  /- OPS_BUSY_COUNT -/,
  (0x04, 0x04, ⟨.u 4, .ro, 0, .vol, false, .any⟩)  /- OPS_PROT_LOST -/,
  (0x05, 0x05, ⟨.u 4, .ro, 0, .kept, false, .any⟩)  /- OPS_EVT_LOST -/
  ]

/-- Objects of 02F1 (R31). -/
def rows02F1 : List (Nat × Nat × Info) := [
  (0x01, 0x01, ⟨.u 1, .ro, 0xf, .kept, false, .any⟩)  /- SPR_T_FREE -/,
  (0x02, 0x02, ⟨.u 2, .ro, 0xffff, .kept, false, .any⟩)  /- SPR_HALVES -/,
  (0x03, 0x03, ⟨.u 1, .ro, 2, .kept, false, .any⟩)  /- SPR_IMAGES -/,
  (0x04, 0x04, ⟨.u 1, .ro, 2, .kept, false, .any⟩)  /- SPR_CFG_BANKS -/,
  (0x05, 0x05, ⟨.u 2, .ro, 0, .kept, false, .any⟩)  /- SPR_MAINT -/
  ]

/-- Objects of 02F2 (R31). -/
def rows02F2 : List (Nat × Nat × Info) := [
  (0x01, 0x04, ⟨.u 1, .ro, 0, .vol, false, .any⟩)  /- LINK_STATE -/,
  (0x05, 0x08, ⟨.u 4, .ro, 0, .kept, false, .any⟩)  /- LINK_DISCARD -/
  ]

/-- Objects of 1000 (R47). -/
def rows1000 : List (Nat × Nat × Info) := [
  (0x01, 0x01, ⟨.u 4, .wo, 0, .vol, false, .any⟩)  /- HM_CREATE -/,
  (0x02, 0x02, ⟨.u 2, .wo, 0, .vol, false, .any⟩)  /- HM_DESTROY -/,
  (0x03, 0x03, ⟨.u 1, .ro, 0, .vol, false, .any⟩)  /- HM_REFUSE -/,
  (0x04, 0x04, ⟨.u 1, .ro, 0, .vol, false, .any⟩)  /- HM_REFUSE_REQ -/,
  (0x05, 0x05, ⟨.u 1, .ro, 0x80, .vol, false, .any⟩)  /- HM_SLOTS_FREE -/,
  (0x06, 0x06, ⟨.u 1, .ro, 0x20, .vol, false, .any⟩)  /- HM_FILTERS_FREE -/,
  (0x07, 0x07, ⟨.u 4, .ro, 0, .vol, false, .any⟩)  /- HM_CMD_DROPPED -/
  ]

/-- Objects of 1010 (R47). -/
def rows1010 : List (Nat × Nat × Info) := [
  (0x01, 0x10, ⟨.u 1, .rw, 0, .branch, true, .any⟩)  /- PUP_CODE -/
  ]

/-- Objects of 1011 (R47). -/
def rows1011 : List (Nat × Nat × Info) := [
  (0x01, 0x10, ⟨.u 4, .rw, 0, .branch, true, .span 0 24000000⟩)  /- PUP_VALUE -/
  ]

/-- Objects of 0200 (R55). -/
def rows0200 : List (Nat × Nat × Info) := [
  (0x01, 0x01, ⟨.u 1, .ro, 0, .vol, false, .any⟩)  /- DEV_STATE -/,
  (0x02, 0x02, ⟨.u 1, .wo, 0, .vol, false, .span 1 7⟩)  /- DEV_CMD -/,
  (0x03, 0x03, ⟨.u 1, .ro, 0, .vol, false, .any⟩)  /- DEV_SAFE_CAUSE -/
  ]

/-- Objects of 9010+b (R98). -/
def rows9010pb : List (Nat × Nat × Info) := [
  (0x01, 0x01, ⟨.u 1, .rw, 0, .kept, true, .span 0 2⟩)  /- BR_REF_SEL -/,
  (0x02, 0x02, ⟨.u 1, .ro, 0, .vol, false, .any⟩)  /- BR_REF_STATUS -/,
  (0x03, 0x03, ⟨.u 2, .rw, 0x3c, .kept, true, .gaps 0 10 3600⟩)  /- BR_CAL_PERIOD -/,
  (0x04, 0x04, ⟨.u 1, .ro, 0, .kept, false, .any⟩)  /- BR_T_STATE -/,
  (0x05, 0x05, ⟨.u 1, .ro, 0xff, .vol, false, .any⟩)  /- BR_T_CHANNEL -/,
  (0x06, 0x06, ⟨.u 4, .ro, 0, .kept, false, .any⟩)  /- BR_VOTES -/,
  (0x07, 0x07, ⟨.u 1, .ro, 0, .kept, false, .any⟩)  /- BR_RETIRED -/,
  (0x08, 0x08, ⟨.i 4, .ro, 0, .vol, false, .any⟩)  /- BR_REF_RATIO -/
  ]

/-- Objects of 5800 (R129). -/
def rows5800 : List (Nat × Nat × Info) := [
  (0x01, 0x01, ⟨.u 4, .ro, 0x2e7ddb00, .kept, false, .any⟩)  /- FE_CAPACITY -/,
  (0x02, 0x02, ⟨.u 4, .ro, 0, .vol, false, .any⟩)  /- FE_RESERVED -/,
  (0x03, 0x03, ⟨.u 1, .rw, 0, .kept, false, .any⟩)  /- FE_RING_SYNC_MASK -/,
  (0x04, 0x04, ⟨.u 1, .rw, 0, .kept, false, .any⟩)  /- FE_LAND_SYNC_MASK -/,
  (0x05, 0x05, ⟨.u 1, .rw, 0, .kept, false, .span 0 2⟩)  /- FE_LAND_SYNC_EDGE -/,
  (0x06, 0x06, ⟨.u 4, .ro, 0, .vol, false, .any⟩)  /- FE_SYNC_COUNT -/
  ]

/-- Objects of 5801 (R129). -/
def rows5801 : List (Nat × Nat × Info) := [
  (0x01, 0x01, ⟨.u 2, .rw, 0, .vol, false, .any⟩)  /- CR_ADDR -/,
  (0x02, 0x02, ⟨.i 4, .rw, 0, .vol, false, .any⟩)  /- CR_DATA -/
  ]

/-- Objects of 9020 (R157). TB_ENABLE: the table gives a meaning to 1 and, by its default, to 0; 2 to 255 are refused with RANGE (DESIGN
CHOICE, log entry 71). -/
def rows9020 : List (Nat × Nat × Info) := [
  (0x01, 0x01, ⟨.u 1, .rw, 0, .vol, true, .span 0 1⟩)  /- TB_ENABLE -/,
  (0x02, 0x02, ⟨.u 2, .rw, 0, .vol, true, .any⟩)  /- TB_HANDLE -/,
  (0x03, 0x03, ⟨.u 1, .ro, 0, .vol, false, .any⟩)  /- TB_STATUS -/,
  (0x04, 0x04, ⟨.u 1, .ro, 0, .vol, false, .any⟩)  /- TB_LANDS -/,
  (0x05, 0x05, ⟨.i 4, .ro, 0, .vol, false, .any⟩)  /- TB_LAST_DELTA -/
  ]

/-- Objects of 0210 (R209). -/
def rows0210 : List (Nat × Nat × Info) := [
  (0x01, 0x01, ⟨.u 1, .wo, 0, .vol, false, .span 1 2⟩)  /- SQ_SWAP -/,
  (0x02, 0x02, ⟨.u 8, .rw, 0, .vol, false, .any⟩)  /- SQ_SWAP_TIME -/,
  (0x03, 0x03, ⟨.u 1, .ro, 0, .vol, false, .any⟩)  /- SQ_SWAP_STATE -/,
  (0x04, 0x04, ⟨.u 4, .ro, 0, .vol, false, .any⟩)  /- SQ_CHECK -/,
  (0x05, 0x05, ⟨.u 1, .rw, 0, .kept, false, .span 0 1⟩)  /- SQ_CYCLE_SRC -/,
  (0x06, 0x06, ⟨.u 4, .rw, 0xf4240, .kept, false, .mult 62500 100000000 10⟩)  /- SQ_LOCAL_PERIOD -/,
  (0x07, 0x07, ⟨.u 4, .ro, 0, .vol, false, .any⟩)  /- SQ_CYCLE_NS -/,
  (0x08, 0x08, ⟨.u 1, .ro, 0, .vol, false, .any⟩)  /- SQ_LOCK -/,
  (0x09, 0x09, ⟨.u 4, .ro, 0, .vol, false, .any⟩)  /- SQ_CYCLE_INDEX -/,
  (0x0A, 0x0A, ⟨.u 2, .rw, 0xa, .kept, false, .span 2 1000⟩)  /- SQ_LATCH_GUARD -/,
  (0x0B, 0x0B, ⟨.u 4, .ro, 0, .vol, false, .any⟩)  /- SQ_OVERRUN -/,
  (0x0C, 0x0C, ⟨.u 4, .ro, 0, .vol, false, .any⟩)  /- SQ_SKIPPED -/,
  (0x0D, 0x0D, ⟨.u 4, .ro, 0, .vol, false, .any⟩)  /- SQ_UNBOUND -/,
  (0x0E, 0x0E, ⟨.u 4, .ro, 0, .vol, false, .any⟩)  /- SQ_MAX_LATE -/,
  (0x0F, 0x0F, ⟨.u 4, .ro, 0, .vol, false, .any⟩)  /- SQ_BUF_DROPPED -/,
  (0x10, 0x17, ⟨.u 8, .ro, 0, .vol, false, .any⟩)  /- SQ_MARK -/
  ]

/-- Objects of 0211 (R210). -/
def rows0211 : List (Nat × Nat × Info) := [
  (0x01, 0x01, ⟨.u 1, .rw, 0, .kept, true, .any⟩)  /- GU_MODE -/,
  (0x02, 0x02, ⟨.bool, .ro, 0, .vol, false, .any⟩)  /- GU_DET_HOLDS -/,
  (0x03, 0x03, ⟨.u 2, .ro, 0, .kept, false, .any⟩)  /- GU_DET_CAUSE -/,
  (0x04, 0x04, ⟨.u 4, .ro, 0, .kept, false, .any⟩)  /- GU_DET_FIRST -/,
  (0x05, 0x05, ⟨.u 4, .ro, 0, .kept, false, .any⟩)  /- GU_DET_LAST -/,
  (0x06, 0x06, ⟨.u 4, .ro, 0, .kept, false, .any⟩)  /- GU_DET_COUNT -/,
  (0x07, 0x07, ⟨.u 1, .wo, 0, .vol, false, .span 1 1⟩)  /- GU_DET_ACK -/,
  (0x08, 0x08, ⟨.u 4, .ro, 0, .kept, false, .any⟩)  /- GU_ATOM_LAST_TXN -/,
  (0x09, 0x09, ⟨.u 4, .ro, 0, .kept, false, .any⟩)  /- GU_ATOM_RECOVERIES -/
  ]

/-- Objects of 4400 (R248). -/
def rows4400 : List (Nat × Nat × Info) := [
  (0x01, 0x01, ⟨.u 4, .ro, 0x40000, .vol, false, .any⟩)  /- QM_SRAM_FREE -/,
  (0x02, 0x02, ⟨.u 8, .ro, 0, .vol, false, .any⟩)  /- QM_NOTICE_SUMMARY -/,
  (0x03, 0x03, ⟨.u 1, .ro, 0, .vol, false, .any⟩)  /- QM_PSRAM_STATE -/,
  (0x04, 0x04, ⟨.u 4, .ro, 0, .vol, false, .any⟩)  /- QM_PSRAM_RAW -/,
  (0x05, 0x05, ⟨.u 4, .ro, 0, .vol, false, .any⟩)  /- QM_PSRAM_USABLE -/,
  (0x06, 0x06, ⟨.u 1, .ro, 0, .vol, false, .any⟩)  /- QM_NOR_STATE -/,
  (0x07, 0x07, ⟨.u 4, .ro, 0, .vol, false, .any⟩)  /- QM_NOR_SIZE -/,
  (0x08, 0x08, ⟨.u 2, .ro, 0, .vol, false, .any⟩)  /- QM_XSPI_CLOCK -/,
  (0x09, 0x09, ⟨.u 1, .rw, 0xee, .kept, true, .any⟩)  /- QM_PSRAM_RD_OP -/,
  (0x0A, 0x0A, ⟨.u 1, .rw, 0xde, .kept, true, .any⟩)  /- QM_PSRAM_WR_OP -/,
  (0x0B, 0x0B, ⟨.u 1, .rw, 7, .kept, true, .span 3 16⟩)  /- QM_PSRAM_LATENCY -/,
  (0x0C, 0x0C, ⟨.u 4, .rw, 0x100000, .kept, true, .span 65536 16777216⟩)  /- QM_SCRUB_RATE -/,
  (0x0D, 0x0D, ⟨.u 4, .ro, 0, .vol, false, .any⟩)  /- QM_SCRUB_PASS -/,
  (0x0E, 0x0E, ⟨.u 4, .ro, 0, .kept, false, .any⟩)  /- QM_ECC_SRAM_CORR -/,
  (0x0F, 0x0F, ⟨.u 4, .ro, 0, .kept, false, .any⟩)  /- QM_ECC_SRAM_DOUBLE -/,
  (0x10, 0x10, ⟨.u 4, .ro, 0, .kept, false, .any⟩)  /- QM_ECC_COEF_CORR -/,
  (0x11, 0x11, ⟨.u 4, .ro, 0, .kept, false, .any⟩)  /- QM_ECC_COEF_DOUBLE -/,
  (0x12, 0x12, ⟨.u 4, .ro, 0, .kept, false, .any⟩)  /- QM_ECC_PSRAM_CORR -/,
  (0x13, 0x13, ⟨.u 4, .ro, 0, .kept, false, .any⟩)  /- QM_ECC_PSRAM_DOUBLE -/
  ]

/-- Objects of 0100 (R278). -/
def rows0100 : List (Nat × Nat × Info) := [
  (0x01, 0x01, ⟨.str 64, .ro, 0x7365636976654420666568746541, .kept, false, .any⟩)  /- ID_VENDOR -/,
  (0x02, 0x02, ⟨.str 64, .ro, 0, .kept, false, .any⟩)  /- ID_ORDER_CODE -/,
  (0x03, 0x03, ⟨.u 8, .ro, 0, .kept, false, .any⟩)  /- ID_SERIAL -/,
  (0x04, 0x04, ⟨.u 2, .ro, 0, .kept, false, .any⟩)  /- ID_DIE_ISSUE -/,
  (0x05, 0x05, ⟨.u 4, .ro, 0, .kept, false, .any⟩)  /- ID_HK_VERSION -/,
  (0x06, 0x06, ⟨.record 16, .ro, 0, .kept, false, .any⟩)  /- ID_BR_UCODE -/,
  (0x07, 0x07, ⟨.u 2, .ro, 0, .kept, false, .any⟩)  /- ID_DICT_VERSION -/,
  (0x08, 0x08, ⟨.str 64, .ro, 0, .kept, false, .any⟩)  /- ID_BMD_NAME -/
  ]

/-- Objects of 0220 (R279). -/
def rows0220 : List (Nat × Nat × Info) := [
  (0x01, 0x01, ⟨.u 1, .wo, 0, .vol, false, .span 1 1⟩)  /- TX_OPEN -/,
  (0x02, 0x02, ⟨.u 4, .wo, 0, .vol, false, .any⟩)  /- TX_COMMIT -/,
  (0x03, 0x03, ⟨.u 4, .wo, 0, .vol, false, .any⟩)  /- TX_ABORT -/,
  (0x04, 0x04, ⟨.record 11, .ro, 0, .vol, false, .any⟩)  /- TX_STATUS -/,
  (0x05, 0x05, ⟨.u 1, .ro, 0, .vol, false, .any⟩)  /- TX_OPEN_COUNT -/,
  (0x06, 0x06, ⟨.u 4, .ro, 1, .kept, false, .any⟩)  /- TX_NEXT -/,
  (0x07, 0x07, ⟨.u 2, .rwt, 0xa, .kept, false, .span 1 600⟩)  /- TX_TIMEOUT -/
  ]

/-- Objects of 0230 (R280). -/
def rows0230 : List (Nat × Nat × Info) := [
  (0x01, 0x01, ⟨.u 4, .wo, 0, .vol, false, .any⟩)  /- PV_UNLOCK -/,
  (0x02, 0x02, ⟨.u 1, .wo, 0, .vol, false, .span 1 1⟩)  /- PV_LOCK -/,
  (0x03, 0x03, ⟨.u 4, .wo, 0x1624, .kept, true, .span 1 4294967295⟩)  /- PV_SERVICE_CODE -/,
  (0x04, 0x04, ⟨.u 2, .rwt, 0x384, .kept, true, .span 60 7200⟩)  /- PV_TIMEOUT -/,
  (0x05, 0x05, ⟨.u 1, .ro, 0, .vol, false, .any⟩)  /- PV_LEVEL -/,
  (0x06, 0x06, ⟨.u 4, .ro, 0, .kept, false, .any⟩)  /- PV_FAILS -/,
  (0x07, 0x07, ⟨.u 2, .ro, 0, .vol, false, .any⟩)  /- PV_LOCKOUT -/,
  (0x08, 0x08, ⟨.u 1, .ro, 1, .kept, false, .any⟩)  /- PV_DEFAULT_CODE -/
  ]

/-- Objects of 0240 (R281). -/
def rows0240 : List (Nat × Nat × Info) := [
  (0x01, 0x01, ⟨.u 1, .ro, 0, .kept, false, .any⟩)  /- DR_EPOCH -/,
  (0x02, 0x02, ⟨.u 4, .ro, 0, .vol, false, .any⟩)  /- DR_REPEATS -/,
  (0x03, 0x03, ⟨.u 4, .ro, 0, .vol, false, .any⟩)  /- DR_TOO_OLD -/,
  (0x04, 0x04, ⟨.u 4, .ro, 0, .vol, false, .any⟩)  /- DR_EVICTIONS -/,
  (0x05, 0x05, ⟨.u 1, .ro, 0, .vol, false, .any⟩)  /- DR_REQUESTERS -/,
  (0x06, 0x06, ⟨.u 2, .ro, 0, .vol, false, .any⟩)  /- DR_DEFERRED -/,
  (0x07, 0x07, ⟨.u 4, .ro, 0, .vol, false, .any⟩)  /- DR_PD_DENIED -/
  ]

/-- Objects of F000 (R282). -/
def rowsF000 : List (Nat × Nat × Info) := [
  (0x01, 0x40, ⟨.u 4, .rws, 0, .kept, false, .any⟩)  /- PI_OUT_MAP -/
  ]

/-- Objects of F100 (R282). -/
def rowsF100 : List (Nat × Nat × Info) := [
  (0x01, 0x40, ⟨.u 4, .rws, 0, .kept, false, .any⟩)  /- PI_IN_MAP -/
  ]

/-- Objects of F200 (R282). -/
def rowsF200 : List (Nat × Nat × Info) := [
  (0x01, 0x01, ⟨.u 1, .ro, 0, .vol, false, .any⟩)  /- PI_OUT_LEN -/,
  (0x02, 0x02, ⟨.u 1, .ro, 0, .vol, false, .any⟩)  /- PI_IN_LEN -/,
  (0x03, 0x03, ⟨.u 8, .ro, 0, .vol, false, .any⟩)  /- PI_TOGGLE_ECHO -/
  ]

/-- Objects of 0800 (R305). -/
def rows0800 : List (Nat × Nat × Info) := [
  (0x01, 0x01, ⟨.u 1, .rw, 0, .kept, true, .span 0 240⟩)  /- RG_NODE_ADDR -/,
  (0x02, 0x02, ⟨.u 2, .rw, 0, .kept, true, .span 0 1499⟩)  /- RG_OUT_OFFSET -/,
  (0x03, 0x03, ⟨.u 2, .rw, 0, .kept, true, .span 0 1499⟩)  /- RG_IN_OFFSET -/,
  (0x04, 0x04, ⟨.u 4, .rw, 0, .kept, true, .any⟩)  /- RG_PD_EPOCH -/,
  (0x05, 0x05, ⟨.u 1, .ro, 0, .vol, false, .any⟩)  /- RG_POSITION -/,
  (0x06, 0x06, ⟨.u 1, .ro, 0, .vol, false, .any⟩)  /- RG_SEAL_LAST -/,
  (0x07, 0x07, ⟨.u 1, .ro, 0, .vol, false, .any⟩)  /- RG_LAST_CHECK -/
  ]

/-- Objects of 0810 (R306). -/
def rows0810 : List (Nat × Nat × Info) := [
  (0x01, 0x01, ⟨.u 8, .ro, 0, .vol, false, .any⟩)  /- RT_TIME -/,
  (0x02, 0x02, ⟨.u 1, .ro, 0, .vol, false, .any⟩)  /- RT_STATE -/,
  (0x03, 0x03, ⟨.i 4, .ro, 0, .vol, false, .any⟩)  /- RT_OFFSET -/,
  (0x04, 0x04, ⟨.u 4, .rw, 0, .vol, false, .span 0 1000000⟩)  /- RT_PROP_DELAY -/,
  (0x05, 0x05, ⟨.u 4, .rw, 0, .vol, false, .span 0 1000000⟩)  /- RT_PROP_DELAY_B -/,
  (0x06, 0x06, ⟨.i 2, .rw, 0, .kept, false, .span (-255) 255⟩)  /- RT_UTC_OFFSET -/,
  (0x07, 0x07, ⟨.record 29, .ro, 0, .vol, false, .any⟩)  /- RT_DELAY_STAMPS -/,
  (0x08, 0x08, ⟨.i 4, .ro, 0, .vol, false, .any⟩)  /- RT_RATE -/
  ]

/-- Objects of 0820 (R307). -/
def rows0820 : List (Nat × Nat × Info) := [
  (0x01, 0x01, ⟨.u 1, .ro, 0, .vol, false, .any⟩)  /- RP_LINK_A -/,
  (0x02, 0x02, ⟨.u 1, .ro, 0, .vol, false, .any⟩)  /- RP_LINK_B -/,
  (0x03, 0x03, ⟨.u 1, .ro, 0, .vol, false, .any⟩)  /- RP_LOOP -/,
  (0x04, 0x04, ⟨.u 4, .ro, 0, .vol, false, .any⟩)  /- RP_FCS_A -/,
  (0x05, 0x05, ⟨.u 4, .ro, 0, .vol, false, .any⟩)  /- RP_FCS_B -/,
  (0x06, 0x06, ⟨.u 4, .ro, 0, .vol, false, .any⟩)  /- RP_FCS_UPSTREAM -/,
  (0x07, 0x07, ⟨.u 4, .ro, 0, .kept, false, .any⟩)  /- RP_LINK_LOSSES -/,
  (0x08, 0x08, ⟨.u 2, .rw, 0x64, .kept, true, .span 10 10000⟩)  /- RP_REOPEN_MS -/,
  (0x09, 0x09, ⟨.u 4, .ro, 0, .vol, false, .any⟩)  /- RP_SERVED -/,
  (0x0A, 0x0A, ⟨.u 4, .ro, 0, .vol, false, .any⟩)  /- RP_REFUSED -/
  ]

/-- Objects of 0830 (R308). -/
def rows0830 : List (Nat × Nat × Info) := [
  (0x01, 0x01, ⟨.u 2, .rw, 0, .kept, false, .any⟩)  /- PDW_CYCLES -/,
  (0x02, 0x02, ⟨.u 1, .ro, 0, .vol, false, .any⟩)  /- PDW_STATE -/,
  (0x03, 0x03, ⟨.u 4, .ro, 0, .vol, false, .any⟩)  /- PDW_REMAIN -/,
  (0x04, 0x04, ⟨.u 4, .ro, 0, .kept, false, .any⟩)  /- PDW_EXPIRIES -/
  ]

/-- Objects of 0840 (R308). -/
def rows0840 : List (Nat × Nat × Info) := [
  (0x01, 0x01, ⟨.u 1, .rw, 0, .kept, false, .span 0 2⟩)  /- SY_LAND_MODE -/,
  (0x02, 0x02, ⟨.u 4, .rw, 0x3e8, .kept, false, .span 100 100000⟩)  /- SY_PULSE_NS -/,
  (0x03, 0x03, ⟨.u 4, .ro, 0, .vol, false, .any⟩)  /- SY_RING_SYNCS -/
  ]

/-- Objects of 0400 (R341). -/
def rows0400 : List (Nat × Nat × Info) := [
  (0x01, 0x01, ⟨.u 1, .ro, 1, .vol, false, .any⟩)  /- WD0_STATE -/,
  (0x02, 0x02, ⟨.u 4, .ro, 0, .vol, false, .any⟩)  /- WD0_T_OPEN -/,
  (0x03, 0x03, ⟨.u 4, .ro, 0, .vol, false, .any⟩)  /- WD0_T_CLOSE -/,
  (0x04, 0x04, ⟨.u 4, .ro, 0, .vol, false, .any⟩)  /- WD0_T_WARN -/,
  (0x05, 0x05, ⟨.u 2, .ro, 0, .vol, false, .any⟩)  /- WD0_REQUIRED -/,
  (0x06, 0x06, ⟨.u 4, .ro, 0, .kept, false, .any⟩)  /- WD0_WARNINGS -/,
  (0x07, 0x07, ⟨.u 4, .ro, 0, .kept, false, .any⟩)  /- WD0_RETURNS -/,
  (0x08, 0x08, ⟨.u 4, .ro, 0, .kept, false, .any⟩)  /- WD0_RESETS -/
  ]

/-- Objects of 0401 (R342). -/
def rows0401 : List (Nat × Nat × Info) := [
  (0x01, 0x01, ⟨.u 1, .rw, 0, .kept, false, .span 0 1⟩)  /- WD1_ENABLE -/,
  (0x02, 0x02, ⟨.u 1, .ro, 0, .vol, false, .any⟩)  /- WD1_STATE -/,
  (0x03, 0x03, ⟨.u 4, .rw, 0x2710, .kept, false, .any⟩)  /- WD1_T_OPEN -/,
  (0x04, 0x04, ⟨.u 4, .rw, 0x186a0, .kept, false, .any⟩)  /- WD1_T_CLOSE -/,
  (0x05, 0x05, ⟨.u 4, .rw, 0xc350, .kept, false, .span 1000 10000000⟩)  /- WD1_T_WARN -/,
  (0x06, 0x06, ⟨.u 2, .rw, 1, .kept, false, .span 1 65535⟩)  /- WD1_REQUIRED -/,
  (0x07, 0x07, ⟨.u 1, .rw, 0, .kept, false, .any⟩)  /- WD1_POLICY -/,
  (0x08, 0x08, ⟨.u 1, .wo, 0, .vol, false, .span 0 15⟩)  /- WD1_CHECKIN -/,
  (0x09, 0x09, ⟨.u 2, .wo, 0, .vol, false, .any⟩)  /- WD1_KEY -/,
  (0x0A, 0x0A, ⟨.u 4, .ro, 0, .vol, false, .any⟩)  /- WD1_TICK -/,
  (0x0B, 0x0B, ⟨.u 2, .ro, 0, .vol, false, .any⟩)  /- WD1_SEEN -/,
  (0x0C, 0x0C, ⟨.u 2, .ro, 0, .vol, false, .any⟩)  /- WD1_REPEAT -/,
  (0x0D, 0x0D, ⟨.u 1, .ro, 0, .vol, false, .any⟩)  /- WD1_LAST_VIOL -/,
  (0x0E, 0x0E, ⟨.u 4, .ro, 0, .vol, false, .any⟩)  /- WD1_LAST_TICK -/,
  (0x0F, 0x0F, ⟨.u 4, .ro, 0, .kept, false, .any⟩)  /- WD1_RETURNS -/,
  (0x10, 0x10, ⟨.u 4, .ro, 0, .kept, false, .any⟩)  /- WD1_STAGE2 -/,
  (0x11, 0x11, ⟨.u 4, .ro, 0, .vol, false, .any⟩)  /- WD1_VIOLATIONS -/,
  (0x12, 0x12, ⟨.u 4, .ro, 0, .vol, false, .any⟩)  /- WD1_INCOMPLETE -/
  ]

/-- Objects of 0410 (R343). -/
def rows0410 : List (Nat × Nat × Info) := [
  (0x01, 0x01, ⟨.u 2, .ro, 0x100, .vol, false, .any⟩)  /- FAULT_CAUSE -/,
  (0x02, 0x02, ⟨.u 2, .rw, 0x19f, .kept, true, .any⟩)  /- FAULT_MASK -/,
  (0x03, 0x03, ⟨.u 1, .ro, 1, .vol, false, .any⟩)  /- FAULT_LAND -/,
  (0x04, 0x04, ⟨.u 4, .ro, 0, .kept, false, .any⟩)  /- WDO_PULSES -/
  ]

/-- Objects of 0420 (R344). -/
def rows0420 : List (Nat × Nat × Info) := [
  (0x01, 0x04, ⟨.u 2, .rw, 0x3e8, .kept, true, .span 0 60000⟩)  /- HOLD_TIME -/,
  (0x05, 0x08, ⟨.u 4, .ro, 0, .kept, false, .any⟩)  /- HOLD_LAST -/,
  (0x09, 0x0C, ⟨.u 1, .ro, 0, .vol, false, .any⟩)  /- ADOPT_RESULT -/,
  (0x0D, 0x0D, ⟨.u 1, .wo, 0, .vol, false, .any⟩)  /- BR_RELEASE -/,
  (0x0E, 0x0E, ⟨.u 4, .ro, 0, .kept, false, .any⟩)  /- HOLD_COUNT -/,
  (0x0F, 0x12, ⟨.record 32, .ro, 0, .vol, false, .any⟩)  /- BR_DIGEST -/
  ]

/-- Objects of 7000 (R364). CN_ENABLE: the table gives a meaning to 1 and, by its default, to 0; 2 to 255 are refused with RANGE (DESIGN
CHOICE, log entry 71). -/
def rows7000 : List (Nat × Nat × Info) := [
  (0x01, 0x01, ⟨.u 1, .rw, 0, .kept, true, .span 0 1⟩)  /- CN_ENABLE -/,
  (0x02, 0x02, ⟨.u 2, .rw, 0, .kept, true, .any⟩)  /- CN_CANOPY_ID -/,
  (0x03, 0x03, ⟨.u 1, .rw, 0xff, .kept, true, .gaps 255 0 7⟩)  /- CN_RANK -/,
  (0x04, 0x04, ⟨.u 1, .rw, 0, .kept, true, .any⟩)  /- CN_MEMBERS -/,
  (0x05, 0x05, ⟨.u 1, .rw, 0, .kept, true, .any⟩)  /- CN_REQUIRED -/,
  (0x06, 0x06, ⟨.u 1, .rw, 0xff, .kept, true, .gaps 255 0 7⟩)  /- CN_LEADER_PREF -/,
  (0x07, 0x07, ⟨.u 1, .rw, 0, .kept, true, .span 0 1⟩)  /- CN_POLICY -/,
  (0x08, 0x08, ⟨.u 2, .rw, 0, .kept, true, .span 0 1212⟩)  /- CN_REGION_OFFSET -/,
  (0x09, 0x09, ⟨.u 4, .rwt, 0, .vol, false, .any⟩)  /- CN_APPLY_AT -/,
  (0x0A, 0x0A, ⟨.u 1, .wo, 0, .vol, true, .span 1 1⟩)  /- CN_ADOPT -/,
  (0x10, 0x10, ⟨.u 1, .ro, 0, .vol, false, .any⟩)  /- CN_STATE -/,
  (0x11, 0x11, ⟨.u 1, .ro, 0, .vol, false, .any⟩)  /- CN_CAUSE -/,
  (0x12, 0x12, ⟨.u 1, .ro, 0, .vol, false, .any⟩)  /- CN_ADMITTED -/,
  (0x13, 0x13, ⟨.u 1, .ro, 0xff, .vol, false, .any⟩)  /- CN_LEADER -/,
  (0x14, 0x14, ⟨.u 1, .ro, 0, .vol, false, .any⟩)  /- CN_TERM -/,
  (0x15, 0x15, ⟨.u 1, .ro, 0, .vol, false, .any⟩)  /- CN_SELF -/,
  (0x16, 0x16, ⟨.u 1, .ro, 0, .vol, false, .any⟩)  /- CN_TIME_LOST -/,
  (0x17, 0x17, ⟨.u 1, .ro, 0, .vol, false, .any⟩)  /- CN_MINOR -/,
  (0x18, 0x18, ⟨.u 1, .ro, 0x10, .kept, false, .any⟩)  /- CN_PROTO_VERSION -/,
  (0x19, 0x19, ⟨.record 32, .ro, 0, .vol, false, .any⟩)  /- CN_DIGEST -/,
  (0x1A, 0x1A, ⟨.i 4, .ro, 0, .vol, false, .any⟩)  /- CN_DELTA -/
  ]

/-- Objects of 7020+r (R364). -/
def rows7020pr : List (Nat × Nat × Info) := [
  (0x01, 0x80, ⟨.u 4, .ro, 0, .kept, false, .any⟩)  /- CN_VIEW -/
  ]

/-- Objects of 8000 (R373). -/
def rows8000 : List (Nat × Nat × Info) := [
  (0x01, 0x07, ⟨.u 4, .ro, 0, .kept, false, .any⟩)  /- HW_WEAR -/,
  (0x08, 0x08, ⟨.u 4, .ro, 0, .kept, false, .any⟩)  /- HW_LINES_FAILED -/,
  (0x09, 0x09, ⟨.u 4, .ro, 0, .kept, false, .any⟩)  /- HW_RECORDS_LOST -/,
  (0x0A, 0x0A, ⟨.u 4, .ro, 0, .kept, false, .any⟩)  /- HW_FOLDED -/,
  (0x0B, 0x0B, ⟨.u 1, .wo, 0, .vol, false, .span 1 1⟩)  /- HW_FLUSH -/,
  (0x0C, 0x0C, ⟨.u 8, .ro, 0, .vol, false, .any⟩)  /- HW_LAST_FLUSH -/,
  (0x0D, 0x0D, ⟨.u 1, .ro, 0, .vol, false, .any⟩)  /- HW_SUSPENDED -/
  ]

/-- Objects of 8100+n (R378). -/
def rows8100pn : List (Nat × Nat × Info) := [
  (0x01, 0x01, ⟨.record 64, .ro, 0, .kept, false, .any⟩)  /- LC_CHANNEL -/
  ]

/-- Objects of 8110 (R378). -/
def rows8110 : List (Nat × Nat × Info) := [
  (0x01, 0x01, ⟨.record 64, .ro, 0, .kept, false, .any⟩)  /- LC_MODULE -/
  ]

/-- Objects of 8200 (R378). -/
def rows8200 : List (Nat × Nat × Info) := [
  (0x01, 0x01, ⟨.u 2, .ro, 0, .kept, false, .any⟩)  /- RR_FIRST_YEAR -/,
  (0x02, 0x02, ⟨.u 1, .ro, 0, .kept, false, .any⟩)  /- RR_BLOCKS -/,
  (0x03, 0x03, ⟨.u 4, .rw, 0, .vol, false, .any⟩)  /- RR_SELECT -/,
  (0x04, 0x04, ⟨.record 64, .ro, 0, .vol, false, .any⟩)  /- RR_RECORD -/
  ]

/-- Objects of 8010 (R382). -/
def rows8010 : List (Nat × Nat × Info) := [
  (0x01, 0x01, ⟨.u 4, .ro, 0, .kept, false, .any⟩)  /- EV_TOTAL -/,
  (0x02, 0x02, ⟨.u 4, .ro, 0, .kept, false, .any⟩)  /- EV_OLDEST -/,
  (0x03, 0x03, ⟨.u 4, .rw, 0, .vol, false, .any⟩)  /- EV_READ_NUM -/,
  (0x04, 0x04, ⟨.record 16, .ro, 0, .vol, false, .any⟩)  /- EV_READ -/,
  (0x05, 0x05, ⟨.u 1, .ro, 0, .vol, false, .any⟩)  /- EV_STAGED -/
  ]

/-- Objects of 8020 (R385). -/
def rows8020 : List (Nat × Nat × Info) := [
  (0x01, 0x01, ⟨.u 8, .rw, 0, .kept, true, .any⟩)  /- CAL_TIME -/,
  (0x02, 0x02, ⟨.u 1, .ro, 0, .kept, false, .any⟩)  /- CAL_STATE -/,
  (0x03, 0x03, ⟨.i 2, .ro, 0, .kept, false, .any⟩)  /- CAL_TRIM -/,
  (0x04, 0x04, ⟨.i 4, .ro, 0, .vol, false, .any⟩)  /- CAL_OFFSET -/,
  (0x05, 0x05, ⟨.u 8, .ro, 0, .kept, false, .any⟩)  /- CAL_LAST_DISC -/
  ]

/-- Objects of A000 (R394). -/
def rowsA000 : List (Nat × Nat × Info) := [
  (0x01, 0x01, ⟨.u 1, .ro, 0, .vol, false, .any⟩)  /- GR_HK_STATE -/,
  (0x02, 0x02, ⟨.u 1, .wo, 0, .vol, true, .span 1 5⟩)  /- GR_HK_CMD -/,
  (0x03, 0x03, ⟨.u 4, .rw, 0, .vol, true, .span 0 4194303⟩)  /- GR_HK_ADDR -/,
  (0x04, 0x04, ⟨.octets 256, .wo, 0, .vol, true, .any⟩)  /- GR_HK_DATA -/,
  (0x05, 0x05, ⟨.record 10, .ro, 0, .vol, false, .any⟩)  /- GR_HK_BANKS -/,
  (0x06, 0x06, ⟨.u 2, .rw, 0x12c, .kept, true, .span 30 3600⟩)  /- GR_HK_CONFIRM_S -/,
  (0x07, 0x07, ⟨.u 4, .rw, 0, .kept, true, .any⟩)  /- GR_HK_MIN_VERSION -/,
  (0x08, 0x08, ⟨.u 1, .ro, 0, .vol, false, .any⟩)  /- GR_HK_REFUSE -/,
  (0x09, 0x09, ⟨.u 2, .rw, 0xa, .kept, true, .span 1 600⟩)  /- GR_HK_WAIT_S -/,
  (0x0A, 0x0A, ⟨.u 2, .ro, 0, .kept, false, .any⟩)  /- GR_HK_SWAP_MS -/
  ]

/-- Objects of A010 (R394). -/
def rowsA010 : List (Nat × Nat × Info) := [
  (0x01, 0x01, ⟨.u 2, .rw, 0, .vol, true, .any⟩)  /- GR_CAL_HANDLE -/,
  (0x02, 0x02, ⟨.u 1, .rw, 0, .vol, true, .span 0 1⟩)  /- GR_CAL_CONV -/,
  (0x03, 0x03, ⟨.u 1, .wo, 0, .vol, true, .span 1 6⟩)  /- GR_CAL_CMD -/,
  (0x04, 0x04, ⟨.i 4, .rw, 0, .vol, true, .any⟩)  /- GR_CAL_LOW_REF -/,
  (0x05, 0x05, ⟨.i 4, .rw, 0, .vol, true, .any⟩)  /- GR_CAL_HIGH_REF -/,
  (0x06, 0x06, ⟨.u 1, .ro, 0, .vol, false, .any⟩)  /- GR_CAL_STATE -/
  ]

/-- Objects of A020 (R394). -/
def rowsA020 : List (Nat × Nat × Info) := [
  (0x01, 0x01, ⟨.u 1, .wo, 0, .vol, true, .span 0 3⟩)  /- GR_UC_START -/,
  (0x02, 0x02, ⟨.u 1, .ro, 0, .vol, false, .any⟩)  /- GR_UC_STATE -/,
  (0x03, 0x03, ⟨.u 1, .ro, 0xff, .vol, false, .any⟩)  /- GR_UC_BRANCH -/,
  (0x04, 0x04, ⟨.u 2, .rw, 0xa, .kept, true, .span 1 600⟩)  /- GR_UC_WAIT_S -/,
  (0x05, 0x05, ⟨.u 2, .ro, 0, .kept, false, .any⟩)  /- GR_UC_HOLD_MS -/
  ]

/-- Objects of 0300 (R415). -/
def rows0300 : List (Nat × Nat × Info) := [
  (0x01, 0x01, ⟨.u 2, .ro, 0, .vol, false, .any⟩)  /- PWR_VIN -/,
  (0x02, 0x02, ⟨.u 2, .ro, 0, .vol, false, .any⟩)  /- PWR_VIO -/,
  (0x03, 0x03, ⟨.u 2, .ro, 0, .vol, false, .any⟩)  /- PWR_VBAK -/,
  (0x04, 0x04, ⟨.u 1, .ro, 1, .vol, false, .any⟩)  /- PWR_FLAGS -/,
  (0x05, 0x05, ⟨.u 2, .ro, 0, .kept, false, .any⟩)  /- PWR_DIP_MIN -/,
  (0x06, 0x06, ⟨.u 4, .ro, 0, .kept, false, .any⟩)  /- PWR_DIP_TIME -/,
  (0x07, 0x07, ⟨.u 8, .ro, 0, .kept, false, .any⟩)  /- PWR_DIP_AT -/,
  (0x08, 0x08, ⟨.u 1, .ro, 0, .vol, false, .any⟩)  /- PWR_RESET_CAUSE -/,
  (0x09, 0x09, ⟨.u 2, .wo, 0, .vol, true, .span 23100 23100⟩)  /- PWR_RESET_CMD -/
  ]

/-- Objects of 0310+b (R416). -/
def rows0310pb : List (Nat × Nat × Info) := [
  (0x01, 0x01, ⟨.u 2, .rw, 0x384, .kept, true, .span 900 5500⟩)  /- VF_WARN_LEVEL -/,
  (0x02, 0x02, ⟨.u 1, .rw, 0, .kept, true, .span 0 1⟩)  /- VF_UVLO_POLICY -/,
  (0x03, 0x03, ⟨.u 2, .ro, 0, .vol, false, .any⟩)  /- VF_VALUE -/,
  (0x04, 0x04, ⟨.u 1, .ro, 0, .vol, false, .any⟩)  /- VF_STATUS -/,
  (0x05, 0x05, ⟨.u 1, .ro, 0, .vol, false, .any⟩)  /- BR_POWER_STATE -/,
  (0x06, 0x06, ⟨.u 2, .ro, 0, .vol, false, .any⟩)  /- VF_MIN -/,
  (0x07, 0x07, ⟨.u 4, .ro, 0, .kept, false, .any⟩)  /- VF_UVLO_COUNT -/,
  (0x08, 0x08, ⟨.u 4, .ro, 0, .branch, false, .any⟩)  /- VF_OFF_COUNT -/
  ]

/-- Objects of 0320 (R417). -/
def rows0320 : List (Nat × Nat × Info) := [
  (0x01, 0x01, ⟨.u 1, .ro, 0, .vol, false, .any⟩)  /- PL_RUNG -/,
  (0x02, 0x02, ⟨.u 1, .rw, 0, .kept, false, .span 0 5⟩)  /- PL_TARGET -/,
  (0x03, 0x03, ⟨.u 2, .rw, 0x3e8, .kept, false, .span 10 60000⟩)  /- PL_QUIET_MS -/,
  (0x04, 0x04, ⟨.u 1, .rw, 3, .kept, false, .any⟩)  /- PL_WAKE_MASK -/,
  (0x05, 0x05, ⟨.u 8, .rw, 0, .kept, false, .any⟩)  /- PL_WAKE_TIME -/,
  (0x06, 0x06, ⟨.u 2, .ro, 0, .vol, false, .any⟩)  /- PL_BLOCK -/,
  (0x07, 0x07, ⟨.u 1, .ro, 0, .vol, false, .any⟩)  /- PL_LAST_WAKE -/,
  (0x08, 0x08, ⟨.u 4, .ro, 0, .kept, false, .any⟩)  /- PL_DESCENTS -/
  ]

/-- One step of the active table (R198). -/
def rowsActiveStep : List (Nat × Nat × Info) := [(1, 1, ⟨.u 8, .ro, 0, .kept, false, .any⟩)]

/-- One step of the shadow table (R198). -/
def rowsShadowStep : List (Nat × Nat × Info) := [(1, 1, ⟨.u 8, .rw, 0, .kept, false, .any⟩)]

/-- The converter objects a MONITOR handle holds (R97). -/
def monitorSubs : List Nat := [0x10, 0x11, 0x14, 0x1E, 0x1F]

/-- Sub-index list of a handle slot by the kind it holds, 0 for a free slot (R48, R97). -/
def rowsOfKind (kind : Nat) : List (Nat × Nat × Info) :=
  rowsCommon ++
  match kind with
  | 1 => rowsConv ++ rowsLoopIn
  | 2 => rowsConv ++ rowsLoopOut
  | 3 => rowsConv ++ [(0x20, 0x20, ⟨.i 4, .ro, 0, .vol, false, .any⟩)]
  | 4 => rowsLevel
  | 5 => rowsSwitch
  | 6 => rowsSwitch
  | 7 => rowsConv.filter (fun r => monitorSubs.contains r.1)
  | _ => []

/-- The row list of an index, none where the index is not assigned (R255); kind gives the kind each slot holds. -/
def rowsAt (kind : Nat → Nat) (ix : Nat) : Option (List (Nat × Nat × Info)) :=
  if 0x2000 ≤ ix ∧ ix < 0x4000 then
    if (ix - 0x2000) % 0x40 = 0 then some (rowsOfKind (kind ((ix - 0x2000) / 0x40))) else none
  else if 0x4000 ≤ ix ∧ ix < 0x4400 then
    if (ix - 0x4000) % 0x10 = 0 then some rowsQueue else none
  else if 0x4410 ≤ ix ∧ ix < 0x4420 then some rowsDma
  else if 0x5000 ≤ ix ∧ ix < 0x5800 then
    if (ix - 0x5000) % 0x40 = 0 then some rowsFilter else none
  else if 0x5810 ≤ ix ∧ ix < 0x5870 then some rowsBank
  else if 0x6000 ≤ ix ∧ ix < 0x6400 then some rowsActiveStep
  else if 0x6400 ≤ ix ∧ ix < 0x6800 then some rowsShadowStep
  else if ix = 0x02F0 then some rows02F0
  else if ix = 0x02F1 then some rows02F1
  else if ix = 0x02F2 then some rows02F2
  else if ix = 0x1000 then some rows1000
  else if ix = 0x1010 then some rows1010
  else if ix = 0x1011 then some rows1011
  else if ix = 0x0200 then some rows0200
  else if 0x9010 ≤ ix ∧ ix < 0x9014 then some rows9010pb
  else if ix = 0x5800 then some rows5800
  else if ix = 0x5801 then some rows5801
  else if ix = 0x9020 then some rows9020
  else if ix = 0x0210 then some rows0210
  else if ix = 0x0211 then some rows0211
  else if ix = 0x4400 then some rows4400
  else if ix = 0x0100 then some rows0100
  else if ix = 0x0220 then some rows0220
  else if ix = 0x0230 then some rows0230
  else if ix = 0x0240 then some rows0240
  else if ix = 0xF000 then some rowsF000
  else if ix = 0xF100 then some rowsF100
  else if ix = 0xF200 then some rowsF200
  else if ix = 0x0800 then some rows0800
  else if ix = 0x0810 then some rows0810
  else if ix = 0x0820 then some rows0820
  else if ix = 0x0830 then some rows0830
  else if ix = 0x0840 then some rows0840
  else if ix = 0x0400 then some rows0400
  else if ix = 0x0401 then some rows0401
  else if ix = 0x0410 then some rows0410
  else if ix = 0x0420 then some rows0420
  else if ix = 0x7000 then some rows7000
  else if 0x7020 ≤ ix ∧ ix < 0x7028 then some rows7020pr
  else if ix = 0x8000 then some rows8000
  else if 0x8100 ≤ ix ∧ ix < 0x8110 then some rows8100pn
  else if ix = 0x8110 then some rows8110
  else if ix = 0x8200 then some rows8200
  else if ix = 0x8010 then some rows8010
  else if ix = 0x8020 then some rows8020
  else if ix = 0xA000 then some rowsA000
  else if ix = 0xA010 then some rowsA010
  else if ix = 0xA020 then some rowsA020
  else if ix = 0x0300 then some rows0300
  else if 0x0310 ≤ ix ∧ ix < 0x0314 then some rows0310pb
  else if ix = 0x0320 then some rows0320
  else none

/-- The row of an object. -/
def objInfo (kind : Nat → Nat) (ix sub : Nat) : Option Info :=
  match rowsAt kind ix with
  | none => none
  | some rows => rowAt rows sub

/-- The default of an object key before anything wrote it. Handle objects beyond the common ones take the defaults of their kind at
the create (initHandle), so they default to 0 here. -/
def dfltOf (key : Nat) : Nat :=
  match objInfo (fun _ => 0) (key / 256) (key % 256) with
  | none => 0
  | some r => r.dflt

end Sys2Proof.Machine
end

