-- ==== Sys2Proof/Machine/Tab.lean ====
section
/-!
DEFINITION. Sparse tables: a list of key and value pairs in one canonical form (keys strictly rising, no entry equal to what an
unlisted key reads as), so that equal tables are equal data.
-/
namespace Sys2Proof.Machine

/-- A sparse table. -/
abbrev Tab (α : Type) := List (Nat × α)

variable {α : Type}

/-- The value at a key; an unlisted key reads as d k. -/
def tabGet (d : Nat → α) : Tab α → Nat → α
  | [], k => d k
  | (a, v) :: m, k => if a = k then v else tabGet d m k

/-- The table without the key. -/
def tabDrop : Tab α → Nat → Tab α
  | [], _ => []
  | (a, v) :: m, k => if a = k then tabDrop m k else (a, v) :: tabDrop m k

/-- The table with the pair put before the first larger key. -/
def tabPut : Tab α → Nat → α → Tab α
  | [], k, v => [(k, v)]
  | (a, w) :: m, k, v => if k < a then (k, v) :: (a, w) :: m else (a, w) :: tabPut m k v

/-- Writing a value: the default removes the entry. -/
def tabSet [DecidableEq α] (d : Nat → α) (m : Tab α) (k : Nat) (v : α) : Tab α :=
  if v = d k then tabDrop m k else tabPut (tabDrop m k) k v

/-- All keys of the table lie above n and rise, and no entry is the default. -/
def tabWfAbove [DecidableEq α] (d : Nat → α) : Option Nat → Tab α → Bool
  | _, [] => true
  | n, (a, v) :: m =>
    (match n with
     | none => true
     | some b => decide (b < a)) && decide (v ≠ d a) && tabWfAbove d (some a) m

/-- The canonical form. -/
def tabWf [DecidableEq α] (d : Nat → α) (m : Tab α) : Bool := tabWfAbove d none m

end Sys2Proof.Machine
end

