-- ==== Sys2Proof/Machine/State.lean ====
section
/-!
DEFINITION. The state of the PT1624 as plain data. Everything the object dictionary names is in Dev.obj; the rest of the state the
spec gives the module is in typed fields. Two parts stand outside Dev because few commands write them: the PSRAM bytes (R242) and
the spares that are used up for good (R33).
-/
namespace Sys2Proof.Machine

/-- Why a step stops with a fault. -/
inductive Fault where
  /-- An access to a PSRAM address beyond the usable ones (R242). Raised by SPILL_TRANSFER, FILL_TRANSFER and CAPTURE_COPY. Safe. -/
  | psramHole
  deriving DecidableEq, Repr

/-- Why a step has no meaning. -/
inductive Refusal where
  /-- No meaning yet for the named command. Raised by exec's arms. Safe. -/
  | notModelled (mnemonic : String)
  deriving DecidableEq, Repr

/-- One event record (R380) with its number. -/
structure EvRec where
  num  : Nat
  time : Nat
  code : Nat
  src  : Nat
  det  : Nat
  deriving DecidableEq, Repr

/-- A commanded or staged output value: switch command, duty, frequency (R161), loop current in nA (R135), transmitter supply (R132). -/
structure OutVal where
  cmd  : Nat := 0
  duty : Nat := 32768
  freq : Nat := 200
  nA   : Nat := 0
  tx   : Nat := 0
  deriving DecidableEq, Repr

/-- The settings of a switch channel held in the branch store (R183); the defaults are the factory settings. -/
structure SwSet where
  lamp    : Bool := true
  pair    : Bool := false
  iTrip   : Nat := 12
  tFilt   : Nat := 1000
  thermal : Nat := 0
  retryN  : Nat := 8
  gap     : Nat := 10000
  iLim    : Nat := 24
  tLim    : Nat := 50
  compK   : Nat := 0
  vref    : Nat := 4800
  test    : Nat := 3
  vOl     : Nat := 4000
  clampS  : Nat := 300
  clampR  : Nat := 30
  deriving DecidableEq, Repr

/-- The life counters of one channel (R374, R375). -/
structure Life where
  onTime : Nat := 0
  cycles : Nat := 0
  energy : Nat := 0
  clamp  : Nat := 0
  oc     : Nat := 0
  sc     : Nat := 0
  retry  : Nat := 0
  therm  : Nat := 0
  fail   : Nat := 0
  peak   : Int := 0
  tcyc   : Nat := 0
  alarm  : Nat := 0
  deriving DecidableEq, Repr

/-- The calibration of one converter: y = x * gn / gd + on / od, as a fraction of full scale (R67, R391). -/
structure Cal where
  gn : Int := 1
  gd : Nat := 1
  on : Int := 0
  od : Nat := 1
  deriving DecidableEq, Repr

/-- One field channel, on its branch. -/
structure Chan where
  staged  : OutVal := {}
  force   : OutVal := {}
  pup     : Bool := false
  due     : Bool := false
  safeOn  : Bool := false
  post    : Nat := 2
  postNA  : Nat := 4000000
  state   : Nat := 0
  flags   : Nat := 0
  left    : Nat := 8
  iFail   : Nat := 0
  set     : SwSet := {}
  tTherm  : Option Nat := none
  tOff    : Option Nat := none
  gapRun  : Nat := 10000
  limRun  : Nat := 24
  timRun  : Nat := 50
  tTry    : Nat := 0
  refill  : Bool := false
  tries   : Nat := 0
  inSeq   : Bool := false
  prev    : Nat := 0
  stayOff : Bool := false
  cause   : Nat := 0
  dAct    : Nat := 0
  onTicks : Nat := 0
  open3   : Nat := 0
  short3  : Nat := 0
  ok3     : Nat := 0
  clampEnd : Option Nat := none
  iOut    : Nat := 0
  temp    : Int := 0
  share   : Nat := 50
  clampLast : Nat := 0
  inp     : Bool := false
  raw     : Bool := false
  cand    : Bool := false
  level   : Bool := false
  tc      : Nat := 0
  debounce : Nat := 1000
  invert  : Bool := false
  detect  : Nat := 3
  compWire : Bool := false
  compShort : Bool := false
  wireBrk : Bool := false
  short   : Bool := false
  na      : Nat := 0
  rises   : Nat := 0
  falls   : Nat := 0
  tRise   : Nat := 0
  tFall   : Nat := 0
  newRise : Nat := 0
  newFall : Nat := 0
  live    : Bool := true
  target  : Nat := 0
  subst   : Bool := false
  subDue  : Bool := false
  ackDue  : Bool := false
  txOn    : Bool := false
  txOff   : Bool := false
  txLim   : Bool := false
  lpSt    : Nat := 0
  drive   : Nat := 0
  alarmAt : Option Nat := none
  alarmNs : Nat := 0
  trimZ   : Int := 0
  trimS   : Int := 0
  calP    : Cal := {}
  calC    : Cal := {}
  prevP   : Cal := {}
  prevC   : Cal := {}
  corrP   : Int := 0
  corrC   : Int := 0
  resP    : Option Nat := none
  resC    : Option Nat := none
  resT    : Option Nat := none
  nextP   : Option Int := none
  nextC   : Option Int := none
  life    : Life := {}
  inc     : Life := {}
  deriving DecidableEq, Repr

/-- The converter result a branch forms for one window (R67, R75): y = num / den of full scale, its flags and its time. -/
structure Meas where
  slot   : Nat := 0
  num    : Int := 0
  den    : Nat := 1
  settle : Bool := false
  subst  : Bool := false
  abort  : Bool := false
  sat    : Bool := false
  wire   : Bool := false
  plaus  : Bool := false
  test   : Bool := false
  degr   : Bool := false
  limit  : Bool := false
  clocks : Nat := 0
  vf     : Nat := 0
  tEnd   : Nat := 0
  deriving DecidableEq, Repr

/-- A protection action a branch reports (R16, R25): channel, cause and the event it logs. -/
structure ProtEv where
  chan  : Nat := 0
  code  : Nat := 0
  det   : Nat := 0
  state : Nat := 0
  time  : Nat := 0
  more  : Nat := 0
  deriving DecidableEq, Repr

/-- What a link word carries; the payload layout is not in the spec, so the content stands as data (log entry 5). -/
inductive LWord where
  | prot (e : ProtEv)
  | result (r : Role) (m : Meas)
  | apply (chan : Nat) (t : Nat)
  | postureNow (chan : Nat)
  | postureSet (chan : Nat) (code nA : Nat)
  | stage (chan : Nat) (v : OutVal)
  | conv (slot : Nat) (kind : Nat) (t : Nat)
  | config (kind : Nat)
  deriving DecidableEq, Repr

/-- A self-calibration cycle of T (R84 to R86): its start, the deviations and T's own zero measured, the converter in turn (2k for P, 2k + 1 for C of
channel k), whether T's own measurements are over and whether T has joined. -/
structure CalRun where
  start  : Nat := 0
  devA   : Int := 0
  devB   : Int := 0
  zero   : Int := 0
  turn   : Nat := 0
  done   : Bool := false
  joined : Bool := false
  deriving DecidableEq, Repr

/-- One isolated field die. What the crown has of it from its words stands in vf, die, seenStatus, seenPower and seenRef (R13, R16),
with the trim it last worked out and the latest HEARTBEAT of the branch (R22). -/
structure Branch where
  power   : Nat := 0
  startLock : Bool := false
  valid   : Bool := false
  uvlo    : Bool := false
  warn    : Bool := false
  high    : Bool := false
  vf      : Nat := 0
  vfMin   : Nat := 0
  offCnt  : Nat := 0
  tOff    : Option Nat := none
  offS    : Option Nat := none
  warnLvl : Nat := 900
  uvPol   : Nat := 0
  tHold   : Nat := 1000
  linkUp  : Bool := false
  holding : Bool := false
  postured : Bool := false
  tLost   : Nat := 0
  crownLost : Option Nat := none
  crownHeld : Bool := false
  parked  : Bool := false
  configured : Bool := false
  mismatch : Bool := false
  digest  : Nat := 0
  buf     : List ProtEv := []
  toCrown : List LWord := []
  toBranch : List LWord := []
  nackUp  : Nat := 0
  nackDown : Nat := 0
  trim    : Int := 0
  refReady : Bool := false
  refinFault : Bool := false
  refEnd  : Bool := false
  die     : Int := 0
  refMeasA : Int := 0
  refMeasB : Int := 0
  refT    : Nat := 0
  zeroT   : Int := 0
  cal     : Option CalRun := none
  calLast : Option Nat := none
  driftDue : Option (Int × Bool) := none
  joinT   : Option (Nat × Nat) := none
  seenStatus : Nat := 0
  seenPower : Nat := 0
  seenRef : Nat := 0
  trimNext : Int := 0
  hbUp    : Option Nat := none
  tempWarn : Bool := false
  isel    : Nat := 0
  ucode   : Nat := 0
  gone    : List Nat := []
  deriving DecidableEq, Repr

/-- One record as the sequencer holds it (R194): result word, aux word, output time, represented time, published flag, memory error, and
the mean VFb of its window (R79, R145). -/
structure Rec where
  w    : Nat := 0
  a    : Nat := 0
  tOut : Nat := 0
  tRep : Nat := 0
  pub  : Bool := false
  bad  : Bool := false
  vf   : Nat := 0
  deriving DecidableEq, Repr

/-- One handle slot beyond its objects. The running window goes from branch tick winTick to winEnd, and ideal is its ideal end in ns
(R68); needOrg waits for a boundary with REF_READY high, orgTable as after START (R66, R77); blkP, blkC and blkT hold the ones and the
bits of a fast block by converter (R70). -/
structure Slot where
  gen     : Nat := 1
  held    : Option Nat := none
  prior   : Nat := 0
  left    : Nat := 0
  seq     : Nat := 511
  pend    : List Rec := []
  latched : List Rec := []
  shown   : Option (Nat × Nat) := none
  await   : Bool := false
  winTick : Nat := 0
  winEnd  : Nat := 0
  ideal   : Nat := 0
  settleNext : Bool := false
  cnt     : Nat := 0
  votes   : Nat := 0
  owCnt   : Nat := 0
  owExtra : Bool := false
  testNow : Bool := false
  wire    : Bool := false
  urgRun  : Bool := false
  urgMid  : Nat := 0
  urgNeed : Bool := false
  urgReqs : List (Nat × Nat) := []
  urgNext : List (Nat × Nat) := []
  mGood   : Nat := 0
  mLast   : Nat := 0
  mPeriod : Nat := 0
  needOrg : Bool := false
  orgTable : Bool := false
  blkP    : Nat × Nat := (0, 0)
  blkC    : Nat × Nat := (0, 0)
  blkT    : Nat × Nat := (0, 0)
  cut     : Option Nat := none
  deriving DecidableEq, Repr

/-- Flags an input carries through the chain (R115), the converter it came from (R106) and the mean VFb of its window (R79). -/
structure Tag where
  subst : Bool := false
  sat   : Bool := false
  wire  : Bool := false
  plaus : Bool := false
  test  : Bool := false
  degr  : Bool := false
  limit : Bool := false
  src   : Role := .p
  vf    : Nat := 0
  deriving DecidableEq, Repr

/-- Histories of stages 2 and 3 of one filter: newest first, none before the first input, decimation phases (R101, R114). -/
structure Fir where
  h2 : List Int := []
  p2 : Nat := 0
  h3 : List Int := []
  p3 : Nat := 0
  deriving DecidableEq, Repr

/-- One filter unit beyond its objects; tReset is the instant of the latest chain reset (R114), fadeAt that of the fade's start (R118). -/
structure Inst where
  integ  : List Int := []
  combs  : List Int := []
  p1     : Nat := 0
  fir    : Fir := {}
  fade   : Fir := {}
  outs   : Nat := 0
  synced : Bool := false
  span   : List Tag := []
  prev   : Option Int := none
  crc    : Option Nat := none
  tSat   : Option Nat := none
  armed  : Bool := false
  load   : Nat := 0
  fadeLoad : Nat := 0
  fadeF  : Nat := 0
  pendOk : Bool := false
  clamp  : Nat := 0
  tIn    : Nat := 0
  tReset : Nat := 0
  fadeAt : Nat := 0
  deriving DecidableEq, Repr

/-- The five pointers of a queue (R226). -/
structure Ptrs where
  w  : BitVec 32 := 0
  c  : BitVec 32 := 0
  rd : BitVec 32 := 0
  m  : BitVec 32 := 0
  l  : BitVec 32 := 0
  deriving DecidableEq, Repr

/-- One committed packet (R215): position of its frame word, type, sequence, content, time of its commit, void and spilled marks. -/
structure Pkt where
  pos   : BitVec 32
  ty    : Nat
  pseq  : Nat
  bytes : List Nat
  tc    : Nat := 0
  void  : Bool := false
  spill : Option Nat := none
  deriving DecidableEq, Repr

/-- An open packet (R216, R218). -/
structure Open where
  start : BitVec 32
  ty    : Nat := 0
  bytes : List Nat := []
  count : Nat := 0
  limited : Bool := false
  pub   : Bool := false
  ts    : Nat := 0
  bad   : Bool := false
  deriving DecidableEq, Repr

/-- One queue beyond its objects; neg holds the inverted copies of the pointers (R228); tCommit is the time of the latest commit, nCommit and
nCross the commits and high crossings at that very time (R231). -/
structure Queue where
  p      : Ptrs := {}
  neg    : Ptrs := ⟨-1, -1, -1, -1, -1⟩
  mark   : Bool := false
  cap    : Nat := 0
  opn    : Option Open := none
  pkts   : List Pkt := []
  pseq   : Nat := 0
  packets : Nat := 0
  high   : Bool := false
  low    : Bool := false
  reset  : Bool := false
  cross  : Nat := 0
  reason : Nat := 0
  tAbort : Option Nat := none
  nAbort : Nat := 0
  resets : Nat := 0
  spillAt : Nat := 0
  tCommit : Option Nat := none
  nCommit : Nat := 0
  nCross : Nat := 0
  deriving DecidableEq, Repr

/-- One DMA channel beyond its objects: the packets in the ring as (offset, stored bytes), oldest first, and packets since the
trigger; skip is how many packets waited in the queue at the trigger, and epoch the resets of the queue at that time. -/
structure Dma where
  ring : List (Nat × Nat) := []
  post : Nat := 0
  skip : Nat := 0
  epoch : Nat := 0
  deriving DecidableEq, Repr

/-- A response record (R257), NODE apart. -/
structure Resp where
  id     : Nat := 0
  seq    : Nat := 0
  op     : Nat := 0
  len    : Nat := 0
  status : Nat := 0
  epoch  : Nat := 0
  segment : Nat := 0
  detail : Nat := 0
  data   : Nat := 0
  deriving DecidableEq, Repr

/-- A tracked requester (R264, R265): held responses oldest first, newest SEQ, last request, privilege, snapshot, collection. -/
structure Requester where
  id     : Nat
  held   : List (Nat × Resp) := []
  newest : Option Nat := none
  last   : Nat := 0
  service : Bool := false
  snap   : Option (Nat × Nat × Nat × Nat) := none
  collect : Option (Nat × Nat × Nat × List Nat) := none
  deriving DecidableEq, Repr

/-- One write as the engine executes, stages or journals it. -/
structure Entry where
  id  : Nat := 0
  seq : Nat := 0
  ix  : Nat := 0
  sub : Nat := 0
  hnd : Nat := 0
  val : Nat := 0
  len : Nat := 0
  cyc : Nat := 0
  aux : Nat := 0
  deriving DecidableEq, Repr

/-- One transaction (R269 to R272): number, requester, state code of 0220:04, entries, last request, boundary cycle it waits for,
refusal status and position, whether the journal entry is complete, the handles that a staged table swap bound when it was written (R200). -/
structure Txn where
  num     : Nat
  id      : Nat
  st      : Nat := 1
  entries : List Entry := []
  last    : Nat := 0
  cyc     : Nat := 0
  applyAt : Option Nat := none
  status  : Nat := 0
  pos     : Nat := 0
  done    : Bool := false
  bind    : List (Nat × Nat) := []
  deriving DecidableEq, Repr

/-- A deferred request in progress (R268). -/
structure Deferred where
  q : Request
  e : Entry
  deriving DecidableEq, Repr

/-- Watchdog state beyond its objects (R323 to R327): ring time at which the running cycle started, armed, the masks, time and count of
violations, the record of the latest one, incomplete services, paused by a swap, captured tick of the key write being carried out. -/
structure Wd where
  start  : Nat := 0
  armed  : Bool := false
  seen   : Nat := 0
  rep    : Nat := 0
  tViol  : Nat := 0
  viols  : Nat := 0
  lastC  : Nat := 0
  lastT  : Nat := 0
  inc    : Nat := 0
  paused : Bool := false
  cap    : Option Nat := none
  deriving DecidableEq, Repr

/-- Sequencer state beyond its objects (R191 to R208); ahead holds the steps of a cycle's first 5 µs that left with the fixing of the cycle
(R193). -/
structure Seq where
  running : Bool := false
  start   : Nat := 0
  nextNs  : Nat := 0
  nextSwap : Bool := false
  swapMode : Nat := 0
  frame   : Bool := false
  breach  : Nat := 0
  held    : Bool := true
  runCnt  : Nat := 0
  dirty   : Bool := false
  wasDirty : Bool := false
  ended   : Bool := true
  doneTo  : Nat := 0
  bound   : List (Nat × Nat) := []
  bound2  : List (Nat × Nat) := []
  once    : List Nat := []
  onceQ   : List Nat := []
  ringSync : Bool := false
  annNs   : Nat := 0
  lateAnn : Bool := false
  fixed   : Bool := false
  nextSrc : Nat := 0
  ahead   : List Nat := []
  deriving DecidableEq, Repr

/-- Ring state beyond its objects (R283 to R302): index of the frame served last, runs of good and bad offsets, baseline of the toggles,
error logging and error-free times by port, refusals, end of the process-data watchdog and whether it stands expired, DELAY stamps,
input part and answers of the latest frame, arrival of the latest CYCLE frame, a frame passed in this cycle, end of the SYNC pulse,
HOPS and SERVED as they left in the latest frame. -/
structure Ring where
  served  : Option Nat := none
  inLock  : Nat := 0
  outLock : Nat := 0
  seen    : List (Nat × Bool) := []
  tFcsA   : Option Nat := none
  tFcsB   : Option Nat := none
  nFcsA   : Nat := 0
  nFcsB   : Nat := 0
  cleanA  : Nat := 0
  cleanB  : Nat := 0
  tRefuse : Option Nat := none
  pdwEnd  : Nat := 0
  pdwOut  : Bool := false
  stamps  : Nat := 0
  stampP  : Nat := 0
  stampP2 : Nat := 0
  stampS  : Nat := 0
  stampPort : Nat := 0
  inputs  : List Nat := []
  answers : List Resp := []
  tFrame  : Nat := 0
  passed  : Bool := false
  pulse   : Nat := 0
  hopsOut : Nat := 0
  servedOut : Nat := 0
  beaconOut : Option Beacon := none
  transferOut : Option Transfer := none
  deriving DecidableEq, Repr

/-- Local-port state (R312 to R320): sticky bits of PT_STATUS, PT_SEQ and PT_SHADOW_SEQ, sticky interrupt causes and mask, mailbox state
and buffers, shadow as (slot, result word, aux word, tick), words sent on SDO in the latest frame. -/
structure Port where
  sticky  : Nat := 0
  seq     : Nat := 0
  shadowSeq : Nat := 0
  pend    : Nat := 0
  mask    : Nat := 0
  mbState : Nat := 0
  req     : List Nat := List.replicate 16 0
  rsp     : List Nat := List.replicate 16 0
  shadow  : Option (Nat × Nat × Nat × Nat) := none
  out     : List Nat := []
  deriving DecidableEq, Repr

/-- An image under reception (R361): 8 * kind + target, its VSEQ and length, the payloads by position, times its last record came. -/
structure Rx where
  key   : Nat := 0
  vseq  : Nat := 0
  total : Nat := 0
  cells : List (Nat × List Nat) := []
  ends  : Nat := 0
  deriving DecidableEq, Repr

/-- Canopy state beyond its objects (R346 to R362): freshest beacons, verdicts and digest matches by rank, admitted and lost ranks,
leadership, the grant and its sending, digest tags of the present and previous cycle, views and images. -/
structure Canopy where
  fresh   : List (Nat × Beacon) := []
  verdicts : List (Nat × Nat) := []
  matched : List (Nat × Nat) := []
  admitted : Nat := 0
  lost    : Nat := 0xFF
  leader  : Option Nat := none
  since   : Nat := 0
  clash   : Bool := false
  cyc     : Nat := 0
  passed  : Bool := false
  term    : Nat := 0
  tagNow  : Nat := 0
  tagOld  : Nat := 0
  leadOff : Option (Nat × Int) := none
  timeLost : Bool := false
  above   : Nat := 0
  below   : Nat := 0
  grant   : Nat := 8
  grantKind : Nat := 0
  grantTo : Nat := 0
  grantEnds : Nat := 0
  granted : Nat := 0
  sendPos : Nat := 0
  sendEnds : Nat := 2
  sendSeq : Nat := 0
  sendImg : List Nat := []
  viewSeq : Nat := 0
  image   : List Nat := []
  rx      : List Rx := []
  images  : List (Nat × List Nat) := []
  vseqs   : List (Nat × Nat) := []
  serials : List (Nat × Nat) := []
  stale   : Bool := false
  adopt   : Bool := false
  ready   : Bool := false
  made    : Nat := 0
  deriving DecidableEq, Repr

/-- The module's own life counters (R376). -/
structure ModLife where
  opTime  : Nat := 0
  powerUps : Nat := 0
  dips    : Nat := 0
  resets  : Nat := 0
  peakCrown : Int := 0
  peakBr  : List Int := [0, 0, 0, 0]
  deriving DecidableEq, Repr

/-- What heartwood keeps (R367): committed output values, numbers folded, the two copies of the life lines with their FLUSH_SEQ, ring
records by year as 17 lines, writes by line, the lines whose CRC has failed (R368), wear reported; and the clock of folds and flushes. -/
structure Heart where
  kept    : Tab Nat := []
  folded0 : Nat := 0
  folded1 : Nat := 0
  bank0   : Bool := true
  bank1   : Bool := true
  digests : List (Nat × Nat) := []
  life0   : List Life := []
  life1   : List Life := []
  mod0    : ModLife := {}
  mod1    : ModLife := {}
  seq0    : Nat := 0
  seq1    : Nat := 0
  mod     : ModLife := {}
  records : List (Nat × List Nat) := []
  writes  : List (Nat × Nat) := []
  failed  : List Nat := []
  worn    : List Nat := []
  tFlush  : Option Nat := none
  warnFlushed : Option Nat := none
  deriving DecidableEq, Repr

/-- A housekeeping image bank (R387, R388): the header in force and the bytes programmed since its erase, 256 for a byte that is not. -/
structure Bank where
  hdr   : ImageHeader := {}
  bytes : List (Nat × Nat) := []
  valid : Bool := true
  deriving DecidableEq, Repr

/-- Graft state beyond its objects (R386 to R393). -/
structure Graft where
  active  : Nat := 0
  unconf  : Bool := false
  bank0   : Bank := {}
  bank1   : Bank := {}
  rollback : Bool := false
  calSlot : Option Nat := none
  calWant : Nat := 0
  calN    : Nat := 0
  calSum  : Int := 0
  calDen  : Nat := 1
  calLow  : Int := 0
  calLowD : Nat := 1
  calHigh : Int := 0
  calHighD : Nat := 1
  calDue  : Option (Nat × Bool × Cal) := none
  calOn   : Bool := false
  calLast : Nat := 0
  ucBranch : Option Nat := none
  deriving DecidableEq, Repr

/-- Button state (R141 to R144). undo: the trims, by object, before the sequence that the held buttons run. -/
structure Buttons where
  last   : Nat := 0
  capN   : Nat := 0
  capAll : Nat := 0
  capSum : Int := 0
  capDen : Nat := 1
  held   : Option Bool := none
  lock   : Bool := false
  undo   : List (Nat × Nat) := []
  deriving DecidableEq, Repr

/-- The module apart from PSRAM bytes and used-up spares. mapHnd holds, by object, the handle that a process-image entry binds (R274);
discarded holds number and requester of the transactions
that the latest crown reset ended (R207). asleep: the crown is at KEEP by a descent; the fields of D0 outlast it (R331, R398, R406).
stuck: a start found what keeps the module in INIT (R239, R388, R400, R425). -/
structure Dev where
  now      : Nat := 0
  fresh    : Nat := 0
  hole     : Bool := false
  resp     : Resp := {}
  obj      : Tab Nat := []
  crownUp  : Bool := false
  coreUp   : Bool := false
  slots    : Tab Slot := []
  insts    : Tab Inst := []
  queues   : Tab Queue := []
  dmas     : Tab Dma := []
  chans    : Tab Chan := []
  branches : Tab Branch := []
  coef     : Tab Nat := []
  coefBad  : List Nat := []
  coefNor  : Tab Nat := []
  psBad    : List Nat := []
  staged   : List Entry := []
  txns     : List Txn := []
  recover  : Bool := false
  journal  : List (Nat × Nat × Nat) := []
  discarded : List (Nat × Nat) := []
  deferred : List Deferred := []
  reqs     : List Requester := []
  ops      : Nat := 0
  log      : List EvRec := []
  staging  : List EvRec := []
  seq      : Seq := {}
  ring     : Ring := {}
  port     : Port := {}
  wd0      : Wd := {}
  wd1      : Wd := {}
  wdoLow   : Bool := false
  canopy   : Canopy := {}
  heart    : Heart := {}
  graft    : Graft := {}
  buttons  : Buttons := {}
  mapHnd   : Tab Nat := []
  fails    : List Nat := []
  syncClk  : Option Nat := none
  lockEnd  : Option Nat := none
  eccLast  : List (Nat × Nat) := []
  eccCnt   : List (Nat × Nat) := []
  psErrs   : List Nat := []
  scrubAt  : Option Nat := none
  vinValid : Bool := false
  vinAbsent : Bool := true
  warn     : Bool := true
  tWarn    : Option Nat := none
  rungWas  : Nat := 0
  cause    : Nat := 0
  asleep   : Bool := false
  wakeD0   : Option Nat := none
  maskD0   : Nat := 3
  timeD0   : Nat := 0
  dipsD0   : List (Nat × Nat × Nat) := []
  faultD0  : Nat := 1
  stuck    : Bool := false
  testHigh : Bool := false
  deriving DecidableEq, Repr

/-- The spares used up for good (R33): bit 2n of conv for P of channel n, bit 2n+1 for C; bit 2n of halves for half A, 2n+1 for half
B; bit n of lost when no half of channel n is left; bit b of drift when branch b runs reference drift correction, of drifted B; bit n of calLost
when both copies of a calibration of channel n are lost (R368). -/
structure Worn where
  conv   : BitVec 32 := 0
  halves : BitVec 32 := 0
  lost   : BitVec 16 := 0
  drift  : BitVec 4 := 0
  driftB : BitVec 4 := 0
  calLost : BitVec 16 := 0
  deriving DecidableEq, Repr

/-- The whole state: waiting commands first in, first out; PSRAM cells by usable address; used spares; the rest of the module. -/
structure State where
  pending : List Instr := []
  ps      : List Host.Cell := []
  worn    : Worn := {}
  dev     : Dev := {}
  deriving DecidableEq, Repr

/-- What most commands only read: PSRAM and used spares. -/
structure Env where
  ps   : List Host.Cell
  worn : Worn

/-- The module with no supply yet: queue empty, nothing listed, every object at its default, module state INIT (R53), FAULT
released (R331), branches OFF (R405). Values no rule states are zero (log entry 2). -/
def State.reset : State := {}

/-- Running a change of the device that only reads the environment. -/
def State.run (f : Env → Dev → Dev) (s : State) : Host.Outcome State Fault Refusal :=
  .next { s with dev := f ⟨s.ps, s.worn⟩ s.dev }

/-- As run, for a command that may reach PSRAM: an address that does not exist faults. -/
def State.runMem (f : Env → Dev → Dev) (s : State) : Host.Outcome State Fault Refusal :=
  let d := f ⟨s.ps, s.worn⟩ { s.dev with hole := false }
  if d.hole then .fault .psramHole else .next { s with dev := d }

end Sys2Proof.Machine
end

