-- ==== Sys2Proof/Machine/Ops.lean ====
section
/-!
DEFINITION. The named operations over the device: objects, tables, free values, handles and lands.
-/
namespace Sys2Proof.Machine

/-- The value of an object. -/
def Dev.rd (d : Dev) (k : Nat) : Nat := tabGet dfltOf d.obj k

/-- Writing an object. -/
def Dev.wr (d : Dev) (k v : Nat) : Dev := { d with obj := tabSet dfltOf d.obj k v }

/-- The value of a signed object of n bits. -/
def Dev.rdI (d : Dev) (n k : Nat) : Int := toInt n (d.rd k)

/-- Writing a signed object of n bits. -/
def Dev.wrI (d : Dev) (n k : Nat) (v : Int) : Dev := d.wr k (ofInt n v)

/-- Counting up a counter of n bits; it wraps at its width (log entry 12). -/
def Dev.bump (d : Dev) (n k : Nat) : Dev := d.wr k ((d.rd k + 1) % 2 ^ n)

/-- Setting or clearing one bit of an object. -/
def Dev.wrBit (d : Dev) (k i : Nat) (b : Bool) : Dev := d.wr k (setBit (d.rd k) i b)

/-- The instant of a happening becomes the module's ring time. -/
def Dev.at (d : Dev) (t : Nat) : Dev := { d with now := t }

/-- The free value the device takes next (log entry 7). -/
def Dev.freeNat (d : Dev) (n : Nat) : Nat := (Config.freeValue d.fresh).toNat % 2 ^ n

/-- The device after taking a free value. -/
def Dev.took (d : Dev) : Dev := { d with fresh := d.fresh + 1 }

/-- Handle slot k. -/
def Dev.slot (d : Dev) (k : Nat) : Slot := tabGet (fun _ => {}) d.slots k

/-- Writing handle slot k. -/
def Dev.setSlot (d : Dev) (k : Nat) (x : Slot) : Dev := { d with slots := tabSet (fun _ => {}) d.slots k x }

/-- Filter unit i. -/
def Dev.inst (d : Dev) (i : Nat) : Inst := tabGet (fun _ => {}) d.insts i

/-- Writing filter unit i. -/
def Dev.setInst (d : Dev) (i : Nat) (x : Inst) : Dev := { d with insts := tabSet (fun _ => {}) d.insts i x }

/-- Queue q. -/
def Dev.queue (d : Dev) (q : Nat) : Queue := tabGet (fun _ => {}) d.queues q

/-- Writing queue q. -/
def Dev.setQueue (d : Dev) (q : Nat) (x : Queue) : Dev := { d with queues := tabSet (fun _ => {}) d.queues q x }

/-- DMA channel c. -/
def Dev.dma (d : Dev) (c : Nat) : Dma := tabGet (fun _ => {}) d.dmas c

/-- Writing DMA channel c. -/
def Dev.setDma (d : Dev) (c : Nat) (x : Dma) : Dev := { d with dmas := tabSet (fun _ => {}) d.dmas c x }

/-- Field channel n. -/
def Dev.chan (d : Dev) (n : Nat) : Chan := tabGet (fun _ => {}) d.chans n

/-- Writing field channel n. -/
def Dev.setChan (d : Dev) (n : Nat) (x : Chan) : Dev := { d with chans := tabSet (fun _ => {}) d.chans n x }

/-- Branch b. -/
def Dev.branch (d : Dev) (b : Nat) : Branch := tabGet (fun _ => {}) d.branches b

/-- Writing branch b. -/
def Dev.setBranch (d : Dev) (b : Nat) (x : Branch) : Dev := { d with branches := tabSet (fun _ => {}) d.branches b x }

/-- Changing handle slot k. -/
def Dev.modSlot (d : Dev) (k : Nat) (f : Slot → Slot) : Dev := d.setSlot k (f (d.slot k))

/-- Changing field channel n. -/
def Dev.modChan (d : Dev) (n : Nat) (f : Chan → Chan) : Dev := d.setChan n (f (d.chan n))

/-- Changing branch b. -/
def Dev.modBranch (d : Dev) (b : Nat) (f : Branch → Branch) : Dev := d.setBranch b (f (d.branch b))

/-- Changing queue q. -/
def Dev.modQueue (d : Dev) (q : Nat) (f : Queue → Queue) : Dev := d.setQueue q (f (d.queue q))

/-- Changing filter unit i. -/
def Dev.modInst (d : Dev) (i : Nat) (f : Inst → Inst) : Dev := d.setInst i (f (d.inst i))

/-- One change after another for every element of a list. -/
def Dev.each {α : Type} (d : Dev) (l : List α) (f : Dev → α → Dev) : Dev := l.foldl f d

/-- f only when b. -/
def Dev.when (d : Dev) (b : Bool) (f : Dev → Dev) : Dev := if b then f d else d

/-! Module states (R53), handle states (R48), statuses (R259). -/

abbrev INIT : Nat := 0
abbrev PREOP : Nat := 1
abbrev OPERATE : Nat := 2
abbrev SAFE : Nat := 3
abbrev HOLD : Nat := 4
abbrev SERVICE : Nat := 5

abbrev CREATED : Nat := 1
abbrev ARMED : Nat := 2
abbrev RUNNING : Nat := 3
abbrev STOPPED : Nat := 4
abbrev HSAFE : Nat := 5
abbrev LATCHED : Nat := 6

abbrev OK : Nat := 0x0000
abbrev NO_OBJECT : Nat := 0x0101
abbrev NO_SUB : Nat := 0x0102
abbrev READ_ONLY : Nat := 0x0201
abbrev WRITE_ONLY : Nat := 0x0202
abbrev NEEDS_STOP : Nat := 0x0203
abbrev NEEDS_TXN : Nat := 0x0204
abbrev PRIVILEGE : Nat := 0x0205
abbrev RANGE : Nat := 0x0301
abbrev TYPE : Nat := 0x0302
abbrev LENGTH : Nat := 0x0303
abbrev STALE_HANDLE : Nat := 0x0401
abbrev BUSY : Nat := 0x0402
abbrev BANK_BUSY : Nat := 0x0403
abbrev MARK_LOST : Nat := 0x0404
abbrev DEFERRED : Nat := 0x0501

/-- The module state (R53). -/
def Dev.mode (d : Dev) : Nat := d.rd Reg.DEV_STATE

/-- DET enabled (R202). -/
def Dev.det (d : Dev) : Bool := bitOf (d.rd Reg.GU_MODE) 0

/-- ATOM enabled (R205). -/
def Dev.atom (d : Dev) : Bool := bitOf (d.rd Reg.GU_MODE) 1

/-! Handles and lands (R35 to R42). -/

/-- Kind code of a slot (R38). -/
def Dev.kind (d : Dev) (k : Nat) : Nat := d.rd (Reg.HND_KIND k)

/-- Handle state of a slot (R49). -/
def Dev.hst (d : Dev) (k : Nat) : Nat := d.rd (Reg.HND_STATE k)

/-- Channel field of a create record. -/
def recChan (r : Nat) : Nat := bitsOf r 4 4

/-- Channel, or MONITOR source, of a slot. -/
def Dev.chanOf (d : Dev) (k : Nat) : Nat := recChan (d.rd (Reg.HND_BIND k))

/-- The lands a create record drives: S land of channel n is n, P land is 16 + n (R38). -/
def landsOf (r : Nat) : List Nat :=
  let n := recChan r
  match r % 16 with
  | 1 => if bitOf r 10 then [n, 16 + n] else [n]
  | 2 => [16 + n]
  | 3 => if bitOf r 9 then [n, n + 1] else [n]
  | 4 => [n]
  | 5 => [16 + n]
  | 6 => [16 + n, 16 + n + 1]
  | _ => []

/-- A measuring kind (R38). -/
def measuring (kind : Nat) : Bool := kind = 1 || kind = 2 || kind = 3 || kind = 7

/-- A kind that uses the channel's converter pair (R38). -/
def usesPair (kind : Nat) : Bool := kind = 1 || kind = 2 || kind = 3

/-- A switch kind. -/
def isSwitch (kind : Nat) : Bool := kind = 5 || kind = 6

/-- The slots that hold a live handle, in rising order. -/
def Dev.liveSlots (d : Dev) : List Nat :=
  d.obj.filterMap fun p =>
    if p.1 % 256 = 3 ∧ 0x2000 ≤ p.1 / 256 ∧ p.1 / 256 < 0x4000 ∧ (p.1 / 256 - 0x2000) % 0x40 = 0
    then some ((p.1 / 256 - 0x2000) / 0x40) else none

/-- The slot holds a driver or a MONITOR handle, not an observer. -/
def Dev.isObserver (d : Dev) (k : Nat) : Bool := bitOf (d.rd (Reg.HND_BIND k)) 8

/-- The slot holds a live driver handle (R38): live, no observer, no MONITOR. -/
def Dev.isDriver (d : Dev) (k : Nat) : Bool := d.hst k ≠ 0 && !d.isObserver k && d.kind k ≠ 7

/-- The live driver handles. -/
def Dev.drivers (d : Dev) : List Nat := d.liveSlots.filter fun k => d.isDriver k

/-- The driver of a land. -/
def Dev.landDriver (d : Dev) (land : Nat) : Option Nat :=
  d.drivers.find? fun k => (landsOf (d.rd (Reg.HND_BIND k))).contains land

/-- The driver of CHnP. -/
def Dev.drvP (d : Dev) (n : Nat) : Option Nat := d.landDriver (16 + n)

/-- The driver of CHnS. -/
def Dev.drvS (d : Dev) (n : Nat) : Option Nat := d.landDriver n

/-- The driver that uses converter pair n (R40). -/
def Dev.pairDriver (d : Dev) (n : Nat) : Option Nat :=
  d.drivers.find? fun k => usesPair (d.kind k) && d.chanOf k = n

/-- The observers of a driver (R38). -/
def Dev.observers (d : Dev) (k : Nat) : List Nat :=
  d.liveSlots.filter fun j => d.isObserver j && d.rd (Reg.HND_DRIVER j) = d.rd (Reg.HND_ID k)

/-- The driver handles of a branch. -/
def Dev.branchDrivers (d : Dev) (b : Nat) : List Nat := d.drivers.filter fun k => d.chanOf k / 4 = b

/-- The handles whose channel or source lies in a branch. -/
def Dev.branchHandles (d : Dev) (b : Nat) : List Nat := d.liveSlots.filter fun k => d.chanOf k / 4 = b

/-- A handle value is live (R37). -/
def Dev.isLive (d : Dev) (h : Nat) : Bool :=
  let k := h % 128
  h < 65536 && d.hst k ≠ 0 && d.rd (Reg.HND_ID k) = h && h ≠ 0

/-- The next generation of a slot (R36). -/
def nextGen (k g : Nat) : Nat := if k < 96 then (if g ≥ 511 then 1 else g + 1) else (if g ≥ 510 then 1 else g + 1)

/-- The handle value of slot k at generation g (R35). -/
def handleOf (k g : Nat) : Nat := k + 128 * g

/-- The lowest slot that is neither live nor reserved (R36, R43). -/
def Dev.freeSlot (d : Dev) : Option Nat :=
  let live := d.liveSlots
  (List.range 128).find? fun k => !live.contains k && (d.slot k).held.isNone

/-- The number of free slots. -/
def Dev.slotsFree (d : Dev) : Nat :=
  let live := d.liveSlots
  ((List.range 128).filter fun k => !live.contains k && (d.slot k).held.isNone).length

/-- The filter units in use, as those named by live handles (R40). -/
def Dev.unitsUsed (d : Dev) : List Nat :=
  d.liveSlots.filterMap fun k => let i := d.rd (Reg.HND_FILTER k); if i < 32 then some i else none

/-- The lowest free filter unit (R40). -/
def Dev.freeUnit (d : Dev) : Option Nat :=
  let used := d.unitsUsed
  (List.range 32).find? fun i => !used.contains i

/-- The filter unit of a handle. -/
def Dev.unitOf (d : Dev) (k : Nat) : Nat := d.rd (Reg.HND_FILTER k)

/-- The handle slot whose window settings rule a slot: an observer's driver, else itself. -/
def Dev.master (d : Dev) (k : Nat) : Nat := if d.isObserver k then d.rd (Reg.HND_DRIVER k) % 128 else k

/-- The instance is in fast mode (R102). -/
def Dev.fast (d : Dev) (k : Nat) : Bool := measuring (d.kind k) && d.rd (Reg.CV_WINDOW (d.master k)) = 5

/-- The source code of channel n's events: its P driver's handle, or 0xFFE0 + n (R188). -/
def Dev.chanSrc (d : Dev) (n : Nat) : Nat :=
  match d.drvP n with
  | some k => d.rd (Reg.HND_ID k)
  | none => 0xFFE0 + n

/-- The partner channel and the channel itself under one switch driver: a pair shares one state on channel n (R178). -/
def Dev.pairChans (d : Dev) (n : Nat) : List Nat :=
  match d.drvP n with
  | some k => if d.kind k = 6 then [d.chanOf k, d.chanOf k + 1] else [n]
  | none => if (d.chan n).set.pair then [n - n % 2, n - n % 2 + 1] else [n]

/-- The channel that holds the one state of a pair. -/
def Dev.lead (d : Dev) (n : Nat) : Nat := (d.pairChans n).headD n

/-- The link of branch b as the crown sees it (02F2:01 to 04): 0 DOWN, 1 UP, 2 HOLD. -/
def Dev.link (d : Dev) (b : Nat) : Nat := d.rd (Reg.LINK_STATE b)

/-- Queueing a word towards a branch (R16). -/
def Dev.toBranch (d : Dev) (b : Nat) (w : LWord) : Dev := d.modBranch b fun x => { x with toBranch := x.toBranch ++ [w] }

/-- Queueing a word towards the crown (R16). -/
def Dev.toCrown (d : Dev) (b : Nat) (w : LWord) : Dev := d.modBranch b fun x => { x with toCrown := x.toCrown ++ [w] }

/-! The coefficient RAM (R107). -/

/-- The word at a coefficient address, as a 24-bit pattern. -/
def Dev.coefAt (d : Dev) (a : Nat) : Nat := tabGet (fun _ => 0) d.coef (a % 65536)

/-- The coefficient at an address, as an integer. -/
def Dev.coefInt (d : Dev) (a : Nat) : Int := toInt 24 (d.coefAt a)

/-- Writing a coefficient word; a written word is no longer uncorrectable. -/
def Dev.setCoef (d : Dev) (a v : Nat) : Dev :=
  { d with coef := tabSet (fun _ => 0) d.coef (a % 65536) (v % 2 ^ 24), coefBad := d.coefBad.filter (· ≠ a % 65536) }

/-! Operations in flight (R28, R29, R31). -/

/-- A graft step runs (R386, R393): a swap waits or runs, a calibration or a microcode graft is under way. -/
def Dev.graftStep (d : Dev) : Bool :=
  let h := d.rd Reg.GR_HK_STATE
  let u := d.rd Reg.GR_UC_STATE
  h = 4 || h = 5 || d.rd Reg.GR_CAL_STATE ≠ 0 || (1 ≤ u && u ≤ 3)

/-- The entries in use (R28): operations that last, deferred requests, a graft step. -/
def Dev.opsInUse (d : Dev) : Nat := d.ops + d.deferred.length + nat01 d.graftStep

/-- Taking one entry; the peak follows. -/
def Dev.takeOp (d : Dev) : Dev :=
  let d := { d with ops := d.ops + 1 }
  d.wr Reg.OPS_PEAK (max (d.rd Reg.OPS_PEAK) d.opsInUse)

/-- A free entry exists. -/
def Dev.opsFree (d : Dev) : Bool := d.opsInUse < 256

/-- An operation that takes an entry and frees it within one command passes through the table (R28): the peak follows. -/
def Dev.passOp (d : Dev) : Dev := d.wr Reg.OPS_PEAK (max (d.rd Reg.OPS_PEAK) (d.opsInUse + 1))

/-! Heartwood lines (R366, R367, R372). -/

/-- The first line of a region (R367). -/
def regionLine (r : Nat) : Nat := [0, 32, 1824, 2592, 2848, 2912, 4000].getD r 8096

/-- The lines are written, one entry of the operations table for each in turn (R28), and their counts rise (R372). -/
def Dev.wrote (d : Dev) (lines : List Nat) : Dev :=
  let w := lines.foldl (fun m l => tabSet (fun _ => 0) m l (tabGet (fun _ => 0) m l + 1)) d.heart.writes
  { d.when (lines ≠ []) (·.passOp) with heart := { d.heart with writes := w } }

/-- Heartwood writes may run: PWR_WARN clear, no swap, and an entry of the operations table is free (R28, R381, R398). -/
def Dev.mayWrite (d : Dev) : Bool := !d.warn && d.rd Reg.PL_RUNG ≤ 1 && d.rd Reg.GR_HK_STATE ≠ 5 && d.opsFree

/-- Writing the staged records to the log in number order; the newest 16 384 stay (R30, R381). -/
def Dev.drain (d : Dev) : Dev :=
  if d.mayWrite && d.staging ≠ [] then
    let l := d.log ++ d.staging
    let d := d.wrote (d.staging.map fun r => regionLine 6 + r.num % 16384 / 4)
    { d with log := l.drop (l.length - 16384), staging := [] }
  else d

/-- Freeing one entry: staged records are written where an entry is free again (R30). -/
def Dev.freeOp (d : Dev) : Dev := ({ d with ops := d.ops - 1 } : Dev).drain

/-- Counting in the module line (R376). -/
def Dev.modLife (d : Dev) (f : ModLife → ModLife) : Dev := { d with heart := { d.heart with mod := f d.heart.mod } }

/-- The count of the most-written line of a region (R372). -/
def Dev.mostWritten (d : Dev) (r : Nat) : Nat :=
  ((d.heart.writes.filter fun p => regionLine r ≤ p.1 && p.1 < regionLine (r + 1)).map (·.2)).foldl max 0

end Sys2Proof.Machine
end

