-- ==== Sys2Proof/Machine/Replies.lean ====
section
/-!
DEFINITION. Answers of the dictionary engine and the completion of deferred requests (R257, R265, R268), which urgent conversions need.
-/
namespace Sys2Proof.Machine

/-- The answer to a request: status, DETAIL, bytes of DATA in use, DATA. -/
structure Answer where
  status : Nat := OK
  detail : Nat := 0
  len    : Nat := 0
  data   : Nat := 0
  deriving DecidableEq, Repr

/-- Changing the record of a requester. -/
def Dev.modReq (d : Dev) (id : Nat) (f : Requester → Requester) : Dev :=
  { d with reqs := d.reqs.map fun r => if r.id = id then f r else r }

/-- The response record of an answer (R257). -/
def Dev.respond (d : Dev) (q : Request) (a : Answer) : Resp :=
  { id := q.id, seq := q.seq, op := q.op, len := a.len, status := a.status, epoch := d.rd Reg.DR_EPOCH, segment := q.segment,
    detail := a.detail, data := a.data }

/-- Answering: the response, and the count of requests refused with BUSY (R31). -/
def Dev.reply (d : Dev) (q : Request) (a : Answer) : Dev :=
  { d.when (a.status = BUSY) (·.bump 32 Reg.OPS_BUSY_COUNT) with resp := d.respond q a }

/-- The final response is held and the entry of the operations table is freed (R28, R30, R265); one refused for a full table is not held
(R259, R277). -/
def Dev.finish (d : Dev) (f : Deferred) (a : Answer) : Dev :=
  let d := ({ d with deferred := d.deferred.filter fun g => !(g.q.id = f.q.id && g.q.seq = f.q.seq) } : Dev).drain.reply f.q a
  let full := decide (a.status = BUSY ∧ a.detail = 1)
  d.modReq f.q.id fun r => { r with
    held := if full then r.held.filter fun p => p.1 ≠ f.q.seq else r.held.map fun p => if p.1 = f.q.seq then (p.1, d.resp) else p }

/-- An urgent request, which completes out of order (R268). -/
def Deferred.urgent (f : Deferred) : Bool := 0x2000 ≤ f.e.ix && f.e.ix < 0x4000

/-- Urgent requests of a slot are completed with a status (R90, R93); those without a requester only free their entry. -/
def Dev.urgentDone (d : Dev) (l : List (Nat × Nat)) (st : Nat) : Dev :=
  d.each l fun d p =>
    match d.deferred.find? fun f => f.urgent && f.q.id = p.1 && f.q.seq = p.2 with
    | some f => d.finish f { status := st }
    | none => if 256 ≤ p.1 then d.freeOp else d

/-- The urgent result of a driver is stored (R93): its requests complete, and the waiting ones start one further conversion at once. -/
def Dev.urgentServed (d : Dev) (k : Nat) (fast : Bool) : Dev :=
  let l := (d.slot k).urgReqs
  let d := d.modSlot k fun x => { x with
    urgReqs := x.urgNext, urgNext := [], urgRun := x.urgNext ≠ [], urgMid := d.now + 127000,
    urgNeed := x.urgNeed || (x.urgNext ≠ [] && !fast) }
  d.urgentDone l OK

/-! Transactions (R269 to R273). -/

/-- Changing a transaction. -/
def Dev.modTxn (d : Dev) (num : Nat) (f : Txn → Txn) : Dev :=
  { d with txns := d.txns.map fun x => if x.num = num then f x else x }

/-- The journal's record of a transaction; the last 1 024 stay (R273). -/
def Dev.journalPut (d : Dev) (num id st : Nat) : Dev :=
  let l := d.journal.filter (fun p => p.1 ≠ num) ++ [(num, id, st)]
  { d with journal := l.drop (l.length - 1024) }

end Sys2Proof.Machine
end

