-- ==== Sys2Proof/Machine/Packets.lean ====
section
/-!
DEFINITION. The pointer algebra of queues, packets, notices (R212 to R231), and the logging of events (R30, R222, R236, R381), which
writes packets of its own.
-/
namespace Sys2Proof.Machine

/-- Events to log: code, source, detail. -/
abbrev Evs := List (Nat × Nat × Nat)

/-- The enabled queues (R213). -/
def Dev.enabledQueues (d : Dev) : List Nat :=
  d.obj.filterMap fun p =>
    if p.1 % 256 = 1 ∧ 0x4000 ≤ p.1 / 256 ∧ p.1 / 256 < 0x4400 ∧ (p.1 / 256) % 0x10 = 0
    then some ((p.1 / 256 - 0x4000) / 0x10) else none

/-- P_max of a queue (R214). -/
def Dev.pMax (d : Dev) (q : Nat) : Nat := min 16384 (d.rd (Reg.QU_SEG_SIZE q) / 4)

/-- The distance of a pointer from L (R216, R226). -/
def Ptrs.dist (p : Ptrs) (x : BitVec 32) : Nat := (x - p.l).toNat

/-- C - L, the level of a queue (R229, R246). -/
def Queue.level (x : Queue) : Nat := x.p.dist x.p.c

/-- The inverted copies that belong to pointers (R228). -/
def Ptrs.inv (p : Ptrs) : Ptrs := ⟨~~~p.w, ~~~p.c, ~~~p.rd, ~~~p.m, ~~~p.l⟩

/-- Writing the pointers, both copies (R228). -/
def Queue.setPtrs (x : Queue) (p : Ptrs) : Queue := { x with p := p, neg := p.inv }

/-- The first pointer whose copies differ: its number and its true copy (R228, R249). -/
def Queue.broken (x : Queue) : Option (Nat × BitVec 32) :=
  if x.neg.w ≠ ~~~x.p.w then some (0, x.p.w)
  else if x.neg.c ≠ ~~~x.p.c then some (1, x.p.c)
  else if x.neg.rd ≠ ~~~x.p.rd then some (2, x.p.rd)
  else if x.neg.m ≠ ~~~x.p.m then some (3, x.p.m)
  else if x.neg.l ≠ ~~~x.p.l then some (4, x.p.l)
  else none

/-- A step of the active table names the queue (R203, QUEUE_FULL). -/
def Dev.stepNames (d : Dev) (q : Nat) : Bool :=
  d.obj.any fun p =>
    0x6000 ≤ p.1 / 256 && p.1 / 256 < 0x6400 &&
      (let a := bitsOf p.2 24 8; a = 4 || a = 5 || a = 6) && bitsOf p.2 39 6 = q

/-- Marking a DET condition of the running cycle as failed (R203). -/
def Dev.breach (d : Dev) (bit : Nat) : Dev := { d with seq := { d.seq with breach := setBit d.seq.breach bit true } }

/-- Counting an abort: Q:14, Q:15, the event at most once per second per queue, DET cause QUEUE_FULL (R217). -/
def Dev.countAbort (d : Dev) (q r : Nat) : Dev × Evs :=
  let d := (d.bump 32 (Reg.QU_ABORTED q)).wr (Reg.QU_LAST_ABORT q) r
  let d := d.when (r = 1 && d.stepNames q) (·.breach 2)
  let x := d.queue q
  let n := min 65535 (x.nAbort + 1)
  let due := match x.tAbort with
    | none => true
    | some t => t + 1000000000 ≤ d.now
  if due then
    (d.setQueue q { x with tAbort := some d.now, nAbort := 0 }, [(0x0502, q, r + n * 256)])
  else (d.setQueue q { x with nAbort := n }, [])

/-- A queue reset (R228): pointers 0, content and open packet gone, mark invalid, notice record in the reset state (R230). -/
def Dev.queueReset (d : Dev) (q reason : Nat) : Dev × Evs :=
  let x := d.queue q
  let gone := x.p.dist x.p.w
  let (d, e) := if x.opn.isSome then d.countAbort q 5 else (d, [])
  let x := d.queue q
  let x := { x.setPtrs {} with
    mark := false, opn := none, pkts := [], pseq := 0, packets := 0, high := false, low := false, cross := 0, tCommit := none,
    reset := true, reason := reason, resets := x.resets + 1 }
  (d.setQueue q x, e ++ [(0x0501, q, reason + min (2 ^ 24 - 1) gone * 256)])

/-- Comparing both copies on an access: a mismatch resets the queue with reason 2 (R228). -/
def Dev.guardQueue (d : Dev) (q : Nat) : Dev × Evs :=
  match (d.queue q).broken with
  | none => (d, [])
  | some (i, v) =>
    let (d, e) := d.queueReset q 2
    (d, (0x0500, q, i + (v.toNat % 2 ^ 24) * 256) :: e)

/-- Aborting the open packet (R216); a mismatch of the pointer copies resets the queue instead (R228). -/
def Dev.abortPacket (d : Dev) (q r : Nat) : Dev × Evs :=
  let (d, e) := d.guardQueue q
  let x := d.queue q
  match x.opn with
  | none => (d, e)
  | some o =>
    let (d, e') := (d.setQueue q { x.setPtrs { x.p with w := o.start } with opn := none }).countAbort q r
    (d, e ++ e')

/-- open of R216. -/
def Dev.openPacket (d : Dev) (q ty : Nat) : Dev × Evs :=
  let (d, e) := d.guardQueue q
  let x := d.queue q
  if x.p.dist x.p.w + 8 > x.cap then
    let (d, e') := d.countAbort q 1
    (d, e ++ e')
  else
    (d.setQueue q { x.setPtrs { x.p with w := x.p.w + 8 } with opn := some { start := x.p.w, ty := ty } }, e)

/-- byte of R216 for a run of bytes: all stored, or the packet is aborted. -/
def Dev.appendBytes (d : Dev) (q : Nat) (bs : List Nat) : Dev × Evs :=
  let (d, e) := d.guardQueue q
  let x := d.queue q
  match x.opn with
  | none => (d, e)
  | some o =>
    let avail := x.cap - x.p.dist x.p.w
    let room := d.pMax q - o.bytes.length
    if bs.length ≤ avail ∧ bs.length ≤ room then
      (d.setQueue q { x.setPtrs { x.p with w := x.p.w + BitVec.ofNat 32 bs.length } with
        opn := some { o with bytes := o.bytes ++ bs } }, e)
    else
      let (d, e') := d.abortPacket q (if avail ≤ room then 1 else 2)
      (d, e ++ e')

/-- A commit's effect on the notice record (R229, R230). -/
def Dev.noteCommit (d : Dev) (q before after : Nat) : Dev × Evs :=
  let x := d.queue q
  let same := x.tCommit = some d.now
  let x := { x with
    packets := min 0xFFFF (x.packets + 1), tCommit := some d.now, nCommit := (if same then x.nCommit else 0) + 1,
    nCross := if same then x.nCross else 0 }
  let mark := d.rd (Reg.QU_WM_HIGH q)
  if before ≤ mark ∧ mark < after then
    (d.setQueue q { x with high := true, cross := min 255 (x.cross + 1), nCross := x.nCross + 1 },
      if x.high then [] else [(0x0503, q, min (2 ^ 24 - 1) after * 256)])
  else (d.setQueue q x, [])

/-- commit of R216: a packet without content vanishes, a bad one is aborted with reason 4 (R243). -/
def Dev.commitPacket (d : Dev) (q : Nat) : Dev × Evs :=
  let (d, e) := d.guardQueue q
  let x := d.queue q
  match x.opn with
  | none => (d, e)
  | some o =>
    let n := o.bytes.length
    if n = 0 then (d.setQueue q { x.setPtrs { x.p with w := o.start } with opn := none }, e)
    else
      let pad := (8 - n % 8) % 8
      if x.p.dist x.p.w + pad > x.cap then
        let (d, e') := d.abortPacket q 1
        (d, e ++ e')
      else if o.bad then
        let (d, e') := d.abortPacket q 4
        (d, e ++ e')
      else
        let w := x.p.w + BitVec.ofNat 32 pad
        let y := { x.setPtrs { x.p with w := w, c := w } with
          opn := none, pseq := (x.pseq + 1) % 65536,
          pkts := x.pkts ++ [{ pos := o.start, ty := o.ty, pseq := x.pseq, bytes := o.bytes, tc := d.now }] }
        let d := (d.setQueue q y).bump 32 (Reg.QU_COMMITTED q)
        let (d, e') := d.noteCommit q x.level y.level
        (d, e ++ e')

/-- The bytes a committed packet occupies (R215). -/
def Pkt.size (k : Pkt) : Nat := 8 + k.bytes.length + (8 - k.bytes.length % 8) % 8

/-- The frame word of a packet (R215). -/
def Pkt.frameWord (q : Nat) (k : Pkt) : Nat :=
  k.bytes.length % 65536 + k.ty % 256 * 2 ^ 16 + q % 64 * 2 ^ 24 + k.pseq * 2 ^ 32 + crc16 k.bytes * 2 ^ 48

/-- The bytes of a stored packet: frame word, content, padding (R215, R235). -/
def Pkt.stored (q : Nat) (k : Pkt) : List Nat :=
  bytesLE 8 (k.frameWord q) ++ k.bytes ++ List.replicate ((8 - k.bytes.length % 8) % 8) 0

/-- The 16 bytes of an event record (R380). -/
def EvRec.bytes (e : EvRec) : List Nat :=
  bytesLE 8 e.time ++ bytesLE 2 e.code ++ bytesLE 2 e.src ++ bytesLE 4 e.det

/-- Each logged event is one packet of the EVENTS queue (R222). -/
def Dev.eventPacket (d : Dev) (r : EvRec) : Dev × Evs :=
  match d.enabledQueues.find? (fun q => d.rd (Reg.QU_PRODUCER q) = 2) with
  | none => (d, [])
  | some q =>
    let (d, e1) := d.openPacket q 0x10
    let (d, e2) := d.appendBytes q r.bytes
    let (d, e3) := d.commitPacket q
    (d, e1 ++ e2 ++ e3)

/-- A trigger of capture channel c (R236): only under policy 2 while RUNNING. Packets committed before its instant and still waiting are
no post-trigger packets; with none waiting and none asked for, the channel is DONE at once. -/
def Dev.trigger (d : Dev) (c code : Nat) : Dev × Evs :=
  if d.rd (Reg.DM_ROLE c) = 2 ∧ d.rd (Reg.DM_POLICY c) = 2 ∧ d.rd (Reg.DM_STATE c) = 1 then
    let x := d.queue (d.rd (Reg.DM_QUEUE c))
    let old := x.pkts.filter fun k => k.tc ≠ d.now
    let done := old = [] ∧ d.rd (Reg.DM_POST c) = 0
    let d := (d.wr (Reg.DM_STATE c) (if done then 4 else 3)).wr (Reg.DM_TRIG_TIME c) d.now
    (d.setDma c { d.dma c with post := 0, skip := old.length, epoch := x.resets },
      (0x050B, 0x40 + c, code) :: (if done then [(0x050C, 0x40 + c, 0)] else []))
  else (d, [])

/-- The capture channels whose D:07 equals an event code (R236). -/
def Dev.armedBy (d : Dev) (code : Nat) : List Nat :=
  d.obj.filterMap fun p =>
    if p.1 % 256 = 7 ∧ 0x4410 ≤ p.1 / 256 ∧ p.1 / 256 < 0x4420 ∧ p.2 = code then some (p.1 / 256 - 0x4410) else none

/-- Numbering one event and its immediate effects; what these log in turn is the second part. The event's own packet comes after the
triggers, so that it counts as a post-trigger packet (R236). A staging buffer that is full and cannot be written drops the newest record
and counts it (R30). -/
def Dev.logOne (d : Dev) (e : Nat × Nat × Nat) : Dev × Evs :=
  let d := d.drain
  if d.staging.length ≥ 64 then (d.bump 32 Reg.OPS_EVT_LOST, [])
  else
    let r : EvRec := ⟨d.rd Reg.EV_TOTAL, d.now, e.1, e.2.1, e.2.2 % 2 ^ 32⟩
    let d := { d.bump 32 Reg.EV_TOTAL with staging := d.staging ++ [r], port := { d.port with pend := setBit d.port.pend 3 true } }
    let (d, e1) := (d.armedBy e.1).foldl (fun p c => let r := p.1.trigger c e.1; (r.1, p.2 ++ r.2)) (d, [])
    let (d, e2) := d.eventPacket r
    (d.drain, e1 ++ e2)

/-- Logging events, and those that logging them causes; n bounds the depth of causing (a chain is at most an abort, a watermark and a
trigger deep for each queue and channel). -/
def Dev.logAll : Nat → Dev → Evs → Dev
  | 0, d, _ => d
  | n + 1, d, es =>
    es.foldl (fun d e => let r := d.logOne e; Dev.logAll n r.1 r.2) d

/-- Logging events in order (R381). -/
def Dev.logs (d : Dev) (es : Evs) : Dev := Dev.logAll 8 d es

/-- Logging one event. -/
def Dev.log1 (d : Dev) (code src det : Nat) : Dev := d.logs [(code, src, det)]

/-- A device change that yields events, with the events logged. -/
def logged (r : Dev × Evs) : Dev := r.1.logs r.2

/-- Setting a bit of 02F1:05; its rise logs event 0x0216 once (R339). -/
def Dev.setMaint (d : Dev) (bit : Nat) : Dev :=
  let v := d.rd Reg.SPR_MAINT
  if bitOf v bit then d
  else (d.wr Reg.SPR_MAINT (setBit v bit true)).log1 0x0216 0xFFF6 (setBit v bit true)

/-- Resetting every enabled queue (R228, reason 3). -/
def Dev.resetQueues (d : Dev) (reason : Nat) : Dev :=
  d.each d.enabledQueues fun d q => logged (d.queueReset q reason)

end Sys2Proof.Machine
end

