-- ==== Sys2Proof/Machine/Memory.lean ====
section
/-!
DEFINITION. The PSRAM as the host addresses it (R242): usable bytes by address, in the canonical form of a sparse table. A byte that
nothing has written reads as 0 (log entry 13).
-/
namespace Sys2Proof.Machine

/-- What an unlisted PSRAM address reads as. -/
def Memory.blank : Nat → BitVec 8 := fun _ => 0

/-- One byte. -/
def Memory.byte (m : List Host.Cell) (a : Nat) : BitVec 8 := tabGet Memory.blank m a

/-- Writing one byte; the value an unlisted address reads as removes the entry. -/
def Memory.put (m : List Host.Cell) (a : Nat) (v : BitVec 8) : List Host.Cell := tabSet Memory.blank m a v

/-- The canonical form: addresses strictly rising, no entry equal to what an unlisted address reads as. -/
def Memory.wf (m : List Host.Cell) : Bool := tabWf Memory.blank m

/-- Writing bytes at the positions off, off + 1, … of a ring of size bytes from base. -/
def Memory.putRing (m : List Host.Cell) (base size : Nat) : Nat → List Nat → List Host.Cell
  | _, [] => m
  | off, b :: bs => Memory.putRing (Memory.put m (base + off % size) (BitVec.ofNat 8 b)) base size (off + 1) bs

/-- n bytes of a ring from a position. -/
def Memory.ring (m : List Host.Cell) (base size off n : Nat) : List Nat :=
  (List.range n).map fun i => (Memory.byte m (base + (off + i) % size)).toNat

/-- The addresses of n bytes of a ring from a position. -/
def ringAddrs (base size off n : Nat) : List Nat := (List.range n).map fun i => base + (off + i) % size

/-- The raw address of the data byte at usable PSRAM address a (R242). -/
def rawData (a : Nat) : Nat := 64 * (a / 56) + a % 56

/-- The raw address of the check byte of the word that holds usable address a (R242); raw byte 63 of each block is reserved. -/
def rawCheck (a : Nat) : Nat := 64 * (a / 56) + 56 + a % 56 / 8

/-- The usable bytes of a PSRAM of raw bytes: 56 of each block of 64 (R242). -/
def usableOf (raw : Nat) : Nat := raw / 64 * 56

/-- The regions of the NOR flash by their first offset and size, 0 for up to the end (R240): boot directory, image banks, description
files, configuration copy, bulk logs. -/
def norRegions : List (Nat × Nat) :=
  [(0, 0x100000), (0x100000, 0x400000), (0x500000, 0x400000), (0x900000, 0x200000), (0xB00000, 0x100000), (0xC00000, 0)]

/-- An access to addresses outside the usable PSRAM marks the hole that ends the step (R242). -/
def Dev.reach (d : Dev) (addrs : List Nat) : Dev :=
  if addrs.all fun a => a < d.rd Reg.QM_PSRAM_USABLE then d else { d with hole := true }

/-- Written words are no longer uncorrectable. -/
def Dev.mended (d : Dev) (addrs : List Nat) : Dev := { d with psBad := d.psBad.filter fun a => !addrs.contains a }

/-- The outcome of a command that reads and writes PSRAM: an address that does not exist faults. -/
def State.runStore (f : Env → Dev → Dev × List Host.Cell) (s : State) : Host.Outcome State Fault Refusal :=
  let r := f ⟨s.ps, s.worn⟩ { s.dev with hole := false }
  if r.1.hole then .fault .psramHole else .next { s with dev := r.1, ps := r.2 }

end Sys2Proof.Machine
end

