-- ==== Sys2Proof/Machine/Queues.lean ====
section
/-!
DEFINITION. Queues, DMA channels and the memories behind them (R212 to R245): the read side and the consumer commands, spill and fill,
capture rings, and what errors in a memory do.
-/
namespace Sys2Proof.Machine

/-! The read side (R223 to R227). -/

/-- The queue is enabled (R213). -/
def Dev.queueOn (d : Dev) (q : Nat) : Bool := d.rd (Reg.QU_STATE q) = 1

/-- A capture channel that is not IDLE consumes the queue (R214). -/
def Dev.captured (d : Dev) (q : Nat) : Bool :=
  (List.range 16).any fun c => d.rd (Reg.DM_ROLE c) = 2 && d.rd (Reg.DM_QUEUE c) = q && d.rd (Reg.DM_STATE c) ≠ 0

/-- The packet whose bytes hold a pointer, frame word included. -/
def Queue.holding (x : Queue) (p : BitVec 32) : Option Pkt :=
  x.pkts.find? fun k => x.p.dist k.pos ≤ x.p.dist p && x.p.dist p < x.p.dist k.pos + k.size

/-- A pointer moved past the void packets it lies in or stands before (R243). -/
def Queue.pastVoid (x : Queue) (p : BitVec 32) : BitVec 32 :=
  x.pkts.foldl (fun p k =>
    if k.void && x.p.dist k.pos ≤ x.p.dist p && x.p.dist p < x.p.dist k.pos + k.size then k.pos + BitVec.ofNat 32 k.size else p) p

/-- The first content word at or after a pointer. -/
def Queue.content (x : Queue) (p : BitVec 32) : BitVec 32 :=
  let p := x.pastVoid p
  match x.holding p with
  | none => p + 8
  | some k => if p = k.pos then p + 8 else p

/-- The tag of a content word (R223, R224). -/
def tagOf (first last marked : Bool) (n : Nat) : Nat := 1 + nat01 first * 2 + nat01 last * 4 + n * 8 + nat01 marked * 128

/-- One read (R227): the word and its tag; 0 and 0 where the queue is empty or disabled (R225). -/
def Dev.queueRead (d : Dev) (q : Nat) : Dev × Nat × Nat :=
  if !d.queueOn q then (d, 0, 0)
  else
    let d := logged (d.guardQueue q)
    let x := d.queue q
    let rd := x.pastVoid x.p.rd
    match x.holding rd with
    | none => (d.setQueue q (x.setPtrs { x.p with rd := rd }), 0, 0)
    | some k =>
      let rd := if rd = k.pos then rd + 8 else rd
      let i := x.p.dist rd - x.p.dist k.pos - 8
      let bs := (k.bytes.drop i).take 8
      let tag := tagOf (i = 0) (k.bytes.length ≤ i + 8) (x.mark && rd = x.content x.p.m) bs.length
      (d.setQueue q (x.setPtrs { x.p with rd := rd + 8 }), ofBytesLE bs, tag)

/-- Up to three words of one packet (R225): after LAST or an empty read the rest is 0. -/
def Dev.queueRead3 (d : Dev) (q : Nat) : Nat → Dev × List (Nat × Nat)
  | 0 => (d, [])
  | n + 1 =>
    let r := d.queueRead q
    if bitOf r.2.2 2 || r.2.2 = 0 then (r.1, (r.2.1, r.2.2) :: List.replicate n (0, 0))
    else
      let r2 := r.1.queueRead3 q n
      (r2.1, (r.2.1, r.2.2) :: r2.2)

/-- A release's effect on the notice record (R230). -/
def Dev.noteRelease (d : Dev) (q before after : Nat) : Dev × Evs :=
  let x := d.queue q
  let mark := d.rd (Reg.QU_WM_LOW q)
  if mark ≤ before ∧ after < mark then
    (d.setQueue q { x with low := true, cross := min 255 (x.cross + 1) },
      if x.low then [] else [(0x0503, q, 1 + min (2 ^ 24 - 1) after * 256)])
  else (d, [])

/-- RELEASE(p) of R227: whole packets up to p are freed, and a mark behind the new L is lost. -/
def Dev.releaseTo (d : Dev) (q : Nat) (p : BitVec 32) : Dev × Nat :=
  let d := logged (d.guardQueue q)
  let x := d.queue q
  if x.p.dist x.p.rd < x.p.dist p then (d, RANGE)
  else
    let gone := x.pkts.filter fun k => x.p.dist k.pos + k.size ≤ x.p.dist p
    let l := match gone.getLast? with
      | none => x.p.l
      | some k => k.pos + BitVec.ofNat 32 k.size
    let before := x.level
    let y := { x.setPtrs { x.p with l := l } with
      pkts := x.pkts.drop gone.length, mark := x.mark && decide (x.p.dist l ≤ x.p.dist x.p.m) }
    (logged ((d.setQueue q y).noteRelease q before y.level), OK)

/-- MARK (R227). -/
def Dev.queueMark (d : Dev) (q : Nat) : Dev × Nat :=
  let d := logged (d.guardQueue q)
  let x := d.queue q
  (d.setQueue q { x.setPtrs { x.p with m := x.p.rd } with mark := true }, OK)

/-- REWIND (R227). -/
def Dev.queueRewind (d : Dev) (q : Nat) : Dev × Nat :=
  let d := logged (d.guardQueue q)
  let x := d.queue q
  if x.mark then (d.setQueue q (x.setPtrs { x.p with rd := x.p.m }), OK) else (d, MARK_LOST)

/-- ACK (R231): a commit of the same instant counts after it. -/
def Dev.queueAck (d : Dev) (q : Nat) : Dev × Nat :=
  (d.modQueue q fun x =>
    let same := x.tCommit = some d.now
    let cross := if same then x.nCross else 0
    { x with
      packets := if same then x.nCommit else 0, high := cross ≠ 0, low := false, reset := false, cross := cross, reason := 0 }, OK)

/-- A consumer command of Q:0E (R227, R228, R231). -/
def Dev.queueCmd (d : Dev) (q cmd : Nat) : Dev × Nat :=
  match cmd with
  | 1 => d.queueMark q
  | 2 => d.queueRewind q
  | 3 => d.releaseTo q (d.queue q).p.rd
  | 4 => (logged (d.queueReset q 1), OK)
  | 5 => d.queueAck q
  | _ => (d, RANGE)

/-! Notices (R229). -/

/-- The queue has a notice pending. -/
def Queue.noticed (x : Queue) : Bool := x.packets ≠ 0 || x.high || x.low || x.reset

/-- 4400:02. -/
def Dev.noticeSummary (d : Dev) : Nat := d.queues.foldl (fun a p => if p.2.noticed then setBit a p.1 true else a) 0

/-- Q:10 (R246). -/
def Queue.notice (x : Queue) : Nat :=
  packLE [(2, x.packets), (1, nat01 x.high + nat01 x.low * 2 + nat01 x.reset * 4), (1, x.cross), (1, x.reason)]

/-- Q:0A (R246). -/
def Queue.pointers (x : Queue) : Nat :=
  packLE [(4, x.p.w.toNat), (4, x.p.c.toNat), (4, x.p.rd.toNat), (4, x.p.m.toNat), (4, x.p.l.toNat),
    (1, nat01 x.mark + nat01 x.opn.isSome * 2)]

/-! Host packets (R221). -/

/-- The queue takes host packets. -/
def Dev.hostQueue (d : Dev) (q : Nat) : Bool := d.rd (Reg.QU_PRODUCER q) = 1 && d.queueOn q

/-- QU_WRITE (R221): all bytes stored, or the packet is aborted and the answer is BUSY. -/
def Dev.hostWrite (d : Dev) (q : Nat) (bs : List Nat) : Dev × Nat :=
  let d := if (d.queue q).opn.isSome then d else logged (d.openPacket q 0x80)
  if (d.queue q).opn.isNone then (d, BUSY)
  else
    let d := logged (d.appendBytes q bs)
    (d, if (d.queue q).opn.isSome then OK else BUSY)

/-- QU_WRITE_END (R221): 1 commits, 2 aborts. -/
def Dev.hostEnd (d : Dev) (q v : Nat) : Dev :=
  if (d.queue q).opn.isNone then d
  else if v = 1 then logged (d.commitPacket q)
  else logged (d.abortPacket q 3)

/-! Enabling (R213). -/

/-- S_seg of a queue. -/
def Dev.segSize (d : Dev) (q : Nat) : Nat := d.rd (Reg.QU_SEG_SIZE q)

/-- The spill channel a queue names, if any. -/
def Dev.spillChan (d : Dev) (q : Nat) : Option Nat := if d.rd (Reg.QU_SPILL_CHAN q) < 16 then some (d.rd (Reg.QU_SPILL_CHAN q)) else none

/-- The checks of R213 in the order of its table. -/
def Dev.quEnableCheck (d : Dev) (q : Nat) : Nat :=
  if d.queueOn q then OK
  else if d.rd Reg.QM_SRAM_FREE < d.segSize q then BUSY
  else match d.spillChan q with
    | none =>
      if d.rd (Reg.QU_SPILL_CHAN q) ≠ 0xFF then RANGE
      else if d.rd (Reg.QU_PRODUCER q) = 2 && d.enabledQueues.any (fun j => d.rd (Reg.QU_PRODUCER j) = 2) then BUSY
      else OK
    | some c =>
      if d.rd (Reg.DM_ROLE c) ≠ 1 || d.rd (Reg.DM_QUEUE c) ≠ q then RANGE
      else if d.segSize q < 8192 || d.rd (Reg.QU_SPILL_MARK q) < 1024 || d.segSize q < d.rd (Reg.QU_SPILL_MARK q) + 4096 then RANGE
      else if d.rd Reg.QM_PSRAM_STATE ≠ 1 then BUSY
      else if d.rd (Reg.QU_PRODUCER q) = 2 && d.enabledQueues.any (fun j => d.rd (Reg.QU_PRODUCER j) = 2) then BUSY
      else OK

/-- A queue is enabled (R213): empty, no notice, its spill channel running (R234). -/
def Dev.quEnable (d : Dev) (q : Nat) : Dev :=
  if d.queueOn q then d
  else
    let cap := d.segSize q + match d.spillChan q with
      | none => 0
      | some c => d.rd (Reg.DM_SIZE c)
    let d := d.setQueue q { cap := cap, resets := (d.queue q).resets }
    let d := ((d.wr (Reg.QU_STATE q) 1).wr (Reg.QU_ENABLE q) 1).wr Reg.QM_SRAM_FREE (d.rd Reg.QM_SRAM_FREE - d.segSize q)
    let d := ((d.wr (Reg.QU_COMMITTED q) 0).wr (Reg.QU_ABORTED q) 0).wr (Reg.QU_LAST_ABORT q) 0
    match d.spillChan q with
    | none => d
    | some c => d.wr (Reg.DM_STATE c) 1

/-- A queue named by a capture channel that runs may not be disabled (R245). -/
def Dev.quDisableCheck (d : Dev) (q : Nat) : Nat := if d.queueOn q && d.captured q then BUSY else OK

/-- A queue is disabled (R213): content and open packet discarded, no notice. -/
def Dev.quDisable (d : Dev) (q : Nat) : Dev :=
  if !d.queueOn q then d.wr (Reg.QU_ENABLE q) 0
  else
    let d := match d.spillChan q with
      | none => d
      | some c => d.wr (Reg.DM_STATE c) 0
    let d := ((d.wr (Reg.QU_STATE q) 0).wr (Reg.QU_ENABLE q) 0).wr Reg.QM_SRAM_FREE (d.rd Reg.QM_SRAM_FREE + d.segSize q)
    d.setQueue q { resets := (d.queue q).resets }

/-! Spill and fill (R232, R233). -/

/-- Committed bytes of a queue held in SRAM. -/
def Queue.inSram (x : Queue) : Nat := ((x.pkts.filter fun k => k.spill.isNone).map Pkt.size).sum

/-- Bytes of a queue held in PSRAM. -/
def Queue.inPsram (x : Queue) : Nat := ((x.pkts.filter fun k => k.spill.isSome).map Pkt.size).sum

/-- A packet reaches into the read window, the first 2 048 bytes at or after Rd (R232). -/
def Queue.inWindow (x : Queue) (k : Pkt) : Bool :=
  x.p.dist k.pos < x.p.dist x.p.rd + 2048 && x.p.dist x.p.rd < x.p.dist k.pos + k.size

/-- The next packet to spill: the oldest one in SRAM outside the read window. -/
def Queue.spillNext (x : Queue) : Option Pkt := x.pkts.find? fun k => k.spill.isNone && !x.inWindow k

/-- n bytes at an offset of a spill ring meet no packet that is still in it. -/
def Queue.clear (x : Queue) (size n off : Nat) : Bool :=
  n ≤ size && x.pkts.all fun k => match k.spill with
    | none => true
    | some o => n ≤ (o + size - off) % size && k.size ≤ (off + size - o) % size

/-- Where n bytes go in a spill ring: after the packet spilled last, else behind another packet, none where there is no room. -/
def Queue.place (x : Queue) (size n : Nat) : Option Nat :=
  (x.spillAt :: x.pkts.filterMap fun k => k.spill.map fun o => (o + k.size) % size).find? fun off => x.clear size n off

/-- One packet moves to the offset off of the spill ring of channel c. -/
def Dev.spillOne (d : Dev) (m : List Host.Cell) (c q : Nat) (k : Pkt) (off : Nat) : Dev × List Host.Cell :=
  let x := d.queue q
  let base := d.rd (Reg.DM_BASE c)
  let size := d.rd (Reg.DM_SIZE c)
  let bs := k.stored q
  let addrs := ringAddrs base size off bs.length
  let d := (d.reach addrs).mended addrs
  let d := d.setQueue q { x with
    spillAt := (off + bs.length) % size, pkts := x.pkts.map fun j => if j.pos = k.pos then { j with spill := some off } else j }
  (d, Memory.putRing m base size off bs)

/-- The bursts of one spill transfer: n bounds their number. -/
def Dev.spillAll (c q : Nat) : Nat → Dev × List Host.Cell → Dev × List Host.Cell
  | 0, r => r
  | n + 1, (d, m) =>
    let x := d.queue q
    if x.inSram ≤ d.rd (Reg.QU_SPILL_MARK q) then (d, m)
    else match x.spillNext with
      | none => (d, m)
      | some k =>
        if d.hole then (d, m)
        else match x.place (d.rd (Reg.DM_SIZE c)) k.size with
          | none => (d, m)
          | some off => Dev.spillAll c q n (d.spillOne m c q k off)

/-- A spill channel serves its queue: role SPILL, running, and the queue names it. -/
def Dev.spillRuns (d : Dev) (c : Nat) : Bool :=
  let q := d.rd (Reg.DM_QUEUE c)
  d.rd (Reg.DM_ROLE c) = 1 && d.rd (Reg.DM_STATE c) = 1 && d.queueOn q && d.spillChan q = some c && d.rd Reg.QM_PSRAM_STATE = 1

/-- SPILL_TRANSFER (R232). -/
def execSpillTransfer (c : DmaNo) (t : Nat) (s : State) : Host.Outcome State Fault Refusal :=
  s.runStore fun e d =>
    let d := d.at t
    let q := d.rd (Reg.DM_QUEUE c)
    let d := d.when (d.spillRuns c) fun d => logged (d.guardQueue q)
    if d.spillRuns c && d.opsFree then Dev.spillAll c q (d.queue q).pkts.length (d.passOp, e.ps) else (d, e.ps)

/-- The spilled packets of the read window come back in order (R233). -/
def Dev.fill (d : Dev) (m : List Host.Cell) (c q : Nat) : Dev :=
  let d := logged (d.guardQueue q)
  let base := d.rd (Reg.DM_BASE c)
  let size := d.rd (Reg.DM_SIZE c)
  d.each ((d.queue q).pkts.filter fun k => k.spill.isSome && (d.queue q).inWindow k) fun d k =>
    match k.spill with
    | none => d
    | some off =>
      let d := d.reach (ringAddrs base size off (k.stored q).length)
      let bytes := (Memory.ring m base size (off + 8) k.bytes.length)
      d.modQueue q fun x => { x with pkts := x.pkts.map fun j => if j.pos = k.pos then { j with spill := none, bytes := bytes } else j }

/-- FILL_TRANSFER (R233). -/
def execFillTransfer (c : DmaNo) (t : Nat) (s : State) : Host.Outcome State Fault Refusal :=
  s.runMem fun e d =>
    let d := d.at t
    if d.spillRuns c && d.opsFree then d.passOp.fill e.ps c (d.rd (Reg.DM_QUEUE c)) else d

/-- The packet that the next read reaches is still in PSRAM. -/
def Dev.readSpilled (d : Dev) (q : Nat) : Bool :=
  let x := d.queue q
  match x.holding (x.pastVoid x.p.rd) with
  | none => false
  | some k => k.spill.isSome

/-- A read of the queue waits for the fill (R225, R233): the word it reaches lies in the queue's spill ring. -/
def Dev.waitsFill (d : Dev) (q : Nat) : Bool :=
  match d.spillChan q with
  | none => false
  | some c => d.queueOn q && d.readSpilled q && 0 < d.rd (Reg.DM_SIZE c) && d.rd (Reg.DM_BASE c) + d.rd (Reg.DM_SIZE c) ≤ d.rd Reg.QM_PSRAM_USABLE

/-- A read that reaches a word not yet filled waits for the fill, which takes an entry of the operations table (R28, R225, R233). -/
def Dev.fillForRead (d : Dev) (m : List Host.Cell) (q : Nat) : Dev :=
  match d.spillChan q with
  | none => d
  | some c => if d.waitsFill q then d.passOp.fill m c q else d

/-- WRITE_BEAT_RESUME (R232): a beat held longer than 1 µs counts. -/
def execWriteBeatResume (q : QueueNo) (held t : Nat) (s : State) : Host.Outcome State Fault Refusal :=
  s.run fun _ d => (d.at t).when (1000 < held) fun d => d.bump 32 (Reg.QU_STALLS q)

/-! Capture rings (R234 to R237). -/

/-- Two regions overlap. -/
def overlap (a n b m : Nat) : Bool := decide (a < b + m ∧ b < a + n)

/-- Judging a START of a capture channel (R234). -/
def Dev.dmStartCheck (d : Dev) (c : Nat) : Nat :=
  let base := d.rd (Reg.DM_BASE c)
  let size := d.rd (Reg.DM_SIZE c)
  if d.rd (Reg.DM_ROLE c) ≠ 2 then RANGE
  else if d.rd (Reg.DM_STATE c) ≠ 0 then OK
  else if d.rd Reg.QM_PSRAM_USABLE < base + size then RANGE
  else if (List.range 16).any fun j =>
      j ≠ c && d.rd (Reg.DM_STATE j) ≠ 0 && overlap base size (d.rd (Reg.DM_BASE j)) (d.rd (Reg.DM_SIZE j)) then RANGE
  else if d.rd Reg.QM_PSRAM_STATE ≠ 1 then BUSY
  else OK

/-- START (R234): from IDLE a new capture begins at offset 0. -/
def Dev.dmStart (d : Dev) (c : Nat) : Dev :=
  if d.rd (Reg.DM_STATE c) ≠ 0 then d
  else ((((d.wr (Reg.DM_STATE c) 1).wr (Reg.DM_WRITE_INDEX c) 0).wr (Reg.DM_OLDEST c) 0).wr (Reg.DM_WRAPS c) 0).setDma c {}

/-- Judging a write to D:08. -/
def Dev.dmCheck (d : Dev) (c cmd : Nat) : Nat :=
  match cmd with
  | 1 => d.dmStartCheck c
  | 2 => if d.rd (Reg.DM_ROLE c) = 2 then OK else RANGE
  | 3 => if d.rd (Reg.DM_ROLE c) = 2 then OK else RANGE
  | _ => RANGE

/-- A command of D:08 acts (R234 to R236). -/
def Dev.dmDo (d : Dev) (c cmd : Nat) : Dev :=
  match cmd with
  | 1 => d.dmStart c
  | 2 => d.wr (Reg.DM_STATE c) 0
  | 3 => logged (d.trigger c 0)
  | _ => d

/-- The oldest packet of a queue is released by its capture channel (R235). -/
def Dev.takeOldest (d : Dev) (q : Nat) (k : Pkt) : Dev :=
  let d := logged (d.guardQueue q)
  if (d.queue q).pkts = [] then d
  else
    let e := k.pos + BitVec.ofNat 32 k.size
    ((d.modQueue q fun x => x.setPtrs { x.p with rd := e }).releaseTo q e).1

/-- Entry into DONE (R235). -/
def Dev.captureDone (d : Dev) (c : Nat) : Dev := (d.wr (Reg.DM_STATE c) 4).log1 0x050C (0x40 + c) (d.dma c).post

/-- The packets that waited at the trigger and still wait; a reset of the queue has discarded them. -/
def Dev.skips (d : Dev) (c : Nat) : Nat :=
  if (d.queue (d.rd (Reg.DM_QUEUE c))).resets = (d.dma c).epoch then (d.dma c).skip else 0

/-- One packet has left the queue since the trigger. -/
def Dev.skipOne (d : Dev) (c : Nat) : Dev :=
  d.when (d.skips c ≠ 0) fun d => d.setDma c { d.dma c with skip := (d.dma c).skip - 1 }

/-- All packets before the trigger are through, and the packets asked for after it (R235). -/
def Dev.captureFull (d : Dev) (c : Nat) : Bool := d.skips c = 0 && d.rd (Reg.DM_POST c) ≤ (d.dma c).post

/-- The ring without its oldest packets until n bytes fit in size. -/
def ringRoom (size n : Nat) : List (Nat × Nat) → List (Nat × Nat)
  | [] => []
  | r :: rs => if size < n + ((r :: rs).map (·.2)).sum then ringRoom size n rs else r :: rs

/-- Writing a packet into the ring of channel c (R235): older packets give way. -/
def Dev.captureWrite (d : Dev) (m : List Host.Cell) (c q : Nat) (k : Pkt) : Dev × List Host.Cell :=
  let base := d.rd (Reg.DM_BASE c)
  let size := d.rd (Reg.DM_SIZE c)
  let off := d.rd (Reg.DM_WRITE_INDEX c)
  let bs := k.stored q
  let addrs := ringAddrs base size off bs.length
  let d := (d.reach addrs).mended addrs
  let ring := ringRoom size bs.length (d.dma c).ring ++ [(off, bs.length)]
  let d := d.setDma c { d.dma c with ring := ring, post := if d.rd (Reg.DM_STATE c) = 3 && d.skips c = 0 then (d.dma c).post + 1 else (d.dma c).post }
  let d := (d.wr (Reg.DM_WRITE_INDEX c) ((off + bs.length) % size)).wr (Reg.DM_OLDEST c) ((ring.headD (0, 0)).1)
  (d.when (size ≤ off + bs.length) fun d => d.bump 32 (Reg.DM_WRAPS c), Memory.putRing m base size off bs)

/-- One packet of a capture channel's queue (R235, R236, R243). -/
def Dev.captureCopy (d : Dev) (m : List Host.Cell) (c : Nat) : Dev × List Host.Cell :=
  let q := d.rd (Reg.DM_QUEUE c)
  let st := d.rd (Reg.DM_STATE c)
  match (d.queue q).pkts.head? with
  | none => (d, m)
  | some k =>
    let size := d.rd (Reg.DM_SIZE c)
    let drop := fun (d : Dev) => (((d.bump 32 (Reg.DM_DROPPED c)).takeOldest q k).when (st = 3) (·.skipOne c), m)
    if d.rd (Reg.DM_ROLE c) ≠ 2 || st = 0 || !d.queueOn q then (d, m)
    else if st = 2 || st = 4 || st = 5 || k.void then drop d
    else if d.rd (Reg.DM_POLICY c) = 0 && size < ((d.dma c).ring.map (·.2)).sum + k.size then
      drop ((d.wr (Reg.DM_STATE c) 2).log1 0x050A (0x40 + c) (d.rd (Reg.DM_WRITE_INDEX c)))
    else if st = 3 && d.captureFull c then drop (d.captureDone c)
    else
      let r := d.captureWrite m c q k
      let d := (r.1.takeOldest q k).when (st = 3) (·.skipOne c)
      (d.when (st = 3 && d.captureFull c) fun d => d.captureDone c, r.2)

/-- CAPTURE_COPY (R235). -/
def execCaptureCopy (c : DmaNo) (t : Nat) (s : State) : Host.Outcome State Fault Refusal :=
  s.runStore fun e d =>
    let d := d.at t
    if d.opsFree then d.passOp.captureCopy e.ps c else (d, e.ps)

/-- A read of D:0E (R237, R243), allowed in every state: the word, its flag, and D:0D advanced; the position wraps at D:04 also where D:0D
stands at or beyond it (log entry 67). Where the region is not all usable PSRAM, the spec states no word: it is a free value (log entry 7). -/
def Dev.ringRead (d : Dev) (m : List Host.Cell) (c : Nat) : Dev × Nat :=
  let base := d.rd (Reg.DM_BASE c)
  let size := d.rd (Reg.DM_SIZE c)
  let off := d.rd (Reg.DM_RD_ADDR c)
  let addrs := ringAddrs base size off 8
  let there := addrs.all fun a => a < d.rd Reg.QM_PSRAM_USABLE
  let bad := d.psBad.any fun a => addrs.contains a
  let v := packLE [(8, if there then ofBytesLE (Memory.ring m base size off 8) else d.freeNat 64), (1, nat01 bad)]
  let d := (d.when (!there) (·.took)).passOp
  let d := d.when bad fun d => d.log1 0x0506 0x52 (base + off % size)
  (d.wr (Reg.DM_RD_ADDR c) ((off + 8) % size), v)

/-! Faults of a memory (R239, R242 to R244). -/

/-- The PSRAM enters FAULT (R233, R239, R245): queues with a spill ring are reset and shrink, capture channels enter FAULT. -/
def Dev.psramFault (d : Dev) (why : Nat) : Dev :=
  if d.rd Reg.QM_PSRAM_STATE ≠ 1 then d
  else
    let d := (d.wr Reg.QM_PSRAM_STATE 2).log1 0x050D 0x52 why
    let d := d.each (d.enabledQueues.filter fun q => (d.spillChan q).isSome) fun d q =>
      (logged (d.queueReset q 5)).modQueue q fun x => { x with cap := d.segSize q }
    d.each (List.range 16) fun d c =>
      if d.rd (Reg.DM_STATE c) = 0 then d
      else if d.rd (Reg.DM_ROLE c) = 2 then d.wr (Reg.DM_STATE c) 5
      else d.wr (Reg.DM_STATE c) 0

/-- The NOR flash enters FAULT. -/
def Dev.norFault (d : Dev) (why : Nat) : Dev :=
  if d.rd Reg.QM_NOR_STATE ≠ 1 then d else (d.wr Reg.QM_NOR_STATE 2).log1 0x050D 0x53 why

/-- XSPI_NO_STROBE (R239). -/
def execXspiNoStrobe (nor : Bool) (t : Nat) (s : State) : Host.Outcome State Fault Refusal :=
  s.run fun _ d =>
    let d := d.at t
    if nor then d.norFault 1 else d.psramFault 1

/-- COEF_REPAIR (R243): the word comes back from the NOR copy, or the maintenance bit is set. -/
def execCoefRepair (addr : Nat) (readable : Bool) (t : Nat) (s : State) : Host.Outcome State Fault Refusal :=
  s.run fun _ d =>
    let d := d.at t
    let a := addr % 65536
    if !d.coefBad.contains a then d
    else if readable then (d.setCoef a (tabGet (fun _ => 0) d.coefNor a)).log1 0x0508 0x51 a
    else (d.log1 0x0509 0x51 a).setMaint 4

/-- The corrected-error counter of a memory. -/
def eccCorr (m : Nat) : Nat := if m = 0 then Reg.QM_ECC_SRAM_CORR else if m = 1 then Reg.QM_ECC_COEF_CORR else Reg.QM_ECC_PSRAM_CORR

/-- The uncorrectable-error counter of a memory. -/
def eccDouble (m : Nat) : Nat :=
  if m = 0 then Reg.QM_ECC_SRAM_DOUBLE else if m = 1 then Reg.QM_ECC_COEF_DOUBLE else Reg.QM_ECC_PSRAM_DOUBLE

/-- Corrected errors: counted, and logged at most once per 60 s with the count since (R242). -/
def Dev.eccSingle (d : Dev) (m n : Nat) : Dev :=
  if n = 0 then d
  else
    let d := d.wr (eccCorr m) ((d.rd (eccCorr m) + n) % 2 ^ 32)
    let cnt := tabGet (fun _ => 0) d.eccCnt m + n
    let last := tabGet (fun _ => 0) d.eccLast m
    if last = 0 || last + 60000000000 ≤ d.now then
      ({ d with eccCnt := tabSet (fun _ => 0) d.eccCnt m 0, eccLast := tabSet (fun _ => 0) d.eccLast m d.now }).log1 0x0505 (0x50 + m) cnt
    else { d with eccCnt := tabSet (fun _ => 0) d.eccCnt m cnt }

/-- A content word of a committed packet is uncorrectable: the packet becomes void (R243). -/
def Dev.voidPacket (d : Dev) (q : Nat) (k : Pkt) (mem addr : Nat) : Dev :=
  if k.void then d
  else
    let d := d.modQueue q fun x => { x with pkts := x.pkts.map fun j => if j.pos = k.pos then { j with void := true } else j }
    (d.bump 32 (Reg.QU_VOID q)).logs [(0x0506, 0x50 + mem, addr), (0x0507, q, k.pseq)]

/-- A word of the stream of queue q at distance i from L in SRAM is uncorrectable (R243). -/
def Dev.hitStream (d : Dev) (q i mem addr : Nat) : Dev :=
  let x := d.queue q
  match x.holding (x.p.l + BitVec.ofNat 32 i) with
  | some k =>
    if i < x.p.dist k.pos + 8 then (logged (d.queueReset q 4)).log1 0x0506 (0x50 + mem) addr
    else d.voidPacket q k mem addr
  | none => match x.opn with
    | none => d
    | some o =>
      if x.p.dist o.start ≤ i && i < x.p.dist x.p.w then
        (d.setQueue q { x with opn := some { o with bad := true } }).log1 0x0506 (0x50 + mem) addr
      else d

/-- The queue and the offset in its segment of a queue SRAM address: segments in rising queue order (log entry 14). -/
def Dev.sramOwner (d : Dev) (a : Nat) : Option (Nat × Nat) :=
  (d.enabledQueues.foldl (fun (p : Nat × Option (Nat × Nat)) q =>
    match p.2 with
    | some r => (p.1, some r)
    | none => if a < p.1 + d.segSize q then (p.1, some (q, a - p.1)) else (p.1 + d.segSize q, none)) (0, none)).2

/-- The stream distances from L whose byte can lie at offset off of a segment of size bytes, up to the capacity. -/
def Queue.distances (x : Queue) (size off : Nat) : List Nat :=
  (List.range (x.cap / max 1 size + 1)).map fun j => (off + size - x.p.l.toNat % size) % size + j * size

/-- The byte at distance i from L is held in SRAM: of a packet that is not spilled, or of the open one. -/
def Queue.holdsAt (x : Queue) (i : Nat) : Bool :=
  match x.holding (x.p.l + BitVec.ofNat 32 i) with
  | some k => k.spill.isNone
  | none => match x.opn with
    | none => false
    | some o => x.p.dist o.start ≤ i && i < x.p.dist x.p.w

/-- An uncorrectable record of a pending buffer (R243): records stand behind the segments, 16 bytes each, 64 pending and 64 latched ones for
each slot (log entry 67). -/
def Dev.recordDouble (d : Dev) (a : Nat) : Dev :=
  let n := (a - 0x40000) / 16
  let k := n / 128
  let i := n % 128
  if 128 ≤ k then d
  else
    let mark := fun (j : Nat) (l : List Rec) => l.zipIdx.map fun p => if p.2 = j then { p.1 with bad := true } else p.1
    (d.modSlot k fun x => if i < 64 then { x with pend := mark i x.pend } else { x with latched := mark (i - 64) x.latched }).log1
      0x0506 0x50 a

/-- An uncorrectable word of queue SRAM (R243): of a packet, of an open packet, of a pending buffer; elsewhere it only counts. -/
def Dev.sramDouble (d : Dev) (a : Nat) : Dev :=
  if 0x40000 ≤ a then d.recordDouble a
  else match d.sramOwner a with
    | none => d
    | some (q, off) => match ((d.queue q).distances (d.segSize q) off).find? fun i => (d.queue q).holdsAt i with
      | none => d
      | some i => d.hitStream q i 0 a

/-- An uncorrectable word of PSRAM (R243): a spilled packet, or a capture ring word that its reading will show. -/
def Dev.psramDouble (d : Dev) (a : Nat) : Dev :=
  let d := { d with psErrs := d.now :: d.psErrs.filter fun t => d.now < t + 1000000000, psBad := a :: d.psBad }
  let d := d.each d.enabledQueues fun d q =>
    match d.spillChan q with
    | none => d
    | some c =>
      let base := d.rd (Reg.DM_BASE c)
      let size := d.rd (Reg.DM_SIZE c)
      d.each (d.queue q).pkts fun d k =>
        match k.spill with
        | none => d
        | some off =>
          if (ringAddrs base size off 8).contains a then (logged (d.queueReset q 4)).log1 0x0506 0x52 a
          else if (ringAddrs base size (off + 8) (k.size - 8)).contains a then d.voidPacket q k 2 a
          else d
  d.when (16 < d.psErrs.length) fun d => d.psramFault 2

/-- One uncorrectable error of a memory: 0 queue SRAM, 1 coefficient RAM, 2 PSRAM. -/
def Dev.eccHit (d : Dev) (m a : Nat) : Dev :=
  let d := d.bump 32 (eccDouble m)
  if m = 0 then d.sramDouble a
  else if m = 1 then { d with coefBad := (a % 65536) :: d.coefBad.filter (· ≠ a % 65536) }.log1 0x0506 0x51 (a % 65536)
  else d.psramDouble a

/-- The memory is switched on (R244, R406): its domain is neither off nor at retention. -/
def Dev.memoryOn (d : Dev) : Bool := d.crownUp && d.rd Reg.PL_RUNG = 0

/-- The scrub of PSRAM goes on at the rate of 4400:0C (R244): a pass that has covered the usable bytes is complete, its duration in 4400:0D,
and the next begins at address 0. scrubAt holds the time at which the running pass was at address 0. -/
def Dev.scrubOn (d : Dev) : Dev :=
  match d.scrubAt with
  | none => { d with scrubAt := some d.now }
  | some t0 =>
    if d.rd Reg.QM_PSRAM_USABLE * 1000000000 ≤ (d.now - t0) * d.rd Reg.QM_SCRUB_RATE then
      { d with scrubAt := some d.now }.wr Reg.QM_SCRUB_PASS ((d.now - t0) / 1000000000)
    else d

/-- SCRUB (R242 to R244): what scrubbing finds, or, where reading is set, what an ordinary read finds. Scrubbing reaches PSRAM over xSPI
with an entry of the operations table of its own (R28, R241). -/
def execScrub (mem : Fin 3) (reading : Bool) (corrected : Nat) (double : List Nat) (t : Nat) (s : State) : Host.Outcome State Fault Refusal :=
  s.run fun _ d =>
    let d := d.at t
    let own := mem = 2 && !reading
    if !d.memoryOn || (own && !d.opsFree) then d
    else
      let d := (d.when own (·.passOp)).eccSingle mem corrected
      let d := d.each double fun d a => d.eccHit mem a
      d.when (own && d.rd Reg.QM_PSRAM_STATE = 1) (·.scrubOn)

end Sys2Proof.Machine
end

