-- ==== Sys2Proof/Machine/Flags.lean ====
section
/-!
DEFINITION. The flags of a record and the result code: result word, aux word and SAT of R72 to R75, and the IEEE 754 single pattern of
a fraction (type F32 of R251).
-/
namespace Sys2Proof.Machine

/-- A fraction: numerator and positive denominator. -/
abbrev Frac := Int × Nat

/-- Sum of fractions. -/
def Frac.add (a b : Frac) : Frac := (a.1 * b.2 + b.1 * a.2, a.2 * b.2)

/-- Product of fractions. -/
def Frac.mul (a b : Frac) : Frac := (a.1 * b.1, a.2 * b.2)

/-- a / b with a positive denominator; 0 where b is 0. -/
def Frac.over (a b : Frac) : Frac :=
  if b.1 = 0 then (0, 1) else if b.1 < 0 then (-(a.1 * b.2), a.2 * (-b.1).toNat) else (a.1 * b.2, a.2 * b.1.toNat)

/-- The nearest integer of a fraction. -/
def Frac.round (a : Frac) : Int := roundDiv a.1 a.2

/-- What an output or a window carries beside its data (R73, R74). -/
structure RecFlags where
  settle : Bool := false
  subst  : Bool := false
  abort  : Bool := false
  sat    : Bool := false
  wire   : Bool := false
  plaus  : Bool := false
  fade   : Bool := false
  countdown : Nat := 0
  synced : Bool := false
  test   : Bool := false
  unsync : Bool := false
  degr   : Bool := false
  deriving DecidableEq, Repr

/-- ABORT forces the flags R75 names to 0. -/
def RecFlags.forced (f : RecFlags) : RecFlags :=
  if f.abort then
    { f with settle := false, subst := false, sat := false, wire := false, plaus := false, countdown := 0 }
  else f

/-- The status byte: VALID in bit 0 through FADE in bit 7 (R73, R75). -/
def RecFlags.status (f : RecFlags) : Nat :=
  let g := f.forced
  nat01 (!g.abort) + nat01 g.settle * 2 + nat01 g.subst * 4 + nat01 g.abort * 8 + nat01 g.sat * 16 +
    nat01 g.wire * 32 + nat01 g.plaus * 64 + nat01 g.fade * 128

/-- The result word of R73: DATA and status, left aligned when align. -/
def resultWord (align : Bool) (code : Int) (f : RecFlags) : Nat :=
  let data := if f.abort then 0 else ofInt 24 code
  if align then f.status + data * 256 else data + f.status * 2 ^ 24

/-- The aux word of R74. -/
def auxWord (slot seq : Nat) (f : RecFlags) : Nat :=
  let g := f.forced
  slot % 128 + seq % 512 * 2 ^ 7 + g.countdown % 16 * 2 ^ 16 + nat01 g.synced * 2 ^ 20 + nat01 g.test * 2 ^ 21 +
    nat01 g.unsync * 2 ^ 22 + nat01 g.degr * 2 ^ 23

/-- The result code of a calibrated fraction and whether R72 sets SAT for it. -/
def codeOf (signed : Bool) (y : Frac) : Int × Bool :=
  if signed then
    let c := roundDiv (y.1 * 2 ^ 23) y.2
    (clampInt (-0x800000) 0x7FFFFF c, decide (c < -0x800000 ∨ 0x7FFFFF < c))
  else
    let c := roundDiv (y.1 * 2 ^ 24) y.2
    (clampInt 0 0xFFFFFF c, decide (0xFFFFFF < c ∨ y.1 * 1000 < -(y.2 : Int)))

/-- The chain value of a code (R103). -/
def chainOf (signed : Bool) (code : Int) : Int := if signed then code else code - 0x800000

/-- The code of a normalised value in chain units and its SAT (R106, R72). -/
def codeOfChain (signed : Bool) (u : Int) : Int × Bool :=
  if signed then (clampInt (-0x800000) 0x7FFFFF u, decide (u < -0x800000 ∨ 0x7FFFFF < u))
  else
    let c := u + 0x800000
    (clampInt 0 0xFFFFFF c, decide (0xFFFFFF < c ∨ c * 1000 < -(2 ^ 24)))

/-- The single-precision pattern nearest to a fraction, ties to even (R251, F32). -/
def f32Of (a : Frac) : Nat :=
  let n := a.1.natAbs
  if n = 0 ∨ a.2 = 0 then 0
  else
    let e0 : Int := (Nat.log2 n : Int) - (Nat.log2 a.2 : Int)
    let fits : Int → Bool := fun e => if 0 ≤ e then a.2 * 2 ^ e.toNat ≤ n else a.2 ≤ n * 2 ^ (-e).toNat
    let e := if fits e0 then e0 else e0 - 1
    let sh := 23 - e
    let num := if 0 ≤ sh then n * 2 ^ sh.toNat else n
    let den := if 0 ≤ sh then a.2 else a.2 * 2 ^ (-sh).toNat
    let q := num / den
    let r := num % den
    let q := if 2 * r > den ∨ (2 * r = den ∧ q % 2 = 1) then q + 1 else q
    let (q, e) := if q = 2 ^ 24 then (2 ^ 23, e + 1) else (q, e)
    nat01 (a.1 < 0) * 2 ^ 31 + (e + 127).toNat * 2 ^ 23 + (q - 2 ^ 23)

end Sys2Proof.Machine
end

