-- ==== Sys2Proof/Machine/Values.lean ====
section
/-!
DEFINITION. What a code means in the units of its kind: full scale (R71), trims (R139, R140), loop bands (R133, R134), the values of
R145 and R152.
-/
namespace Sys2Proof.Machine

/-- Full scale of a measuring slot in nA, µV or m°C (R71); VFb in 10 mV is used under the RATIO reference. -/
def Dev.fullScale (d : Dev) (k vf : Nat) : Frac :=
  let j := d.master k
  let bind := d.rd (Reg.HND_BIND j)
  match d.kind k with
  | 1 => if bitOf bind 11 then (2500000000000, d.rd (Reg.LP_R_EXT j)) else (25000000, 1)
  | 2 => (25000000, 1)
  | 3 =>
    if d.rd (Reg.BR_REF_SEL (d.chanOf k / 4)) = 2 ∧ bitOf bind 9 = false then ((vf * 10000 : Nat), 1)
    else if d.rd (Reg.CV_RANGE j) = 1 then (18750000, 1) else (75000000, 1)
  | 7 => match d.chanOf k % 4 with
    | 0 => (75000000, 1)
    | 1 => (256000, 1)
    | _ => (5000000, 1)
  | _ => (1, 1)

/-- The fraction of full scale a code stands for (R72). -/
def codeFrac (signed : Bool) (code : Int) : Frac := (code, if signed then 2 ^ 23 else 2 ^ 24)

/-- Zero and span trim of a loop slot; observers use their driver's (R139). -/
def Dev.trims (d : Dev) (k : Nat) : Int × Int :=
  let j := d.master k
  (d.rdI 32 (Reg.LP_TRIM_ZERO j), d.rdI 32 (Reg.LP_TRIM_SPAN j))

/-- I_t of R140 from I_c, both in nA. -/
def trimIn (z s : Int) (i : Frac) : Frac :=
  ((i.add (-4000000 - z, 1)).mul (16000000, (16000000 + s).toNat)).add (4000000, 1)

/-- I_d of R140 from the target in nA; a target of 0 disables the driver (R135). -/
def trimOut (z s : Int) (target : Nat) : Nat :=
  if target = 0 then 0
  else (clampInt 0 24000000 (roundDiv ((4000000 + z) * 16000000 + ((target : Int) - 4000000) * (16000000 + s)) 16000000)).toNat

/-- The setting code of the output driver (R135). -/
def outCode (iD : Nat) : Nat := min 251658 (roundDiv (iD * 2 ^ 18 : Nat) 25000000).toNat

/-- The calibrated fraction y after the trims of a LOOP_IN slot (R140). -/
def Dev.trimmed (d : Dev) (k vf : Nat) (y : Frac) : Frac :=
  if d.kind k = 1 then
    let (z, s) := d.trims k
    let fs := d.fullScale k vf
    Frac.over (trimIn z s (y.mul fs)) fs
  else y

/-- a < b for fractions. -/
def Frac.below (a b : Frac) : Bool := decide (a.1 * b.2 < b.1 * a.2)

/-- The band of a LOOP_IN record by its trimmed value in nA (R133, rows 2 to 8). -/
def bandOf (limit sat : Bool) (i : Frac) : Nat :=
  if limit then 4
  else if i.below (500000, 1) then 5
  else if !(Frac.below (3600000, 1) i) then 3
  else if sat || !(i.below (21000000, 1)) then 4
  else if i.below (3800000, 1) then 1
  else if Frac.below (20500000, 1) i then 2
  else 0

/-- The flags a band adds (R133). -/
def bandFlags (band : Nat) (f : RecFlags) : RecFlags :=
  { f with sat := f.sat || band ≠ 0, wire := f.wire || band = 5 }

/-- Judging one output of a loop slot (R133, R137): the flags, and the band and current of a LOOP_IN; sat is the SAT of R72. -/
def Dev.judge (d : Dev) (k : Nat) (code : Int) (limit sat : Bool) (f : RecFlags) : RecFlags × Option (Nat × Frac) :=
  if f.abort then (f, none)
  else if d.kind k = 1 then
    let i := (codeFrac (bitOf (d.rd (Reg.CV_FORMAT k)) 1) code).mul (d.fullScale k 0)
    let b := bandOf (limit || bitOf (d.rd (Reg.LP_STATUS (d.master k))) 0) sat i
    (bandFlags b f, some (b, i))
  else if d.kind k = 2 && bitOf (d.rd (Reg.LP_STATUS (d.master k))) 5 then ({ f with wire := true }, none)
  else (f, none)

/-- The target in force of a LOOP_OUT (R135): the compliance substitute, or the target last applied. -/
def Dev.loopTarget (d : Dev) (k : Nat) : Nat :=
  let c := d.chan (d.chanOf k)
  if c.subst then d.rd (Reg.LP_ALARM_LOW k) else c.target

/-- The channel is at alarm (R134): its LOOP_IN driver in FAIL_LOW, FAIL_HIGH or WIRE, or its loop output at a level of I:23, I:24 or of the
power-up codes 4 and 5 (R136). -/
def Dev.atAlarm (d : Dev) (n : Nat) : Bool :=
  let code := d.rd (Reg.PUP_CODE n)
  let pup := (d.chan n).pup && (code = 4 || code = 5)
  match d.pairDriver n with
  | none => pup
  | some k =>
    if d.kind k = 1 then decide (3 ≤ d.rd (Reg.LP_BAND k))
    else d.kind k = 2 && (pup || d.loopTarget k = d.rd (Reg.LP_ALARM_LOW k) || d.loopTarget k = d.rd (Reg.LP_ALARM_HIGH k))

/-- The time at alarm is kept up to now (R134): alarmNs what is not yet counted, alarmAt where it goes on. -/
def Dev.alarmMark (d : Dev) (n : Nat) : Dev :=
  let at' := d.atAlarm n
  d.modChan n fun c => { c with
    alarmNs := c.alarmNs + (match c.alarmAt with
      | none => 0
      | some t => d.now - t),
    alarmAt := if at' then some d.now else none }

/-- The band object follows, and the driver's band events are logged (R134). -/
def Dev.noteBand (d : Dev) (k : Nat) : Option (Nat × Frac) → Dev
  | none => d
  | some (b, i) =>
    let was := d.rd (Reg.LP_BAND k)
    let d := (d.wr (Reg.LP_BAND k) b).when (!d.isObserver k) (·.alarmMark (d.chanOf k))
    let src := d.rd (Reg.HND_ID k)
    if d.isObserver k || b = was then d
    else if b = 3 then d.log1 0x0380 src (ofInt 32 i.round)
    else if b = 4 then d.log1 0x0381 src (ofInt 32 i.round)
    else if b = 5 then d.log1 0x0382 src (ofInt 32 i.round)
    else if b = 0 ∧ 3 ≤ was then d.log1 0x0383 src was
    else d

/-- The code of a result word in the alignment and format of slot k. -/
def Dev.wordCode (d : Dev) (k w : Nat) : Int :=
  let fmt := d.rd (Reg.CV_FORMAT k)
  let data := if bitOf fmt 0 then w / 256 else w % 2 ^ 24
  if bitOf fmt 1 then toInt 24 data else data

/-- The status byte of a result word. -/
def Dev.wordStatus (d : Dev) (k w : Nat) : Nat :=
  if measuring (d.kind k) && bitOf (d.rd (Reg.CV_FORMAT k)) 0 then w % 256 else w / 2 ^ 24

/-- The value object of a measuring slot takes the newest latched record (R145, R152, R194), with the VFb of its own window under RATIO
(R79, R145); an ABORT record leaves it. -/
def Dev.showValue (d : Dev) (k : Nat) (r : Rec) : Dev :=
  let w := r.w
  if bitOf (d.wordStatus k w) 3 then d
  else
    let y := codeFrac (bitOf (d.rd (Reg.CV_FORMAT k)) 1) (d.wordCode k w)
    if d.kind k = 1 then d.wrI 32 (Reg.LP_IN_VALUE k) (y.mul (d.fullScale k 0)).round
    else if d.kind k = 3 then d.wrI 32 (Reg.VI_VALUE k) (y.mul (d.fullScale k r.vf)).round
    else d

end Sys2Proof.Machine
end

