-- ==== Sys2Proof/Machine/Filter.lean ====
section
/-!
DEFINITION. The filter chain (R100 to R130): configurations, settling count, delay, stages, cross-fade, banks and resets.
-/
namespace Sys2Proof.Machine

/-- One configuration of a unit: stage settings of R101 and the nominal window in ns (0 in fast mode). -/
structure Cfg where
  fast : Bool := false
  r    : Nat := 3
  m1   : Nat := 256
  s1   : Nat := 2
  base : Nat := 0
  n2   : Nat := 0
  m2   : Nat := 1
  s2   : Nat := 0
  n3   : Nat := 0
  m3   : Nat := 1
  s3   : Nat := 0
  ns   : Nat := 20000000
  deriving DecidableEq, Repr

/-- Nominal window length in ns of a window code (R68). -/
def winNs (code n : Nat) : Nat :=
  match code with
  | 1 => 16666667
  | 3 => 16666667
  | 4 => n * 250000
  | 5 => 0
  | _ => 20000000

/-- The slot that holds a unit, none where it is free. -/
def Dev.unitSlot (d : Dev) (i : Nat) : Option Nat :=
  let h := d.rd (Reg.FI_HANDLE i)
  if h = 0 then none else some (h % 128)

/-- The configuration of bank k of unit i for the handle that holds it; a free unit counts as window code 0 (R121). -/
def Dev.cfg (d : Dev) (i k : Nat) : Cfg :=
  let (fast, ns) := match d.unitSlot i with
    | none => (false, 20000000)
    | some s => (d.fast s, winNs (d.rd (Reg.CV_WINDOW (d.master s))) (d.rd (Reg.CV_WINDOW_N (d.master s))))
  { fast := fast, r := d.rd (Reg.FI_CIC_ORDER i), m1 := d.rd (Reg.FI_CIC_M i), s1 := d.rd (Reg.FI_CIC_SHIFT i),
    base := d.rd (Reg.BK_BASE i k), n2 := d.rd (Reg.BK_N2 i k), m2 := d.rd (Reg.BK_M2 i k), s2 := d.rd (Reg.BK_S2 i k),
    n3 := d.rd (Reg.BK_N3 i k), m3 := d.rd (Reg.BK_M3 i k), s3 := d.rd (Reg.BK_S3 i k), ns := ns }

/-- The coefficient words of n addresses from a. -/
def Dev.coefs (d : Dev) (a n : Nat) : List Int := (List.range n).map fun j => d.coefInt (a + j)

/-- The two coefficient sets of a configuration (R108). -/
def Dev.sets (d : Dev) (c : Cfg) : List Int × List Int := (d.coefs c.base c.n2, d.coefs (c.base + c.n2) c.n3)

/-- The DC gain of one FIR stage (R106). -/
def stageGain (cs : List Int) (s : Nat) : Frac := if cs = [] then (1, 1) else (cs.sum, 2 ^ s)

/-- The DC gain G (R106). -/
def Cfg.gain (c : Cfg) (w : List Int × List Int) : Frac :=
  let g1 : Frac := if c.fast then (((c.m1 ^ c.r : Nat) : Int), 2 ^ c.s1 * 2 ^ 23) else (1, 1)
  (g1.mul (stageGain w.1 c.s2)).mul (stageGain w.2 c.s3)

/-- N' of R113. -/
def tapsOr1 (n : Nat) : Nat := if n = 0 then 1 else n

/-- A of R113. -/
def Cfg.aSpan (c : Cfg) : Nat := tapsOr1 c.n2 + c.m2 * (tapsOr1 c.n3 - 1)

/-- Length of the impulse response of stage 1 in fast mode (R113). -/
def Cfg.l1 (c : Cfg) : Nat := c.r * (c.m1 - 1) + 1

/-- A number of windows as modulator clocks of the nominal window (R68). -/
def Cfg.clocks (c : Cfg) (windows : Nat) : Nat := (roundDiv (windows * c.ns * 4096 : Nat) 1000000).toNat

/-- L (R113). -/
def Cfg.len (c : Cfg) : Nat :=
  if c.fast then c.l1 + c.m1 * (tapsOr1 c.n2 - 1) + c.m1 * c.m2 * (tapsOr1 c.n3 - 1) else c.clocks c.aSpan

/-- M (R113). -/
def Cfg.dec (c : Cfg) : Nat := if c.fast then c.m1 * c.m2 * c.m3 else c.clocks (c.m2 * c.m3)

/-- The inputs of the FIR stages in the span of an output: L modulator clocks, or A windows (R115). -/
def Cfg.spanLen (c : Cfg) : Nat := if c.fast then (c.len + c.m1 - 1) / c.m1 else c.aSpan

/-- Settling count D (R113). -/
def Cfg.settle (c : Cfg) : Nat :=
  if c.fast then (c.len - 1 + c.dec - 1) / c.dec + 1 else (c.aSpan + c.m2 * c.m3 - 1) / (c.m2 * c.m3) + 1

/-- The set equals its reverse (R110). -/
def symmetric (cs : List Int) : Bool := cs = cs.reverse

/-- Delay of a FIR stage in its input samples (R121). -/
def stageDelay (cs : List Int) : Frac :=
  if cs = [] then (0, 1)
  else if symmetric cs then ((cs.length : Int) - 1, 2)
  else
    let k := (cs.zipIdx.map fun p => p.1 * (p.2 : Int)).sum
    Frac.over (k, 1) (cs.sum, 1)

/-- The delay τ in modulator clocks, for a window of kn / kd clocks (R121). A negative sum, which an asymmetric set can give, is taken as 0:
BK_DELAY_CLK is unsigned and the rule does not speak of it (DESIGN CHOICE, log entry 66). -/
def Cfg.delay (c : Cfg) (w : List Int × List Int) (k : Frac) : Nat :=
  let m1 : Frac := if c.fast then (c.m1, 1) else k
  let t1 : Frac := if c.fast then (((c.r * (c.m1 - 1) : Nat) : Int), 2) else (k.1, k.2 * 2)
  let t2 := m1.mul (stageDelay w.1)
  let t3 := (m1.mul (c.m2, 1)).mul (stageDelay w.2)
  ((t1.add t2).add t3).round.toNat

/-- The nominal window in modulator clocks. -/
def Cfg.nominal (c : Cfg) : Frac := ((c.ns * 4096 : Nat), 1000000)

/-- Modulator clocks in ns, rounded (R122). -/
def clocksNs (n : Nat) : Nat := (roundDiv (n * 15625 : Nat) 64).toNat

/-- A configuration is corrected (R122). -/
def Cfg.corrected (c : Cfg) (tau : Nat) : Bool := c.n2 ≤ 63 && tau ≤ 65535

/-- The nominal output period in ns (R123). -/
def Cfg.periodNs (c : Cfg) : Nat := if c.fast then clocksNs (c.m1 * c.m2 * c.m3) else c.ns * c.m2 * c.m3

/-- The load in multiply-accumulates per second, rounded up (R112). -/
def Cfg.load (c : Cfg) : Nat :=
  let n := c.n2 * c.m3 + c.n3 + 1
  if c.fast then let q := c.m1 * c.m2 * c.m3; (4096000 * n + q - 1) / q
  else let q := c.ns * c.m2 * c.m3; (1000000000 * n + q - 1) / q

/-- The sum of the reserved loads (R112). -/
def Dev.reserved (d : Dev) : Nat := (d.insts.map fun p => p.2.load + p.2.fadeLoad).sum

/-- Setting the reservations of a unit; I:16 and 5800:02 follow. -/
def Dev.setLoad (d : Dev) (i load fadeLoad : Nat) : Dev :=
  let d := d.modInst i fun x => { x with load := load, fadeLoad := fadeLoad }
  (d.wr (Reg.FI_LOAD i) (load + fadeLoad)).wr Reg.FE_RESERVED d.reserved

/-- A load fits beside all other reservations, the unit's own replaced by mine (R112). -/
def Dev.fits (d : Dev) (i mine : Nat) : Bool :=
  d.reserved - ((d.inst i).load + (d.inst i).fadeLoad) + mine ≤ 780000000

/-- Bank state (R111). -/
def Dev.bank (d : Dev) (i k : Nat) : Nat := d.rd (Reg.BK_STATE i k)

/-- Setting a bank's state; I:07 follows. -/
def Dev.setBank (d : Dev) (i k st : Nat) : Dev :=
  let d := d.wr (Reg.BK_STATE i k) st
  d.wr (Reg.FI_BANKS i) (d.bank i 0 + d.bank i 1 * 4 + d.bank i 2 * 16)

/-- The ACTIVE bank of a unit. -/
def Dev.active (d : Dev) (i : Nat) : Nat := d.rd (Reg.FI_ACTIVE i)

/-- The CRC of a bank (R110). -/
def Dev.bankCrc (d : Dev) (i k : Nat) : Nat :=
  let c := d.cfg i k
  let w := (List.range (c.n2 + c.n3)).map fun j => bytesLE 3 (d.coefAt (c.base + j))
  crc32 (bytesLE 2 c.base ++ [c.n2, c.m2, c.s2, c.n3, c.m3, c.s3] ++ w.flatten)

/-- Recomputing I:0F to I:14 of a unit for its ACTIVE bank (R113, R121 to R123). The numbers are stored whole, and a reader of an object
gets the low bits of its width; the spec does not say what a value beyond 32 bits reads as (DESIGN CHOICE, log entry 66). -/
def Dev.publish (d : Dev) (i : Nat) : Dev :=
  let c := d.cfg i (d.active i)
  let tau := c.delay (d.sets c) c.nominal
  ((((((d.wr (Reg.FI_D i) (c.settle % 65536)).wr (Reg.FI_L i) c.len).wr (Reg.FI_M i) c.dec).wr (Reg.FI_DELAY_NS i) (clocksNs tau)).wr
    (Reg.FI_TS_MODE i) (nat01 !(c.corrected tau))).wr (Reg.FI_OUT_PERIOD_NS i) c.periodNs).wr (Reg.FI_ACTIVE_CRC i)
    (d.rd (Reg.BK_CRC i (d.active i)))

/-- Storing delay and gain of a bank for the settings in force (R121). -/
def Dev.measureBank (d : Dev) (i k : Nat) : Dev :=
  let c := d.cfg i k
  let w := d.sets c
  (d.wr (Reg.BK_DELAY_CLK i k) (c.delay w c.nominal)).wr (Reg.BK_DCGAIN i k) (f32Of (c.gain w))

/-- The recomputation of R121 at a boundary: every READY, ACTIVE and TARGET bank, and I:0F to I:14. -/
def Dev.refreshUnit (d : Dev) (i : Nat) : Dev :=
  (d.each [0, 1, 2] fun d k => d.when (d.bank i k ≠ 0) (·.measureBank i k)).publish i

/-- A descriptor in its reset condition (R111, R128). -/
def Dev.clearBank (d : Dev) (i k : Nat) : Dev :=
  ((d.each [Reg.BK_BASE i k, Reg.BK_N2 i k, Reg.BK_M2 i k, Reg.BK_S2 i k, Reg.BK_N3 i k, Reg.BK_M3 i k, Reg.BK_S3 i k,
    Reg.BK_SYM i k, Reg.BK_DELAY_CLK i k, Reg.BK_DCGAIN i k, Reg.BK_CRC i k] fun d a => d.wr a (dfltOf a))).setBank i k 0

/-- Bank A ACTIVE in its reset condition, with the values a check would give (R111). -/
def Dev.bankAReset (d : Dev) (i : Nat) : Dev :=
  let d := ((d.clearBank i 0).wr (Reg.FI_ACTIVE i) 0).setBank i 0 2
  let d := (d.wr (Reg.BK_SYM i 0) 3).wr (Reg.BK_CRC i 0) (d.bankCrc i 0)
  d.refreshUnit i

/-- The banks of a unit as a create takes it (R111). -/
def Dev.resetBanks (d : Dev) (i : Nat) : Dev := ((d.clearBank i 1).clearBank i 2).bankAReset i

/-- Taking a unit for a handle (R40, R41, R111). -/
def Dev.takeUnit (d : Dev) (i h : Nat) (metrology : Bool) : Dev :=
  let d := ((d.wr (Reg.FI_HANDLE i) h).wr (Reg.FI_STATE i) 1).wr (Reg.FI_CLASS i) (nat01 metrology)
  ((d.setInst i {}).resetBanks i).setLoad i 0 0

/-- Freeing a unit (R40, R111, R112). -/
def Dev.freeUnitOf (d : Dev) (i : Nat) : Dev :=
  let d := (d.setLoad i 0 0).setInst i {}
  let d := (((d.wr (Reg.FI_HANDLE i) 0).wr (Reg.FI_STATE i) 0).wr (Reg.FI_CLASS i) 0).wr (Reg.FI_FADE_TARGET i) 0xFF
  (((d.wr (Reg.FI_PENDING i) 0xFF).wr (Reg.FI_FADE_STATE i) 0).wr (Reg.FI_FADE_POS i) 0).resetBanks i

/-- The engine's source code for a unit: its handle. -/
def Dev.unitSrc (d : Dev) (i : Nat) : Nat := d.rd (Reg.FI_HANDLE i)

/-! Stages (R104, R105, R114). -/

/-- Shift, round and clamp of R104: the value and whether it clamped. -/
def shiftClamp (a : Int) (s : Nat) : Int × Bool :=
  let y := if s = 0 then a else (a + 2 ^ (s - 1)) / 2 ^ s
  (clampInt (-0x800000) 0x7FFFFF y, decide (y < -0x800000 ∨ 0x7FFFFF < y))

/-- What a stage gives: its history and phase, whether an output fell due, the output and whether it clamped. -/
structure StageOut where
  h   : List Int
  p   : Nat
  due : Bool
  y   : Option Int
  clamped : Bool := false

/-- One input of a FIR stage: an empty history fills with its first input (R114); no coefficients bypass the stage. -/
def firPush (cs : List Int) (m s : Nat) (h : List Int) (p : Nat) (x : Option Int) : StageOut :=
  if cs = [] then ⟨h, p, true, x, false⟩
  else
    let h := match x with
      | none => h
      | some v => if h = [] then List.replicate cs.length v else (v :: h).take cs.length
    if p + 1 < m then ⟨h, p + 1, false, none, false⟩
    else if h = [] then ⟨h, 0, true, none, false⟩
    else
      let a := toInt 56 (ofInt 56 ((cs.zip h).map fun q => q.1 * q.2).sum)
      let r := shiftClamp a s
      ⟨h, 0, true, some r.1, r.2⟩

/-- Stages 2 and 3: the new histories, whether an output fell due, the output, and the stages that clamped as a mask. -/
def Fir.push (c : Cfg) (w : List Int × List Int) (f : Fir) (x : Option Int) : Fir × Bool × Option Int × Nat :=
  let a := firPush w.1 c.m2 c.s2 f.h2 f.p2 x
  let f := { f with h2 := a.h, p2 := a.p }
  if a.due then
    let b := firPush w.2 c.m3 c.s3 f.h3 f.p3 a.y
    ({ f with h3 := b.h, p3 := b.p }, b.due, b.y, nat01 a.clamped * 2 + nat01 b.clamped * 4)
  else (f, false, none, nat01 a.clamped * 2)

/-- The value u × 2^23 of a stage-3 output, exact (R106). -/
def normalFrac (g : Frac) (v : Int) : Frac := Frac.over (v, 1) g

/-- The normalised value of a stage-3 output in chain units (R106, R118). -/
def normalised (g : Frac) (v : Int) : Int := (normalFrac g v).round

/-- Pushing into the 56-bit integrators (R105). -/
def cicIntegrate (x : Int) : List Int → List Int
  | [] => []
  | a :: r => let b := toInt 56 (ofInt 56 (a + x)); b :: cicIntegrate b r

/-- The combs: the differences and the values they keep (R105). -/
def cicComb (x : Int) : List Int → List Int × Int
  | [] => ([], x)
  | a :: r => let q := cicComb (toInt 56 (ofInt 56 (x - a))) r; (x :: q.1, q.2)

/-- Stage 1 in fast mode, one bit: the unit and the stage output, if one falls due, with its clamp. -/
def Inst.cic (x : Inst) (c : Cfg) (bit : Bool) : Inst × Option (Int × Bool) :=
  let i0 := if x.integ = [] then List.replicate c.r 0 else x.integ
  let c0 := if x.combs = [] then List.replicate c.r 0 else x.combs
  let i1 := cicIntegrate (if bit then 1 else -1) i0
  if x.p1 + 1 < c.m1 then ({ x with integ := i1, combs := c0, p1 := x.p1 + 1 }, none)
  else
    let q := cicComb (i1.getLastD 0) c0
    ({ x with integ := i1, combs := q.1, p1 := 0 }, some (shiftClamp q.2 c.s1))

/-- The chain reset of R114. -/
def Inst.chainReset (x : Inst) (origin : Nat) : Inst :=
  { x with integ := [], combs := [], p1 := 0, fir := {}, outs := 0, synced := false, span := [], prev := none, clamp := 0,
           tIn := (origin * 4096 + 999999) / 1000000, tReset := origin }

/-! Banks, requests and fades (R110, R116 to R120). -/

/-- Pending request dropped (R120). -/
def Dev.dropPending (d : Dev) (i bank reason : Nat) : Dev :=
  ((d.wr (Reg.FI_PENDING i) 0xFF).modInst i fun x => { x with pendOk := false }).log1 0x0413 (d.unitSrc i) (bank + reason * 256)

/-- A bank may be faded to: READY, with the ACTIVE bank's M2 × M3 (R117). -/
def Dev.fadeable (d : Dev) (i b : Nat) : Bool :=
  let c := d.cfg i b
  let a := d.cfg i (d.active i)
  d.bank i b = 1 && c.m2 * c.m3 = a.m2 * a.m3

/-- The examination of the pending request (R120): dropped, or ready to start at the next boundary. -/
def Dev.examine (d : Dev) (i : Nat) : Dev :=
  let b := d.rd (Reg.FI_PENDING i)
  if b = 0xFF then d
  else if b = d.active i then d.dropPending i b 0
  else if !d.fadeable i b then d.dropPending i b 1
  else if !d.fits i ((d.inst i).load + (d.cfg i b).load) then d.dropPending i b 2
  else d.modInst i fun x => { x with pendOk := true }

/-- The TARGET becomes ACTIVE and the old ACTIVE READY (R118, R119). -/
def Dev.fadeDone (d : Dev) (i : Nat) : Dev :=
  let t := d.rd (Reg.FI_FADE_TARGET i)
  if t = 0xFF then d
  else
    let d := ((d.setBank i (d.active i) 1).setBank i t 2).wr (Reg.FI_ACTIVE i) t
    let d := ((d.wr (Reg.FI_FADE_TARGET i) 0xFF).wr (Reg.FI_FADE_STATE i) 0).wr (Reg.FI_FADE_POS i) 0
    let d := d.modInst i fun x => { x with fir := x.fade, fade := {} }
    let d := (d.setLoad i (d.cfg i t).load 0).publish i
    d.log1 0x0412 (d.unitSrc i) (t + d.rd (Reg.BK_CRC i t) % 2 ^ 24 * 256)

/-- A fade starts at the boundary: background phase (R118). The target's decimation phase is set so that its outputs fall with those
of the ACTIVE bank. -/
def Dev.fadeStart (d : Dev) (i b : Nat) : Dev :=
  let old := d.cfg i (d.active i)
  let c := d.cfg i b
  let x := d.inst i
  let pos := (if old.n3 = 0 then 0 else x.fir.p3 * old.m2) + (if old.n2 = 0 then 0 else x.fir.p2)
  let d := ((((d.setBank i b 3).wr (Reg.FI_FADE_TARGET i) b).wr (Reg.FI_FADE_STATE i) 1).wr (Reg.FI_FADE_POS i) 0).wr
    (Reg.FI_PENDING i) 0xFF
  let d := d.modInst i fun x => { x with
    fade := { h2 := [], p2 := pos % c.m2, h3 := [], p3 := pos / c.m2 }, fadeF := d.rd (Reg.FI_FADE_LEN i), fadeAt := d.now, pendOk := false }
  (d.setLoad i (d.inst i).load c.load).log1 0x0411 (d.unitSrc i) (b + d.active i * 256 + min 65535 c.settle * 65536)

/-- The named bank becomes ACTIVE on an instance that is not RUNNING (R116, R117). -/
def Dev.bankExchange (d : Dev) (i b : Nat) : Dev :=
  if b = d.active i then d
  else
    let d := ((d.setBank i (d.active i) 1).setBank i b 2).wr (Reg.FI_ACTIVE i) b
    let d := d.when (d.inst i).armed fun d => d.setLoad i (d.cfg i b).load 0
    d.publish i

/-- The instance's outputs carry SETTLE (R114). -/
def Dev.settlingUnit (d : Dev) (i : Nat) : Bool := (d.inst i).outs < (d.cfg i (d.active i)).settle

/-- A bank request that can no longer act is dropped like a pending one (R117); the pending request stays. -/
def Dev.dropRequest (d : Dev) (i bank reason : Nat) : Dev := d.log1 0x0413 (d.unitSrc i) (bank + reason * 256)

/-- A bank request acts at a boundary (R116, R117). One that reaches a fade is held whatever state its bank has by then: the table's row for
a fade names any bank, and its bank is examined when the fade ends (DESIGN CHOICE, log entry 66). -/
def Dev.bankReqAct (d : Dev) (i b : Nat) : Dev :=
  let st := d.rd (Reg.FI_STATE i)
  if st = 0 then d
  else if d.rd (Reg.FI_CLASS i) = 1 then (if st = 1 && d.bank i b = 1 then d.bankExchange i b else d)
  else if st = 1 then
    if b = d.active i then d
    else if !d.fadeable i b then d.dropRequest i b 1
    else if (d.inst i).armed && !d.fits i (d.cfg i b).load then d.dropRequest i b 2
    else d.bankExchange i b
  else if d.rd (Reg.FI_FADE_TARGET i) ≠ 0xFF then (d.wr (Reg.FI_PENDING i) b).modInst i fun x => { x with pendOk := false }
  else if b = d.active i then d
  else if !d.fadeable i b then d.dropRequest i b 1
  else if d.settlingUnit i then (d.wr (Reg.FI_PENDING i) b).modInst i fun x => { x with pendOk := false }
  else if d.fits i ((d.inst i).load + (d.cfg i b).load) then d.fadeStart i b
  else d.dropRequest i b 2

/-- At a boundary a pending request found ready starts its fade, where it still fits (R112, R120). -/
def Dev.startPending (d : Dev) (i : Nat) : Dev :=
  if (d.inst i).pendOk && d.rd (Reg.FI_STATE i) = 2 && d.rd (Reg.FI_FADE_TARGET i) = 0xFF then
    let b := d.rd (Reg.FI_PENDING i)
    if b = 0xFF then d
    else if !d.fadeable i b then d.dropPending i b 1
    else if d.fits i ((d.inst i).load + (d.cfg i b).load) then d.fadeStart i b
    else d.dropPending i b 2
  else d

/-- A forced end of a fade (R119); the pending request is considered at the first output without SETTLE. -/
def Dev.endFade (d : Dev) (i : Nat) : Dev :=
  (d.fadeDone i).modInst i fun x => { x with pendOk := false }

/-- A chain reset of the unit a handle holds, ending a fade (R114, R119). -/
def Dev.chainReset (d : Dev) (i origin : Nat) : Dev :=
  (d.endFade i).modInst i fun x => x.chainReset origin

/-! Records (R115, R118, R194). -/

/-- A record is late: a latch of its handle has already passed its output time (R194, R34). -/
def Slot.lateRec (x : Slot) (r : Rec) : Bool :=
  match x.cut with
  | none => false
  | some c => r.tOut ≤ c

/-- Placing a record in the pending buffer of a handle; a full buffer drops its oldest record (R194; R203 causes 4 and 5). -/
def Dev.pushRec (d : Dev) (k : Nat) (r : Rec) : Dev :=
  let x := d.slot k
  let full := x.pend.length ≥ 64
  let d := d.setSlot k { x with pend := (if full then x.pend.drop 1 else x.pend) ++ [r] }
  let d := d.when (x.lateRec r) (·.breach 4)
  d.when full fun d => (d.bump 32 Reg.SQ_BUF_DROPPED).breach 5

/-- The next SEQ of a handle (R74). -/
def Slot.nextSeq (x : Slot) : Nat := (x.seq + 1) % 512

/-- The signed format of a handle (R72). -/
def Dev.signedFmt (d : Dev) (k : Nat) : Bool := bitOf (d.rd (Reg.CV_FORMAT k)) 1

/-- Forming a record of a measuring handle: result and aux word, SEQ and times (R73, R74, R121, R122). -/
def Dev.formRec (d : Dev) (k : Nat) (code : Int) (f : RecFlags) (tOut tRep : Nat) (takesSeq : Bool := true) : Dev × Rec :=
  let x := d.slot k
  let seq := if takesSeq then x.nextSeq else x.seq
  let f := { f with unsync := d.canopy.timeLost }
  let r : Rec := { w := resultWord (bitOf (d.rd (Reg.CV_FORMAT k)) 0) code f, a := auxWord k seq f, tOut := tOut, tRep := tRep }
  (d.setSlot k { x with seq := seq }, r)

/-- One output of a filter: what it tells the loop and graft functions. -/
structure UnitOut where
  code  : Int := 0
  flags : RecFlags := {}
  r     : Rec := {}
  deriving DecidableEq, Repr

/-- Counting a clamp (R104, R130): FI_SAT_COUNT is counted by the output, the event logs the first clamp after 1 s without one. -/
def Dev.noteClamp (d : Dev) (i mask : Nat) : Dev :=
  if mask = 0 then d
  else
    let quiet := match (d.inst i).tSat with
      | none => true
      | some t => t + 1000000000 ≤ d.now
    let stage := if bitOf mask 0 then 1 else if bitOf mask 1 then 2 else if bitOf mask 2 then 3 else 4
    let d := d.modInst i fun x => { x with tSat := some d.now }
    d.when quiet fun d => d.log1 0x0414 (d.unitSrc i) stage

/-- The second filter of a fade passes over an input from before the fade (R118); its decimation phase keeps step. -/
def Fir.skip (c : Cfg) (f : Fir) : Fir :=
  if f.p2 + 1 < c.m2 then { f with p2 := f.p2 + 1 } else { f with p2 := 0, p3 := (f.p3 + 1) % max 1 c.m3 }

/-- The union of tags over a span (R115). -/
def spanOr (l : List Tag) : Tag :=
  l.foldl (fun a b => { a with subst := a.subst || b.subst, sat := a.sat || b.sat, limit := a.limit || b.limit }) {}

/-- Calibration from the modulator fraction x to the calibrated fraction y (R67): bipolar inputs span -1 to 1 (log entry 10). -/
def Cal.apply (c : Cal) (corr : Int) (bipolar : Bool) (x : Frac) : Frac :=
  let x := if bipolar then Frac.add (x.mul (2, 1)) (-1, 1) else x
  ((x.mul (c.gn, c.gd)).add (c.on, c.od)).mul (2 ^ 24 + corr, 2 ^ 24)

/-- A bipolar kind: differential voltage or die temperature (R71, R72). -/
def Dev.bipolar (d : Dev) (k : Nat) : Bool :=
  (d.kind k = 3 && bitOf (d.rd (Reg.HND_BIND k)) 9) || (d.kind k = 7 && d.chanOf k % 4 = 1)

/-- The calibration and correction of the converter that feeds a chain (R67, R106). -/
def Dev.feedCal (d : Dev) (k : Nat) (src : Role) : Cal × Int :=
  let ch := d.chan (d.chanOf k)
  match src with
  | .p => (ch.calP, ch.corrP)
  | .c => (ch.calC, ch.corrC)
  | .t => ({}, 0)

/-- The result code of an output u × 2^23 of the unit of slot k (R106): in fast mode through the calibration of the converter whose bits
feed the chain, without rounding before it. -/
def Dev.formatStage (d : Dev) (k : Nat) (fast : Bool) (src : Role) (u : Frac) : Int × Bool :=
  if fast then
    let c := d.feedCal k src
    codeOf (d.signedFmt k) (d.trimmed k 0 (c.1.apply c.2 (d.bipolar k) ((Frac.add u (2 ^ 23, 1)).mul (1, 2 ^ 24))))
  else codeOfChain (d.signedFmt k) u.round

/-- The output value in chain units: the ACTIVE value, or blend output kk of F with the TARGET value (R118). -/
def blendOf (a b : Int) (kk F : Nat) : Int := a + (2 * (b - a) * kk + F) / (2 * F)

/-- A coefficient word of a bank is uncorrectable: outputs formed with it are empty (R243). -/
def Dev.badWord (d : Dev) (c : Cfg) : Bool := d.coefBad.any fun a => c.base ≤ a && a < c.base + c.n2 + c.n3

/-- Forming one output of the unit of slot k (R115): flags, SETTLE count, SEQ, times, pending buffer; empty where v is none. vT is
the TARGET's output of the same instant in the blend phase, clk the window in modulator clocks. Empty outputs do not settle. From
output F on the represented time follows the new bank (R122). Whether it is corrected is judged with the window's own length, of which
the rule's τ ≤ 65 535 and the nominal one of I:13 can differ (DESIGN CHOICE, log entry 66). -/
def Dev.emit (d : Dev) (k i : Nat) (c : Cfg) (w : List Int × List Int) (v vT : Option Int) (mask : Nat) (tag : Tag)
    (clk : Frac) (tOut : Nat) : Dev × UnitOut :=
  let x := d.inst i
  let kk := d.rd (Reg.FI_FADE_POS i) + 1
  let ct := d.cfg i (d.rd (Reg.FI_FADE_TARGET i))
  let last := vT.isSome && decide (x.fadeF ≤ kk)
  let tau := if last then ct.delay (d.sets ct) clk else c.delay w clk
  let pub := !(if last then ct else c).corrected tau
  let tRep := if pub then tOut else tOut - clocksNs tau
  let v := if d.badWord c || (vT.isSome && d.badWord ct) then none else v
  match v with
  | none =>
    let f : RecFlags := { abort := true, test := tag.test, degr := tag.degr, synced := x.synced }
    let (d, r) := d.formRec k 0 f tOut tRep
    let r := { r with pub := pub, vf := tag.vf }
    ((d.modInst i fun x => { x with synced := false }).pushRec k r, { code := 0, flags := f, r := r })
  | some v =>
    let u : Frac := match vT with
      | none => normalFrac (c.gain w) v
      | some b => (blendOf (normalised (c.gain w) v) (normalised (ct.gain (d.sets ct)) b) kk x.fadeF, 1)
    let fc := d.formatStage k c.fast tag.src u
    let span := spanOr (x.span.take (if vT.isSome then max c.spanLen ct.spanLen else c.spanLen))
    let outs := x.outs + 1
    let settle := outs ≤ c.settle
    let sat := span.sat || fc.2
    let f : RecFlags := {
      settle := settle, countdown := if settle then min 15 (c.settle - outs) else 0,
      subst := span.subst, sat := sat || mask ≠ 0, wire := tag.wire, plaus := tag.plaus,
      fade := vT.isSome && kk < x.fadeF, synced := x.synced, test := tag.test, degr := tag.degr }
    let (f, band) := d.judge k fc.1 span.limit sat f
    let (d, r) := d.formRec k fc.1 f tOut tRep
    let r := { r with pub := pub, vf := tag.vf }
    let d := ((d.modInst i fun x => { x with outs := outs, synced := false }).pushRec k r).noteBand k band
    let d := (d.noteClamp i (nat01 fc.2 * 8)).when f.sat fun d => d.bump 32 (Reg.FI_SAT_COUNT i)
    let d := d.when vT.isSome fun d =>
      let d := d.wr (Reg.FI_FADE_POS i) kk
      d.when last fun d => (d.fadeDone i).examine i
    let d := d.when (!settle && d.rd (Reg.FI_FADE_TARGET i) = 0xFF && d.rd (Reg.FI_PENDING i) ≠ 0xFF && !(d.inst i).pendOk) (·.examine i)
    (d, { code := fc.1, flags := f, r := r })

/-- One stage-1 output or window enters stages 2 and 3 of the unit of slot k (R101, R114, R115, R118): none for an ABORT input. The second
filter of a fade takes none from before the fade. A sample that a stage clamped sets SAT on the first output formed after it, not
on later ones whose history still holds it; the rule says the output that the sample reaches (DESIGN CHOICE, log entry 66). -/
def Dev.feed (d : Dev) (k i : Nat) (x : Option Int) (mask1 : Nat) (tag : Tag) (clk : Frac) (tOut : Nat) : Dev × Option UnitOut :=
  let c := d.cfg i (d.active i)
  let w := d.sets c
  let u := d.inst i
  let held := x.isNone
  let v := match x with
    | some v => some v
    | none => u.prev
  let tag := if held && v.isSome then { tag with subst := true } else tag
  let pass := !c.fast && c.n2 = 0 && c.n3 = 0
  let st := d.rd (Reg.FI_FADE_STATE i)
  let (fir, due, y, mask) := u.fir.push c w (if pass && held && st ≠ 2 then none else v)
  let t := d.rd (Reg.FI_FADE_TARGET i)
  let ct := d.cfg i t
  let (fade, dueT, yT, maskT) :=
    if t = 0xFF then (u.fade, false, none, 0)
    else if tOut ≤ u.fadeAt then (u.fade.skip ct, false, none, 0)
    else u.fade.push ct (d.sets ct) v
  let spanLen := if t = 0xFF then c.spanLen else max c.spanLen ct.spanLen
  let clamps := mask1 ||| mask ||| (if st = 2 then maskT else 0)
  let d := (d.setInst i { u with
    fir := fir, fade := fade, prev := v, span := ((tag :: u.span).take spanLen), clamp := if due then 0 else u.clamp ||| clamps }).noteClamp
    i clamps
  let (d, o) := if due then
      let r := d.emit k i c w y (if st = 2 then some (yT.getD 0) else none) (u.clamp ||| clamps) tag clk tOut
      (r.1, some r.2)
    else (d, none)
  let d := d.when (st = 1 && dueT) fun d =>
    let pos := d.rd (Reg.FI_FADE_POS i) + 1
    if pos ≥ ct.settle then (d.wr (Reg.FI_FADE_STATE i) 2).wr (Reg.FI_FADE_POS i) 0 else d.wr (Reg.FI_FADE_POS i) pos
  (d, o)

/-- The ring time of a modulator clock (R22). -/
def clockTime (m : Nat) : Nat := (m * 1000000 + 2048) / 4096

/-- The bits of a BITSTREAM word that belong to the modulator clocks from the latest chain reset on (R114, R125): those of the word that
arrives at t end with the clock then running. -/
def Inst.fresh (x : Inst) (bits : List Bool) (t : Nat) : List Bool :=
  bits.drop ((x.tReset * 4096 + 999999) / 1000000 + 31 - t * 4096 / 1000000)

/-- The bits of a BITSTREAM word enter stage 1 of the unit of slot k, oldest first (R70, R103); with abort its outputs are ABORT inputs to
the stages behind (R78, R115). -/
def Dev.feedBits (d : Dev) (k i : Nat) (bits : List Bool) (abort : Bool) (tag : Tag) : Dev × List UnitOut :=
  bits.foldl (fun (p : Dev × List UnitOut) b =>
    let d := p.1
    let c := d.cfg i (d.active i)
    let (x, o) := (d.inst i).cic c b
    let clk := x.tIn
    let d := d.setInst i { x with tIn := x.tIn + 1 }
    match o with
    | none => (d, p.2)
    | some (v, cl) =>
      let r := d.feed k i (if abort then none else some v) (nat01 (cl && !abort)) tag (1, 1) (clockTime clk)
      (r.1, p.2 ++ r.2.toList)) (d, [])

/-! Bank checks (R110, R111). -/

/-- The checks of R110 on bank k of unit i. -/
def Dev.bankPasses (d : Dev) (i k : Nat) : Bool :=
  let c := d.cfg i k
  let w := d.sets c
  let g := c.gain w
  c.n2 ≤ 255 && c.n3 ≤ 63 && 1 ≤ c.m2 && c.m2 ≤ 16 && 1 ≤ c.m3 && c.m3 ≤ 8 && c.s2 ≤ 31 && c.s3 ≤ 31 &&
    (c.n2 ≠ 0 || c.m2 = 1) && (c.n3 ≠ 0 || c.m3 = 1) && c.base + c.n2 + c.n3 ≤ 0x10000 &&
    (!c.fast || 256 ≤ c.m1 * c.m2 * c.m3) && (c.n2 < 64 || (symmetric w.1 && symmetric w.2)) &&
    g.2 ≤ g.1.natAbs * 256 && g.1.natAbs ≤ 256 * g.2

/-- Storing what a successful check stores; the state is st (R110). -/
def Dev.bankChecked (d : Dev) (i k st : Nat) : Dev :=
  let w := d.sets (d.cfg i k)
  let d := (d.wr (Reg.BK_SYM i k) (nat01 (symmetric w.1) + nat01 (symmetric w.2) * 2)).wr (Reg.BK_CRC i k) (d.bankCrc i k)
  (d.measureBank i k).setBank i k st

/-- The words a bank occupies hold address a (R109). -/
def Dev.bankHolds (d : Dev) (i k a : Nat) : Bool :=
  let b := d.rd (Reg.BK_BASE i k)
  b ≤ a && a < b + d.rd (Reg.BK_N2 i k) + d.rd (Reg.BK_N3 i k)

/-- The banks whose state is not FREE, as (unit, bank); bank A of every free unit is ACTIVE with an empty region and left out. -/
def Dev.banksInUse (d : Dev) : List (Nat × Nat) :=
  (List.range 32).flatMap fun i => ([0, 1, 2].filter fun k => d.bank i k ≠ 0).map fun k => (i, k)

/-- A coefficient address lies in an ACTIVE or TARGET bank (R109). -/
def Dev.coefBusy (d : Dev) (a : Nat) : Bool := d.banksInUse.any fun p => 2 ≤ d.bank p.1 p.2 && d.bankHolds p.1 p.2 a

/-- An accepted coefficient write: the word, READY banks that hold it, and the address (R107, R109). -/
def Dev.coefWrite (d : Dev) (v : Nat) : Dev :=
  let a := d.rd Reg.CR_ADDR
  let d := d.each (d.banksInUse.filter fun p => d.bankHolds p.1 p.2 a) fun d p => d.setBank p.1 p.2 0
  (d.setCoef a v).wr Reg.CR_ADDR ((a + 1) % 65536)

/-! Synchronising reset (R124 to R126). -/

/-- The first branch tick at or after a ring time; tick m falls at m × 15625 / 256 ns (R22, R192). -/
def tickUp (t : Nat) : Nat := (256 * t + 15624) / 15625

/-- The branch tick nearest to a ring time in 1/256 ns (R68). -/
def tickNear (u : Nat) : Nat := (2 * u + 15625) / 31250

/-- The ring time of a branch tick in ns, rounded (R22). -/
def tickNs (m : Nat) : Nat := (2 * m * 15625 + 256) / 512

/-- The next window of a slot's grid opens where the last one ended, with the length of its window code (R68, R69): the ideal end in
1/256 ns follows 16 666 667 ns under code 1 and under code 3 without a lock, and the tick elsewhere. -/
def Dev.openWindow (d : Dev) (k : Nat) : Dev :=
  let x := d.slot k
  let code := d.rd (Reg.CV_WINDOW k)
  let locked := d.rd (Reg.CV_MAINS_STATE k) = 2
  let stop : Nat × Nat :=
    if code = 1 ∨ (code = 3 ∧ ¬ locked) then
      let i := x.ideal + 256 * 16666667
      (tickNear i, i)
    else
      let e := x.winEnd + (if code = 4 then 4096 * d.rd (Reg.CV_WINDOW_N k) else if code = 5 then 65536
        else if (code = 2 ∨ code = 3) ∧ locked then tickNear (256 * x.mPeriod) else 327680)
      (e, 15625 * e)
  d.setSlot k { x with winTick := x.winEnd, winEnd := stop.1, ideal := stop.2, blkP := (0, 0), blkC := (0, 0), blkT := (0, 0) }

/-- The branch ticks of the running window of a slot (R67, R68). -/
def Dev.windowTicks (d : Dev) (k : Nat) : Nat := (d.slot k).winEnd - (d.slot k).winTick

/-- The converters of a slot sample their start residues afresh (R67). -/
def Dev.freshResidues (d : Dev) (k : Nat) : Dev :=
  if usesPair (d.kind k) then d.modChan (d.chanOf k) fun c => { c with resP := none, resC := none, resT := none } else d

/-- The grid of a slot takes its origin at a branch tick; its first result carries SETTLE (R65, R95). -/
def Dev.gridFrom (d : Dev) (k tick : Nat) : Dev :=
  ((d.modSlot k fun x => { x with
    winEnd := tick, ideal := 15625 * tick, settleNext := true, await := false, needOrg := false }).openWindow k).freshResidues k

/-- The grid of a slot takes its origin at the first branch tick at or after t (R192). -/
def Dev.beginGrid (d : Dev) (k t : Nat) : Dev := d.gridFrom k (tickUp t)

/-- The first modulator clock at or after a ring time (R22, R124). -/
def clockUp (t : Nat) : Nat := (t * 4096 + 999999) / 1000000

/-- A synchronising reset of one unit at an instant: chain reset, grid restart, SYNCED. A test due moves on (R87), and P restarts with
the grid unless an urgent conversion runs (R91). -/
def Dev.syncUnit (d : Dev) (i t : Nat) : Dev :=
  let d := (d.chainReset i t).modInst i fun x => { x with synced := true }
  match d.unitSlot i with
  | none => d
  | some k =>
    if d.isObserver k then d
    else (d.modSlot k fun x => { x with
      owExtra := x.owExtra || x.testNow, testNow := false, urgNeed := x.urgRun }).gridFrom k (4 * clockUp t)

/-- Amending the latest record of a code by a change of its detail: in the log, in the staging buffer, and in the packet that carries it. -/
def Dev.amend (d : Dev) (code : Nat) (f : Nat → Nat) : Dev :=
  match (d.log ++ d.staging).reverse.find? fun r => r.code = code with
  | none => d
  | some r =>
    let g := fun (x : EvRec) => if x = r then { x with det := f x.det } else x
    { d with
      log := d.log.map g, staging := d.staging.map g,
      queues := d.queues.map fun p => (p.1, { p.2 with pkts := p.2.pkts.map fun k =>
        if k.ty = 0x10 ∧ k.bytes = r.bytes then { k with bytes := (g r).bytes } else k }) }

/-- A synchronising reset of a set of groups: source 0 ring, 1 step, 2 land. Sources in one modulator clock act as one: one count and one
event, which names the groups of all of them and the source that came first (R126). -/
def Dev.syncGroups (d : Dev) (mask source t : Nat) : Dev :=
  if mask = 0 then d
  else
    let us := (List.range 32).filter fun i =>
      let g := d.rd (Reg.FI_SYNC_GROUP i)
      d.rd (Reg.FI_STATE i) = 2 && g < 8 && bitOf mask g
    let d := d.each us fun d i => d.syncUnit i t
    if d.syncClk = some (clockUp t) then d.amend 0x0415 fun x => x ||| mask % 256
    else ({ d with syncClk := some (clockUp t) }.bump 32 Reg.FE_SYNC_COUNT).log1 0x0415 0xFFF8 (mask % 256 + source * 256)

end Sys2Proof.Machine
end

