-- ==== Sys2Proof/Machine/Switches.lean ====
section
/-!
DEFINITION. Protected load switches (R159 to R188): the channel's state machine, its protection, retry, compensation, clamp, load
tests and failed halves. A pair shares one state, held on its even channel (R178).
-/
namespace Sys2Proof.Machine

/-! Channel states (R162). -/

abbrev swOFF : Nat := 0
abbrev swON : Nat := 1
abbrev swPWM : Nat := 2
abbrev swRETRYING : Nat := 3
abbrev swOC_LATCH : Nat := 4
abbrev swTHERMAL_HOLD : Nat := 5
abbrev swTHERMAL_LATCH : Nat := 6
abbrev swSTUCK_ON : Nat := 7

/-- The states whose handle is LATCHED (R162). -/
def swLatched (st : Nat) : Bool := st = 4 || st = 6 || st = 7

/-- The crown hears a branch: the crown runs at a rung that parks no branch (R408), and its link to it is UP. -/
def Dev.hears (d : Dev) (b : Nat) : Bool := d.crownUp && d.rd Reg.PL_RUNG ≤ 1 && d.link b = 1

/-- A report of a branch (R16, R25): a protection word on the link, or held in the branch's buffer of 32 while the link is down, later
ones counted in the last buffered word (R183). -/
def Dev.protect (d : Dev) (n code det : Nat) : Dev :=
  let b := n / 4
  let e : ProtEv := { chan := n, code := code, det := det, state := (d.chan n).state, time := d.now }
  let x := d.branch b
  if d.hears b && x.linkUp then d.toCrown b (.prot e)
  else if x.buf.length < 32 then d.setBranch b { x with buf := x.buf ++ [e] }
  else d.setBranch b { x with buf := x.buf.dropLast ++ (x.buf.getLast?.map fun l => { l with more := l.more + 1 }).toList }

/-- A judgement of a branch that is no protection action: logged at once where the crown hears the branch, else reported as above. -/
def Dev.report (d : Dev) (n code src det : Nat) : Dev :=
  if d.hears (n / 4) then d.log1 code src det else d.protect n code det

/-- The driver handle of the channel becomes LATCHED (R49): RUNNING, STOPPED or SAFE only. -/
def Dev.latchHandle (d : Dev) (n : Nat) : Dev :=
  match d.drvP n with
  | none => d
  | some k =>
    let st := d.hst k
    if st = RUNNING || st = STOPPED then (d.modSlot k fun x => { x with prior := st }).wr (Reg.HND_STATE k) LATCHED
    else if st = HSAFE then
      (d.modSlot k fun x => { x with prior := if x.prior = LATCHED then x.left else x.prior }).wr (Reg.HND_STATE k) LATCHED
    else d

/-- Entering a latched state, with its cause (R163, R186); the handle follows where the crown hears the branch, else at adoption. -/
def Dev.swLatch (d : Dev) (n st cause : Nat) : Dev :=
  let d := d.modChan n fun c => { c with state := st, cause := cause, flags := setBit c.flags 7 false, tOff := some d.now, inSeq := false }
  d.when (d.hears (n / 4)) (·.latchHandle n)

/-- Turning off into a state that does not latch; a gap that starts with it has the length now in force (R170). -/
def Dev.swOff (d : Dev) (n st : Nat) : Dev :=
  d.modChan n fun c => { c with
    state := st, flags := setBit c.flags 7 false, tOff := some d.now, gapRun := c.set.gap, onTicks := 0, inSeq := c.inSeq && st ≠ swOFF }

/-- No half of the channel, or of the pair, can conduct (R181, R187). -/
def halvesGone (w : Worn) (chans : List Nat) : Bool := chans.all fun m => w.lost.toNat.testBit m

/-- The halves of channel n still in service: 2, 1 or 0 (R180). -/
def halvesLeft (w : Worn) (n : Nat) : Nat :=
  if w.lost.toNat.testBit n then 0 else 2 - nat01 (w.halves.toNat.testBit (2 * n)) - nat01 (w.halves.toNat.testBit (2 * n + 1))

/-- DERATED: a half of the channel, or of the pair, is retired (R179, R180). -/
def derated (w : Worn) (chans : List Nat) : Bool := chans.any fun m => halvesLeft w m < 2

/-- The effective I_TRIP in mA (R164, R179, R180). -/
def Dev.iTrip (d : Dev) (w : Worn) (n : Nat) : Nat :=
  let ch := d.pairChans n
  let s := (d.chan n).set
  if ch.length = 2 then (if derated w ch then min 4000 (s.iTrip * 500) else s.iTrip * 500)
  else (if derated w ch then min 1500 (s.iTrip * 250) else s.iTrip * 250)

/-- The effective I_LIM in mA (R168, R179, R180), of the attempt that runs or ran last (R170). -/
def Dev.iLim (d : Dev) (w : Worn) (n : Nat) : Nat :=
  let ch := d.pairChans n
  let i := (d.chan n).limRun
  if ch.length = 2 then (if derated w ch then min 8000 (i * 500) else i * 500)
  else (if derated w ch then min 4000 (i * 250) else i * 250)

/-- The threshold of the short-circuit comparator of channel n in mA (R165): 12 A, lowered to 6 A at the retirement of a half of that
channel (R179, R180) and on no other occasion. -/
def shortThreshold (w : Worn) (n : Nat) : Nat :=
  if w.halves.toNat.testBit (2 * n) || w.halves.toNat.testBit (2 * n + 1) then 6000 else 12000

/-- I:23 of the switch on channel n: its sensor, the higher of both for a pair (R160). -/
def Dev.swTemp (d : Dev) (n : Nat) : Int := (d.pairChans n).foldl (fun t m => max t (d.chan m).temp) (d.chan n).temp

/-- Cool (R163): I:23 is below 150 °C. -/
def Dev.cool (d : Dev) (n : Nat) : Bool := d.swTemp n < 1500

/-- The branch may turn switches on: VFb valid, no start lock and no under-voltage lock (R404). -/
def Dev.mayConduct (d : Dev) (n : Nat) : Bool :=
  let x := d.branch (n / 4)
  x.valid && !x.startLock && !x.uvlo

/-- The remainder is exhausted (R163). -/
def Dev.swExhaust (d : Dev) (n ma : Nat) : Dev := (d.swLatch n swOC_LATCH 3).protect n 0x0304 (min 65535 (ma / 10))

/-- One attempt starts with the limits now in force (R170), or OC_LATCH where no count remains (R169). -/
def Dev.swAttempt (d : Dev) (n : Nat) (fromHold : Bool) : Dev :=
  let c := d.chan n
  if c.left = 0 then d.swExhaust n c.iFail
  else
    let d := d.setChan n { c with
      left := c.left - 1, state := swRETRYING, flags := setBit c.flags 7 true, tries := c.tries + 1, limRun := c.set.iLim,
      timRun := c.set.tLim, tTry := d.now }
    d.when fromHold fun d => d.protect n 0x0306 (ofInt 16 (d.swTemp n) + (c.left - 1) * 65536)

/-- A retry sequence starts, with or without a first gap (R169). -/
def Dev.swSequence (d : Dev) (n : Nat) (gapFirst : Bool) : Dev :=
  let c := d.chan n
  let d := (d.setChan n { c with state := swRETRYING, tries := 0, inSeq := true, flags := setBit c.flags 7 false }).protect n 0x0302 c.left
  if gapFirst then d else d.swAttempt n false

/-- Full conduction as requested (R163); a sequence has ended. -/
def Dev.swConduct (d : Dev) (n : Nat) : Dev :=
  d.modChan n fun c => { c with
    state := if c.force.cmd = 2 then swPWM else swON, flags := setBit c.flags 7 false,
    dAct := if c.force.cmd = 2 then c.dAct else 65536, inSeq := false }

/-- The rows of R163 for OFF with a request in force; a channel without a half that can conduct ignores it (R181). -/
def Dev.swFromOff (d : Dev) (w : Worn) (n : Nat) : Dev :=
  let c := d.chan n
  if c.force.cmd = 0 ∨ c.stayOff = true ∨ halvesGone w (d.pairChans n) = true ∨ d.mayConduct n = false then d
  else if !d.cool n then d.swOff n swTHERMAL_HOLD
  else if c.set.lamp then d.swSequence n false
  else d.swConduct n

/-- The gap has passed since an instant (R163, R169). -/
def gapPast (gapUs now : Nat) (t : Option Nat) : Bool :=
  match t with
  | none => true
  | some t => t + gapUs * 1000 ≤ now

/-- THERMAL_HOLD is left when cool, on request and a gap after the last thermal trip (R163); a lamp channel resumes its sequence, or
starts one where none was running (R169). -/
def Dev.swResume (d : Dev) (w : Worn) (n : Nat) : Dev :=
  let c := d.chan n
  if c.state = swTHERMAL_HOLD ∧ d.cool n = true ∧ c.force.cmd ≠ 0 ∧ gapPast c.gapRun d.now c.tTherm ∧ d.mayConduct n = true ∧
      halvesGone w (d.pairChans n) = false then
    if c.set.lamp then
      if c.inSeq then d.swAttempt n true else ((d.setChan n { c with inSeq := true, tries := 0 }).protect n 0x0302 c.left).swAttempt n true
    else (d.swConduct n).protect n 0x0306 (ofInt 16 (d.swTemp n) + c.left * 65536)
  else if c.state = swRETRYING ∧ bitOf c.flags 7 = false ∧ d.cool n = true ∧ c.force.cmd ≠ 0 ∧ gapPast c.gapRun d.now c.tOff then
    d.swAttempt n false
  else d

/-- The request in force changes (R163). -/
def Dev.swRequest (d : Dev) (w : Worn) (n : Nat) (v : OutVal) : Dev :=
  let c := d.chan n
  let d := d.setChan n { c with force := v, stayOff := c.stayOff && v.cmd = 0 }
  if c.state = swOFF then d.swFromOff w n
  else if v.cmd = 0 then
    if c.state = swON ∨ c.state = swPWM ∨ c.state = swRETRYING ∨ c.state = swTHERMAL_HOLD then
      (d.modChan n fun c => { c with prev := c.state }).swOff n swOFF
    else d
  else if c.state = swON ∧ v.cmd = 2 then d.modChan n fun c => { c with state := swPWM }
  else d

/-- The driver of a channel is a switch, or it has none and its power-up posture is ON or ON_PAIR. -/
def Dev.isSwChan (d : Dev) (n : Nat) : Bool :=
  match d.drvP n with
  | some k => isSwitch (d.kind k)
  | none => (d.chan n).pup || (d.chan n).state ≠ 0

/-- The setting code of a loop output for a target (R135, R140), with the trims of the branch store (R136). -/
def Chan.driveFor (c : Chan) (nA : Nat) : Nat := outCode (trimOut c.trimZ c.trimS nA)

/-- A value becomes the output of a channel: switch request, loop target and transmitter supply (R27, R132, R135, R161). -/
def Dev.setOutput (d : Dev) (w : Worn) (n : Nat) (v : OutVal) : Dev :=
  if d.isSwChan n then d.swRequest w (d.lead n) v
  else
    (d.modChan n fun c => { c with
      force := v, target := v.nA, txOn := v.tx = 1 && !c.txOff, drive := if c.subst then c.drive else c.driveFor v.nA }).alarmMark n

/-- A conducting channel was turned off by its request in this very tick (R185). -/
def Chan.meetsOff (c : Chan) (t : Nat) : Bool :=
  c.state = swOFF && c.tOff = some t && c.force.cmd = 0 && (c.prev = swON || c.prev = swPWM)

/-- An over-current trip or a short-circuit cut-off of a conducting channel (R163, R164, R165); one that meets a request of OFF still
latches a channel without LAMP (R185). -/
def Dev.swTrip (d : Dev) (n code cause det : Nat) : Dev :=
  let c := d.chan n
  if c.state = swON ∨ c.state = swPWM then
    let d := (d.setChan n { c with prev := c.state }).protect n code (det + c.state * 2 ^ 24)
    if c.set.lamp then (d.swOff n swRETRYING).swSequence n true
    else d.swLatch n swOC_LATCH cause
  else if c.meetsOff d.now then
    let d := d.protect n code (det + c.prev * 2 ^ 24)
    if c.set.lamp then d else d.swLatch n swOC_LATCH cause
  else d

/-- The channel was turned off by a thermal trip in this very tick (R185). -/
def Chan.meetsThermal (c : Chan) (t : Nat) : Bool := (c.state = swTHERMAL_HOLD || c.state = swTHERMAL_LATCH) && c.tTherm = some t

/-- An attempt fails (R163, R168, R169); the failure of the last attempt counts before a thermal trip of the same tick (R185). -/
def Dev.swFail (d : Dev) (n ma : Nat) : Dev :=
  let c := d.chan n
  if c.state = swRETRYING ∧ bitOf c.flags 7 = true then
    let d := d.modChan n fun c => { c with iFail := ma, prev := swRETRYING }
    if c.left = 0 then d.swExhaust n ma else d.swOff n swRETRYING
  else if c.meetsThermal d.now && c.prev = swRETRYING && c.left = 0 then
    (d.setChan n { c with iFail := ma }).swExhaust n ma
  else d

/-- OVERCURRENT_TRIP (R164): the trip filter has run out with the current above I_TRIP. -/
def execOvercurrentTrip (n : ChanNo) (ma t : Nat) (s : State) : Host.Outcome State Fault Refusal :=
  s.run fun e d =>
    let d := d.at t
    let m := d.lead n
    if d.iTrip e.worn m < ma then d.swTrip m 0x0300 1 (min 65535 (ma / 10)) else d

/-- SHORT_CIRCUIT (R165): a cut-off of a conducting channel, or of an attempt, which then has failed (R168). In one tick with a thermal
trip both events are logged, and a channel without LAMP latches as over-current (R185). The current of the cut-off, at or above the
channel's own threshold, is a free value (log entry 15). -/
def execShortCircuit (n : ChanNo) (t : Nat) (s : State) : Host.Outcome State Fault Refusal :=
  s.run fun e d =>
    let ma := shortThreshold e.worn n + d.freeNat 16
    let d := (d.at t).took
    let m := d.lead n
    let c := d.chan m
    if c.state = swRETRYING then
      if bitOf c.flags 7 then (d.protect m 0x0301 (c.state * 2 ^ 24)).swFail m ma else d
    else if c.meetsThermal t then
      let d := d.protect m 0x0301 (c.prev * 2 ^ 24)
      if c.set.lamp then d.swFail m ma else d.swLatch m swOC_LATCH 2
    else d.swTrip m 0x0301 2 0

/-- Where a thermal trip leads (R166, R169). -/
def Dev.swThermal (d : Dev) (n : Nat) : Dev :=
  if (d.chan n).set.thermal = 1 then d.swOff n swTHERMAL_HOLD else d.swLatch n swTHERMAL_LATCH 4

/-- THERMAL_TRIP (R166, R169): a conducting channel turns off, its remainder frozen. A trip in the tick of another turn-off by
protection is logged too; it governs a lamp channel whose sequence goes on (R185). -/
def execThermalTrip (n : ChanNo) (temp : Int) (t : Nat) (s : State) : Host.Outcome State Fault Refusal :=
  s.run fun _ d =>
    let d := d.at t
    let m := d.lead n
    let d := d.modChan n fun c => { c with temp := temp }
    let c := d.chan m
    let trip := fun (d : Dev) => (d.modChan m fun c => { c with tTherm := some t }).protect m 0x0305
      (c.left % 256 + c.set.thermal * 256 + ofInt 16 (d.swTemp m) * 65536)
    if c.state = swON ∨ c.state = swPWM ∨ (c.state = swRETRYING ∧ bitOf c.flags 7 = true) then
      (trip (d.modChan m fun c => { c with prev := c.state })).swThermal m
    else if c.tOff = some t ∧ c.state = swRETRYING then (trip d).swThermal m
    else if c.tOff = some t ∧ c.state = swOC_LATCH then trip d
    else d

/-- COOL (R163, R169): the sensor is below 150 °C. -/
def execCool (n : ChanNo) (temp : Int) (t : Nat) (s : State) : Host.Outcome State Fault Refusal :=
  s.run fun e d =>
    let d := d.at t
    (d.modChan n fun c => { c with temp := temp }).swResume e.worn (d.lead n)

/-- RETRY_GAP_END (R163, R169): the gap since the last turn-off, or since the last thermal trip, has passed. -/
def execRetryGapEnd (n : ChanNo) (temp : Int) (t : Nat) (s : State) : Host.Outcome State Fault Refusal :=
  s.run fun e d =>
    let d := d.at t
    (d.modChan n fun c => { c with temp := temp }).swResume e.worn (d.lead n)

/-- TEMP_WARN (R167): the warning of a branch is set or cleared; each setting logs one event. -/
def execTempWarn (b : BranchNo) (set : Bool) (temp : Int) (who t : Nat) (s : State) : Host.Outcome State Fault Refusal :=
  s.run fun _ d =>
    let d := d.at t
    let was := (d.branch b).tempWarn
    let d := d.modBranch b fun x => { x with tempWarn := set }
    d.when (set && !was) fun d => d.report (4 * b) 0x0307 (0xFFF0 + b) (ofInt 16 temp + who % 256 * 65536)

/-- ATTEMPT_SUCCESS (R168): the current has fallen below I_TRIP within t_LIM. -/
def execAttemptSuccess (n : ChanNo) (t : Nat) (s : State) : Host.Outcome State Fault Refusal :=
  s.run fun _ d =>
    let d := d.at t
    let m := d.lead n
    let c := d.chan m
    if c.state = swRETRYING ∧ bitOf c.flags 7 = true then (d.swConduct m).protect m 0x0303 (c.tries % 256 + c.left * 256)
    else d

/-- T_LIM_EXPIRY (R168): the attempt has failed; it lasts the t_LIM that was in force as it started (R170). -/
def execTLimExpiry (n : ChanNo) (ma t : Nat) (s : State) : Host.Outcome State Fault Refusal :=
  s.run fun _ d =>
    let d := d.at t
    let m := d.lead n
    if (d.chan m).tTry + (d.chan m).timRun * 100000 ≤ t then d.swFail m ma else d

/-- RETRY_RESTORE (R169): 1 s in ON or PWM without a trip. -/
def execRetryRestore (n : ChanNo) (t : Nat) (s : State) : Host.Outcome State Fault Refusal :=
  s.run fun _ d =>
    let d := d.at t
    d.modChan (d.lead n) fun c => if c.state = swON ∨ c.state = swPWM then { c with left := c.set.retryN } else c

/-- The duty D of R171 for a lamp channel as a fraction, before the minimum: D_set · min(1.6, V_REF / V_F)^k. -/
def compDuty (duty k vref vf : Nat) : Frac :=
  let r : Frac := if 5 * vref > 8 * vf then (8, 5) else (vref, vf)
  Frac.mul (duty, 65536) (if k = 0 then (1, 1) else if k = 1 then r else r.mul r)

/-- D of one period as a fraction and COMP_SAT (R161, R171). -/
def periodDuty (s : SwSet) (duty vf warn : Nat) : Frac × Bool :=
  if !s.lamp then ((duty, 65536), false)
  else if vf < warn then ((1, 1), true)
  else
    let q := compDuty duty s.compK s.vref vf
    if (q.2 : Int) ≤ q.1 then ((1, 1), true) else (q, false)

/-- D in the units of I:1F (R186). -/
def dutyShown (q : Frac) : Nat := (q.mul (65536, 1)).round.toNat

/-- The on-time in branch ticks for a duty D at a frequency, with the 60 µs limits (R161). -/
def onTicks (q : Frac) (freq : Nat) : Nat :=
  let period := (roundDiv 16384000 freq).toNat
  let on := (q.mul (16384000, freq)).round.toNat
  let on := max on 984
  if period < on + 984 then period else on

/-- PWM_PERIOD_START (R161, R171): the applied duty is fixed for the period; a request of ON takes over here. -/
def execPwmPeriodStart (n : ChanNo) (vf t : Nat) (s : State) : Host.Outcome State Fault Refusal :=
  s.run fun _ d =>
    let d := d.at t
    d.modChan (d.lead n) fun c =>
      if c.state ≠ swPWM then c
      else if c.force.cmd = 1 then { c with state := swON, dAct := 65536, flags := setBit c.flags 6 false }
      else
        let q := periodDuty c.set c.force.duty vf (d.branch (n.val / 4)).warnLvl
        { c with dAct := dutyShown q.1, onTicks := onTicks q.1 c.force.freq, flags := setBit c.flags 6 q.2 }

/-- The single-event limit in µJ × 1500 (R173). -/
def clampLimit (single : Nat) (temp : Int) : Nat := if temp ≥ 1750 then 0 else single * 1000 * (1750 - temp).toNat

/-- CLAMP_EVENT (R173): the energy of the event is stored, counted and judged. -/
def execClampEvent (n : ChanNo) (energy : Nat) (tempStart : Int) (tStart t : Nat) (s : State) : Host.Outcome State Fault Refusal :=
  s.run fun _ d =>
    let d := d.at t
    let m := d.lead n
    let c := d.chan n
    let q := (d.chan m).set
    let beyond := clampLimit q.clampS tempStart < energy * 1500 ||
      (q.clampR * 1000 < energy && match c.clampEnd with
        | none => false
        | some e => tStart < e + 1000000000)
    let d := d.setChan n { c with clampLast := energy, clampEnd := some t, inc := { c.inc with clamp := c.inc.clamp + energy } }
    if beyond then (d.modChan m fun c => { c with flags := setBit c.flags 3 true }).report m 0x030C (d.chanSrc m) (min (2 ^ 32 - 1) energy)
    else d

/-- Flags of a channel may be cleared (R183): not in a branch hold or under power-up postures, before the crown has adopted or
configured the branch. -/
def Dev.mayClear (d : Dev) (n : Nat) : Bool :=
  let x := d.branch (n / 4)
  x.configured && !x.holding && !x.mismatch

/-- LOAD_TEST (R174, R175): one completed off-state test, with the samples S and O in mV. -/
def execLoadTest (n : ChanNo) (vS vO t : Nat) (s : State) : Host.Outcome State Fault Refusal :=
  s.run fun _ d =>
    let d := d.at t
    let c := d.chan n
    if (c.state = swOFF ∨ c.state = swPWM) ∧ d.lead n = n ∧ d.mayConduct n = true then
      if c.set.vOl < vS then
        let k := c.short3 + 1
        let d := d.setChan n { c with short3 := min 3 k, open3 := 0, ok3 := 0 }
        if k ≥ 3 ∧ bitOf c.set.test 1 = true ∧ bitOf c.flags 1 = false then
          (d.modChan n fun c => { c with flags := setBit c.flags 1 true }).report n 0x030A (d.chanSrc n) (min 65535 vS)
        else d
      else if c.set.vOl < vO then
        let k := c.open3 + 1
        let d := d.setChan n { c with open3 := min 3 k, short3 := 0, ok3 := 0 }
        if k ≥ 3 ∧ bitOf c.set.test 0 = true ∧ bitOf c.flags 0 = false then
          (d.modChan n fun c => { c with flags := setBit c.flags 0 true }).report n 0x0309 (d.chanSrc n) (min 65535 vO)
        else d
      else
        let k := c.ok3 + 1
        let d := d.setChan n { c with ok3 := min 3 k, short3 := 0, open3 := 0 }
        if k ≥ 3 ∧ c.flags % 4 ≠ 0 ∧ d.mayClear n = true then
          (d.modChan n fun c => { c with flags := setBit (setBit c.flags 0 false) 1 false }).report n 0x030B (d.chanSrc n) (c.flags % 4)
        else d
    else d

/-- ISEL_CHANGE (R176). -/
def execIselChange (b : BranchNo) (sel : Fin 4) (t : Nat) (s : State) : Host.Outcome State Fault Refusal :=
  s.run fun _ d => (d.at t).modBranch b fun x => { x with isel := sel }

/-- HALF_RETIRED (R180): a half is retired as failed open; the channel goes on with the other half. -/
def execHalfRetired (n : ChanNo) (half : Bool) (t : Nat) (s : State) : Host.Outcome State Fault Refusal :=
  let d := s.dev.at t
  let m := d.lead n
  let bit := 2 * n.val + nat01 half
  if ((d.chan m).state = swON ∨ (d.chan m).state = swPWM) ∧ halvesLeft s.worn n = 2 then
    let b := n.val / 4
    let d := d.protect n 0x030D (nat01 half + n.val * 256)
    let d := (d.wrBit Reg.SPR_HALVES n false).setMaint b
    .next { s with dev := d, worn := { s.worn with halves := s.worn.halves ||| BitVec.ofNat 32 (2 ^ bit) } }
  else .next { s with dev := d }

/-- The used spares after the last half in service of the channels has failed open. -/
def Worn.loseHalves (w : Worn) (chans : List Nat) : Worn :=
  { w with lost := w.lost ||| BitVec.ofNat 16 (chans.foldl (fun a m => a ||| 2 ^ m) 0) }

/-- HALVES_LOST (R181): the last half in service has failed open; the channel, or the pair, can no longer turn on. -/
def execHalvesLost (n : ChanNo) (t : Nat) (s : State) : Host.Outcome State Fault Refusal :=
  let d := s.dev.at t
  let m := d.lead n
  let chans := d.pairChans m
  if halvesGone s.worn chans then .next { s with dev := d }
  else
    let d := d.protect n 0x030E (n.val * 256)
    let d := d.each chans fun d j => d.wrBit Reg.SPR_HALVES j false
    let d := (d.modChan m fun c => { c with cause := 6 }).swOff m swOFF
    .next { s with dev := d, worn := s.worn.loseHalves chans }

/-- STUCK_ON (R182): a half still carries more than 100 mA after the turn-off; the channel no longer has both halves in service. -/
def execStuckOn (n : ChanNo) (half : Bool) (ma t : Nat) (s : State) : Host.Outcome State Fault Refusal :=
  s.run fun _ d =>
    let d := d.at t
    let m := d.lead n
    if (d.chan m).state = swSTUCK_ON ∨ ma ≤ 100 then d
    else
      let d := (d.swLatch m swSTUCK_ON 5).protect n 0x030F (min 65535 ma + nat01 half * 65536)
      (d.wrBit Reg.SPR_HALVES n false).setMaint (n.val / 4)

/-- CLEAR lifts OC_LATCH and THERMAL_LATCH (R163, R169): the full count, then the request in force. -/
def Dev.swClear (d : Dev) (w : Worn) (n : Nat) : Dev :=
  let c := d.chan n
  if c.state = swOC_LATCH ∨ c.state = swTHERMAL_LATCH then
    let d := d.setChan n { c with left := c.set.retryN, state := swOFF, tries := 0 }
    (d.log1 0x0308 (d.chanSrc n) c.state).swFromOff w n
  else d

/-- The under-voltage lock turns a channel off (R163); latched channels stay. -/
def Dev.swLock (d : Dev) (n : Nat) : Dev :=
  let c := d.chan n
  if swLatched c.state || c.state = swOFF then d else d.swOff n swOFF

/-- The flag word I:14 of the switch on channel n (R187). -/
def Dev.swFlags (d : Dev) (w : Worn) (n : Nat) : Nat :=
  let x := d.branch (n / 4)
  let f := (d.chan n).flags
  f &&& 0xCB ||| nat01 (derated w (d.pairChans n)) * 4 ||| nat01 (halvesGone w (d.pairChans n)) * 16 |||
    nat01 x.tempWarn * 32 ||| nat01 (x.uvlo || x.startLock) * 256

/-- The settings the branch holds for a channel, taken from its driver's objects (R183). -/
def Dev.swSettings (d : Dev) (k : Nat) : SwSet :=
  { lamp := bitOf (d.rd (Reg.HND_BIND k)) 13, pair := d.kind k = 6, iTrip := d.rd (Reg.SW_I_TRIP k), tFilt := d.rd (Reg.SW_T_FILT k),
    thermal := d.rd (Reg.SW_THERMAL_POLICY k), retryN := d.rd (Reg.SW_RETRY_N k), gap := d.rd (Reg.SW_RETRY_GAP k),
    iLim := d.rd (Reg.SW_I_LIM k), tLim := d.rd (Reg.SW_T_LIM k), compK := d.rd (Reg.SW_COMP_K k), vref := d.rd (Reg.SW_COMP_VREF k),
    test := d.rd (Reg.SW_LOADTEST k), vOl := d.rd (Reg.SW_V_OL k), clampS := d.rd (Reg.SW_CLAMP_SINGLE k),
    clampR := d.rd (Reg.SW_CLAMP_REP k) }

/-- Committing the settings of a switch handle to its branch (R170, R183): the remainder is capped at a new count, and full where an ARM
reached the handle while the link was down (R169). -/
def Dev.swCommit (d : Dev) (k : Nat) : Dev :=
  let n := d.chanOf k
  let q := d.swSettings k
  let d := d.modChan n fun c => { c with set := q, left := if c.refill then q.retryN else min c.left q.retryN, refill := false }
  d.when q.pair fun d => d.modChan (n + 1) fun c => { c with set := q }

/-- A current divides between the channels of a switch in proportion to the halves each has in service (R178). -/
def shareOf (w : Worn) (chans : List Nat) (total n : Nat) : Nat :=
  let all := (chans.map (halvesLeft w)).sum
  if all = 0 then 0 else total * halvesLeft w n / all

/-- The share of half A of channel n in percent (R180): 0 or 100 once a half is retired, else the measured v. -/
def halfShare (w : Worn) (n v : Nat) : Nat :=
  if w.halves.toNat.testBit (2 * n) then 0 else if w.halves.toNat.testBit (2 * n + 1) then 100 else v

/-- The current of the switch on channel n and the shares of its half A as measured now (R160, R178, R180): no command carries them, so
the total and each share are free values (log entry 15). -/
def Dev.sense (d : Dev) (w : Worn) (n : Nat) : Dev :=
  let ch := d.pairChans n
  let total := d.freeNat 31
  d.took.each ch fun d m => (d.modChan m fun c => { c with
    iOut := shareOf w ch total m, share := halfShare w m (d.freeNat 7 % 101) }).took

/-- The measured currents of a switch driver's channels, taken now. -/
def Dev.senseSwitch (d : Dev) (w : Worn) (k : Nat) : Dev := if isSwitch (d.kind k) then d.sense w (d.chanOf k) else d

/-- The selected channel is a switch to ISNSb (R176): a switch driver's, or one without a handle under a power-up posture ON or
ON_PAIR. -/
def Dev.isnsSwitch (d : Dev) (n : Nat) : Bool :=
  match d.drvP n with
  | some k => isSwitch (d.kind k)
  | none =>
    let code := d.rd (Reg.PUP_CODE n)
    (d.chan n).pup && (code = 1 || code = 6 || code = 7)

/-- The current that ISNSb sources in µA (R176): half a thousandth of the selected channel's present current, which is a free value (log
entry 15), as is all of it while VFb is not above the under-voltage lock level (R177). -/
def Dev.isns (d : Dev) (w : Worn) (b : Nat) : Nat :=
  let n := 4 * b + (d.branch b).isel
  let c := d.chan (d.lead n)
  if !d.mayConduct n then d.freeNat 13
  else if !d.isnsSwitch n then 0
  else if swLatched c.state || halvesGone w (d.pairChans n) then 5000
  else min 4200 (((d.sense w n).chan n).iOut / 2)

/-- The record of SAMPLE_INPUTS for a switch handle (R184). -/
def Dev.swRecord (d : Dev) (w : Worn) (k tOut : Nat) : Rec :=
  let n := d.chanOf k
  let c := d.chan n
  let f := d.swFlags w n
  let ma := (d.pairChans n).foldl (fun a m => a + (d.chan m).iOut) 0
  let beyond := (d.pairChans n).any fun m => 8000 < (d.chan m).iOut
  let flags : RecFlags :=
    { sat := beyond, wire := decide (f % 4 ≠ 0), degr := bitOf f 2, unsync := d.canopy.timeLost }
  let data := c.state + f % 16 * 16 + min 65535 ma * 256
  { w := resultWord false data flags, a := auxWord k (d.slot k).nextSeq flags, tOut := tOut, tRep := tOut }

end Sys2Proof.Machine
end

