-- ==== Sys2Proof/Machine/Converters.lean ====
section
/-!
DEFINITION. The converters (R64 to R99): window results, substitution, plausibility and votes, open-wire test, grid restarts, mains
tracking, references, self-calibration and urgent conversions.
-/
namespace Sys2Proof.Machine

/-- Which role T holds in a channel: 0 none, 1 of P, 2 of C (I:19, R82). -/
def roleOf (w : Worn) (n : Nat) : Nat :=
  if w.conv.toNat.testBit (2 * n) then 1 else if w.conv.toNat.testBit (2 * n + 1) then 2 else 0

/-- The branch runs reference drift correction (R86). -/
def drifts (w : Worn) (b : Nat) : Bool := w.drift.toNat.testBit b

/-- DEGRADED of a handle's channel (R74, R368). -/
def degradedChan (w : Worn) (n : Nat) : Bool := roleOf w n ≠ 0 || drifts w (n / 4) || w.calLost.toNat.testBit n

/-- The input fraction x of R67, for ticks branch ticks. -/
def inputFrac (ticks n start stop : Nat) : Frac := (4 * (1024 * (n : Int) + start - stop), 1024 * max 1 ticks)

/-- A voltage input that P converts as a fraction of VFb (R71, R76, R79). -/
def Dev.ratiometric (d : Dev) (k : Nat) : Bool :=
  d.kind k = 3 && d.rd (Reg.BR_REF_SEL (d.chanOf k / 4)) = 2 && !bitOf (d.rd (Reg.HND_BIND k)) 9

/-- The converters of slot k that work as P (asP), or as C or T do, are on the drifted reference of their branch (R76, R86). -/
def Dev.onDrifted (d : Dev) (w : Worn) (k : Nat) (asP : Bool) : Bool :=
  let b := d.chanOf k / 4
  drifts w b && (if w.driftB.toNat.testBit b then !asP else asP && d.rd (Reg.BR_REF_SEL b) ≠ 1 && !d.ratiometric k)

/-- The scale of reference drift correction: the ratio in 0.1 ppm that T's tracking measured last (R86). -/
def Dev.driftScale (d : Dev) (w : Worn) (k : Nat) (asP : Bool) (track : Int) : Frac :=
  if d.onDrifted w k asP then (10000000 + track, 10000000) else (1, 1)

/-- The three calibrated fractions of one window: P, C and T, T as P where it holds that role, else as C (R67, R75, R76, R85). -/
structure Triple where
  p : Frac
  c : Frac
  t : Frac
  deriving DecidableEq, Repr

/-- T stands in for a converter of the slot during a calibration graft (R391): P, or C when c. -/
def Dev.standsIn (d : Dev) (k : Nat) (c : Bool) : Bool :=
  d.graft.calSlot = some k && d.graft.calOn && (d.rd Reg.GR_CAL_CONV = 1) == c

/-- T converts for slot k as P does: in P's role, or in P's place in a calibration graft (R76, R391). -/
def Dev.tAsP (d : Dev) (w : Worn) (k : Nat) : Bool := roleOf w (d.chanOf k) = 1 || d.standsIn k false

/-- The branch ticks over which each converter's packets were counted. -/
structure Spans where
  p : Nat
  c : Nat
  t : Nat
  deriving DecidableEq, Repr

/-- The same span for all three. -/
def Spans.all (n : Nat) : Spans := ⟨n, n, n⟩

/-- Forming the converter values of a window (R67), with the self-calibration corrections in force, or without them (R85). -/
def Dev.triple (d : Dev) (w : Worn) (k : Nat) (m : WinMeas) (sp : Spans) (corrected : Bool := true) : Triple :=
  let c := d.chan (d.chanOf k)
  let ch := if corrected then c else { c with corrP := 0, corrC := 0 }
  let f := fun (cal : Cal) (corr : Int) (asP : Bool) (ticks cnt : Nat) (s : Option Nat) (s0 r : Nat) =>
    (cal.apply corr (d.bipolar k) (inputFrac ticks cnt (s.getD s0) r)).mul (d.driftScale w k asP m.track)
  { p := f ch.calP ch.corrP true sp.p m.nP ch.resP m.sP m.rP,
    c := f ch.calC ch.corrC false sp.c m.nC ch.resC m.sC m.rC,
    t := f {} 0 (d.tAsP w k) sp.t m.nT ch.resT m.sT m.rT }

/-- Under RATIO the volts of a converter on REF_B become a fraction of the window's mean VFb (R79). -/
def Dev.ratioOf (d : Dev) (k vf : Nat) (y : Frac) : Frac :=
  if d.ratiometric k then
    let fs : Frac := if d.rd (Reg.CV_RANGE k) = 1 then (18750000, 1) else (75000000, 1)
    Frac.over (y.mul fs) ((vf * 10000 : Nat), 1)
  else y

/-- A fraction in counts at the 24-bit unsigned scale, coded in the format of slot k (R81). -/
def Dev.counts (d : Dev) (k : Nat) (y : Frac) : Int :=
  let s := d.signedFmt k
  (codeOf s y).1 * (if s then 2 else 1)

/-- The plausibility limit in counts (R81). -/
def Dev.plausLimit (d : Dev) (k : Nat) : Nat :=
  d.rd (Reg.CV_PLAUS_PCT k) * 16777216 / 100000 + 256 * d.rd (Reg.CV_PLAUS_CNT k)

/-! Plausibility states (I:18). -/

abbrev AGREE : Nat := 0
abbrev PENDING : Nat := 1
abbrev VOTING : Nat := 2
abbrev WAIT_T : Nat := 3
abbrev UNRESOLVED : Nat := 4

/-- A calibration graft holds T of a branch (R391). -/
def Dev.graftHolds (d : Dev) (b : Nat) : Bool :=
  match d.graft.calSlot with
  | none => false
  | some k => d.chanOf k / 4 = b

/-- The microcode of a branch is being switched over (R392): its outputs are held, its converters do not run, no level edge is
accepted. -/
def Dev.ucSwitching (d : Dev) (b : Nat) : Bool := d.graft.ucBranch = some b && d.rd Reg.GR_UC_STATE = 3

/-- A calibration graft ends: T leaves (R391). -/
def Dev.graftLeave (d : Dev) : Dev :=
  match d.graft.calSlot with
  | none => d
  | some k =>
    let b := d.chanOf k / 4
    let d := ((d.wr (Reg.BR_T_STATE b) 0).wr (Reg.BR_T_CHANNEL b) 0xFF).wr Reg.GR_CAL_STATE 0
    { d with graft := { d.graft with calSlot := none, calOn := false, calWant := 0, calN := 0, calSum := 0, calDen := 1 } }

/-- A calibration graft ends without change: reason 1 abort, 2 time limit, 3 T needed (R391, R393, R395). -/
def Dev.graftEnd (d : Dev) (reason : Nat) : Dev :=
  match d.graft.calSlot with
  | none => d
  | some k => d.graftLeave.log1 0x0819 (d.rd (Reg.HND_ID k)) reason

/-- T of a branch is free: no role, no vote, no tracking; a calibration step or graft yields (R84, R96, R393). -/
def Dev.tFree (d : Dev) (b : Nat) : Bool := d.rd (Reg.BR_T_STATE b) ≤ 1 || d.graftHolds b

/-- T leaves whatever it does for a channel and is free. -/
def Dev.tRest (d : Dev) (b : Nat) : Dev := (d.wr (Reg.BR_T_STATE b) 0).wr (Reg.BR_T_CHANNEL b) 0xFF

/-- A self-calibration cycle ends without further effect; it starts again at its beginning once T is free (R84). -/
def Dev.calAbandon (d : Dev) (b : Nat) : Dev :=
  match (d.branch b).cal with
  | none => d
  | some _ => (d.modBranch b fun x => { x with cal := none, calLast := none }).when (d.rd (Reg.BR_T_STATE b) = 1) (·.tRest b)

/-- T can join a vote on channel n: it is free, or it joined a higher channel at this same boundary (R82, R96). -/
def Dev.tGiven (d : Dev) (n : Nat) : Bool :=
  let b := n / 4
  d.tFree b || (d.rd (Reg.BR_T_STATE b) = 2 && n < d.rd (Reg.BR_T_CHANNEL b) &&
    (match (d.branch b).joinT with
     | none => false
     | some (t, _) => t = d.now))

/-- The vote of a higher channel that took T at this boundary gives way (R82): its handle waits for T, which is reported unless it
waited before. -/
def Dev.tYield (d : Dev) (n : Nat) : Dev :=
  let b := n / 4
  if d.tFree b then d
  else match (d.branch b).joinT, d.pairDriver (d.rd (Reg.BR_T_CHANNEL b)) with
    | some (_, was), some k =>
      let d := d.wr (Reg.CV_PLAUS_STATE k) WAIT_T
      d.when (was ≠ WAIT_T) fun d => d.report (d.chanOf k) 0x0405 (d.rd (Reg.HND_ID k)) (2 + n * 256)
    | _, _ => d

/-- T joins the vote on a channel whose handle was in plausibility state was (R82). -/
def Dev.tJoin (d : Dev) (n was : Nat) : Dev :=
  let b := n / 4
  let d := ((d.when (d.graftHolds b) (·.graftEnd 3)).tYield n).calAbandon b
  (((d.wr (Reg.BR_T_STATE b) 2).wr (Reg.BR_T_CHANNEL b) n).modBranch b fun x => { x with joinT := some (d.now, was) }).modChan n fun c =>
    { c with resT := none }

/-- T leaves a vote (R82). -/
def Dev.tLeave (d : Dev) (n : Nat) : Dev :=
  if d.rd (Reg.BR_T_STATE (n / 4)) = 2 ∧ d.rd (Reg.BR_T_CHANNEL (n / 4)) = n then d.tRest (n / 4) else d

/-- A handle that needs T takes it, or waits for it (R82). -/
def Dev.wantT (d : Dev) (k was : Nat) : Dev × Bool :=
  if d.tGiven (d.chanOf k) then
    (((d.tJoin (d.chanOf k) was).modSlot k fun x => { x with votes := 0 }).wr (Reg.CV_PLAUS_STATE k) VOTING, true)
  else (d, false)

/-- The verdict of one window (R82): the device, the retired converter (0 P, 1 C) if any. Under RATIO C and T are taken as fractions of
VFb, unless T converts as P (R76, R79). -/
def Dev.plausible (d : Dev) (w : Worn) (k : Nat) (y : Triple) (vf : Nat) : Dev × Option Nat :=
  let n := d.chanOf k
  let b := n / 4
  let src := d.rd (Reg.HND_ID k)
  let lim : Int := d.plausLimit k
  let p := d.counts k y.p
  let c := d.counts k (d.ratioOf k vf y.c)
  let t := d.counts k (if d.tAsP w k then y.t else d.ratioOf k vf y.t)
  let dist := fun (a b : Int) => ((a - b).natAbs : Int)
  let dd := dist p c
  let x := d.slot k
  let set := fun (d : Dev) (st : Nat) => d.wr (Reg.CV_PLAUS_STATE k) st
  let agree := fun (d : Dev) => set (d.modSlot k fun x => { x with cnt := 0 }) AGREE
  match d.rd (Reg.CV_PLAUS_STATE k) with
  | 2 =>
    let votes := x.votes + 1
    let det := n * 256 + votes * 65536
    let d := (d.modSlot k fun x => { x with votes := votes }).bump 32 (Reg.BR_VOTES b)
    if dd ≤ lim then ((agree (d.tLeave n)).report n 0x0403 src det, none)
    else if dist p t ≤ lim ∧ lim < dist c t then (agree d, some 1)
    else if dist c t ≤ lim ∧ lim < dist p t then (agree d, some 0)
    else if votes = 8 then
      ((set ((d.tLeave n).setMaint b) UNRESOLVED).report n 0x0404 src det, none)
    else (d, none)
  | 3 => if dd ≤ lim then (agree d, none) else ((d.wantT k WAIT_T).1, none)
  | 4 => if dd ≤ lim then (agree d, none) else (d, none)
  | _ =>
    if dd ≤ lim then (agree d, none)
    else
      let cnt := x.cnt + 1
      let d := set (d.modSlot k fun x => { x with cnt := cnt }) PENDING
      if cnt < 3 then (d, none)
      else
        let d := d.report n 0x0401 src (dd.toNat % 2 ^ 24 + n * 2 ^ 24)
        let r := d.wantT k PENDING
        if r.2 then (r.1, none)
        else ((set d WAIT_T).report n 0x0405 src (d.rd (Reg.BR_T_STATE b) + d.rd (Reg.BR_T_CHANNEL b) * 256), none)

/-- A converter is retired for good and T takes its role (R82, R33). -/
def Dev.retire (d : Dev) (k which : Nat) : Dev :=
  let n := d.chanOf k
  let b := n / 4
  let d := ((d.wr (Reg.BR_T_STATE b) 3).wr (Reg.BR_T_CHANNEL b) n).modBranch b fun x => { x with driftDue := none }
  let d := (d.wrBit Reg.SPR_T_FREE b false).setMaint b
  d.report n 0x0402 (d.rd (Reg.HND_ID k)) (which + n * 256 + (d.slot k).votes * 65536)

/-- The used spares after a retirement. -/
def Worn.retire (w : Worn) (n which : Nat) : Worn := { w with conv := w.conv ||| BitVec.ofNat 32 (2 ^ (2 * n + which)) }

/-! Grid restarts (R65, R66, R95). -/

/-- The active table holds, before its first WAIT_CYCLE, a step of the action that names the slot. -/
def tableNames (rd : Nat → Nat) (action k : Nat) : Nat → Nat → Bool
  | 0, _ => false
  | fuel + 1, i =>
    let w := rd (Reg.SQ_ACTIVE i)
    if bitsOf w 24 8 = 0x0C then false
    else if bitsOf w 24 8 = action ∧ bitsOf w 32 7 = k then true
    else tableNames rd action k fuel (i + 1)

/-- A START_CONV step of the active table names the slot (R66). -/
def Dev.hasStartConv (d : Dev) (k : Nat) : Bool := tableNames d.rd 1 k 1024 0

/-- A disagreement is pending (R92). -/
def Dev.disagrees (d : Dev) (k : Nat) : Bool := d.rd (Reg.CV_PLAUS_STATE k) ≠ AGREE

/-- Plausibility back to AGREE, T withdrawn without a verdict (R95, R96). -/
def Dev.plausReset (d : Dev) (k : Nat) : Dev :=
  if usesPair (d.kind k) then
    ((d.tLeave (d.chanOf k)).wr (Reg.CV_PLAUS_STATE k) AGREE).modSlot k fun x => { x with cnt := 0, votes := 0 }
  else d

/-- A restart of the grid of a driver or MONITOR slot at a boundary: the window in progress is discarded, its chain and those of its
RUNNING observers reset (R95, R114); useTable takes the origin of R66. No window starts while REF_READY is low (R77). A vote goes on
where keepVote says so (R96). -/
def Dev.restart (d : Dev) (k t : Nat) (useTable : Bool) (keepVote : Bool := false) : Dev :=
  let ready := (d.branch (d.chanOf k / 4)).refReady
  let await := useTable && d.hasStartConv k
  let d := d.when (!(keepVote && d.rd (Reg.CV_PLAUS_STATE k) = VOTING)) (·.plausReset k)
  let d := (d.modSlot k fun x => { x with
    owExtra := x.owExtra || x.testNow, testNow := false, urgNeed := x.urgRun, orgTable := useTable }).beginGrid k t
  let d := d.modSlot k fun x => { x with needOrg := !ready, await := ready && await }
  let d := d.chainReset (d.unitOf k) t
  d.each ((d.observers k).filter fun j => d.hst j = RUNNING) fun d j => d.chainReset (d.unitOf j) t

/-- A settling change of a running slot (R95); a slot that is not running has no grid to restart. -/
def Dev.settlingChange (d : Dev) (k t : Nat) (keepVote : Bool := false) : Dev :=
  if d.hst k = RUNNING ∨ d.hst k = HSAFE then d.restart k t false keepVote else d

/-- The measuring handles of a branch that drive or monitor and run. -/
def Dev.runningIn (d : Dev) (b : Nat) : List Nat :=
  (d.branchHandles b).filter fun k => measuring (d.kind k) && !d.isObserver k && (d.hst k = RUNNING || d.hst k = HSAFE)

/-- At a boundary with REF_READY high the grids that wait for it take their origin there (R77), or at a START_CONV step of the table
that is active then (R66). -/
def Dev.originsAt (d : Dev) (t : Nat) : Dev :=
  d.each (d.liveSlots.filter fun k => (d.slot k).needOrg && (d.branch (d.chanOf k / 4)).refReady) fun d k =>
    let await := (d.slot k).orgTable && d.hasStartConv k
    (d.beginGrid k t).modSlot k fun x => { x with await := await }

/-! Window ends. -/

/-- The open-wire test of the window that ends: R_src and WIRE (R88); ov says that the role holder of C, which runs it, saturated. -/
def Dev.openWire (d : Dev) (k : Nat) (m : WinMeas) (ov : Bool) : Dev :=
  let i := match d.rd (Reg.CV_OW_CURRENT k) with
    | 0 => 1
    | 1 => 10
    | _ => 100
  let r := if ov then 0xFFFFFFFF else min 0xFFFFFFFF ((m.vFirst - m.vSecond).natAbs / (2 * i))
  let d := d.wr (Reg.CV_OW_RSRC k) r
  let was := (d.slot k).wire
  let now := decide (d.rd (Reg.CV_OW_RLIMIT k) < r)
  let d := d.modSlot k fun x => { x with wire := now }
  if now && !was then d.report (d.chanOf k) 0x0409 (d.rd (Reg.HND_ID k)) r
  else if was && !now then d.report (d.chanOf k) 0x040A (d.rd (Reg.HND_ID k)) r
  else d

/-- The next window is a test window (R87): by the period or an extra request, unless it carries SETTLE or lies in a reference fault. -/
def Dev.nextTest (d : Dev) (k : Nat) : Dev :=
  let period := d.rd (Reg.CV_OW_PERIOD k)
  let x := d.slot k
  if d.kind k ≠ 1 ∧ d.kind k ≠ 3 then d
  else
    let c := if period = 0 then 0 else x.owCnt + 1
    let due := x.owExtra || (period ≠ 0 && decide (period ≤ c))
    let c := if period ≠ 0 ∧ period ≤ c then 0 else c
    let can := !x.settleNext && !(d.branch (d.chanOf k / 4)).refinFault
    d.setSlot k { x with owCnt := c, testNow := due && can, owExtra := due && !can }

/-- The status of a loop as its branch holds it, bits per R154. -/
def Dev.lpSt (d : Dev) (k : Nat) : Nat := (d.chan (d.chanOf k)).lpSt

/-- A change of the status of a loop in its branch (R154): I:22 follows while the crown hears the branch, else at adoption (R151). -/
def Dev.setLp (d : Dev) (k v : Nat) : Dev :=
  let d := d.modChan (d.chanOf k) fun c => { c with lpSt := v }
  d.when (d.hears (d.chanOf k / 4)) fun d => d.wr (Reg.LP_STATUS k) v

/-- The driver of a loop output follows its target and trims (R135, R140). -/
def Dev.aim (d : Dev) (k : Nat) : Dev :=
  (d.modChan (d.chanOf k) fun c => { c with drive := c.driveFor (d.loopTarget k) }).alarmMark (d.chanOf k)

/-- The compliance judgement of a LOOP_OUT window (R137): measured current in nA, window length, longest and any activity of the
detector. -/
def Dev.compliance (d : Dev) (k : Nat) (amps : Int) (winNsLen satNs : Nat) (ever : Bool) : Dev :=
  let n := d.chanOf k
  let st := d.lpSt k
  let src := d.rd (Reg.HND_ID k)
  let actual := ofInt 32 amps
  let c := d.chan n
  let target := d.loopTarget k
  if 1000000 ≤ satNs ∨ (winNsLen < 2000000 ∧ winNsLen ≤ 2 * satNs ∧ 0 < satNs) then
    let d := d.when (!bitOf st 3) fun d => d.report n 0x0386 src actual
    let high := d.rd (Reg.LP_ALARM_HIGH k) ≤ target || (c.safeOn && c.post = 5)
    let d := d.when (high && !bitOf st 4) fun d => d.report n 0x0388 src target
    let openL := decide (amps < 500000) && decide (1000000 ≤ target)
    let st := setBit st 3 true
    let st := if high then setBit st 4 true else st
    let st := if openL then setBit st 5 true else st
    let d := d.setLp k st
    d.when (d.rd (Reg.LP_COMPLIANCE_POLICY k) = 1 && !c.subst) fun d => d.modChan n fun c => { c with subDue := true }
  else if bitOf st 3 && d.rd (Reg.LP_COMPLIANCE_POLICY k) = 0 && !ever then
    (d.setLp k (st &&& 0xFFC7)).report n 0x0387 src actual
  else d

/-- The substitute, or the acknowledgement that ends it, acts on the output (R138). -/
def Dev.complianceAct (d : Dev) (k : Nat) : Dev :=
  let n := d.chanOf k
  let c := d.chan n
  if c.ackDue then
    ((d.setChan n { c with subst := false, subDue := false, ackDue := false }).setLp k (c.lpSt &&& 0xFF87)).aim k
  else if c.subDue then
    ((d.setChan n { c with subst := true, subDue := false }).setLp k (setBit c.lpSt 6 true)).aim k
  else d

/-- The APPLY steps of a handle do not reach the output (R138): link not UP, power-up posture, handle SAFE, module HOLD or SAFE. -/
def Dev.applyBlocked (d : Dev) (k : Nat) : Bool :=
  let n := d.chanOf k
  !d.hears (n / 4) || (d.chan n).pup || d.hst k = HSAFE || d.mode = HOLD || d.mode = SAFE

/-- The limiter and supply flags of a LOOP_IN window (R131, R132). -/
def Dev.loopFlags (d : Dev) (k : Nat) (m : WinMeas) : Dev :=
  if d.kind k ≠ 1 then d
  else
    let st := d.lpSt k
    let st := if m.limiter then st else setBit st 0 false
    let st := if m.txLim then st else setBit st 1 false
    d.setLp k st

/-- Sending a converter value to the crown (R16); a lost link carries none. -/
def Dev.sendResult (d : Dev) (n : Nat) (r : Role) (m : Meas) : Dev :=
  d.when (d.branch (n / 4)).linkUp fun d => d.toCrown (n / 4) (.result r m)

/-- The end residues become the next start residues (R67) of the converters that worked through the window, and corrections apply at this
boundary (R85). -/
def Dev.carry (d : Dev) (n : Nat) (m : WinMeas) (pRan tRan : Bool) : Dev :=
  d.modChan n fun c => { c with
    resP := if pRan then some m.rP else none, resC := some m.rC, resT := if tRan then some m.rT else none,
    corrP := c.nextP.getD c.corrP, corrC := c.nextC.getD c.corrC, nextP := none, nextC := none }

/-- One window of the converter under graft, without its calibration (R391): 16 clean windows make a capture. -/
def Dev.graftWindow (d : Dev) (w : Worn) (k : Nat) (m : WinMeas) (clean : Bool) : Dev :=
  let g := d.graft
  if g.calWant = 0 || !clean then d
  else
    let ch := d.chan (d.chanOf k)
    let x := if d.rd Reg.GR_CAL_CONV = 1 then inputFrac (d.windowTicks k) m.nC (ch.resC.getD m.sC) m.rC
      else inputFrac (d.windowTicks k) m.nP (ch.resP.getD m.sP) m.rP
    let y := (Cal.apply {} 0 (d.bipolar k) x).mul (d.driftScale w k (d.rd Reg.GR_CAL_CONV = 0) m.track)
    let q := Frac.add (g.calSum, g.calDen) y
    if g.calN + 1 < 16 then { d with graft := { g with calN := g.calN + 1, calSum := q.1, calDen := q.2 } }
    else
      let g : Graft := { g with calN := 0, calSum := 0, calDen := 1, calWant := 0 }
      if d.graft.calWant = 1 then
        { (d.wr Reg.GR_CAL_STATE 2) with graft := { g with calLow := q.1, calLowD := q.2 * 16 } }
      else { (d.wr Reg.GR_CAL_STATE 3) with graft := { g with calHigh := q.1, calHighD := q.2 * 16 } }

/-- A new calibration applies at a grid boundary of its handle (R391): the old one is kept, the correction of R85 starts from 0. -/
def Dev.calibrate (d : Dev) (k : Nat) : Dev :=
  match d.graft.calDue with
  | none => d
  | some (j, c, cal) =>
    if j ≠ k then d
    else
      let d := { d with graft := { d.graft with calDue := none } }
      d.modChan (d.chanOf k) fun x =>
        if c then { x with prevC := x.calC, calC := cal, corrC := 0, nextC := none }
        else { x with prevP := x.calP, calP := cal, corrP := 0, nextP := none }

/-! Self-calibration (R84 to R86). -/

/-- Reference drift correction is entered (R86): r is the deviation of REF_A / REF_B in 0.1 ppm. -/
def Dev.driftEnter (d : Dev) (w : Worn) (b : Nat) (r : Int) (bDrifted : Bool) : Dev × Worn :=
  let d := ((d.wr (Reg.BR_T_STATE b) 4).wr (Reg.BR_T_CHANNEL b) 0xFF).modBranch b fun x => { x with cal := none, driftDue := none }
  let d := (d.wrBit Reg.SPR_T_FREE b false).setMaint b
  (d.report (4 * b) 0x0408 (0xFFF0 + b) (nat01 bDrifted + ofInt 24 r * 256),
    { w with
      drift := w.drift ||| BitVec.ofNat 4 (2 ^ b),
      driftB := if bDrifted then w.driftB ||| BitVec.ofNat 4 (2 ^ b) else w.driftB })

/-- The handle whose grid windows a calibration cycle uses for converter j of branch b (R85): a running pair driver outside fast mode. -/
def Dev.calHandle (d : Dev) (b j : Nat) : Option Nat :=
  (d.pairDriver (4 * b + j / 2)).filter fun k => !d.fast k && (d.hst k = RUNNING || d.hst k = HSAFE)

/-- T turns to the first converter from j that a calibration cycle can serve, or the cycle ends (R85). -/
def Dev.calTurn (d : Dev) (b j : Nat) (c : CalRun) : Dev :=
  match (List.range' j (8 - j)).find? fun i => (d.calHandle b i).isSome with
  | none => (d.modBranch b fun x => { x with cal := none }).tRest b
  | some i =>
    ((d.modBranch b fun x => { x with cal := some { c with turn := i, done := true, joined := false } }).wr (Reg.BR_T_STATE b) 1).wr
      (Reg.BR_T_CHANNEL b) (4 * b + i / 2)

/-- The deviations from factory that call for drift correction (R86), with REF_B named where it moved more; where both moved by the same
amount the model names REF_A (DESIGN CHOICE, log entry 63). -/
def driftOf (devA devB : Int) : Option (Int × Bool) :=
  let r := devA - devB
  if 2000 < r ∨ r < -2000 then some (r, decide (devA.natAbs < devB.natAbs)) else none

/-- What a branch's self-calibration owes by now: T's own three windows of 20 ms are over and their results stand (R85, R86), a drift
found during a vote is acted on after it (R96), a converter that can no longer be served is passed over. -/
def Dev.calSettle (d : Dev) (w : Worn) (b : Nat) : Dev × Worn :=
  let x := d.branch b
  match x.driftDue, x.cal with
  | some (r, bd), _ => if d.rd (Reg.BR_T_STATE b) ≤ 1 then d.driftEnter w b r bd else (d, w)
  | none, none => (d, w)
  | none, some c =>
    if c.done then
      if (d.calHandle b c.turn).isSome then (d, w) else (d.calTurn b c.turn c, w)
    else if d.now < c.start + 60000000 then (d, w)
    else
      let d := (d.setBranch b { x with
        refMeasA := 2500000 * (10000000 + c.devA) / 10000000, refMeasB := 2500000 * (10000000 + c.devB) / 10000000,
        refT := c.start + 60000000, zeroT := c.zero }).wrI 32 (Reg.BR_REF_RATIO b) (c.devA - c.devB)
      match driftOf c.devA c.devB with
      | some (r, bd) => d.driftEnter w b r bd
      | none => (d.calTurn b 0 c, w)

/-- A calibration cycle of a branch begins (R85): with the period switched on and over, REF_READY high and T free. A drift found while
T votes waits (R96). -/
def Dev.calBegin (d : Dev) (b : Nat) (devA devB zero : Int) : Dev :=
  let x := d.branch b
  let due := match x.calLast with
    | none => true
    | some t => t + d.rd (Reg.BR_CAL_PERIOD b) * 1000000000 ≤ d.now
  if d.rd (Reg.BR_CAL_PERIOD b) = 0 || !x.refReady || !due then d
  else if d.rd (Reg.BR_T_STATE b) = 2 then
    match driftOf devA devB with
    | none => d
    | some q => d.setBranch b { x with driftDue := some q }
  else if d.rd (Reg.BR_T_STATE b) = 0 && x.cal.isNone then
    ((d.setBranch b { x with cal := some { start := d.now, devA := devA, devB := devB, zero := zero }, calLast := some d.now }).wr
      (Reg.BR_T_STATE b) 1).wr (Reg.BR_T_CHANNEL b) 0xFF
  else d

/-- One converter's self-calibration (R85): steps of at most 16 counts, within 0.02 % of full scale. -/
def Dev.calStep1 (d : Dev) (b j : Nat) (want : Int) : Dev :=
  let n := 4 * b + j / 2
  let c := d.chan n
  let now := if j % 2 = 0 then c.nextP.getD c.corrP else c.nextC.getD c.corrC
  let next := now + clampInt (-16) 16 (want - now)
  if 3355 < next ∨ next < -3355 then d.report n 0x040D (0xFFF0 + b) (j + ofInt 24 want * 256)
  else if j % 2 = 0 then d.setChan n { c with nextP := some next }
  else d.setChan n { c with nextC := some next }

/-- The cumulative gain correction, in counts at 24-bit scale, that makes a converter's factory-calibrated value y agree with T's; none
where the input is 0 (log entry 64). -/
def gainWanted (y t : Frac) : Option Int :=
  if y.1 = 0 then none
  else
    let q := Frac.over t y
    some (Frac.mul (q.1 - q.2, q.2) (2 ^ 24, 1)).round

/-- The window that ends at a boundary of slot k serves the calibration cycle (R84, R85): T joins its converter at one boundary, and at
the next the two results of a clean window give its correction and T turns to the next converter. -/
def Dev.calWindow (d : Dev) (k : Nat) (y0 : Triple) (vf : Nat) (cleanP cleanC : Bool) : Dev :=
  let n := d.chanOf k
  let b := n / 4
  match (d.branch b).cal with
  | none => d
  | some c =>
    if !c.done || 4 * b + c.turn / 2 ≠ n then d
    else
      let join := fun (d : Dev) => match (d.branch b).cal with
        | none => d
        | some c => if 4 * b + c.turn / 2 = n ∧ c.done then d.modBranch b fun x => { x with cal := some { c with joined := true } } else d
      if !c.joined then (join d).modChan n fun c => { c with resT := none }
      else if !(if c.turn % 2 = 0 then cleanP else cleanC) then d
      else
        let want := if c.turn % 2 = 0 then gainWanted y0.p (d.ratioOf k vf y0.t) else gainWanted y0.c y0.t
        let d := match want with
          | none => d
          | some v => d.calStep1 b c.turn v
        join (d.calTurn b (c.turn + 1) c)

/-- T worked on channel n through the window that ends: in a role, in a graft, in a vote or in a calibration (R80, R84). -/
def Dev.tWorks (d : Dev) (w : Worn) (k : Nat) : Bool :=
  let n := d.chanOf k
  roleOf w n ≠ 0 || (d.graft.calSlot = some k && d.graft.calOn) || d.rd (Reg.CV_PLAUS_STATE k) = VOTING ||
    (match (d.branch (n / 4)).cal with
     | none => false
     | some c => c.joined && 4 * (n / 4) + c.turn / 2 = n)

/-- One grid window of a driver with a converter pair, or one block in fast mode, ends (R67, R70, R78 to R83, R88, R92). -/
def Dev.pairWindow (d : Dev) (w : Worn) (k : Nat) (m : WinMeas) (sp : Spans) (block : Bool) (tEnd : Nat) : Dev × Worn :=
  let n := d.chanOf k
  let b := n / 4
  let x := d.slot k
  let fault := (d.branch b).refinFault || (d.branch b).refEnd
  let y0 := d.triple w k m sp
  let yf := d.triple w k m sp false
  let role := roleOf w n
  let gp := d.standsIn k false
  let gc := d.standsIn k true
  let y : Triple := { p := if role = 1 || gp then y0.t else y0.p, c := if role = 2 || gc then y0.t else y0.c, t := y0.t }
  let ovP := if role = 1 || gp then m.ovT else m.ovP
  let ovC := if role = 2 || gc then m.ovT else m.ovC
  let lost := x.urgNeed && !block
  let testDone := x.testNow && !lost && !m.limiter && !fault
  let pendingNow := d.disagrees k
  let skip := x.settleNext || x.testNow || lost || fault || gp || (d.rd (Reg.CV_PLAUS_STATE k) = VOTING && sp.t = 0)
  let tRan := d.tWorks w k
  let d := d.when testDone fun d => d.openWire k m ovC
  let d := d.when (x.testNow && !testDone) fun d => d.modSlot k fun x => { x with owExtra := true }
  let (d, verdict) := if skip then (d, none) else d.plausible w k y m.vf
  let d := match verdict with
    | none => d
    | some which => d.retire k which
  let asP := d.tAsP w k
  let w := match verdict with
    | none => w
    | some which => w.retire n which
  let cOk := !x.settleNext && !x.testNow && !pendingNow
  let useC := (lost && cOk) || (fault && !pendingNow && !x.testNow && !lost)
  let abort := (lost && !cOk) || (fault && (pendingNow || x.testNow) && !lost)
  let useT := verdict = some 0
  let yr := if useC then d.ratioOf k m.vf y.c else if useT then (if asP then y.t else d.ratioOf k m.vf y.t) else y.p
  let r : Meas := {
    slot := k, num := yr.1, den := yr.2, settle := x.settleNext && !lost && !fault, subst := useC || useT || (gp && !lost), abort := abort,
    sat := if useC then ovC else if useT then m.ovT else ovP, wire := (d.slot k).wire, plaus := d.disagrees k, test := testDone,
    degr := degradedChan w n, limit := m.limiter || bitOf (d.lpSt k) 0, clocks := sp.p, vf := m.vf, tEnd := tEnd }
  let d := d.when (!block) fun d => d.sendResult n .p r
  let d := d.when (d.kind k = 2) fun d =>
    d.sendResult n .c { slot := k, num := y.c.1, den := y.c.2, tEnd := tEnd, vf := m.vf }
  let d := d.when (d.graft.calSlot = some k && !block) fun d =>
    if d.graft.calOn then d.graftWindow w k m (!r.settle && !r.abort && !r.test) else { d with graft := { d.graft with calOn := true } }
  let d := (d.carry n m (!lost && !block) (tRan && !(lost && role = 1) && !block)).loopFlags k m
  let d := d.when (verdict.isNone && d.rd (Reg.CV_PLAUS_STATE k) = VOTING && !tRan) fun d => d.modChan n fun c => { c with resT := none }
  let d := d.when (!block) fun d =>
    d.calWindow k yf m.vf (!x.settleNext && !lost && !fault) (!x.settleNext && !x.testNow)
  let d := (d.modSlot k fun x => { x with
    settleNext := x.settleNext && (lost || (d.branch b).refinFault || (d.branch b).refEnd), urgNeed := x.urgRun }).openWindow k
  ((d.calibrate k).nextTest k).calSettle w b

/-- The compliance work of a LOOP_OUT at the end of a grid window or block (R137, R138). -/
def Dev.loopOutEnd (d : Dev) (w : Worn) (k : Nat) (m : WinMeas) (sp : Spans) : Dev :=
  if d.kind k ≠ 2 then d
  else
    let c := d.chan (d.chanOf k)
    let d := d.when ((c.subDue || c.ackDue) && d.applyBlocked k) (·.complianceAct k)
    let y := d.triple w k m sp
    let yc := if roleOf w (d.chanOf k) = 2 || d.standsIn k true then y.t else y.c
    d.compliance k (yc.mul (25000000, 1)).round (d.windowTicks k * 15625 / 256) m.satNs m.satEver

/-- The window of a MONITOR handle (R80): the mean of its samples, or T's latest measurement of a reference, as a fraction. -/
def Dev.monitorValue (d : Dev) (k : Nat) (mon : Int) : Frac :=
  let x := d.branch (d.chanOf k / 4)
  match d.chanOf k % 4 with
  | 0 => (mon, 75000000)
  | 1 => (mon, 256000)
  | 2 => (x.refMeasA, 5000000)
  | _ => (x.refMeasB, 5000000)

/-- A grid window of a slot can end: a driver or MONITOR, running, with an origin (R65, R66, R77), on a branch whose converters run
(R392, R408). -/
def Dev.windowRuns (d : Dev) (k : Nat) : Bool :=
  measuring (d.kind k) && !d.isObserver k && (d.hst k = RUNNING || d.hst k = HSAFE) && !(d.slot k).await && !(d.slot k).needOrg &&
    !(d.branch (d.chanOf k / 4)).parked && !d.ucSwitching (d.chanOf k / 4)

/-- The running window of a slot is over at time t (R68): its last branch tick is not after t. A branch without a link keeps its own
time (R22), so the event alone says it. -/
def Dev.windowDue (d : Dev) (k t : Nat) : Bool :=
  !(d.branch (d.chanOf k / 4)).linkUp || (d.slot k).winEnd ≤ tickNear (256 * t)

/-- The ring time at which the running window of a slot ends (R68). -/
def Dev.windowStop (d : Dev) (k t : Nat) : Nat :=
  if (d.branch (d.chanOf k / 4)).linkUp then tickNs (d.slot k).winEnd else t

/-- The window of a MONITOR handle ends (R80). -/
def Dev.monitorWindow (d : Dev) (w : Worn) (k : Nat) (m : WinMeas) (tEnd : Nat) : Dev :=
  let y := d.monitorValue k m.mon
  let r : Meas := {
    slot := k, num := y.1, den := y.2, settle := (d.slot k).settleNext, degr := drifts w (d.chanOf k / 4),
    clocks := d.windowTicks k, tEnd := tEnd }
  ((d.sendResult (d.chanOf k) .t r).modSlot k fun x => { x with settleNext := false }).openWindow k

/-- WINDOW_END (R67, R68). -/
def execWindowEnd (h : SlotNo) (m : WinMeas) (t : Nat) (s : State) : Host.Outcome State Fault Refusal :=
  let d := s.dev.at t
  if !d.windowRuns h || d.fast h || !d.windowDue h t then .next { s with dev := d }
  else
    let tEnd := d.windowStop h t
    let r := d.calSettle s.worn (d.chanOf h / 4)
    if d.kind h = 7 then .next { s with dev := r.1.monitorWindow r.2 h m tEnd, worn := r.2 }
    else
      let sp := Spans.all (r.1.windowTicks h)
      let q := (r.1.loopOutEnd r.2 h m sp).pairWindow r.2 h m sp false tEnd
      .next { s with dev := q.1, worn := q.2 }

/-- The sums of a block: the ones and the bits of the BITSTREAM words of each converter, no residues (R70). -/
def Slot.blockMeas (x : Slot) (m : WinMeas) : WinMeas × Spans :=
  ({ m with nP := x.blkP.1, nC := x.blkC.1, nT := x.blkT.1, sP := 0, rP := 0, sC := 0, rC := 0, sT := 0, rT := 0 },
    ⟨4 * x.blkP.2, 4 * x.blkC.2, 4 * x.blkT.2⟩)

/-- FAST_BLOCK_END (R70): a block of 16 384 modulator clocks counts as one window for plausibility, test and compliance. A block of
which the crown received no bits of P or C is passed over. -/
def execFastBlockEnd (h : SlotNo) (m : WinMeas) (t : Nat) (s : State) : Host.Outcome State Fault Refusal :=
  let d := s.dev.at t
  if !d.windowRuns h || !d.fast h || d.kind h = 7 || !d.windowDue h t then .next { s with dev := d }
  else
    let q := (d.slot h).blockMeas m
    let role := roleOf s.worn (d.chanOf h)
    if (if role = 1 || d.standsIn h false then q.2.t else q.2.p) = 0 ∨ (if role = 2 || d.standsIn h true then q.2.t else q.2.c) = 0 then
      .next { s with dev := d.openWindow h }
    else
      let tEnd := d.windowStop h t
      let d := d.modChan (d.chanOf h) fun c => { c with resP := none, resC := none, resT := none }
      let r := (d.loopOutEnd s.worn h q.1 q.2).pairWindow s.worn h q.1 q.2 true tEnd
      .next { s with dev := r.1, worn := r.2 }

/-! Mains tracking (R69). -/

/-- The running slots that track the edges of a level handle under codes 2 and 3. -/
def Dev.trackers (d : Dev) (lv : Nat) : List Nat :=
  d.liveSlots.filter fun k => usesPair (d.kind k) && !d.isObserver k && (d.rd (Reg.CV_WINDOW k) = 2 || d.rd (Reg.CV_WINDOW k) = 3) &&
    d.rd (Reg.CV_MAINS_SRC k) = d.rd (Reg.HND_ID lv)

/-- A period lies in the tracking window of code 2 or 3, in ns (R69): 47.5 to 52.5 Hz, 57.0 to 63.0 Hz. -/
def inTracking (code per : Nat) : Bool :=
  if code = 2 then 475 * per ≤ 10000000000 && 10000000000 ≤ 525 * per else 570 * per ≤ 10000000000 && 10000000000 ≤ 630 * per

/-- Tracking becomes LOST (R69). -/
def Dev.mainsLost (d : Dev) (k : Nat) : Dev :=
  let per := (d.slot k).mPeriod
  let d := d.modSlot k fun x => { x with mGood := 0 }
  if d.rd (Reg.CV_MAINS_STATE k) = 3 then d
  else (d.wr (Reg.CV_MAINS_STATE k) 3).log1 0x040B (d.rd (Reg.HND_ID k)) (per / 1000)

/-- One rising edge reaches a tracking slot (R69). -/
def Dev.mainsEdge (d : Dev) (k tc : Nat) : Dev :=
  let x := d.slot k
  if x.mLast = 0 then d.setSlot k { x with mLast := tc }
  else
    let per := tc - x.mLast
    let d := d.setSlot k { x with mLast := tc, mPeriod := per }
    if inTracking (d.rd (Reg.CV_WINDOW k)) per then
      let g := min 4 (x.mGood + 1)
      let d := d.modSlot k fun x => { x with mGood := g }
      if g < 4 then d
      else
        let was := d.rd (Reg.CV_MAINS_STATE k)
        let d := d.wr (Reg.CV_MAINS_STATE k) 2
        d.when (was = 3) fun d => d.log1 0x040C (d.rd (Reg.HND_ID k)) (per / 1000)
    else d.mainsLost k

/-- MAINS_TIMEOUT (R69): two nominal periods without a rising edge. -/
def execMainsTimeout (h : SlotNo) (t : Nat) (s : State) : Host.Outcome State Fault Refusal :=
  s.run fun _ d =>
    let d := d.at t
    if usesPair (d.kind h) && (d.rd (Reg.CV_WINDOW h) = 2 || d.rd (Reg.CV_WINDOW h) = 3) then
      (d.mainsLost h).modSlot h fun x => { x with mLast := 0 }
    else d

/-- A LEVEL_IN handle is destroyed: the windows that tracked its edges take the nominal length (R69). -/
def Dev.mainsGone (d : Dev) (lv : Nat) : Dev :=
  d.each (d.trackers lv) fun d k => (d.mainsLost k).modSlot k fun x => { x with mLast := 0 }

/-- I:13 after a change of the window code or the mains source (R69). -/
def Dev.mainsStart (d : Dev) (k : Nat) : Dev :=
  let w := d.rd (Reg.CV_WINDOW k)
  let d := d.modSlot k fun x => { x with mGood := 0, mLast := 0, mPeriod := 0 }
  if w = 2 ∨ w = 3 then
    let src := d.rd (Reg.CV_MAINS_SRC k)
    d.wr (Reg.CV_MAINS_STATE k) (if d.isLive src && d.kind (src % 128) = 4 then 1 else 3)
  else d.wr (Reg.CV_MAINS_STATE k) 0

/-! References (R76 to R78, R85, R86). -/

/-- REF_READY (R77): the bit rises; grids take their origin at the next boundary. -/
def execRefReady (b : BranchNo) (t : Nat) (s : State) : Host.Outcome State Fault Refusal :=
  s.run fun _ d =>
    let d := d.at t
    if (d.branch b).valid && !(d.rd (Reg.BR_REF_SEL b) = 1 && (d.branch b).refinFault) then
      d.modBranch b fun x => { x with refReady := true }
    else d

/-- REFIN_FAULT (R78): watched under EXTERNAL. -/
def execRefinFault (b : BranchNo) (mv t : Nat) (s : State) : Host.Outcome State Fault Refusal :=
  s.run fun _ d =>
    let d := d.at t
    if d.rd (Reg.BR_REF_SEL b) = 1 ∧ (d.branch b).refinFault = false then
      (d.modBranch b fun x => { x with refinFault := true }).report (4 * b) 0x0406 (0xFFF0 + b) (min 65535 mv)
    else d

/-- REFIN_RESTORED (R78): P's first window after it is a settling change at the next boundary. -/
def execRefinRestored (b : BranchNo) (mv t : Nat) (s : State) : Host.Outcome State Fault Refusal :=
  s.run fun _ d =>
    let d := d.at t
    if (d.branch b).refinFault then
      (d.modBranch b fun x => { x with refinFault := false, refEnd := true }).report (4 * b) 0x0407 (0xFFF0 + b) (min 65535 mv)
    else d

/-- At a boundary the end of a reference fault becomes a settling change of the branch's pair handles (R78, R95). -/
def Dev.refEnds (d : Dev) (t : Nat) : Dev :=
  d.each [0, 1, 2, 3] fun d b =>
    if (d.branch b).refEnd then
      (d.modBranch b fun x => { x with refEnd := false }).each ((d.runningIn b).filter fun k => usesPair (d.kind k)) fun d k =>
        d.settlingChange k t true
    else d

/-- A changed reference selection applies at a boundary (R77, R95): REF_READY falls until REF_READY rises again. -/
def Dev.refSelect (d : Dev) (b v t : Nat) : Dev :=
  if d.rd (Reg.BR_REF_SEL b) = v then d
  else
    let d := (d.wr (Reg.BR_REF_SEL b) v).modBranch b fun x => { x with refReady := false, refinFault := false, refEnd := false }
    d.each (d.runningIn b) fun d k => d.settlingChange k t

/-- CALIBRATION_CYCLE (R85, R86): a cycle falls due; devA and devB are the deviations of REF_A and REF_B from their factory ratios to
the band-gap in 0.1 ppm and zero T's own zero in counts at 24-bit scale, as T measures them in it. While T votes the references are still compared and a drift is kept for the end of
the vote (R96). -/
def execCalibrationCycle (b : BranchNo) (devA devB zero : Int) (t : Nat) (s : State) : Host.Outcome State Fault Refusal :=
  let r := (s.dev.at t).calSettle s.worn b
  .next { s with dev := r.1.calBegin b devA devB zero, worn := r.2 }

/-! Urgent conversions (R90 to R94). -/

/-- The driver that an urgent request of a slot acts on (R90). -/
def Dev.urgentTarget (d : Dev) (k : Nat) : Nat := d.master k

/-- A slot accepts urgent requests (R90, R94). -/
def Dev.urgentOk (d : Dev) (k : Nat) : Bool :=
  measuring (d.kind k) && (d.hst k = RUNNING || (d.hst k = HSAFE && d.kind k ≠ 7))

/-- The urgent conversion starts with the arrival of its CONV word at the branch (R91): P's running window is lost, except in fast mode
(R93). The 1024 modulator clocks that begin 2 µs later have their middle at 127 µs. -/
def Dev.urgentStart (d : Dev) (k t : Nat) : Dev :=
  d.modSlot k fun x => { x with urgRun := true, urgNeed := x.urgNeed || !d.fast k, urgMid := t + 127000 }

/-- An urgent request reaches the crown: joined to a waiting one, or sent to the branch as a CONV word (R91, R93), which carries the slot
time t of a step (R192). -/
def Dev.urgentRequest (d : Dev) (k id seq : Nat) (t : Nat := d.now) : Dev :=
  let j := d.urgentTarget k
  let x := d.slot j
  if x.urgRun || x.urgReqs ≠ [] then d.setSlot j { x with urgNext := x.urgNext ++ [(id, seq)] }
  else
    (d.setSlot j { x with urgReqs := [(id, seq)] }).toBranch (d.chanOf j / 4) (.conv j 1 t)

/-- The record I:1F of a slot (R91): result word, aux word with the SEQ of the latest record, time. -/
def Dev.storeUrgent (d : Dev) (k : Nat) (code : Int) (f : RecFlags) (time : Nat) : Dev :=
  let (_, r) := d.formRec k code f time time false
  d.wr (Reg.CV_URGENT k) (packLE [(4, r.w), (4, r.a), (8, time)])

end Sys2Proof.Machine
end

