-- ==== Sys2Proof/Machine/Loops.lean ====
section
/-!
DEFINITION. Loop, voltage and level channels (R131 to R158): delivery of converter results to the filter units, trims, buttons, the
transmitter supply, level inputs and line faults.
-/
namespace Sys2Proof.Machine

/-! Trims and buttons (R139 to R144, R151). -/

/-- The trim object of a slot. -/
def trimKey (k : Nat) (span : Bool) : Nat := if span then Reg.LP_TRIM_SPAN k else Reg.LP_TRIM_ZERO k

/-- The limit of a trim (R139). -/
def trimLimit (span : Bool) : Int := if span then 800000 else 500000

/-- A trim within its limits (R139). -/
def trimFits (span : Bool) (v : Int) : Bool := decide (-(trimLimit span) ≤ v ∧ v ≤ trimLimit span)

/-- Staging a trim change for the next boundary: source 1 capture, a value; 2 buttons, a step (R141, R151). -/
def Dev.stageTrim (d : Dev) (k : Nat) (span : Bool) (v : Int) (source : Nat) : Dev :=
  { d with staged := d.staged ++ [{
      ix := 0x2000 + 0x40 * k, sub := if span then 0x29 else 0x28, hnd := d.rd (Reg.HND_ID k), val := ofInt 32 v, len := 4,
      cyc := d.rd Reg.TX_NEXT, aux := source }] }

/-- The first step of a button sequence on a trim keeps the trim in force before it, which a reset restores (R141). -/
def Dev.keepTrim (d : Dev) (k : Nat) (span : Bool) : Dev :=
  if d.rd Reg.TB_LANDS % 4 = 0 || d.buttons.undo.any fun p => p.1 = trimKey k span then d
  else { d with buttons := { d.buttons with undo := d.buttons.undo ++ [(trimKey k span, d.rd (trimKey k span))] } }

/-- A trim change takes effect at a boundary (R141): value, event, time. A step adds to the value in force and stops at the limit. -/
def Dev.applyTrim (d : Dev) (k : Nat) (span : Bool) (v : Int) (source t : Nat) : Dev :=
  let old := d.rdI 32 (trimKey k span)
  let new := if source = 2 then clampInt (-(trimLimit span)) (trimLimit span) (old + v) else v
  let d := d.when (source = 2) (·.keepTrim k span)
  let d := (d.wrI 32 (trimKey k span) new).wr (Reg.LP_TRIM_TIME k) t
  let d := d.when (source = 2) fun d => d.wrI 32 Reg.TB_LAST_DELTA (d.rdI 32 Reg.TB_LAST_DELTA + (new - old))
  d.log1 0x0389 (d.rd (Reg.HND_ID k)) (nat01 span + source * 2 + ofInt 24 new * 256)

/-- The slot of the button handle, while it is a live loop driver (R142). -/
def Dev.buttonSlot (d : Dev) : Option Nat :=
  let h := d.rd Reg.TB_HANDLE
  let k := h % 128
  if d.isLive h && d.isDriver k && (d.kind k = 1 || d.kind k = 2) then some k else none

/-- A capture runs (R143). -/
def Dev.capturing (d : Dev) : Bool := d.rd Reg.TB_STATUS = 1 || d.rd Reg.TB_STATUS = 2

/-- A capture is abandoned (R151). -/
def Dev.captureAbandon (d : Dev) : Dev :=
  if d.capturing then (d.wr Reg.TB_STATUS 0).log1 0x038A (d.rd Reg.TB_HANDLE) 3 else d

/-- A clean record (R143). -/
def RecFlags.clean (f : RecFlags) : Bool := !(f.abort || f.settle || f.subst || f.sat || f.wire || f.plaus || f.fade)

/-- I_c of a record: its trimmed value with the trims taken off (R140, R143). -/
def untrim (z s : Int) (i : Frac) : Frac :=
  ((i.add (-4000000, 1)).mul (16000000 + s, 16000000)).add (4000000 + z, 1)

/-- One record of the button handle during a capture (R143). -/
def Dev.captureRecord (d : Dev) (k : Nat) (o : UnitOut) : Dev :=
  if !d.capturing || d.rd Reg.TB_HANDLE ≠ d.rd (Reg.HND_ID k) || d.kind k ≠ 1 then d
  else
    let span := d.rd Reg.TB_STATUS = 2
    let x := d.buttons
    let (z, s) := d.trims k
    let i := untrim z s ((codeFrac (d.signedFmt k) o.code).mul (d.fullScale k 0))
    let clean := o.flags.clean
    let x : Buttons := if clean then
        let q := Frac.add (x.capSum, x.capDen) i
        { x with capN := x.capN + 1, capSum := q.1, capDen := q.2 }
      else x
    let x : Buttons := { x with capAll := x.capAll + 1 }
    let d := { d with buttons := x }
    if x.capN = 4 then
      let v := Frac.round (Frac.add (x.capSum, x.capDen * 4) (if span then -20000000 - z else -4000000, 1))
      if trimFits span v then (d.stageTrim k span v 1).wr Reg.TB_STATUS 3
      else (d.wr Reg.TB_STATUS 4).log1 0x038A (d.rd Reg.TB_HANDLE) (1 + ofInt 24 v * 256)
    else if x.capAll = 16 then (d.wr Reg.TB_STATUS 5).log1 0x038A (d.rd Reg.TB_HANDLE) 2
    else d

/-- One step of a trim of a LOOP_OUT handle (R144): TRD high raises the output. -/
def Dev.buttonStep (d : Dev) (k : Nat) (span trdLow : Bool) : Dev := d.stageTrim k span (if trdLow then -100 else 100) 2

/-- BUTTON_PRESS (R142 to R144): a debounced press of TRZ or TRS. -/
def execButtonPress (span trd : Bool) (t : Nat) (s : State) : Host.Outcome State Fault Refusal :=
  s.run fun _ d =>
    let d := d.at t
    let lands := setBit (setBit (d.rd Reg.TB_LANDS) (if span then 1 else 0) true) 2 trd
    let d := d.wr Reg.TB_LANDS lands
    if bitOf lands 0 && bitOf lands 1 then { d with buttons := { d.buttons with lock := true, held := none } }
    else if d.rd Reg.TB_ENABLE ≠ 1 || d.buttons.lock then d
    else match d.buttonSlot with
      | none => d
      | some k =>
        if d.kind k = 1 then
          if d.capturing then d
          else
            let d := { d with buttons := { d.buttons with
              last := t, capN := 0, capAll := 0, capSum := 0, capDen := 1, held := some span } }
            d.wr Reg.TB_STATUS (if span then 2 else 1)
        else
          let d := { d with buttons := { d.buttons with
            last := t, held := some span } }
          (d.wr Reg.TB_LAST_DELTA 0).buttonStep k span trd

/-- BUTTON_REPEAT (R144): a LOOP_OUT button held for 1 s repeats its step. -/
def execButtonRepeat (trd : Bool) (t : Nat) (s : State) : Host.Outcome State Fault Refusal :=
  s.run fun _ d =>
    let d := d.at t
    let d := d.wrBit Reg.TB_LANDS 2 trd
    match d.buttons.held, d.buttonSlot with
    | some span, some k => if d.kind k = 2 ∧ d.rd Reg.TB_ENABLE = 1 ∧ d.buttons.lock = false then d.buttonStep k span trd else d
    | _, _ => d

/-- TB_ENABLE_TIMEOUT (R142): 1 800 s without an accepted press. -/
def execTbEnableTimeout (t : Nat) (s : State) : Host.Outcome State Fault Refusal :=
  s.run fun _ d =>
    let d := d.at t
    if d.buttons.last + 1800000000000 ≤ t then d.wr Reg.TB_ENABLE 0 else d

/-! Delivery of converter results (R103, R115, R140). -/

/-- A converter result enters the unit of one slot; one of a window that ended at or before the latest chain reset is discarded (R95,
R114, R125). -/
def Dev.unitInput (d : Dev) (j : Nat) (m : Meas) : Dev × Option UnitOut :=
  let tag : Tag := {
    subst := m.subst, sat := m.sat, wire := m.wire, plaus := m.plaus, test := m.test, degr := m.degr, limit := m.limit, vf := m.vf }
  let i := d.unitOf j
  if d.rd (Reg.FI_STATE i) ≠ 2 || m.tEnd ≤ (d.inst i).tReset then (d, none)
  else if m.abort then d.feed j i none 0 { test := m.test, degr := m.degr, limit := m.limit, vf := m.vf } (m.clocks, 4) m.tEnd
  else
    let sg := d.signedFmt j
    let c := codeOf sg (d.trimmed j m.vf (m.num, m.den))
    d.feed j i (some (chainOf sg c.1)) 0 { tag with sat := tag.sat || c.2 } (m.clocks, 4) m.tEnd

/-- The slots whose units take the results of a driver: itself and its observers (R38, R103). -/
def Dev.takers (d : Dev) (k : Nat) : List Nat := k :: d.observers k

/-! The transmitter supply and the limiter (R131, R132). -/

/-- The LOOP_IN driver with TXSUP of a channel. -/
def Dev.txDriver (d : Dev) (n : Nat) : Option Nat :=
  match d.drvP n with
  | some k => if d.kind k = 1 then some k else none
  | none => none

/-- LIMITER_ACT (R131): the internal burden's limiter begins to act. -/
def execLimiterAct (h : SlotNo) (mv t : Nat) (s : State) : Host.Outcome State Fault Refusal :=
  s.run fun _ d =>
    let d := d.at t
    if d.isDriver h && d.kind h = 1 && !bitOf (d.rd (Reg.HND_BIND h)) 11 then
      (d.setLp h (setBit (d.lpSt h) 0 true)).report (d.chanOf h) 0x0384 (d.rd (Reg.HND_ID h)) mv
    else d

/-- TXSUP_CURRENT_LIMIT (R132): the supply begins or ceases to limit. -/
def execTxsupCurrentLimit (n : ChanNo) (active : Bool) (t : Nat) (s : State) : Host.Outcome State Fault Refusal :=
  s.run fun _ d =>
    let d := d.at t
    match d.txDriver n with
    | none => d
    | some k =>
      let act := active && (d.chan n).txOn
      let d := d.modChan n fun c => { c with txLim := act }
      d.when act fun d => d.setLp k (setBit (d.lpSt k) 1 true)

/-- TXSUP_LIMIT_TIMEOUT (R132): 50 ms of limiting without a break. -/
def execTxsupLimitTimeout (n : ChanNo) (t : Nat) (s : State) : Host.Outcome State Fault Refusal :=
  s.run fun _ d =>
    let d := d.at t
    match d.txDriver n with
    | none => d
    | some k =>
      if (d.chan n).txLim then
        let d := d.modChan n fun c => { c with txOff := true, txOn := false, txLim := false }
        (d.setLp k (setBit (d.lpSt k) 2 true)).report n 0x0385 (d.rd (Reg.HND_ID k)) (min 65535 (d.branch (n.val / 4)).vf)
      else d

/-- TXSUP_OFF_END (R132): on again where the commanded or posture value is on. -/
def execTxsupOffEnd (n : ChanNo) (t : Nat) (s : State) : Host.Outcome State Fault Refusal :=
  s.run fun _ d =>
    let d := d.at t
    if (d.chan n).txOff then
      let d := d.modChan n fun c => { c with txOff := false, txOn := c.force.tx = 1 }
      match d.txDriver n with
      | none => d
      | some k => d.setLp k (setBit (d.lpSt k) 2 false)
    else d

/-- WATCH_COMPLIANCE_JUDGEMENT (R405): in WATCH the detector is judged every 20 ms. -/
def execWatchComplianceJudgement (h : SlotNo) (satNs : Nat) (satEver : Bool) (t : Nat) (s : State) : Host.Outcome State Fault Refusal :=
  s.run fun _ d =>
    let d := d.at t
    if d.isDriver h && d.kind h = 2 && (d.branch (d.chanOf h / 4)).parked then
      let c := d.chan (d.chanOf h)
      let d := d.when (c.subDue || c.ackDue) (·.complianceAct h)
      d.compliance h (d.rdI 32 (Reg.LP_OUT_ACTUAL h)) 20000000 satNs satEver
    else d

/-! Level inputs (R146 to R150). -/

/-- The LEVEL_IN driver of a channel. -/
def Dev.lvDriver (d : Dev) (n : Nat) : Option Nat :=
  match d.drvS n with
  | some k => if d.kind k = 4 then some k else none
  | none => none

/-- LEVEL_TYPE of a slot (R42). -/
def Dev.lvType (d : Dev) (k : Nat) : Nat := bitsOf (d.rd (Reg.HND_BIND k)) 14 2

/-- A level channel is judged: armed, on a powered branch that the crown has adopted or configured
(R148, R149); the under-voltage lock leaves it judged (R404). -/
def Dev.lvJudged (d : Dev) (n : Nat) : Bool :=
  match d.lvDriver n with
  | none => false
  | some k => ARMED ≤ d.hst k && (d.branch (n / 4)).power ≠ 0 && (d.chan n).live

/-- A comparator of an enabled line-fault detection is active (R147). -/
def Chan.comp (c : Chan) : Bool := (c.compWire && bitOf c.detect 0) || (c.compShort && bitOf c.detect 1)

/-- A line fault is declared (R147). -/
def Chan.fault (c : Chan) : Bool := c.wireBrk || c.short

/-- One pass of the debounce at an instant, up to the acceptance (R148). -/
def Chan.debounceRaw (c : Chan) (t : Nat) : Chan :=
  if c.comp then { c with cand := c.level }
  else if c.raw ≠ c.cand then { c with cand := c.raw, tc := t }
  else c

/-- LEVEL takes the present input without an edge, and no line fault stands declared (R148, R149). -/
def Chan.levelStart (c : Chan) (t : Nat) : Chan :=
  let r := c.inp != c.invert
  { c with
    raw := r, cand := r, level := r, tc := t, rises := 0, falls := 0, newRise := 0, newFall := 0, live := true, wireBrk := false,
    short := false }

/-- The time-stamp of an accepted edge: corrected for the 10 µs filter, rounded down to 100 ns (R148). -/
def edgeStamp (tc : Nat) : Nat := (tc - 10000) / 100 * 100

/-- LEVEL_RAW_CHANGE (R146, R148): the filtered comparator output changes. -/
def execLevelRawChange (n : ChanNo) (raw : Bool) (t : Nat) (s : State) : Host.Outcome State Fault Refusal :=
  s.run fun _ d =>
    let d := d.at t
    let j := d.lvJudged n
    d.modChan n fun c =>
      let c := { c with inp := raw, raw := raw != c.invert }
      if j then c.debounceRaw t else c

/-- LEVEL_EDGE_ACCEPTED (R148, R392): the candidate has been stable for I:11. -/
def execLevelEdgeAccepted (n : ChanNo) (t : Nat) (s : State) : Host.Outcome State Fault Refusal :=
  s.run fun _ d =>
    let d := d.at t
    let c := d.chan n
    if d.lvJudged n && !d.ucSwitching (n.val / 4) && !c.comp && !c.fault && c.cand != c.level && c.tc + c.debounce * 1000 ≤ t then
      let st := edgeStamp c.tc
      if c.cand then
        let d := d.setChan n { c with level := true, rises := (c.rises + 1) % 2 ^ 32, tRise := st, newRise := c.newRise + 1 }
        match d.lvDriver n with
        | none => d
        | some k => d.each (d.trackers k) fun d j => d.mainsEdge j st
      else d.setChan n { c with level := false, falls := (c.falls + 1) % 2 ^ 32, tFall := st, newFall := c.newFall + 1 }
    else d

/-- LINE_FAULT_COMPARATOR (R147): a comparator of a type 2 input becomes active or inactive; it counts while its detection is enabled. -/
def execLineFaultComparator (n : ChanNo) (short active : Bool) (t : Nat) (s : State) : Host.Outcome State Fault Refusal :=
  s.run fun _ d =>
    let d := d.at t
    match d.lvDriver n with
    | none => d
    | some k =>
      if d.lvType k = 2 then
        d.modChan n fun c => (if short then { c with compShort := active } else { c with compWire := active }).debounceRaw t
      else d

/-- LINE_FAULT_DECLARED (R147): a comparator has been active for 100 µs. -/
def execLineFaultDeclared (n : ChanNo) (short : Bool) (na t : Nat) (s : State) : Host.Outcome State Fault Refusal :=
  s.run fun _ d =>
    let d := d.at t
    let c := d.chan n
    match d.lvDriver n with
    | none => d
    | some k =>
      if short then
        if c.compShort && bitOf c.detect 1 && !c.short then
          (d.setChan n { c with short := true, na := na }).report n 0x0391 (d.rd (Reg.HND_ID k)) na
        else d
      else if c.compWire && bitOf c.detect 0 && !c.wireBrk then
        (d.setChan n { c with wireBrk := true, na := na }).report n 0x0390 (d.rd (Reg.HND_ID k)) na
      else d

/-- LINE_FAULT_END (R147): 100 µs after its comparator went inactive. -/
def execLineFaultEnd (n : ChanNo) (na t : Nat) (s : State) : Host.Outcome State Fault Refusal :=
  s.run fun _ d =>
    let d := d.at t
    let c := d.chan n
    let w := c.wireBrk && c.compWire
    let h := c.short && c.compShort
    if c.fault && (w != c.wireBrk || h != c.short) then
      let d := d.setChan n { c with wireBrk := w, short := h, na := na }
      d.report n 0x0392 (match d.lvDriver n with | some k => d.rd (Reg.HND_ID k) | none => 0xFFE0 + n) na
    else d

/-- A changed line detection at a boundary (R148): a declared fault whose detection is off ends, and the debounce goes on with the
comparators that now count. -/
def Dev.lvDetect (d : Dev) (k v : Nat) : Dev :=
  let n := d.chanOf k
  let c := d.chan n
  let ends := (c.wireBrk && !bitOf v 0) || (c.short && !bitOf v 1)
  let c1 : Chan := { c with detect := v, wireBrk := c.wireBrk && bitOf v 0, short := c.short && bitOf v 1 }
  let d := d.setChan n (c1.debounceRaw d.now)
  d.when ends fun d => d.log1 0x0392 (d.rd (Reg.HND_ID k)) c.na

/-- A changed inversion at a boundary (R148): raw, candidate and level invert together, no edge counts. -/
def Dev.lvInvert (d : Dev) (k v : Nat) : Dev :=
  d.modChan (d.chanOf k) fun c =>
    if c.invert = (v = 1) then c else { c with invert := v = 1, raw := !c.raw, cand := !c.cand, level := !c.level }

/-- I:10 of a level channel (R156). -/
def Chan.lvState (c : Chan) : Nat := nat01 c.level + nat01 c.raw * 2 + nat01 c.wireBrk * 4 + nat01 c.short * 8

/-- The sensor current of a type 2 input as measured now, in nA with 10 µA resolution (R146): no command carries it, so it is a free value
(log entry 15); the other types read 0. -/
def Dev.senseLevel (d : Dev) (k : Nat) : Dev :=
  d.took.modChan (d.chanOf k) fun c => { c with na := if d.lvType k = 2 then d.freeNat 32 / 10000 * 10000 else 0 }

/-- The record of SAMPLE_INPUTS for a level handle (R150); the edge marks start afresh. -/
def Dev.lvRecord (d : Dev) (k tOut : Nat) : Dev × Rec :=
  let n := d.chanOf k
  let c := d.chan n
  let f : RecFlags := { wire := c.comp || c.fault, unsync := d.canopy.timeLost }
  let data := nat01 c.level + nat01 (0 < c.newRise) * 2 + nat01 (0 < c.newFall) * 4 + nat01 (1 < c.newRise + c.newFall) * 8 +
    c.rises % 65536 * 256
  (d.setChan n { c with newRise := 0, newFall := 0 },
    { w := resultWord false data f, a := auxWord k (d.slot k).nextSeq f, tOut := tOut, tRep := tOut })

/-- Placing a status record for a handle and the same record for its observers (R150, R184). -/
def Dev.pushStatus (d : Dev) (k : Nat) (r : Rec) : Dev :=
  d.each (d.takers k) fun d j =>
    let seq := (d.slot j).nextSeq
    let a := j % 128 + seq * 128 + r.a / 2 ^ 16 * 2 ^ 16
    (d.modSlot j fun x => { x with seq := seq }).pushRec j { r with a := a }

end Sys2Proof.Machine
end

