-- ==== Sys2Proof/Machine/Handles.lean ====
section
/-!
DEFINITION. Handles, postures and module states (R35 to R63): safe triggers, commands, creation and destruction.
-/
namespace Sys2Proof.Machine

/-! Postures (R56, R58, R63, R136). -/

/-- The value a posture code gives a channel, none for HOLD; by the kind of the P land's driver (R56, R136). -/
def Dev.postureValue (d : Dev) (n code nA : Nat) : Option OutVal :=
  let f := (d.chan n).force
  match d.drvP n with
  | none => none
  | some k =>
    match d.kind k, code with
    | 5, 0 => some { f with cmd := 0 }
    | 5, 1 => some { f with cmd := 1 }
    | 6, 0 => some { f with cmd := 0 }
    | 6, 1 => some { f with cmd := 1 }
    | 2, 3 => some { f with nA := nA }
    | 2, 4 => some { f with nA := d.rd (Reg.LP_ALARM_LOW k) }
    | 2, 5 => some { f with nA := d.rd (Reg.LP_ALARM_HIGH k) }
    | 1, 0 => some { f with tx := 0 }
    | 1, 1 => some { f with tx := 1 }
    | _, _ => none

/-- The branch applies the safe posture of a channel: kept as due under a power-up posture (R27) and while its outputs are held (R392),
else in force. -/
def Dev.applyPosture (d : Dev) (w : Worn) (n : Nat) : Dev :=
  let c := d.chan n
  if c.pup || d.ucSwitching (n / 4) then d.setChan n { c with due := true }
  else
    let d := d.setChan n { c with safeOn := true, due := false }
    match d.postureValue n c.post c.postNA with
    | none => d
    | some v => d.setOutput w n v

/-- The driver has a driven output (R51). -/
def Dev.drivenOutput (d : Dev) (k : Nat) : Bool :=
  match d.kind k with
  | 2 => true
  | 5 => true
  | 6 => true
  | 1 => bitOf (d.rd (Reg.HND_BIND k)) 10
  | _ => false

/-- The crown orders the safe posture of a handle (R56): a POSTURE word, where the link is UP. -/
def Dev.orderPosture (d : Dev) (k : Nat) : Dev :=
  let n := d.chanOf k
  if d.drivenOutput k && d.hears (n / 4) then d.toBranch (n / 4) (.postureNow n) else d

/-- The crown sends the posture setting of a handle (R56). -/
def Dev.sendPostureSet (d : Dev) (k : Nat) : Dev :=
  let n := d.chanOf k
  if d.hears (n / 4) && d.isDriver k && ARMED ≤ d.hst k then
    d.toBranch (n / 4) (.postureSet n (d.rd (Reg.HND_POSTURE k)) (d.rd (Reg.HND_POSTURE_VALUE k)))
  else d

/-- The posture of a handle is released (R49): the next APPLY applies the staged value. -/
def Dev.releasePosture (d : Dev) (k : Nat) : Dev :=
  (d.modChan (d.chanOf k) fun c => { c with safeOn := false, due := false })

/-! Safe triggers (R49, R57). -/

/-- The filter unit of a handle that is SAFE runs (R40, R51): where it stood, its grid takes its origin at the next boundary, as after START
(DESIGN CHOICE, log entry 65). -/
def Dev.unitRun (d : Dev) (k : Nat) : Dev :=
  if !measuring (d.kind k) || d.rd (Reg.FI_STATE (d.unitOf k)) = 2 then d
  else
    let d := (d.wr (Reg.FI_STATE (d.unitOf k)) 2).mainsStart k
    (d.restart k d.now true).modSlot k fun x => { x with needOrg := true, await := false }

/-- The filter unit of a handle stops (R40, R96, R119): the window in progress is discarded. -/
def Dev.unitStop (d : Dev) (k : Nat) : Dev :=
  if !measuring (d.kind k) then d
  else
    let d := (d.wr (Reg.FI_STATE (d.unitOf k)) 1).endFade (d.unitOf k)
    if d.isObserver k then d else (d.plausReset k).freshResidues k

/-- One safe trigger acts on a driver handle. -/
def Dev.safeTrigger (d : Dev) (k bit : Nat) : Dev :=
  let st := d.hst k
  let d := d.when (bit ≠ 3 && bit ≠ 6 && d.det && (st = ARMED || st = RUNNING || st = STOPPED)) (·.breach 6)
  if st = ARMED ∨ st = RUNNING ∨ st = STOPPED then
    let d := d.wrBit (Reg.HND_SAFE_CAUSE k) bit true
    (((d.modSlot k fun x => { x with prior := st }).wr (Reg.HND_STATE k) HSAFE).orderPosture k).unitRun k
  else if st = HSAFE ∨ st = LATCHED then d.wrBit (Reg.HND_SAFE_CAUSE k) bit true
  else d

/-- A driver handle of a branch whose digest differs is restored as SAFE with bit 5, whatever its recorded state, which becomes its prior
state (R59). -/
def Dev.safeRestore (d : Dev) (k : Nat) : Dev :=
  let st := d.hst k
  let d := d.wrBit (Reg.HND_SAFE_CAUSE k) 5 true
  if st = HSAFE then d
  else
    let d := d.modSlot k fun x => { x with prior := st, left := if st = LATCHED then x.prior else x.left }
    ((d.wr (Reg.HND_STATE k) HSAFE).orderPosture k).unitRun k

/-- The process-data watchdog restarts (R302): T_PDW cycles of the length in force, rounded up to whole calendar ticks. With no cycle
length in force the time of a T_PDW other than 0 is a free value. -/
def Dev.pdwRestart (d : Dev) : Dev :=
  let T := d.rd Reg.SQ_CYCLE_NS
  let n := d.rd Reg.PDW_CYCLES
  let dur := if n ≠ 0 then (if T = 0 then d.freeNat 32 else n * T) else if T = 0 then 100000000 else (100000000 + T - 1) / T * T
  let ticks := (dur * 32768 + 999999999) / 1000000000
  let d := if n ≠ 0 ∧ T = 0 then d.took else d
  { d with ring := { d.ring with pdwEnd := d.now + (ticks * 1000000000 + 32767) / 32768 } }

/-- The process-data watchdog starts or goes on (R54, R302). -/
def Dev.pdwRun (d : Dev) : Dev := if d.rd Reg.PDW_STATE = 0 then (d.wr Reg.PDW_STATE 1).pdwRestart else d

/-- The process-data watchdog stops (R53, R54). -/
def Dev.pdwStop (d : Dev) : Dev := ((d.wr Reg.PDW_STATE 0).wr Reg.PDW_REMAIN 0)

/-- A module-wide safe trigger (R54, R57): every driver handle takes the cause and the module goes to SAFE. -/
def Dev.moduleSafe (d : Dev) (bit : Nat) : Dev :=
  if d.mode = INIT then d
  else ((d.each d.drivers fun d k => d.safeTrigger k bit).wr Reg.DEV_STATE SAFE).pdwRun

/-- The condition behind a cause bit of a handle persists (R57, R328, R359). -/
def Dev.persists (d : Dev) (k bit : Nat) : Bool :=
  let b := d.chanOf k / 4
  match bit with
  | 0 => d.ring.pdwOut
  | 1 => !(d.branch b).configured
  | 2 => d.rd Reg.CN_ENABLE = 1 && d.rd Reg.CN_STATE = 4 && !(d.rd Reg.CN_POLICY = 1 && d.rd Reg.CN_CAUSE = 1)
  | 4 => d.rd Reg.WD1_STATE = 2 || d.rd Reg.WD1_STATE = 3
  | 5 => (d.branch b).mismatch
  | _ => false

/-- A cause in force on the handle has a persisting condition. -/
def Dev.anyPersists (d : Dev) (k : Nat) : Bool :=
  (List.range 7).any fun b => bitOf (d.rd (Reg.HND_SAFE_CAUSE k)) b && d.persists k b

/-- A handle that is SAFE without a cause returns to its prior state (R49), in which its unit runs only if it is RUNNING (R40). -/
def Dev.leaveSafe (d : Dev) (k : Nat) : Dev :=
  if d.hst k = HSAFE ∧ d.rd (Reg.HND_SAFE_CAUSE k) = 0 then
    let x := d.slot k
    let d := ((d.setSlot k { x with prior := if x.prior = LATCHED then x.left else x.prior }).wr (Reg.HND_STATE k) x.prior).releasePosture k
    d.when (x.prior ≠ RUNNING) (·.unitStop k)
  else d

/-- Clearing cause bits of a handle, and what follows. -/
def Dev.clearCauses (d : Dev) (k mask : Nat) : Dev :=
  (d.wr (Reg.HND_SAFE_CAUSE k) (d.rd (Reg.HND_SAFE_CAUSE k) &&& (0x7F ^^^ (mask &&& 0x7F)))).leaveSafe k

/-! Handle commands (R49, R50, R112). -/

/-- The configuration of a handle is fit to arm (R102). -/
def Dev.armFits (d : Dev) (k : Nat) : Bool :=
  if d.fast k then
    let i := d.unitOf k
    let c := d.cfg i (d.active i)
    256 ≤ c.m1 * c.m2 * c.m3
  else true

/-- Judging a command of I:04 for the present state (R49, R50). -/
def Dev.handleCheck (d : Dev) (k cmd : Nat) : Nat :=
  let st := d.hst k
  let n := d.chanOf k
  match cmd with
  | 1 =>
    if st = ARMED then OK
    else if st ≠ CREATED then RANGE
    else if !d.armFits k then RANGE
    else if measuring (d.kind k) && !d.fits (d.unitOf k) (d.cfg (d.unitOf k) (d.active (d.unitOf k))).load then BUSY
    else OK
  | 2 => if st = RUNNING ∨ st = ARMED ∨ st = STOPPED then OK else RANGE
  | 3 => if st = STOPPED ∨ st = RUNNING then OK else RANGE
  | 4 =>
    if d.isDriver k && (st = HSAFE || st = ARMED || st = RUNNING || st = STOPPED || st = LATCHED) then OK else RANGE
  | 5 =>
    if st ≠ HSAFE then RANGE
    else if (d.rd (Reg.HND_SAFE_CAUSE k) &&& 0x1D) ≠ 0 || d.anyPersists k then BUSY
    else OK
  | 6 =>
    if st ≠ LATCHED then RANGE
    else if (d.chan n).state = swSTUCK_ON || !d.hears (n / 4) then BUSY
    else OK
  | _ => RANGE

/-- The settings of a driver reach its branch (R56, R136, R148, R183). -/
def Dev.branchSettings (d : Dev) (k : Nat) : Dev :=
  let n := d.chanOf k
  if isSwitch (d.kind k) then d.swCommit k
  else if d.kind k = 4 then
    ((d.lvInvert k (d.rd (Reg.LV_INVERT k))).lvDetect k (d.rd (Reg.LV_LINE_DETECT k))).modChan n fun c =>
      { c with debounce := d.rd (Reg.LV_DEBOUNCE k) }
  else if d.kind k = 2 then
    (d.modChan n fun c => { c with trimZ := d.rdI 32 (Reg.LP_TRIM_ZERO k), trimS := d.rdI 32 (Reg.LP_TRIM_SPAN k) }).aim k
  else d

/-- The supply settings of a branch and its hold time reach it at a boundary (R333, R403, R416). -/
def Dev.supplySettings (d : Dev) (b : Nat) : Dev :=
  d.modBranch b fun x => { x with
    warnLvl := d.rd (Reg.VF_WARN_LEVEL b), uvPol := d.rd (Reg.VF_UVLO_POLICY b), tHold := d.rd (Reg.HOLD_TIME b) }

/-- Arming (R49, R112, R148, R169, R183): configuration sent, load reserved, level input and retry count started. -/
def Dev.arm (d : Dev) (k : Nat) : Dev :=
  let n := d.chanOf k
  let d := d.wr (Reg.HND_STATE k) ARMED
  let d := d.when (measuring (d.kind k)) fun d =>
    let i := d.unitOf k
    (d.modInst i fun x => { x with armed := true }).setLoad i (d.cfg i (d.active i)).load 0
  let d := d.when (!d.isObserver k && d.hears (n / 4)) fun d => d.branchSettings k
  let d := d.when (isSwitch (d.kind k) && !d.isObserver k) fun d => d.modChan n fun c => { c with
    left := c.set.retryN, refill := !d.hears (n / 4) }
  let d := d.when (d.kind k = 4 && !d.isObserver k) fun d =>
    d.modChan n fun c => if d.hears (n / 4) then c.levelStart d.now else { c with live := false }
  let d := d.when (d.isDriver k && d.hears (n / 4)) fun d => d.toBranch (n / 4) (.config 1)
  d.sendPostureSet k

/-- Starting (R49, R66, R114, R116). -/
def Dev.start (d : Dev) (k : Nat) : Dev :=
  let d := d.wr (Reg.HND_STATE k) RUNNING
  if !measuring (d.kind k) then d
  else
    let i := d.unitOf k
    let crc := d.rd (Reg.BK_CRC i (d.active i))
    let d := (d.wr (Reg.FI_STATE i) 2).wr (Reg.FI_SAT_COUNT i) 0
    let d := d.when (d.rd (Reg.FI_CLASS i) = 1) fun d =>
      let changed := (d.inst i).crc ≠ some crc
      let d := d.modInst i fun x => { x with crc := some crc }
      d.when changed fun d => d.log1 0x0410 (d.rd (Reg.HND_ID k)) (d.active i + crc % 2 ^ 24 * 256)
    if d.isObserver k then d.chainReset i d.now
    else ((d.mainsStart k).restart k d.now true).modSlot k fun x => { x with owCnt := 0 }

/-- Stopping (R49, R96, R119, R151): the window in progress is discarded. -/
def Dev.stop (d : Dev) (k : Nat) : Dev :=
  let d := d.wr (Reg.HND_STATE k) STOPPED
  let d := d.when (d.rd Reg.TB_HANDLE = d.rd (Reg.HND_ID k)) (·.captureAbandon)
  d.unitStop k

/-- A command of I:04 takes effect at a boundary; one that names the present state does nothing (R50, R52). -/
def Dev.handleDo (d : Dev) (w : Worn) (k cmd : Nat) : Dev :=
  let st := d.hst k
  match cmd with
  | 1 => if st = CREATED then d.arm k else d
  | 2 => if st = ARMED ∨ st = STOPPED then d.start k else d
  | 3 => if st = RUNNING then d.stop k else d
  | 4 => if st = HSAFE then d else d.safeTrigger k 6
  | 5 => d.clearCauses k 0x40
  | 6 =>
    let d := d.swClear w (d.chanOf k)
    if d.rd (Reg.HND_SAFE_CAUSE k) ≠ 0 then (d.wr (Reg.HND_STATE k) HSAFE).orderPosture k
    else d.wr (Reg.HND_STATE k) (d.slot k).prior
  | _ => d

/-! Module commands (R54). -/

/-- A module-wide condition persists (R54, R57). -/
def Dev.modulePersists (d : Dev) : Bool := d.persists 0 0 || d.persists 0 2 || d.persists 0 4

/-- Judging a command of 0200:02 for the present state. -/
def Dev.moduleCheck (d : Dev) (cmd : Nat) : Nat :=
  let m := d.mode
  match cmd with
  | 1 => if m = OPERATE ∨ m = HOLD ∨ m = PREOP then OK else RANGE
  | 2 =>
    if m = OPERATE then OK
    else if m = PREOP ∨ m = HOLD then (if d.rd Reg.CN_ENABLE = 1 ∧ d.rd Reg.CN_STATE = 0 then BUSY else OK)
    else RANGE
  | 3 => if m = INIT then RANGE else OK
  | 4 => if m ≠ SAFE then RANGE else if d.modulePersists then BUSY else OK
  | 5 => if m = OPERATE ∨ m = HOLD then OK else RANGE
  | 6 => if m = PREOP ∨ m = SERVICE then OK else RANGE
  | 7 => if m = SERVICE then OK else RANGE
  | _ => RANGE

/-- A command of 0200:02 takes effect. -/
def Dev.moduleDo (d : Dev) (cmd : Nat) : Dev :=
  let m := d.mode
  match cmd with
  | 1 => if m = PREOP then d else (d.wr Reg.DEV_STATE PREOP).pdwStop
  | 2 => if m = OPERATE then d else (d.wr Reg.DEV_STATE OPERATE).pdwRun
  | 3 => if m = SAFE then d else d.moduleSafe 3
  | 4 => ((d.each d.drivers fun d k => d.clearCauses k 0x1D).wr Reg.DEV_STATE PREOP).pdwStop
  | 5 => if m = HOLD then d else (d.wr Reg.DEV_STATE HOLD).pdwRun
  | 6 => d.wr Reg.DEV_STATE SERVICE
  | 7 => d.wr Reg.DEV_STATE PREOP
  | _ => d

/-! Power-up postures (R60, R62). -/

/-- A power-up code fits the driver of the P land (R62). -/
def pupFits (kind : Nat) (txsup : Bool) (code : Nat) : Bool :=
  match kind with
  | 5 => code = 0 || code = 1
  | 6 => code = 0 || code = 6
  | 2 => code = 0 || code = 3 || code = 4 || code = 5
  | 1 => if txsup then code = 0 else true
  | _ => true

/-- A code fits the present driver of channel n (R62): of the driver of CHnP, which 7 fits not, else of a driver of CHnS alone, which 0
and 7 fit (DEDUCED, log entry 65: where both lands have drivers the posture acts on the P land, whose driver decides). -/
def Dev.pupFitsDriver (d : Dev) (n code : Nat) : Bool :=
  match d.drvP n with
  | none => match d.drvS n with
    | none => true
    | some k => code = 0 || code = 7 || d.chanOf k ≠ n
  | some k =>
    if d.kind k = 6 ∧ d.chanOf k ≠ n then code = 0 || code = 7
    else pupFits (d.kind k) true code

/-- Judging a write of a power-up code (R60, R62). -/
def Dev.pupCheck (d : Dev) (n code : Nat) : Nat :=
  if code = 2 ∨ code ≥ 7 ∨ (code = 6 ∧ n % 2 = 1) ∨ d.rd (Reg.PUP_CODE n) = 7 then RANGE
  else if !d.pupFitsDriver n code || (code = 6 && !d.pupFitsDriver (n + 1) 7) then BUSY
  else OK

/-- A power-up code is written (R60). -/
def Dev.pupWrite (d : Dev) (n code : Nat) : Dev :=
  let d := d.wr (Reg.PUP_CODE n) code
  if code = 6 then d.wr (Reg.PUP_CODE (n + 1)) 7
  else if n % 2 = 0 ∧ d.rd (Reg.PUP_CODE (n + 1)) = 7 then d.wr (Reg.PUP_CODE (n + 1)) 0
  else d

/-! Creation and destruction (R42 to R46). -/

/-- A create record is a bad combination (R42, R44 reason 8). -/
def badRecord (r : Nat) : Bool :=
  let kind := r % 16
  let n := recChan r
  let flags := bitsOf r 9 7
  kind = 0 || 8 ≤ kind || 65536 ≤ r || (kind = 6 && n % 2 = 1) ||
    (if bitOf r 8 then kind = 7 || (flags &&& 0x77) ≠ 0 || (bitOf r 12 && !measuring kind)
     else match kind with
      | 1 => (flags &&& 0x71) ≠ 0
      | 2 => (flags &&& 0x77) ≠ 0
      | 3 => (flags &&& 0x76) ≠ 0 || (bitOf r 9 && n % 4 = 3)
      | 4 => (flags &&& 0x1F) ≠ 0 || bitsOf r 14 2 = 3
      | 5 => (flags &&& 0x6F) ≠ 0
      | 6 => (flags &&& 0x6F) ≠ 0
      | 7 => (flags &&& 0x77) ≠ 0
      | _ => true)

/-- The land an observer asks for: the P land for outputs, else the S land. -/
def observedLand (r : Nat) : Nat :=
  let kind := r % 16
  if kind = 2 ∨ kind = 5 ∨ kind = 6 then 16 + recChan r else recChan r

/-- The stored power-up postures conflict with a driver (R62, R44 reason 7). -/
def Dev.pupConflict (d : Dev) (r : Nat) : Bool :=
  let n := recChan r
  match r % 16 with
  | 5 => !pupFits 5 false (d.rd (Reg.PUP_CODE n))
  | 2 => !pupFits 2 false (d.rd (Reg.PUP_CODE n))
  | 1 => bitOf r 10 && !pupFits 1 true (d.rd (Reg.PUP_CODE n))
  | 6 => !pupFits 6 false (d.rd (Reg.PUP_CODE n)) || !(d.rd (Reg.PUP_CODE (n + 1)) = 0 || d.rd (Reg.PUP_CODE (n + 1)) = 7)
  | _ => false

/-- The first condition of R44 that a create meets, in the fixed order; 0 for none. -/
def Dev.createCheck (d : Dev) (r : Nat) : Nat :=
  let kind := r % 16
  let obs := bitOf r 8
  let drv := d.landDriver (observedLand r)
  if badRecord r then 8
  else if d.mode = INIT ∨ d.mode = SAFE ∨ d.mode = HOLD then 9
  else if d.freeSlot.isNone then 1
  else if obs && drv.isNone then 4
  else if obs && (match drv with | some k => d.kind k ≠ kind | none => false) then 10
  else if !obs && (landsOf r).any (fun l => (d.landDriver l).isSome) then 2
  else if obs && (match drv with | some k => 3 ≤ (d.observers k).length | none => false) then 3
  else if kind = 7 && 4 ≤ (d.liveSlots.filter fun k => d.kind k = 7 && d.chanOf k = recChan r).length then 3
  else if !obs && usesPair kind && (d.pairDriver (recChan r)).isSome then 5
  else if !obs && d.pupConflict r then 7
  else if measuring kind && d.freeUnit.isNone then 6
  else 0

/-- The status of a create refused for a reason (R44). -/
def createStatus (reason : Nat) : Nat := if reason = 0 then OK else if reason = 8 then RANGE else if reason = 10 then TYPE else BUSY

/-- The default posture of a create record (R56). -/
def defaultPosture (r : Nat) : Nat :=
  if bitOf r 8 then 2
  else match r % 16 with
    | 5 => 0
    | 6 => 0
    | 2 => 4
    | _ => 2

/-- The objects of the kind take their defaults (R48). -/
def Dev.initHandle (d : Dev) (k kind : Nat) : Dev :=
  let base := (0x2000 + 0x40 * k) * 256
  let subs := (rowsOfKind kind).flatMap fun r =>
    if r.1 < 0x10 then [] else (List.range (r.2.1 + 1 - r.1)).map fun j => (r.1 + j, r.2.2.dflt)
  d.each subs fun d p => d.wr (base + p.1) p.2

/-- The committed output value of a driver (R27, R207, R336). -/
def Dev.committedOut (d : Dev) (k : Nat) : OutVal :=
  match d.kind k with
  | 1 => { tx := d.rd (Reg.LP_TX_SET k) }
  | 2 => { nA := d.rd (Reg.LP_OUT_SET k) }
  | 5 => { cmd := d.rd (Reg.SW_CMD k), duty := d.rd (Reg.SW_DUTY k), freq := d.rd (Reg.SW_PWM_FREQ k) }
  | 6 => { cmd := d.rd (Reg.SW_CMD k), duty := d.rd (Reg.SW_DUTY k), freq := d.rd (Reg.SW_PWM_FREQ k) }
  | _ => {}

/-- A create takes effect in a slot (R43): CREATED, with its unit and its defaults. -/
def Dev.createAt (d : Dev) (k r : Nat) : Dev :=
  let kind := r % 16
  let h := handleOf k (d.slot k).gen
  let drv := if bitOf r 8 then (match d.landDriver (observedLand r) with | some j => d.rd (Reg.HND_ID j) | none => 0) else 0
  let unit := if measuring kind then d.freeUnit else none
  let d := (d.initHandle k kind).setSlot k { gen := (d.slot k).gen, held := (d.slot k).held }
  let d := (((d.wr (Reg.HND_ID k) h).wr (Reg.HND_KIND k) kind).wr (Reg.HND_STATE k) CREATED).wr (Reg.HND_BIND k) r
  let d := (((d.wr (Reg.HND_DRIVER k) drv).wr (Reg.HND_SAFE_CAUSE k) 0).wr (Reg.HND_POSTURE k) (defaultPosture r)).wr
    (Reg.HND_POSTURE_VALUE k) 4000000
  let d := d.when (d.bipolar k) fun d => d.wr (Reg.CV_FORMAT k) 2
  let d := d.when (kind = 4 && bitsOf r 14 2 ≠ 2) fun d => d.wr (Reg.LV_LINE_DETECT k) 0
  let d := d.when (kind = 4 && !bitOf r 8) fun d => d.modChan (recChan r) fun c =>
    { c with
      live := false, compWire := false, compShort := false, wireBrk := false, short := false, na := 0, rises := 0, falls := 0, tRise := 0,
      tFall := 0, newRise := 0, newFall := 0 }
  let d := d.when ((kind = 1 || kind = 2) && !bitOf r 8) fun d => d.modChan (recChan r) fun c => { c with lpSt := 0 }
  let d := match unit with
    | none => d
    | some i => (d.wr (Reg.HND_FILTER k) i).takeUnit i h (bitOf r 12)
  d.when (d.isDriver k && d.drivenOutput k) fun d => d.modChan (d.chanOf k) fun c => { c with staged := d.committedOut k }

/-- A channel without a driver is in its inactive condition (R43): no output, no posture. -/
def Dev.inactiveChan (d : Dev) (w : Worn) (n : Nat) : Dev :=
  let d := d.modChan n fun c => { c with safeOn := false, due := false, subst := false, subDue := false, ackDue := false }
  (d.setOutput w n {}).modChan n fun c => { c with txOff := false, txLim := false, staged := {} }

/-- The lands of a driver return to their inactive condition (R43, R45). No word reaches a branch whose link is down: what it drives
there it learns when the crown takes it back. -/
def Dev.inactive (d : Dev) (w : Worn) (k : Nat) : Dev :=
  let n := d.chanOf k
  if !d.drivenOutput k then d
  else if d.hears (n / 4) then d.inactiveChan w n
  else d.when ((d.branch (n / 4)).power ≠ 0) fun d => d.modBranch (n / 4) fun x => { x with gone := x.gone ++ [n] }

/-- The channels of a branch that lost their driver while the link was down become inactive. -/
def Dev.settleGone (d : Dev) (w : Worn) (b : Nat) : Dev :=
  let l := (d.branch b).gone
  (d.modBranch b fun x => { x with gone := [] }).each l fun d n => d.inactiveChan w n

/-- One slot becomes free: its unit, its objects, its generation (R36, R45). A reservation of it by a staged create stays (R43). -/
def Dev.freeSlotOf (d : Dev) (k : Nat) : Dev :=
  let i := d.unitOf k
  let d := d.when (d.rd Reg.TB_HANDLE = d.rd (Reg.HND_ID k) && d.rd Reg.TB_HANDLE ≠ 0) (·.captureAbandon)
  let d := d.when (i < 32) (·.freeUnitOf i)
  let ix := 0x2000 + 0x40 * k
  let d := { d with obj := d.obj.filter fun p => p.1 / 256 ≠ ix || p.1 % 256 = 1 }
  d.setSlot k { gen := nextGen k (d.slot k).gen, held := (d.slot k).held }

/-- A destroy takes effect (R45): a driver's lands become inactive and its observers go with it. -/
def Dev.destroyAt (d : Dev) (w : Worn) (k : Nat) : Dev :=
  if d.isDriver k then
    let obs := d.observers k
    let d := ((d.plausReset k).inactive w k).when (d.kind k = 4) (·.mainsGone k)
    (d.each obs fun d j => d.freeSlotOf j).freeSlotOf k
  else d.freeSlotOf k

/-- Judging a destroy (R45). -/
def Dev.destroyCheck (d : Dev) (h : Nat) : Nat :=
  if !d.isLive h then STALE_HANDLE
  else if d.hst (h % 128) = RUNNING ∨ d.hst (h % 128) = HSAFE then NEEDS_STOP
  else OK

/-- A refused create is reported in 1000:03 and 1000:04 (R44). -/
def Dev.createRefused (d : Dev) (reason id : Nat) : Dev := (d.wr Reg.HM_REFUSE reason).wr Reg.HM_REFUSE_REQ (id % 256)

end Sys2Proof.Machine
end

