-- ==== Sys2Proof/Machine/Links.lean ====
section
/-!
DEFINITION. The branch links (R15 to R19): what each word does when it arrives, loss of a link, the branch hold and adoption
(R333 to R338).
-/
namespace Sys2Proof.Machine

/-! Link words (R15 to R18). -/

/-- The CRC-8 over bits 0 to 39 (R15): the low byte first and each byte from its most significant bit, without reflection. The rule
states no bit order for the division; this one is the model's (DESIGN CHOICE, log entry 5). -/
def linkCrc (w : LinkBits) : Nat := crc8 (bytesLE 5 (w.toNat % 2 ^ 40))

/-- The word passes its CRC check. -/
def linkGood (w : LinkBits) : Bool := linkCrc w = w.toNat / 2 ^ 40

/-- The channel within the branch that a word names (R15). -/
def linkChan (w : LinkBits) : Nat := bitsOf w.toNat 38 2

/-- The payload of a word (R15). -/
def linkPayload (w : LinkBits) : Nat := bitsOf w.toNat 0 32

/-- The priority of a waiting word (R16). -/
def LWord.prio : LWord → Nat
  | .prot _ => 1
  | .result _ _ => 3
  | .apply _ _ => 1
  | .postureNow _ => 1
  | .postureSet _ _ _ => 1
  | .stage _ _ => 2
  | .conv _ _ _ => 2
  | .config _ => 3

/-- The word a sender sends next (R16, R21): of those that wait the first of the highest priority, with the others in their order. -/
def sent : List LWord → Option (LWord × List LWord)
  | [] => none
  | a :: r => match sent r with
    | none => some (a, r)
    | some (b, q) => if b.prio < a.prio then some (b, a :: q) else some (a, r)

/-- No word of a priority above n waits (R16). -/
def noneAbove (n : Nat) (l : List LWord) : Bool := l.all fun x => n ≤ x.prio

/-- Words pass between crown and branch: the link is UP on both sides. -/
def Dev.linked (d : Dev) (b : Nat) : Bool := d.hears b && (d.branch b).linkUp

/-- What waits after a word that was refused for good (R17): the word the sender sends next is discarded where it is of the type. -/
def discardSent (pick : LWord → Bool) (l : List LWord) : List LWord :=
  match sent l with
  | none => l
  | some (x, q) => if pick x then q else l

/-- A queued word arrives at a branch (R15 to R18): the word sent next acts where it is of the type and on the channel that the bits name;
a bad one is repeated up to three times, then discarded and counted. -/
def Dev.wordDown (d : Dev) (b : Nat) (w : LinkBits) (pick : LWord → Bool) (chan : LWord → Option Nat) (act : Dev → LWord → Dev) : Dev :=
  let x := d.branch b
  if !d.linked b then d
  else if linkGood w then
    match sent x.toBranch with
    | none => d
    | some (y, q) =>
      if pick y && (chan y).all (· = 4 * b + linkChan w) then act (d.setBranch b { x with nackDown := 0, toBranch := q }) y else d
  else if x.nackDown < 3 then d.setBranch b { x with nackDown := x.nackDown + 1 }
  else (d.setBranch b { x with nackDown := 0, toBranch := discardSent pick x.toBranch }).bump 32 (Reg.LINK_DISCARD b)

/-- A queued word arrives at the crown, as above. -/
def Dev.wordUp (d : Dev) (b : Nat) (w : LinkBits) (pick : LWord → Bool) (chan : LWord → Option Nat) (act : Dev → LWord → Dev) : Dev :=
  let x := d.branch b
  if !d.linked b then d
  else if linkGood w then
    match sent x.toCrown with
    | none => d
    | some (y, q) =>
      if pick y && (chan y).all (· = 4 * b + linkChan w) then act (d.setBranch b { x with nackUp := 0, toCrown := q }) y else d
  else if x.nackUp < 3 then d.setBranch b { x with nackUp := x.nackUp + 1 }
  else (d.setBranch b { x with nackUp := 0, toCrown := discardSent pick x.toCrown }).bump 32 (Reg.LINK_DISCARD b)

/-- A word that a branch forms as it sends it arrives at the crown: STATUS, BITSTREAM and HEARTBEAT stand in no queue, and leave when no
word of a priority above theirs waits (R16). -/
def Dev.freshUp (d : Dev) (b : Nat) (w : LinkBits) (prio : Nat) (act : Dev → Dev) : Dev :=
  let x := d.branch b
  if !d.linked b then d
  else if linkGood w then (if noneAbove prio x.toCrown then act (d.setBranch b { x with nackUp := 0 }) else d)
  else if x.nackUp < 3 then d.setBranch b { x with nackUp := x.nackUp + 1 }
  else (d.setBranch b { x with nackUp := 0 }).bump 32 (Reg.LINK_DISCARD b)

/-! Crown to branch. -/

/-- A branch applies the staged value of a channel (R27, R58): a power-up posture or a safe posture in force stands above it, and a
microcode switch-over holds the output (R392). A due substitute, or its acknowledgement, acts with it (R138). -/
def Dev.branchApply (d : Dev) (w : Worn) (n : Nat) : Dev :=
  let c := d.chan n
  if c.pup || c.safeOn || d.ucSwitching (n / 4) then d
  else
    let d := match d.drvP n with
      | none => d
      | some k => if d.kind k = 2 then d.complianceAct k else d
    d.setOutput w n c.staged

/-- A word is an APPLY word. -/
def LWord.isApply : LWord → Bool
  | .apply _ _ => true
  | _ => false

/-- The channel that a word towards a branch names: CONFIG names none, and a CONV word that of its handle (R15). -/
def Dev.downChan (d : Dev) : LWord → Option Nat
  | .apply n _ => some n
  | .postureNow n => some n
  | .postureSet n _ _ => some n
  | .stage n _ => some n
  | .conv k _ _ => some (d.chanOf k)
  | _ => none

/-- The channel that a word towards the crown names (R15). -/
def Dev.upChan (d : Dev) : LWord → Option Nat
  | .prot e => some e.chan
  | .result _ m => some (d.chanOf m.slot)
  | _ => none

/-- The instant at which a branch acts on a word for the ring time ts that arrives at t: its first oscillator tick at or after both (R22,
R192). -/
def actTime (ts t : Nat) : Nat := tickNs (tickUp (max ts t))

/-- APPLY (R24, R27, R192): the staged value acts where an APPLY_OUTPUT step sent the word, at the step's slot. -/
def execApply (b : BranchNo) (w : LinkBits) (t : Nat) (s : State) : Host.Outcome State Fault Refusal :=
  s.run fun e d =>
    let d := d.at t
    d.wordDown b w LWord.isApply d.downChan fun d x =>
      match x with
      | .apply n ts => (d.at (actTime ts t)).branchApply e.worn n
      | _ => d

/-- A posture word acts in its branch (R56): now, or as the stored setting, which acts at once on a channel in its safe posture. -/
def Dev.branchPosture (d : Dev) (w : Worn) : LWord → Dev
  | .postureNow n => d.applyPosture w n
  | .postureSet n code nA =>
    let d := d.modChan n fun c => { c with post := code, postNA := nA }
    d.when (d.chan n).safeOn fun d => d.applyPosture w n
  | _ => d

/-- A word is a POSTURE word. -/
def LWord.isPosture : LWord → Bool
  | .postureNow _ => true
  | .postureSet _ _ _ => true
  | _ => false

/-- POSTURE (R56). -/
def execPosture (b : BranchNo) (w : LinkBits) (t : Nat) (s : State) : Host.Outcome State Fault Refusal :=
  s.run fun e d =>
    let d := d.at t
    d.wordDown b w LWord.isPosture d.downChan fun d x => d.branchPosture e.worn x

/-- A word is a STAGE word. -/
def LWord.isStage : LWord → Bool
  | .stage _ _ => true
  | _ => false

/-- STAGE (R16, R27): the value waits for an APPLY. -/
def execStage (b : BranchNo) (w : LinkBits) (t : Nat) (s : State) : Host.Outcome State Fault Refusal :=
  s.run fun _ d =>
    let d := d.at t
    d.wordDown b w LWord.isStage d.downChan fun d x =>
      match x with
      | .stage n v => d.modChan n fun c => { c with staged := v }
      | _ => d

/-- A window command acts in its branch: 0 start at the slot time t0 (R66, R192), 1 urgent at its arrival t, or at the
slot of the step that asked for it (R91, R190), 2 diagnostic (R87). -/
def Dev.branchConv (d : Dev) (k kind t0 t : Nat) : Dev :=
  match kind with
  | 0 => if (d.slot k).await && (d.branch (d.chanOf k / 4)).refReady then d.beginGrid k t0 else d
  | 1 => d.urgentStart k (max t0 t)
  | 2 => d.modSlot k fun x => { x with owExtra := true }
  | _ => d

/-- A word is a CONV word. -/
def LWord.isConv : LWord → Bool
  | .conv _ _ _ => true
  | _ => false

/-- A word is a CONFIG word. -/
def LWord.isConfig : LWord → Bool
  | .config _ => true
  | _ => false

/-- CONV (R66, R87, R91). -/
def execConv (b : BranchNo) (w : LinkBits) (t : Nat) (s : State) : Host.Outcome State Fault Refusal :=
  s.run fun _ d =>
    let d := d.at t
    d.wordDown b w LWord.isConv d.downChan fun d x =>
      match x with
      | .conv k kind t0 => d.branchConv k kind t0 t
      | _ => d

/-- A hold that ended with postures before the first CONFIG word arrived (R334, R340): the adoption is with bit 1 after all. -/
def Dev.lateHold (d : Dev) (b : Nat) : Dev :=
  if (d.branch b).postured && d.rd (Reg.ADOPT_RESULT b) = 1 then
    (d.each (d.branchDrivers b) fun d k => d.safeTrigger k 1).wr (Reg.ADOPT_RESULT b) 2
  else d

/-- A valid CONFIG word ends the hold and the power-up postures of its branch (R63, R334): a safe posture still due acts. -/
def Dev.firstConfig (d : Dev) (w : Worn) (b : Nat) : Dev :=
  let d := d.lateHold b
  let d := d.modBranch b fun x => { x with holding := false, postured := false, configured := true }
  d.each (List.range 4) fun d i =>
    let n := 4 * b + i
    let c := d.chan n
    if c.pup || c.due then
      let d := d.setChan n { c with pup := false }
      d.when c.due fun d => d.applyPosture w n
    else d

/-- The crown parks a branch: WATCH, outputs kept, converters stopped (R405, R408). -/
def Dev.park (d : Dev) (b : Nat) : Dev :=
  (d.calAbandon b).modBranch b fun x => { x with parked := true, power := if x.power = 1 then 2 else x.power, refReady := false }

/-- A branch is unparked: ACTIVE, grids restart as after START (R405, R409). -/
def Dev.unpark (d : Dev) (b : Nat) : Dev :=
  if (d.branch b).parked then
    let d := d.modBranch b fun x => { x with parked := false, power := if x.power = 2 then 1 else x.power }
    d.each (d.runningIn b) fun d k => d.restart k d.now true
  else d

/-- CONFIG (R16, R63): kind 1 configuration, 2 park, 3 unpark, 4 microcode. -/
def execConfig (b : BranchNo) (w : LinkBits) (t : Nat) (s : State) : Host.Outcome State Fault Refusal :=
  s.run fun e d =>
    let d := d.at t
    d.wordDown b w LWord.isConfig d.downChan fun d x =>
      let d := d.firstConfig e.worn b
      match x with
      | .config 2 => d.park b
      | .config 3 => d.unpark b
      | .config 4 => d.when (d.graft.ucBranch = some b.val && d.rd Reg.GR_UC_STATE = 1) fun d => d.wr Reg.GR_UC_STATE 2
      | _ => d

/-- The trim that the crown's discipline asks of a branch oscillator (R22): from the trim in force and the time between the branch's
HEARTBEAT words, against the ring's time while its cycle is locked and else against the 25 MHz crystal; ±1000 ppm in steps of 0.1 ppm.
The law is not in the spec (log entry 5). -/
def Dev.trimWanted (d : Dev) (b t : Nat) : Int :=
  let x := d.branch b
  match x.hbUp with
  | none => x.trimNext
  | some t0 => clampInt (-10000) 10000 (Config.trimLaw x.trimNext (t - t0) (d.rd Reg.RT_STATE = 2))

/-- HEARTBEAT (R16, R19, R22): the link is alive and nothing else waits; upwards it carries the branch's state and its timing is measured,
downwards it writes the oscillator trim. -/
def execHeartbeat (b : BranchNo) (dir : Dir) (w : LinkBits) (t : Nat) (s : State) : Host.Outcome State Fault Refusal :=
  s.run fun _ d =>
    let d := d.at t
    let x := d.branch b
    match dir with
    | .toBranch =>
      if !d.linked b then d
      else if linkGood w then (if x.toBranch = [] then d.setBranch b { x with nackDown := 0, trim := x.trimNext } else d)
      else if x.nackDown < 3 then d.setBranch b { x with nackDown := x.nackDown + 1 }
      else (d.setBranch b { x with nackDown := 0 }).bump 32 (Reg.LINK_DISCARD b)
    | .toCrown => d.freshUp b w 4 fun d => d.setBranch b { d.branch b with
        seenPower := (d.branch b).power, trimNext := d.trimWanted b t, hbUp := some t }

/-! Branch to crown. -/

/-- A 16-bit counter that stays at its maximum (R375). -/
def sat16 (n : Nat) : Nat := min 65535 n

/-- The life counters of a protection event (R374). -/
def Life.count (l : Life) (code : Nat) : Life :=
  match code with
  | 0x0300 => { l with oc := sat16 (l.oc + 1) }
  | 0x0301 => { l with sc := sat16 (l.sc + 1) }
  | 0x0304 => { l with retry := sat16 (l.retry + 1) }
  | 0x0305 => { l with therm := sat16 (l.therm + 1) }
  | 0x030E => { l with fail := sat16 (l.fail + 1) }
  | 0x030F => { l with fail := sat16 (l.fail + 1) }
  | _ => l

/-- Logging an event dated at another instant (R380). -/
def Dev.logAt (d : Dev) (time code src det : Nat) : Dev :=
  { (({ d with now := time } : Dev).log1 code src det) with now := d.now }

/-- The source of an event a branch reports: the branch for the codes of branch matters, else the channel's source (R188, R418). -/
def Dev.protSrc (d : Dev) (e : ProtEv) : Nat :=
  if e.code / 256 = 1 ∨ e.code = 0x0307 ∨ e.code = 0x0406 ∨ e.code = 0x0407 ∨ e.code = 0x0408 ∨ e.code = 0x040D then
    0xFFF0 + e.chan / 4
  else d.chanSrc e.chan

/-- The crown takes a protection event: life counters of the channel, or of both of a pair (R374), and the record. -/
def Dev.takeProt (d : Dev) (e : ProtEv) : Dev :=
  let d := d.each (d.pairChans e.chan) fun d m => d.modChan m fun c => { c with life := c.life.count e.code }
  d.logAt e.time e.code (d.protSrc e) e.det

/-- A protection event asks for an urgent conversion of the channel's measuring driver (R30, R90); a matter of the whole branch asks for
none. -/
def Dev.protUrgent (d : Dev) (e : ProtEv) : Dev :=
  match if e.code / 256 = 1 then none else d.pairDriver e.chan with
  | none => d
  | some k =>
    if !d.urgentOk k then d
    else if d.opsFree then d.takeOp.urgentRequest k 256 0
    else d.bump 32 Reg.OPS_PROT_LOST

/-- A word is a PROT_EVENT word. -/
def LWord.isProt : LWord → Bool
  | .prot _ => true
  | _ => false

/-- PROT_EVENT (R16, R25, R30). -/
def execProtEvent (b : BranchNo) (w : LinkBits) (t : Nat) (s : State) : Host.Outcome State Fault Refusal :=
  s.run fun _ d =>
    let d := d.at t
    d.wordUp b w LWord.isProt d.upChan fun d x =>
      match x with
      | .prot e => (d.takeProt e).protUrgent e
      | _ => d

/-- The flags of a branch's supply, as 0310+b:04 shows them (R416). -/
def Branch.supplyFlags (x : Branch) : Nat := nat01 x.valid + nat01 x.warn * 2 + nat01 (x.uvlo || x.startLock) * 4 + nat01 x.high * 8

/-- The reference flags of a branch, as 9010+b:02 shows them (R98). -/
def Branch.refFlags (x : Branch) (drift : Bool) : Nat := nat01 x.refReady + nat01 x.refinFault * 2 + nat01 drift * 4

/-- STATUS (R16, R376): flags, REF_READY, VFb, the die and the four channel temperatures reach the crown. -/
def execStatus (b : BranchNo) (w : LinkBits) (vf : Nat) (die t0 t1 t2 t3 : Int) (t : Nat) (s : State) :
    Host.Outcome State Fault Refusal :=
  s.run fun e d => (d.at t).freshUp b w 2 fun d =>
    let d := d.modBranch b fun x => { x with
      vf := vf, vfMin := if x.vfMin = 0 then vf else min x.vfMin vf, die := die, seenStatus := x.supplyFlags,
      seenRef := x.refFlags (drifts e.worn b) }
    let d := d.modLife fun m => { m with peakBr := m.peakBr.zipIdx.map fun p => if p.2 = b.val then max p.1 die else p.1 }
    d.each [(0, t0), (1, t1), (2, t2), (3, t3)] fun d p => d.modChan (4 * b.val + p.1) fun c => { c with temp := p.2 }

/-- A converter value reaches the filter units of its driver and the driver's observers, or the readback of a loop output (R80, R103,
R135). -/
def Dev.deliver (d : Dev) (r : Role) (m : Meas) : Dev :=
  match r with
  | .c => if d.kind m.slot = 2 then d.wr (Reg.LP_OUT_ACTUAL m.slot) (ofInt 32 (Frac.mul (m.num, m.den) (25000000, 1)).round) else d
  | _ => d.each (d.takers m.slot) fun d j =>
      let q := d.unitInput j m
      match q.2 with
      | none => q.1
      | some o => q.1.captureRecord j o

/-- A word is a result of the converter of role r. -/
def LWord.isResult (r : Role) : LWord → Bool
  | .result q _ => q = r
  | _ => false

/-- RESULT_P, RESULT_C or RESULT_T (R16, R80); below RUN the crown discards results (R408). -/
def execResultWord (b : BranchNo) (w : LinkBits) (r : Role) (t : Nat) (s : State) : Host.Outcome State Fault Refusal :=
  s.run fun _ d =>
    let d := d.at t
    d.wordUp b w (LWord.isResult r) d.upChan fun d x =>
      match x with
      | .result q m => if d.rd Reg.PL_RUNG = 0 then d.deliver q m else d
      | _ => d

/-- In fast mode the driver's next filter output is the urgent result (R93), for each handle on the land in its format. -/
def Dev.urgentOutput (d : Dev) (k j : Nat) (o : UnitOut) : Dev :=
  if j ≠ k ∨ (d.slot k).urgRun = false then d
  else
    let chain := chainOf (d.signedFmt k) o.code
    (d.each (k :: d.observers k) fun d i => d.storeUrgent i (codeOfChain (d.signedFmt i) chain).1 o.flags o.r.tRep).urgentServed k true

/-- The words of one converter are summed for the block that runs (R70). -/
def Slot.sumBits (x : Slot) (r : Role) (ones : Nat) : Slot :=
  match r with
  | .p => { x with blkP := (x.blkP.1 + ones, x.blkP.2 + 32) }
  | .c => { x with blkC := (x.blkC.1 + ones, x.blkC.2 + 32) }
  | .t => { x with blkT := (x.blkT.1 + ones, x.blkT.2 + 32) }

/-- The converter whose bits feed the chains of a driver in fast mode (R70, R78): the role holder of P, in a reference fault that of C. -/
def Dev.feeder (d : Dev) (w : Worn) (k : Nat) (fault : Bool) : Role :=
  let role := roleOf w (d.chanOf k)
  if fault then (if role = 2 || d.standsIn k true then .t else .c) else (if role = 1 || d.standsIn k false then .t else .p)

/-- What the outputs of a BITSTREAM word carry (R115): substitution in a reference fault or a graft, overload in the word, the test of the
running block, the limiter. -/
def Dev.bitTag (d : Dev) (w : Worn) (k : Nat) (src : Role) (fault ov : Bool) : Tag :=
  { subst := (fault && !d.disagrees k) || d.standsIn k false, sat := ov, wire := (d.slot k).wire, plaus := d.disagrees k,
    test := (d.slot k).testNow && !fault, degr := degradedChan w (d.chanOf k), limit := bitOf (d.lpSt k) 0, src := src,
    vf := (d.branch (d.chanOf k / 4)).vf }

/-- BITSTREAM (R16, R70): 32 modulator bits of one converter, oldest in bit 0; x names it and says whether its modulator was overloaded
among them (R72). The crown sums them for the block, and those of the feeding converter enter the chains. -/
def execBitstream (b : BranchNo) (w : LinkBits) (x : BitsOf) (t : Nat) (s : State) : Host.Outcome State Fault Refusal :=
  s.run fun e d => (d.at t).freshUp b w 3 fun d =>
    match d.pairDriver (4 * b.val + linkChan w) with
    | none => d
    | some k =>
      if d.rd Reg.PL_RUNG ≠ 0 || !d.fast k then d
      else
        let bits := (List.range 32).map fun i => bitOf (linkPayload w) i
        let d := d.modSlot k fun y => y.sumBits x.role (bits.map nat01).sum
        let fault := (d.branch b).refinFault || (d.branch b).refEnd
        let src := d.feeder e.worn k fault
        if x.role ≠ src then d
        else
          let tag := d.bitTag e.worn k src fault x.ov
          d.each (d.takers k) fun d j =>
            let i := d.unitOf j
            if d.rd (Reg.FI_STATE i) = 2 then
              let q := d.feedBits j i ((d.inst i).fresh bits t) (fault && d.disagrees k) tag
              q.1.each q.2 fun d o => (d.captureRecord j o).urgentOutput k j o
            else d

/-! Loss and hold (R333 to R335). -/

/-- The branch applies the safe postures it holds to the driven outputs of its drivers (R334, R337). -/
def Dev.allPostures (d : Dev) (w : Worn) (b : Nat) : Dev :=
  d.each ((d.branchDrivers b).filter fun k => d.drivenOutput k && ARMED ≤ d.hst k) fun d k => d.applyPosture w (d.chanOf k)

/-- The end of t_HOLD in the branch (R334). -/
def Dev.holdOver (d : Dev) (w : Worn) (b : Nat) : Dev :=
  if (d.branch b).holding && !(d.branch b).postured then
    (d.modBranch b fun x => { x with postured := true }).allPostures w b
  else d

/-- BRANCH_LINK_LOST (R19, R333): the hold begins; a t_HOLD of 0 applies the postures at once. A parked branch does not judge. -/
def execBranchLinkLost (b : BranchNo) (t : Nat) (s : State) : Host.Outcome State Fault Refusal :=
  s.run fun e d =>
    let d := d.at t
    let x := d.branch b
    if x.power = 0 || x.parked || !x.linkUp then d
    else
      let d := d.setBranch b { x with
        linkUp := false, holding := true, postured := false, configured := false, tLost := t, toCrown := [], toBranch := [],
        nackUp := 0, nackDown := 0 }
      d.when (x.tHold = 0) fun d => d.holdOver e.worn b

/-- A microcode graft of a branch is abandoned (R392, R393): reason 1 wait limit, 2 link lost, 3 VFb lost, 4 hash. -/
def Dev.ucAbandon (d : Dev) (b reason : Nat) : Dev :=
  let st := d.rd Reg.GR_UC_STATE
  if d.graft.ucBranch = some b ∧ 1 ≤ st ∧ st ≤ 3 then
    ({ d with graft := { d.graft with ucBranch := none } }.wr Reg.GR_UC_STATE 6).log1 0x081E (0xFFF0 + b) reason
  else d

/-- CROWN_LINK_LOST (R335): HOLD, and the crown's own t_HOLD runs. -/
def execCrownLinkLost (b : BranchNo) (t : Nat) (s : State) : Host.Outcome State Fault Refusal :=
  s.run fun _ d =>
    let d := d.at t
    if d.hears b then
      let d := (d.wr (Reg.LINK_STATE b) 2).modBranch b fun x => { x with
        crownLost := some t, crownHeld := false, toCrown := [], toBranch := [], nackUp := 0, nackDown := 0 }
      ((d.bump 32 Reg.HOLD_COUNT).log1 0x0210 (0xFFF0 + b.val) 0).ucAbandon b 2
    else d

/-- HOLD_END (R334). -/
def execHoldEnd (b : BranchNo) (t : Nat) (s : State) : Host.Outcome State Fault Refusal :=
  s.run fun e d => (d.at t).holdOver e.worn b

/-- CROWN_HOLD_END (R335): safe trigger bit 1 in every driver handle of the branch. -/
def execCrownHoldEnd (b : BranchNo) (t : Nat) (s : State) : Host.Outcome State Fault Refusal :=
  s.run fun _ d =>
    let d := d.at t
    let x := d.branch b
    if d.crownUp && d.link b = 2 && x.crownLost.isSome && !x.crownHeld then
      let d := d.setBranch b { x with crownHeld := true }
      (d.each (d.branchDrivers b) fun d k => d.safeTrigger k 1).log1 0x0211 (0xFFF0 + b.val) (d.rd (Reg.HOLD_TIME b))
    else d

/-! Adoption (R336, R337). -/

/-- What the digest of a branch covers (R336): its drivers' configuration, its power-up postures and t_HOLD. -/
def Dev.digestContent (d : Dev) (b : Nat) : List (Nat × Nat) :=
  let ks := d.branchDrivers b
  d.obj.filter fun p =>
    let ix := p.1 / 256
    let sub := p.1 % 256
    (0x2000 ≤ ix && ix < 0x4000 && ks.contains ((ix - 0x2000) / 0x40) &&
      (match objInfo (fun k => d.kind k) ix sub with
       | some r => sub ≠ 3 && sub ≠ 9 && (r.acc = .rw || r.acc = .rws || sub = 5) && r.persist ≠ .vol
       | none => false)) ||
    ((ix = 0x1010 || ix = 0x1011) && (sub - 1) / 4 = b && 1 ≤ sub) || p.1 = Reg.HOLD_TIME b

/-- The digest of the heartwood configuration of a branch. -/
def Dev.heartDigest (d : Dev) (b : Nat) : Nat := tabGet (fun _ => 0) d.heart.digests b

/-- A committed change of a branch's configuration writes both digests (R336); a branch that is not linked keeps its own. -/
def Dev.commitDigest (d : Dev) (b : Nat) : Dev :=
  let v := (Config.branchDigest (d.digestContent b)).toNat
  let d := { d with heart := { d.heart with digests := tabSet (fun _ => 0) d.heart.digests b v } }
  d.when (d.linked b) fun d => d.modBranch b fun x => { x with digest := v }

/-- A change of the device, and the digests of the branches whose configuration it changed (R336). -/
def Dev.withDigests (d : Dev) (f : Dev → Dev) : Dev :=
  let d1 := f d
  d1.each [0, 1, 2, 3] fun e b => if d1.digestContent b = d.digestContent b then e else e.commitDigest b

/-- The staged values of a branch's drivers are their committed values (R336). -/
def Dev.stageCommitted (d : Dev) (b : Nat) : Dev :=
  d.each (d.branchDrivers b) fun d k =>
    let v := d.committedOut k
    d.modChan (d.chanOf k) fun c => { c with staged := v }

/-- Increments a branch kept reach the life counters (R374). -/
def Life.add (a i : Life) : Life :=
  { onTime := min (2 ^ 32 - 1) (a.onTime + i.onTime), cycles := min (2 ^ 48 - 1) (a.cycles + i.cycles),
    energy := min (2 ^ 48 - 1) (a.energy + i.energy), clamp := min (2 ^ 48 - 1) (a.clamp + i.clamp),
    oc := sat16 (a.oc + i.oc), sc := sat16 (a.sc + i.sc), retry := sat16 (a.retry + i.retry), therm := sat16 (a.therm + i.therm),
    fail := sat16 (a.fail + i.fail), peak := max a.peak i.peak, tcyc := min (2 ^ 32 - 1) (a.tcyc + i.tcyc),
    alarm := min (2 ^ 32 - 1) (a.alarm + i.alarm) }

/-- The crown collects the increments of a channel. -/
def Dev.collect (d : Dev) (n : Nat) : Dev := d.modChan n fun c => { c with life := c.life.add c.inc, inc := {} }

/-- The latched channels of a branch make their handles LATCHED (R49, R336). -/
def Dev.latchAdopted (d : Dev) (b : Nat) : Dev :=
  d.each (List.range 4) fun d i =>
    let n := 4 * b + i
    d.when (swLatched (d.chan n).state) fun d => d.latchHandle n

/-- The level inputs of a branch are judged again; after an OFF their counters start from 0 (R149). -/
def Dev.levelsBack (d : Dev) (b : Nat) : Dev :=
  d.each (List.range 4) fun d i =>
    d.modChan (4 * b + i) fun c => if c.live then c else c.levelStart d.now

/-- The crown reads the state of a branch that it takes back: supply, references and power (R336), the status of its loops (R151). -/
def Dev.readBranch (d : Dev) (b : Nat) : Dev :=
  let d := d.modBranch b fun x => { x with seenStatus := x.supplyFlags, seenPower := x.power }
  d.each ((d.branchDrivers b).filter fun k => d.kind k = 1 || d.kind k = 2) fun d k => d.wr (Reg.LP_STATUS k) (d.lpSt k)

/-- I:05 of the branch names the channel whose role T holds (R98), after a crown start too. -/
def Dev.roleBack (d : Dev) (w : Worn) (b : Nat) : Dev :=
  match ((List.range 4).map fun i => 4 * b + i).find? fun n => roleOf w n ≠ 0 with
  | none => d
  | some n => if d.rd (Reg.BR_T_STATE b) = 3 then d.wr (Reg.BR_T_CHANNEL b) n else d

/-- What both ways of taking a branch back begin with: buffered events, the OFF, the hold, the digest read. -/
def Dev.takeBack (d : Dev) (b : Nat) : Dev :=
  let x := d.branch b
  let src := 0xFFF0 + b
  let seen := x.crownLost.isSome
  let dur := if x.holding then (d.now - x.tLost) / 1000000 else match x.crownLost with
    | some t => (d.now - t) / 1000000
    | none => 0
  let d := d.each x.buf fun d e => d.takeProt e
  let d := match x.offS with
    | none => d
    | some n => (d.modBranch b fun y => { y with offS := none }).log1 0x0114 src (min (2 ^ 32 - 1) n)
  let d := d.when (x.holding && !seen) fun d =>
    let d := (d.bump 32 Reg.HOLD_COUNT).logAt x.tLost 0x0210 src 1
    d.when x.postured fun d => d.logAt (x.tLost + x.tHold * 1000000) 0x0211 src x.tHold
  let d := d.when (x.holding || seen) fun d =>
    (d.wr (Reg.HOLD_LAST b) (min (2 ^ 32 - 1) dur)).log1 0x0212 src (min (2 ^ 32 - 1) dur)
  let d := (d.wr (Reg.BR_DIGEST b) x.digest).modBranch b fun y => { y with buf := [], crownLost := none, crownHeld := false }
  (d.each (List.range 4) fun d i => d.collect (4 * b + i)).readBranch b

/-- A posture that a handle of the branch took while the link was down reaches the branch (R340). -/
def Dev.latePostures (d : Dev) (b : Nat) : Dev :=
  d.each ((d.branchDrivers b).filter fun k => d.hst k = HSAFE && !(d.chan (d.chanOf k)).safeOn) fun d k => d.orderPosture k

/-- The crown takes a branch back (R336, R337): adoption where the digests match, else safe postures and configuration; a latch and the
level inputs then wait for it (R149). -/
def Dev.adopt (d : Dev) (w : Worn) (b : Nat) : Dev :=
  let x := d.branch b
  let src := 0xFFF0 + b
  let match_ := decide (x.digest = d.heartDigest b)
  let n := x.buf.length
  let d := (((d.takeBack b).roleBack w b).unpark b).settleGone w b
  let d := if match_ then
      let d := (d.log1 0x0213 src (nat01 x.postured + min 255 n * 256)).wr (Reg.ADOPT_RESULT b) (if x.postured then 2 else 1)
      let d := d.when x.postured fun d => d.each (d.branchDrivers b) fun d k => d.safeTrigger k 1
      let d := (d.modBranch b fun y => { y with mismatch := false }).toBranch b (.config 1)
      ((d.latchAdopted b).levelsBack b).latePostures b
    else
      let d := (d.log1 0x0214 src (x.digest % 2 ^ 32)).wr (Reg.ADOPT_RESULT b) 3
      let d := (d.modBranch b fun y => { y with mismatch := true }).allPostures w b
      let d := d.each (d.branchDrivers b) fun d k => d.safeRestore k
      (d.each (d.branchDrivers b) fun d k => d.sendPostureSet k).toBranch b (.config 1)
  let d := d.stageCommitted b
  d.each (d.runningIn b) fun d k => d.restart k d.now true

/-- LINK_UP (R335, R336, R411): a trained link; out of INIT the crown takes the branch back at once, which under ATOM is a recovery (R207),
in INIT at the end of the restore. -/
def execLinkUp (b : BranchNo) (t : Nat) (s : State) : Host.Outcome State Fault Refusal :=
  s.run fun e d =>
    let d := d.at t
    if !d.crownUp || 2 ≤ d.rd Reg.PL_RUNG || (d.branch b).power = 0 || d.link b = 1 then d
    else
      let d := (d.wr (Reg.LINK_STATE b) 1).modBranch b fun x => { x with linkUp := true }
      if d.mode = INIT then d else { d.adopt e.worn b with recover := d.recover || d.atom }

/-- BRANCH_CONFIGURED (R337): the branch holds its configuration and its digest matches. -/
def execBranchConfigured (b : BranchNo) (t : Nat) (s : State) : Host.Outcome State Fault Refusal :=
  s.run fun _ d =>
    let d := d.at t
    if d.linked b && (d.branch b).mismatch then
      let v := d.heartDigest b
      let d := (d.each (d.branchDrivers b) fun d k => d.when (ARMED ≤ d.hst k) fun d => d.branchSettings k).supplySettings b
      let d := (d.wr (Reg.BR_DIGEST b) v).modBranch b fun x => { x with mismatch := false, digest := v }
      let d := (d.wr (Reg.ADOPT_RESULT b) 4).log1 0x0215 (0xFFF0 + b.val) 0
      (d.latchAdopted b).levelsBack b
    else d

/-- The branches of a mask that BR_RELEASE may release (R338): link UP and digest equal. -/
def Dev.releasable (d : Dev) (mask : Nat) : List Nat :=
  (List.range 4).filter fun b => bitOf mask b && d.link b = 1 && !(d.branch b).mismatch

/-- BR_RELEASE acts at a boundary (R338, R340): branch causes cleared in the branches whose condition holds. -/
def Dev.brReleaseAct (d : Dev) (mask : Nat) : Dev :=
  let bs := d.releasable mask
  let d := d.each bs fun d b => d.each (d.branchDrivers b) fun d k => d.clearCauses k 0x22
  d.log1 0x0217 0xFFF6 (bs.foldl (fun a b => a + 2 ^ b) 0)

end Sys2Proof.Machine
end

