-- ==== Sys2Proof/Machine/Heart.lean ====
section
/-!
DEFINITION. Heartwood (R366 to R381): life counters and their flush, folds of the journal, ring records, and the calendar (R383, R384).
-/
namespace Sys2Proof.Machine

/-! Life lines (R374 to R378). -/

/-- The kind code of a channel's driver, 0 for none (R375). -/
def Dev.lineKind (d : Dev) (n : Nat) : Nat :=
  match d.drvP n with
  | some k => d.kind k
  | none => match d.drvS n with
    | some k => d.kind k
    | none => 0

/-- FLAGS of a line (R375): LATE, CAL_FREE, DEGRADED. -/
def Dev.lineFlags (d : Dev) (w : Worn) (late : Bool) (chan : Option Nat) : Nat :=
  let degr := match chan with
    | none => false
    | some n => roleOf w n ≠ 0 || halvesLeft w n < 2
  nat01 late + nat01 (d.rd Reg.CAL_STATE ≠ 2) * 2 + nat01 degr * 4

/-- The 64 bytes of a channel line (R375); clamp energy is held in µJ and shown in mJ. -/
def Dev.channelLine (d : Dev) (w : Worn) (l : Life) (n year seq : Nat) (late : Bool) : Nat :=
  packLE [(4, l.onTime), (6, l.cycles), (6, l.energy), (6, l.clamp / 1000), (2, l.oc), (2, l.sc), (2, l.retry), (2, l.therm),
    (2, l.fail), (2, ofInt 16 l.peak), (4, l.tcyc), (4, l.alarm), (2, year), (1, d.lineKind n), (1, d.lineFlags w late (some n)), (4, seq)]

/-- The 64 bytes of the module line (R376). -/
def Dev.moduleLine (d : Dev) (w : Worn) (m : ModLife) (year seq : Nat) (late : Bool) : Nat :=
  packLE ([(4, m.opTime), (4, m.powerUps), (4, m.dips), (4, m.resets), (2, ofInt 16 m.peakCrown)] ++
    m.peakBr.map (fun t => (2, ofInt 16 t)) ++ [(16, 0), (2, year), (1, 0), (1, d.lineFlags w late none), (4, seq)])

/-- The present counters of the sixteen channels. -/
def Dev.lives (d : Dev) : List Life := (List.range 16).map fun n => (d.chan n).life

/-- Publishing the wear of each region at a flush (R372): a region that reaches 800 000 ppm is reported once. -/
def Dev.publishWear (d : Dev) : Dev :=
  d.each (List.range 7) fun d r =>
    let ppm := d.mostWritten r / 1000000
    let d := d.wr (Reg.HW_WEAR r) ppm
    if 800000 ≤ ppm ∧ d.heart.worn.contains r = false then
      let d := { d with heart := { d.heart with worn := r :: d.heart.worn } }
      (d.log1 0x0805 0xFFFD (r + ppm * 256)).setMaint 4
    else d

/-- A copy of the life counters has no line whose CRC failed (R368, R377). -/
def Dev.lifeCopy (d : Dev) (first : Bool) : Bool :=
  let base := regionLine 4 + (if first then 0 else 32)
  d.heart.failed.all fun l => !(base ≤ l && l < base + 32)

/-- One flush (R377): the 17 lines go to the copy with the older FLUSH_SEQ; a failed copy is never written again, and with both failed
none is (R368). -/
def Dev.lifeFlush (d : Dev) : Dev :=
  let h := d.heart
  let seq := (max h.seq0 h.seq1 + 1) % 2 ^ 32
  let first := d.lifeCopy true && (h.seq0 ≤ h.seq1 || !d.lifeCopy false)
  if !d.lifeCopy first then d else
  let h : Heart := if first then { h with life0 := d.lives, mod0 := h.mod, seq0 := seq, tFlush := some d.now }
    else { h with life1 := d.lives, mod1 := h.mod, seq1 := seq, tFlush := some d.now }
  let d := { d with heart := h }
  let d := d.wrote (0 :: (List.range 17).map fun i => regionLine 4 + (if first then 0 else 32) + i)
  (d.wr Reg.HW_LAST_FLUSH d.now).publishWear

/-- The newer copy's FLUSH_SEQ. -/
def Dev.flushSeq (d : Dev) : Nat := max d.heart.seq0 d.heart.seq1

/-- The warning flush (R377, R398): at once, unless a flush completed within the previous 60 s. -/
def Dev.warnFlush (d : Dev) : Dev :=
  let fresh := match d.heart.tFlush with
    | none => false
    | some t => d.now < t + 60000000000
  if fresh then d
  else
    let d := d.lifeFlush
    { d with heart := { d.heart with warnFlushed := some d.flushSeq } }

/-- The counters a crown start restores (R368, R377): those of the newer copy whose lines all pass, defaults where none does. -/
def Dev.restoreLife (d : Dev) : Dev :=
  let h := d.heart
  let first := d.lifeCopy true && (h.seq1 ≤ h.seq0 || !d.lifeCopy false)
  let ls := if !d.lifeCopy first then [] else if first then h.life0 else h.life1
  let d := d.each (List.range 16) fun d n => d.modChan n fun c => { c with life := ls.getD n {} }
  { d with heart := { d.heart with mod := if !d.lifeCopy first then {} else if first then h.mod0 else h.mod1 } }

/-- LIFE_FLUSH (R26, R377): every 10 minutes of operating time. The temperature of the crown die is a free value (log entry 15). -/
def execLifeFlush (t : Nat) (s : State) : Host.Outcome State Fault Refusal :=
  s.run fun _ d =>
    let d := d.at t
    if d.crownUp && d.coreUp && d.mayWrite then
      (d.took.modLife fun m => { m with
        opTime := min (2 ^ 32 - 1) (m.opTime + 600), peakCrown := max m.peakCrown (toInt 16 (d.freeNat 16)) }).lifeFlush
    else d

/-- The whole seconds at alarm reach the life counter of a channel (R134, R374). -/
def Dev.countAlarm (d : Dev) (n : Nat) : Dev :=
  (d.alarmMark n).modChan n fun c => { c with
    alarmNs := c.alarmNs % 1000000000, life := c.life.add { alarm := c.alarmNs / 1000000000 } }

/-- COUNTER_REPORT (R374): the increments of one branch reach the crown's counters. -/
def execCounterReport (b : BranchNo) (incs : List LifeInc) (t : Nat) (s : State) : Host.Outcome State Fault Refusal :=
  s.run fun _ d =>
    let d := d.at t
    if d.linked b then
      let d := d.each (List.range 4) fun d i => (d.collect (4 * b.val + i)).countAlarm (4 * b.val + i)
      d.each (incs.filter fun x => x.chan.val / 4 = b.val) fun d x =>
        let i : Life := { onTime := x.onTime, cycles := x.cycles, energy := x.energy, peak := x.peakTemp, tcyc := x.tcycles }
        d.modChan x.chan fun c => { c with life := c.life.add i }
    else d

/-! Failed lines (R368, R369). -/

/-- The region of a line (R367). -/
def hwRegion (l : Nat) : Nat := ((List.range 7).filter fun r => regionLine r ≤ l).length - 1

/-- The same line of the other copy of a critical record (R367, R368); none for a line that is kept once. The order of copies within a
region is the model's (log entry 68). -/
def hwPartner (l : Nat) : Option Nat :=
  let two := fun (base n : Nat) => if base ≤ l && l < base + n then some (l + n) else if base + n ≤ l && l < base + 2 * n then some (l - n) else none
  [(0, 16), (32, 896), (1824 + 512, 128), (2592, 128), (2848, 32)].findSome? fun p => two p.1 p.2

/-- Everything the configuration banks hold is lost (R369): no handles, factory defaults; what other regions hold stays. -/
def Dev.configLost (d : Dev) : Dev :=
  let d := d.log1 0x0802 0xFFFD 0
  let d := { d with
    obj := d.obj.filter fun p => let ix := p.1 / 256; ix = 0x02F1 || ix = 0x02F2 || ix = 0x0300 || (0x8000 ≤ ix && ix < 0x9000),
    slots := [], staged := [], txns := [], mapHnd := [] }
  { d with heart := { d.heart with kept := [], digests := [] }, seq := {} }

/-- Both copies of a critical record are lost (R368): its defaults apply. -/
def Dev.recordLost (d : Dev) (l : Nat) : Dev :=
  let d := (d.bump 32 Reg.HW_RECORDS_LOST).log1 0x0801 0xFFFD (l + hwRegion l * 2 ^ 16)
  match hwRegion l with
  | 0 => ({ d with graft := { d.graft with active := 0, unconf := false, rollback := false } }.wr Reg.RR_FIRST_YEAR 0).wr Reg.CAL_STATE 0
  | 2 => { d with journal := [] }
  | 3 =>
    let i := (l - regionLine 3) % 128
    if i < 32 then d.modChan (i / 2) fun c => if i % 2 = 0 then { c with calP := {}, prevP := {}, corrP := 0 } else { c with calC := {}, prevC := {}, corrC := 0 }
    else if i < 48 then (d.modChan (i - 32) fun c => { c with trimZ := 0, trimS := 0 }).each (d.liveSlots.filter fun k =>
      (d.kind k = 1 || d.kind k = 2) && d.chanOf k = i - 32) fun d k => (d.wr (Reg.LP_TRIM_ZERO k) 0).wr (Reg.LP_TRIM_SPAN k) 0
    else d
  | _ => d

/-- A line is found with a bad CRC (R368, R369): the other copy is used and the failed one never written again; a configuration bank with
a failing line is used no more. -/
def Dev.lineFails (d : Dev) (l : Nat) : Dev :=
  match hwPartner l with
  | none => d.bump 32 Reg.HW_LINES_FAILED
  | some p =>
    if d.heart.failed.contains l then d
    else
      let d := { d with heart := { d.heart with failed := l :: d.heart.failed } }
      let d := ((d.bump 32 Reg.HW_LINES_FAILED).log1 0x0800 0xFFFD (l + hwRegion l * 2 ^ 16)).setMaint 4
      if hwRegion l = 1 then
        let h := d.heart
        let was := h.bank0 || h.bank1
        let h : Heart := if l < 32 + 896 then { h with bank0 := false } else { h with bank1 := false }
        let d := { d with heart := h }.wr Reg.SPR_CFG_BANKS (nat01 h.bank0 + nat01 h.bank1)
        d.when (was && !h.bank0 && !h.bank1) (·.configLost)
      else d.when (d.heart.failed.contains p) (·.recordLost l)

/-- The spares used for good by a lost calibration (R33, R368). -/
def Worn.loseCal (w : Worn) (failed : List Nat) : Worn :=
  let gone := (List.range 32).filter fun i => failed.contains (regionLine 3 + i) && failed.contains (regionLine 3 + 128 + i)
  { w with calLost := gone.foldl (fun v i => v ||| BitVec.ofNat 16 (2 ^ (i / 2))) w.calLost }

/-! Folds (R369). -/

/-- Folding the applied transactions into the usable banks (R369). -/
def Dev.fold (d : Dev) : Dev :=
  let last := d.rd Reg.GU_ATOM_LAST_TXN
  let h := d.heart
  let h : Heart := {
    h with folded0 := if h.bank0 then last else h.folded0, folded1 := if h.bank1 then last else h.folded1 }
  let d := { d with heart := h }
  let d := d.wrote ((if h.bank0 then [regionLine 1] else []) ++ (if h.bank1 then [regionLine 1 + 896] else []))
  d.wr Reg.HW_FOLDED last

/-- FOLD (R369). -/
def execFold (t : Nat) (s : State) : Host.Outcome State Fault Refusal :=
  s.run fun _ d =>
    let d := d.at t
    if d.crownUp && d.mayWrite then d.fold else d

/-! Ring records (R379). -/

/-- Taking a ring record (R379): a flush, then the 17 lines of the new copy under their year; year Y0 + 64 drops the oldest year. -/
def Dev.ringRecord (d : Dev) (w : Worn) (year : Nat) (late : Bool) : Dev :=
  let d := d.lifeFlush
  let seq := d.flushSeq
  let lines := ((List.range 16).map fun n => d.channelLine w (d.chan n).life n year seq late) ++ [d.moduleLine w d.heart.mod year seq late]
  let y0 := d.rd Reg.RR_FIRST_YEAR
  let y0 := if y0 = 0 then year else if y0 + 64 ≤ year then y0 + 1 else y0
  let rs := (d.heart.records.filter fun r => r.1 ≠ year && y0 ≤ r.1) ++ [(year, lines)]
  let d := { d with heart := { d.heart with records := rs } }
  let d := d.wrote ((List.range 17).map fun i => regionLine 5 + (year - y0) % 64 * 17 + i)
  ((d.wr Reg.RR_FIRST_YEAR y0).wr Reg.RR_BLOCKS rs.length).log1 0x0804 0xFFFD (year % 65536 + d.lineFlags w late none * 65536)

/-- RING_RECORD (R26, R379): the crown at RUN, the housekeeping core out of reset, PWR_WARN clear, no swap; a late one needs a calendar that is not INVALID. -/
def execRingRecord (year : Nat) (late : Bool) (t : Nat) (s : State) : Host.Outcome State Fault Refusal :=
  s.run fun e d =>
    let d := d.at t
    if d.crownUp && d.coreUp && d.rd Reg.PL_RUNG = 0 && d.mayWrite && (!late || d.rd Reg.CAL_STATE ≠ 0) then d.ringRecord e.worn year late else d

/-- The record that 8200:03 selects; zeros if its year has none (R378). -/
def Dev.selectedRecord (d : Dev) : Nat :=
  let sel := d.rd Reg.RR_SELECT
  match d.heart.records.find? fun r => r.1 = sel % 65536 with
  | none => 0
  | some r => r.2.getD (bitsOf sel 16 5) 0

/-! The event log (R381, R382). -/

/-- The number of the oldest record in the log. -/
def Dev.evOldest (d : Dev) : Nat :=
  match d.log with
  | [] => d.rd Reg.EV_TOTAL - d.staging.length
  | r :: _ => r.num

/-- The record of a number, if the log holds it. -/
def Dev.evFind (d : Dev) (n : Nat) : Option EvRec := d.log.find? fun r => r.num = n

/-! The calendar (R383, R384). -/

/-- CAL_COMPARE (R26, R384), which waits for the housekeeping core: calendar and ring time, every 16 s while RT_STATE is LOCKED; beyond 61 µs the calendar is set, else trimmed by
the rate the difference shows, 1.6 µs in 16 s being 0.1 ppm. -/
def execCalCompare (cal t : Nat) (s : State) : Host.Outcome State Fault Refusal :=
  s.run fun _ d =>
    let d := d.at t
    if d.crownUp && d.coreUp && d.rd Reg.RT_STATE = 2 then
      let diff : Int := (cal : Int) - t
      let d := d.wrI 32 Reg.CAL_OFFSET (clampInt (-(2 ^ 31)) (2 ^ 31 - 1) diff)
      let d := if diff.natAbs > 61000 then
          d.log1 0x0806 0xFFFD (ofInt 32 (clampInt (-(2 ^ 31)) (2 ^ 31 - 1) (roundDiv diff 1000)))
        else d.wrI 16 Reg.CAL_TRIM (clampInt (-500) 500 (d.rdI 16 Reg.CAL_TRIM - roundDiv diff 1600))
      (d.wr Reg.CAL_STATE 2).wr Reg.CAL_LAST_DISC t
    else d

/-- CAL_FREE (R384): 24 h after the last comparison. -/
def execCalFree (t : Nat) (s : State) : Host.Outcome State Fault Refusal :=
  s.run fun _ d =>
    let d := d.at t
    if d.rd Reg.CAL_STATE = 2 then d.wr Reg.CAL_STATE 1 else d

/-- A write of the calendar at a boundary (R384): FREE, and ring time takes the value. -/
def Dev.calWrite (d : Dev) (v : Nat) : Dev :=
  let step := clampInt (-(2 ^ 31)) (2 ^ 31 - 1) (roundDiv ((v : Int) - d.now) 1000000000)
  let d := (d.wr Reg.CAL_TIME v).wr Reg.CAL_STATE 1
  (d.log1 0x0807 0xFFFD (ofInt 32 step)).at v

end Sys2Proof.Machine
end

