-- ==== Sys2Proof/Machine/Grafts.lean ====
section
/-!
DEFINITION. Grafts (R386 to R393): housekeeping images, calibration of one converter, branch microcode.
-/
namespace Sys2Proof.Machine

/-! Housekeeping images (R387 to R390). -/

/-- An image bank. -/
def Graft.bank (g : Graft) (i : Nat) : Bank := if i = 0 then g.bank0 else g.bank1

/-- Writing an image bank. -/
def Graft.setBank (g : Graft) (i : Nat) (b : Bank) : Graft := if i = 0 then { g with bank0 := b } else { g with bank1 := b }

/-- The bank that does not run. -/
def Dev.otherBank (d : Dev) : Nat := 1 - d.graft.active

/-- The byte of an image bank, 256 where it is not programmed. -/
def Bank.byte (b : Bank) (a : Nat) : Nat := tabGet (fun _ => 256) b.bytes a

/-- n bytes of an image bank from a; what is not programmed reads as 0xFF. -/
def Bank.read (b : Bank) (a n : Nat) : List Nat := (List.range n).map fun i => min 255 (b.byte (a + i))

/-- The header at the start of a bank (R387). -/
def Bank.header (b : Bank) : ImageHeader :=
  { kind := min 255 (b.byte 0), version := ofBytesLE (b.read 1 3), length := ofBytesLE (b.read 4 4), keyId := min 255 (b.byte 8),
    bodyHash := ofBytesLE (b.read 12 32), signature := ofBytesLE (b.read 44 64) }

/-- The first check of VERIFY that fails, 0 for none (R388). -/
def Dev.verifyReason (d : Dev) (b : Bank) : Nat :=
  let h := b.header
  let body := b.read 128 h.length
  if h.kind ≠ 1 then 1
  else if 4194176 < h.length || (List.range h.length).any (fun i => b.byte (128 + i) = 256) then 2
  else if h.version < d.rd Reg.GR_HK_MIN_VERSION then 3
  else if ofBytesLE (sha256 body) ≠ h.bodyHash then 4
  else if !Config.ecdsaVerify h.keyId (ofBytesLE (sha256 (b.read 0 44))) h.signature then 5
  else 0

/-- The banks that hold a valid image. -/
def Dev.validImages (d : Dev) : Nat := nat01 d.graft.bank0.valid + nat01 d.graft.bank1.valid

/-- Judging a command of A000:02 (R388, R393); 6 stands for a write to A000:04. -/
def Dev.hkCheck (d : Dev) (cmd : Nat) : Nat :=
  let st := d.rd Reg.GR_HK_STATE
  match cmd with
  | 1 => if st = 0 ∨ st = 3 ∨ st = 7 then OK else BUSY
  | 2 => if st = 2 then OK else BUSY
  | 3 => if st = 3 ∧ d.graftStep = false then OK else BUSY
  | 4 => if st = 6 ∧ d.graft.rollback = false then OK else BUSY
  | 5 => if st = 4 ∨ st = 6 then OK else BUSY
  | 6 => if st = 1 ∨ st = 2 then OK else BUSY
  | _ => RANGE

/-- ERASE (R388). -/
def Dev.hkErase (d : Dev) : Dev :=
  let d := { d with graft := d.graft.setBank d.otherBank { hdr := {}, bytes := [], valid := false } }
  ((d.wr Reg.GR_HK_ADDR 0).wr Reg.SPR_IMAGES d.validImages).wr Reg.GR_HK_STATE 1

/-- Bytes programmed at A000:03, which advances (R388). -/
def Dev.hkProgram (d : Dev) (bs : List Nat) : Dev :=
  let a := d.rd Reg.GR_HK_ADDR
  let b := d.graft.bank d.otherBank
  let b := { b with bytes := bs.zipIdx.foldl (fun m p => tabSet (fun _ => 256) m (a + p.2) (p.1 % 256)) b.bytes }
  (({ d with graft := d.graft.setBank d.otherBank b }.wr Reg.GR_HK_ADDR ((a + bs.length) % 4194304)).wr Reg.GR_HK_STATE 2)

/-- VERIFY (R388). -/
def Dev.hkVerify (d : Dev) : Dev :=
  let b := d.graft.bank d.otherBank
  let r := d.verifyReason b
  if r = 0 then
    ({ d with graft := d.graft.setBank d.otherBank { b with hdr := b.header, valid := true } }.wr Reg.GR_HK_STATE 3).log1 0x0810 0xFFFE
      b.header.version
  else ((d.wr Reg.GR_HK_STATE 7).wr Reg.GR_HK_REFUSE r).log1 0x0811 0xFFFE r

/-- SWAP (R388): fold and flush; the wait for a safe point begins. -/
def Dev.hkSwap (d : Dev) : Dev := (d.lifeFlush.fold).wr Reg.GR_HK_STATE 4

/-- CONFIRM (R33, R388). -/
def Dev.hkConfirm (d : Dev) : Dev :=
  let d := { d with graft := { d.graft with unconf := false } }
  ((d.wr Reg.SPR_IMAGES d.validImages).wr Reg.GR_HK_STATE 0).log1 0x0813 0xFFFE (d.graft.bank d.graft.active).hdr.version

/-- CANCEL (R388): a wait ends; an unconfirmed image goes back at the next safe point. -/
def Dev.hkCancel (d : Dev) : Dev :=
  if d.rd Reg.GR_HK_STATE = 4 then d.wr Reg.GR_HK_STATE 3 else { d with graft := { d.graft with rollback := true } }

/-- The previous bank restarts (R388, R390). -/
def Dev.hkRollback (d : Dev) : Dev :=
  let d := { d with graft := { d.graft with active := d.otherBank, unconf := false, rollback := false } }
  ((d.wr Reg.GR_HK_STATE 7).wr Reg.GR_HK_REFUSE 7).log1 0x0814 0xFFFE (d.graft.bank d.graft.active).hdr.version

/-- A command of A000:02 takes effect. -/
def Dev.hkDo (d : Dev) (cmd : Nat) : Dev :=
  match cmd with
  | 1 => d.hkErase
  | 2 => d.hkVerify
  | 3 => d.hkSwap
  | 4 => d.hkConfirm
  | 5 => d.hkCancel
  | _ => d

/-- A safe point (R389), at a cycle boundary. -/
def Dev.safePoint (d : Dev) : Bool :=
  !d.warn && d.txns.all (fun x => x.st ≠ 2) && d.rd Reg.WD0_STATE = 1 && d.rd Reg.GR_CAL_STATE = 0 &&
    !(1 ≤ d.rd Reg.GR_UC_STATE && d.rd Reg.GR_UC_STATE ≤ 3)

/-- What a boundary that is a safe point starts (R388, R389): a rollback, or the swap, with W0 paused and the core stopped. -/
def Dev.atSafePoint (d : Dev) : Dev :=
  if !d.safePoint then d
  else if d.graft.rollback && d.rd Reg.GR_HK_STATE = 6 then d.hkRollback
  else if d.rd Reg.GR_HK_STATE = 4 then
    { (d.wr Reg.GR_HK_STATE 5) with
      coreUp := false, wd0 := { d.wd0 with paused := true } }
  else d

/-- The core runs again after a swap (R330, R389): W0 starts a new cycle, waiting event records are written. -/
def Dev.coreBack (d : Dev) : Dev :=
  { d with coreUp := true, wd0 := { start := d.now, armed := false, lastC := d.wd0.lastC, lastT := d.wd0.lastT } }

/-- Waiting writes go on (R28, R389, R398): the journal entries of one-entry transactions, the staged event records. -/
def Dev.resumeWrites (d : Dev) : Dev :=
  if !d.mayWrite then d
  else
    let l := d.txns.filter fun x => x.st = 2 && !x.done
    (d.each l fun d x => (d.modTxn x.num fun y => { y with done := true }).journalPut x.num x.id 2).drain

/-- HK_SWAP_READY (R388). -/
def execHkSwapReady (ms t : Nat) (s : State) : Host.Outcome State Fault Refusal :=
  s.run fun _ d =>
    let d := d.at t
    if d.rd Reg.GR_HK_STATE = 5 then
      let d := { d.coreBack with graft := { d.graft with active := d.otherBank, unconf := true } }
      let d := ((d.wr Reg.GR_HK_STATE 6).wr Reg.GR_HK_SWAP_MS (min 65535 ms)).wrote [0]
      (d.log1 0x0812 0xFFFE (min 65535 ms + d.graft.active * 2 ^ 24)).resumeWrites
    else d

/-- HK_SWAP_TIMEOUT (R388): not ready 40 ms after the safe point. -/
def execHkSwapTimeout (t : Nat) (s : State) : Host.Outcome State Fault Refusal :=
  s.run fun _ d =>
    let d := d.at t
    if d.rd Reg.GR_HK_STATE = 5 then ((d.coreBack.wr Reg.GR_HK_STATE 7).wr Reg.GR_HK_REFUSE 6).resumeWrites else d

/-- HK_WAIT_TIMEOUT (R388): A000:09 passes. -/
def execHkWaitTimeout (t : Nat) (s : State) : Host.Outcome State Fault Refusal :=
  s.run fun _ d =>
    let d := d.at t
    if d.rd Reg.GR_HK_STATE = 4 then d.wr Reg.GR_HK_STATE 3 else d

/-- HK_CONFIRM_TIMEOUT (R388): A000:06 passes. -/
def execHkConfirmTimeout (t : Nat) (s : State) : Host.Outcome State Fault Refusal :=
  s.run fun _ d =>
    let d := d.at t
    if d.rd Reg.GR_HK_STATE = 6 then { d with graft := { d.graft with rollback := true } } else d

/-! Calibration grafts (R391). -/

/-- The calibration in force and the previous one of a converter. -/
def Dev.cals (d : Dev) (k : Nat) (c : Bool) : Cal × Cal :=
  let x := d.chan (d.chanOf k)
  if c then (x.calC, x.prevC) else (x.calP, x.prevP)

/-- The slot that a calibration graft names and whether it may be grafted (R391): OK, STALE_HANDLE, RANGE or BUSY. -/
def Dev.calTarget (d : Dev) (w : Worn) : Nat :=
  let h := d.rd Reg.GR_CAL_HANDLE
  let k := h % 128
  let n := d.chanOf k
  if !d.isLive h then STALE_HANDLE
  else if !d.isDriver k || !usesPair (d.kind k) || d.fast k then RANGE
  else if d.hst k ≠ RUNNING ∨ 1 < d.rd (Reg.BR_T_STATE (n / 4)) ∨ roleOf w n ≠ 0 then BUSY
  else OK

/-- A reference value as a fraction of full scale. -/
def Dev.refFrac (d : Dev) (k : Nat) (v : Int) : Frac := Frac.over (v, 1) (d.fullScale k (d.branch (d.chanOf k / 4)).vf)

/-- The calibration that maps the two captures onto the two reference values, none where the captures agree (R391). -/
def Dev.calNew (d : Dev) (k : Nat) : Option Cal :=
  let g := d.graft
  let yl := d.refFrac k (d.rdI 32 Reg.GR_CAL_LOW_REF)
  let yh := d.refFrac k (d.rdI 32 Reg.GR_CAL_HIGH_REF)
  let xl : Frac := (g.calLow, g.calLowD)
  let xh : Frac := (g.calHigh, g.calHighD)
  let neg := fun (a : Frac) => ((-a.1, a.2) : Frac)
  let dx := xh.add (neg xl)
  if dx.1 = 0 then none
  else
    let gain := Frac.over (yh.add (neg yl)) dx
    let off := yl.add (neg (gain.mul xl))
    some { gn := gain.1, gd := gain.2, on := off.1, od := off.2 }

/-- The gain of a calibration against another, as a fraction minus 1. -/
def gainDelta (new old : Cal) : Frac := Frac.add (Frac.over (new.gn, new.gd) (old.gn, old.gd)) (-1, 1)

/-- A new calibration lies near the present one (R391): gain within 0.5 %, offset within 0.1 % of full scale. -/
def calNear (new old : Cal) : Bool :=
  let g := gainDelta new old
  let o := Frac.add (new.on, new.od) (-old.on, old.od)
  decide (g.1.natAbs * 1000 ≤ 5 * g.2 ∧ o.1.natAbs * 1000 ≤ o.2)

/-- Judging a command of A010:03 (R391, R393). -/
def Dev.calCheck (d : Dev) (w : Worn) (cmd : Nat) : Nat :=
  let st := d.rd Reg.GR_CAL_STATE
  let k := d.rd Reg.GR_CAL_HANDLE % 128
  let free := d.graft.calWant = 0
  match cmd with
  | 1 => if d.graftStep then BUSY else d.calTarget w
  | 2 =>
    if st = 0 ∨ free = false then BUSY
    else if Frac.below (1, 5) (d.refFrac k (d.rdI 32 Reg.GR_CAL_LOW_REF)) then RANGE else OK
  | 3 =>
    if st < 2 ∨ free = false then BUSY
    else if (d.refFrac k (d.rdI 32 Reg.GR_CAL_HIGH_REF)).below (4, 5) then RANGE else OK
  | 4 =>
    if st ≠ 3 ∨ free = false then BUSY
    else match d.calNew k with
      | none => RANGE
      | some c => if calNear c (d.cals k (d.rd Reg.GR_CAL_CONV = 1)).1 then OK else RANGE
  | 5 => if st = 0 then BUSY else OK
  | 6 => if st = 0 then (if d.graftStep then BUSY else d.calTarget w) else OK
  | _ => RANGE

/-- A calibration becomes due at the next grid boundary (R391, R395): written to both copies, T leaves. -/
def Dev.calCommit (d : Dev) (k : Nat) (new : Cal) : Dev :=
  let c := d.rd Reg.GR_CAL_CONV = 1
  let old := (d.cals k c).1
  let g := gainDelta new old
  let ppm := (g.mul (1000000, 1)).round
  let d := (d.when d.graft.calSlot.isSome (·.graftLeave)).wrote [regionLine 3, regionLine 3 + 128]
  { d with graft := { d.graft with calDue := some (k, c, new) } }.log1 0x0818 (d.rd (Reg.HND_ID k)) (nat01 c + ofInt 24 ppm * 256)

/-- A command of A010:03 takes effect (R391). -/
def Dev.calDo (d : Dev) (cmd : Nat) : Dev :=
  let k := d.rd Reg.GR_CAL_HANDLE % 128
  let n := d.chanOf k
  let d := { d with graft := { d.graft with calLast := d.now } }
  match cmd with
  | 1 =>
    let d := { d with graft := { d.graft with calSlot := some k, calOn := false, calWant := 0, calN := 0, calSum := 0, calDen := 1 } }
    (((d.calAbandon (n / 4)).wr Reg.GR_CAL_STATE 1).wr (Reg.BR_T_STATE (n / 4)) 3).wr (Reg.BR_T_CHANNEL (n / 4)) n
  | 2 => { d with graft := { d.graft with calWant := 1 } }
  | 3 => { d with graft := { d.graft with calWant := 2 } }
  | 4 => match d.calNew k with
    | none => d
    | some c => d.calCommit k c
  | 5 => d.graftEnd 1
  | 6 => d.calCommit k (d.cals k (d.rd Reg.GR_CAL_CONV = 1)).2
  | _ => d

/-- CAL_GRAFT_TIMEOUT (R391): 600 s without a command. -/
def execCalGraftTimeout (t : Nat) (s : State) : Host.Outcome State Fault Refusal :=
  s.run fun _ d =>
    let d := d.at t
    if d.graft.calLast + 600000000000 ≤ t then d.graftEnd 2 else d

/-! Branch microcode (R392). -/

/-- Judging a write to A020:01 (R392, R393). -/
def Dev.ucCheck (d : Dev) (b : Nat) : Nat :=
  if d.graftStep || !d.hears b then BUSY else OK

/-- A microcode graft starts: the image leaves in CONFIG words (R392). -/
def Dev.ucStart (d : Dev) (b : Nat) : Dev :=
  let d := { d with graft := { d.graft with ucBranch := some b } }
  (((d.wr Reg.GR_UC_BRANCH b).wr Reg.GR_UC_STATE 1).toBranch b (.config 4))

/-- The switch-over at a boundary at which no channel of the branch is RETRYING (R392). -/
def Dev.ucAtBoundary (d : Dev) : Dev :=
  match d.graft.ucBranch with
  | none => d
  | some b =>
    if d.rd Reg.GR_UC_STATE = 2 && (List.range 4).all (fun i => (d.chan (4 * b + i)).state ≠ swRETRYING) then d.wr Reg.GR_UC_STATE 3 else d

/-- The safe postures that came while the outputs of a branch were held act (R392). -/
def Dev.duePostures (d : Dev) (w : Worn) (b : Nat) : Dev :=
  d.each ((List.range 4).map fun i => 4 * b + i) fun d n =>
    d.when ((d.chan n).due && !(d.chan n).pup) fun d => d.applyPosture w n

/-- Microcode runs again (R392): lost windows give ABORT records, the converters restart at the next boundary, postures that came in
between act, the digest is checked. -/
def Dev.ucBack (d : Dev) (w : Worn) (b ms st code det : Nat) : Dev :=
  let ks := d.runningIn b
  let d := d.each ks fun d k => d.deliver .p { slot := k, abort := true, tEnd := d.now }
  let d := d.each ks fun d k => (d.restart k d.now false).modSlot k fun x => { x with needOrg := true }
  let d := { d with graft := { d.graft with ucBranch := none } }
  let d := ((d.wr Reg.GR_UC_STATE st).wr Reg.GR_UC_HOLD_MS (min 65535 ms)).log1 code (0xFFF0 + b) det
  let d := d.duePostures w b
  let x := d.branch b
  if x.digest = d.heartDigest b then d
  else
    let d := (d.log1 0x0214 (0xFFF0 + b) (x.digest % 2 ^ 32)).modBranch b fun y => { y with mismatch := true }
    d.each (d.branchDrivers b) fun d k => d.safeTrigger k 5

/-- UC_SWITCHED (R392): the new microcode reports. -/
def execUcSwitched (b : BranchNo) (version ms t : Nat) (s : State) : Host.Outcome State Fault Refusal :=
  s.run fun e d =>
    let d := d.at t
    if d.graft.ucBranch = some b.val ∧ d.rd Reg.GR_UC_STATE = 3 then
      (d.modBranch b fun x => { x with ucode := version }).ucBack e.worn b ms 4 0x081C
        (min 65535 ms + version / 256 % 65536 * 65536)
    else d

/-- UC_REVERTED (R392): no report; the previous microcode runs. -/
def execUcReverted (b : BranchNo) (ms t : Nat) (s : State) : Host.Outcome State Fault Refusal :=
  s.run fun e d =>
    let d := d.at t
    if d.graft.ucBranch = some b.val ∧ d.rd Reg.GR_UC_STATE = 3 then d.ucBack e.worn b ms 5 0x081D (min 65535 ms) else d

/-- UC_ABANDONED (R392): A020:04 passes without a switch-over. -/
def execUcAbandoned (b : BranchNo) (t : Nat) (s : State) : Host.Outcome State Fault Refusal :=
  s.run fun _ d =>
    let d := d.at t
    if d.rd Reg.GR_UC_STATE = 2 then d.ucAbandon b 1 else d

end Sys2Proof.Machine
end

