-- ==== Sys2Proof/Machine/Sequencer.lean ====
section
/-!
DEFINITION. The step sequencer (R189 to R201): binding, the thirteen actions, result packets (R218 to R220), the table check, the
cycle clock (R193, R197) and the judgement of DET (R203, R204).
-/
namespace Sys2Proof.Machine

/-! Step words (R189, R190). -/

/-- A step word of the active or the shadow table. -/
def Dev.stepWord (d : Dev) (shadow : Bool) (i : Nat) : Nat := d.rd (if shadow then Reg.SQ_SHADOW i else Reg.SQ_ACTIVE i)

/-- SLOT of a step word. -/
def stSlot (w : Nat) : Nat := bitsOf w 0 24
/-- ACTION of a step word. -/
def stAction (w : Nat) : Nat := bitsOf w 24 8
/-- HSLOT of a step word. -/
def stHslot (w : Nat) : Nat := bitsOf w 32 7
/-- QUEUE of a step word. -/
def stQueue (w : Nat) : Nat := bitsOf w 39 6
/-- PARAM of a step word. -/
def stParam (w : Nat) : Nat := bitsOf w 45 19

/-- The index of a table's first WAIT_CYCLE (R192). -/
def Dev.waitIndex (d : Dev) (shadow : Bool) : Option Nat :=
  let base := if shadow then 0x6400 else 0x6000
  (d.obj.find? fun p => base ≤ p.1 / 256 && p.1 / 256 < base + 1024 && p.1 % 256 = 1 && stAction p.2 = 0x0C).map fun p => p.1 / 256 - base

/-- The action names a handle slot. -/
def namesHandle (a : Nat) : Bool := a = 1 || a = 2 || a = 3 || a = 5 || a = 7 || a = 8 || a = 10

/-- The action names a queue. -/
def namesQueue (a : Nat) : Bool := a = 4 || a = 5 || a = 6

/-- The action is branch-bound (R190): START_CONV, URGENT_CONV, APPLY_OUTPUT and SAMPLE_INPUTS. -/
def branchBound (a : Nat) : Bool := a = 1 || a = 2 || a = 7 || a = 8

/-- The action sends a word to its branch (R16, R192); SAMPLE_INPUTS forms its record at the action instant. -/
def sendsWord (a : Nat) : Bool := a = 1 || a = 2 || a = 7

/-- The parameter bits an action defines. The others are reserved; a shadow step keeps and shows them as written, so that the check of R199
finds them (DESIGN CHOICE, log entry 71: R7 would have a reserved bit read as 0, and R199 refuses a table for one that is not). -/
def paramMask (a : Nat) : Nat :=
  match a with
  | 4 => 0xFF
  | 5 => 0x7F
  | 6 => 1
  | 9 => 0xFF
  | 11 => 7
  | _ => 0

/-- The handle of a slot is of a kind the action allows (R190). -/
def Dev.kindAllows (d : Dev) (a k : Nat) : Bool :=
  let kind := d.kind k
  match a with
  | 1 => measuring kind
  | 2 => measuring kind && kind ≠ 7
  | 7 => d.isDriver k && (isSwitch kind || kind = 2 || (kind = 1 && bitOf (d.rd (Reg.HND_BIND k)) 10))
  | 8 => kind = 4 || isSwitch kind
  | 10 => d.isDriver k && (kind = 1 || kind = 3)
  | _ => true

/-- Step i breaks its queue's spans (R199 reason 6): an OPEN_PACKET inside a span or with no COMMIT_PACKET to come, another step
outside one. -/
def spanFails (ws : List Nat) (i w : Nat) : Bool :=
  let mine := fun x => namesQueue (stAction x) && stQueue x = stQueue w && stAction x ≠ 5
  let opened := ((ws.take i).reverse.find? mine).map stAction = some 4
  if stAction w = 4 then opened || !(ws.drop (i + 1)).any mine else !opened

/-- The first check of R199 that step i fails, 0 for none. -/
def Dev.stepFails (d : Dev) (ws : List Nat) (i w : Nat) : Nat :=
  let a := stAction w
  let k := stHslot w
  let T := d.rd Reg.SQ_CYCLE_NS
  if 0x0C < a then 2
  else if 0 < i && stSlot w ≤ stSlot (ws.getD (i - 1) 0) then 3
  else if a = 0x0C && T ≠ 0 && T ≤ stSlot w * 10 + 2000 then 4
  else if namesHandle a && !(d.hst k ≠ 0 && d.kindAllows a k) then 5
  else if namesQueue a && spanFails ws i w then 6
  else if branchBound a &&
      12 < ((ws.take (i + 1)).filter fun x =>
        branchBound (stAction x) && d.chanOf (stHslot x) / 4 = d.chanOf k / 4 && stSlot w ≤ stSlot x + 500).length then 7
  else if (stParam w &&& (0x7FFFF ^^^ paramMask a)) ≠ 0 || (!namesHandle a && k ≠ 0) || (!namesQueue a && stQueue w ≠ 0) then 8
  else 0

/-- The table check of R199: none where it passes, else the value of 0210:04. -/
def Dev.tableCheck (d : Dev) (shadow : Bool := true) : Option Nat :=
  match d.waitIndex shadow with
  | none => some (1 * 2 ^ 16)
  | some n =>
    let ws := (List.range (n + 1)).map fun i => d.stepWord shadow i
    (ws.zipIdx.find? fun p => d.stepFails ws p.2 p.1 ≠ 0).map fun p => p.2 + d.stepFails ws p.2 p.1 * 2 ^ 16

/-- The handles a passed check binds (R196): slot and handle value. -/
def Dev.bindings (d : Dev) (shadow : Bool := true) : List (Nat × Nat) :=
  match d.waitIndex shadow with
  | none => []
  | some n => (((List.range (n + 1)).map fun i => d.stepWord shadow i).filter fun w => namesHandle (stAction w)).map fun w =>
      (stHslot w, d.rd (Reg.HND_ID (stHslot w)))

/-- Judging a write to 0210:01 (R199, R200): the value, and no swap pending. -/
def Dev.swapCheck (d : Dev) (v : Nat) : Nat :=
  if v = 0 ∨ 2 < v then RANGE else if d.rd Reg.SQ_SWAP_STATE = 1 then BUSY else OK

/-- The check of R199 runs: 0210:04 is written, and a passed table becomes PENDING (R200). -/
def Dev.swapPend (d : Dev) (mode : Nat) : Dev × Nat :=
  match d.tableCheck with
  | some c => (d.wr Reg.SQ_CHECK c, RANGE)
  | none =>
    ({ (d.wr Reg.SQ_CHECK 0).wr Reg.SQ_SWAP_STATE 1 with seq := { d.seq with swapMode := mode, bound2 := d.bindings } }, OK)

/-- A swap request inside a transaction becomes PENDING at the boundary of the transaction, bound as it was checked when it was written
(R196, R200). The exchange is made there where the boundary was fixed with it (R193). -/
def Dev.swapInTxn (d : Dev) (mode : Nat) (bind : List (Nat × Nat)) : Dev :=
  { d.wr Reg.SQ_SWAP_STATE 1 with seq := { d.seq with swapMode := mode, bound2 := bind } }

/-! Transactions at a boundary (R206, R351). -/

/-- The number of boundaries since the cycle in which a commit was accepted, when this boundary starts a cycle. -/
def Dev.boundariesSince (d : Dev) (cyc : Nat) : Nat := (d.rd Reg.SQ_CYCLE_INDEX + 1 + 2 ^ 32 - cyc) % 2 ^ 32

/-- The index of the cycle that the boundary t starts. -/
def Dev.startingIndex (d : Dev) (t : Nat) : Nat :=
  let T := if d.seq.fixed then d.seq.nextNs else d.rd Reg.SQ_CYCLE_NS
  if T = 0 then d.rd Reg.SQ_CYCLE_INDEX else t / T % 2 ^ 32

/-- A committed transaction is due at the boundary t (R206, R351). -/
def Dev.txnDue (d : Dev) (t : Nat) (x : Txn) : Bool :=
  x.st = 2 && x.done &&
    match x.applyAt with
    | some a => (d.startingIndex t + 2 ^ 32 - a) % 2 ^ 32 < 2 ^ 31
    | none => !(d.det && d.atom && d.seq.running) || 2 ≤ d.boundariesSince x.cyc

/-- A swap request of a transaction. -/
def Entry.swapReq (x : Entry) : Bool := x.ix = 0x0210 && x.sub = 1

/-- A swap of mode v exchanges at the boundary t (R200). -/
def Dev.swapsAt (d : Dev) (v t : Nat) : Bool := v = 1 || d.rd Reg.SQ_SWAP_TIME ≤ t

/-- The bindings of the swap that the boundary t takes (R193, R200, R206): of the swap that is PENDING, else of a transaction due then. -/
def Dev.swapDue (d : Dev) (t : Nat) : Option (List (Nat × Nat)) :=
  if d.rd Reg.SQ_SWAP_STATE = 1 then (if d.swapsAt d.seq.swapMode t then some d.seq.bound2 else none)
  else (d.txns.find? fun x => d.txnDue t x && x.entries.any fun e => e.swapReq && d.swapsAt e.val t).map (·.bind)

/-- The tables exchange (R200): the old active table becomes the shadow. -/
def exchangeObj (m : Tab Nat) : Tab Nat :=
  let ix := fun (p : Nat × Nat) => p.1 / 256
  let act := m.filter fun p => 0x6000 ≤ ix p && ix p < 0x6400
  let sha := m.filter fun p => 0x6400 ≤ ix p && ix p < 0x6800
  (m.filter fun p => ix p < 0x6000) ++ sha.map (fun p => (p.1 - 0x40000, p.2)) ++ act.map (fun p => (p.1 + 0x40000, p.2)) ++
    m.filter fun p => 0x6800 ≤ ix p

/-- A table exchange at a boundary: binding as checked, events once per step begin anew, grids that still await their origin take it
under the new table (R66, R200). -/
def Dev.exchange (d : Dev) (t : Nat) : Dev :=
  let d := { d with
    obj := exchangeObj d.obj, seq := { d.seq with bound := d.seq.bound2, bound2 := d.seq.bound, once := [], onceQ := [] } }
  let d := (d.wr Reg.SQ_SWAP_STATE 0).log1 0x0291 0xFFF9 (d.rd Reg.SQ_CYCLE_INDEX)
  d.each (d.liveSlots.filter fun k => (d.slot k).await && !d.hasStartConv k) fun d k => d.beginGrid k t

/-! Execution (R192, R195, R196). -/

/-- The sequencer state with one change. -/
def Dev.modSeq (d : Dev) (f : Seq → Seq) : Dev := { d with seq := f d.seq }

/-- The ring time of a step's slot in the running cycle. -/
def Dev.slotTime (d : Dev) (o : StepOp) : Nat := d.seq.start + o.slot * 10

/-- An overrun or skipped step (R195, R203 cause 0): the event only for the first after a cycle without either. -/
def Dev.stepDirty (d : Dev) (idx det : Nat) : Dev :=
  let first := !d.seq.dirty && !d.seq.wasDirty
  let d := (d.modSeq fun x => { x with dirty := true }).breach 0
  d.when first fun d => d.log1 0x0290 idx det

/-- The step word that a step command with action a spells (R189). -/
def stepCode (a : Nat) (o : StepOp) : Nat := o.slot + a * 2 ^ 24 + o.hslot * 2 ^ 32 + o.queue * 2 ^ 39 + o.param * 2 ^ 45

/-- A step command is the next step of the running cycle (R24, R192): its index follows the steps already run, and it spells the word
that the active table holds there. Any other has no effect: the sequencer runs its table alone. -/
def Dev.stepDue (d : Dev) (a : Nat) (o : StepOp) : Bool :=
  d.seq.running && !d.seq.ended && o.idx = d.seq.doneTo && d.stepWord false o.idx = stepCode a o

/-- How long before its slot a step goes out (R192). -/
def stepLead (a : Nat) : Nat := if sendsWord a then 5000 else 0

/-- Running one step of the running cycle (R192, R195): f gets the slot's ring time. A word leaves for its branch 5 µs before the slot,
or left with the fixing of the cycle (R193). A step that comes later than its slot is overrun but executes; one within the last 2 µs is
skipped. -/
def Dev.runStep (d : Dev) (a : Nat) (o : StepOp) (f : Dev → Nat → Dev) : Dev :=
  if !d.stepDue a o then d
  else
    let ts := d.slotTime o
    let d := d.modSeq fun x => { x with doneTo := o.idx + 1 }
    if d.seq.ahead.contains o.idx then d
    else if d.rd Reg.SQ_CYCLE_NS ≤ o.slot * 10 + 2000 then
      ((d.at (max d.now ts)).bump 32 Reg.SQ_SKIPPED).stepDirty o.idx (2 ^ 31)
    else
      let late := d.now - ts
      let d := d.at (max d.now (ts - stepLead a))
      let d := d.when (0 < late) fun d =>
        ((d.bump 32 Reg.SQ_OVERRUN).wr Reg.SQ_MAX_LATE (max (d.rd Reg.SQ_MAX_LATE) (min (2 ^ 32 - 1) late))).stepDirty o.idx
          (min 65535 (late / 10))
      f d ts

/-- The handle that a table's binding gives a slot accepts a step (R196). -/
def Dev.boundIn (d : Dev) (bind : List (Nat × Nat)) (k : Nat) : Bool :=
  CREATED < d.hst k && bind.any fun p => p.1 = k && p.2 = d.rd (Reg.HND_ID k)

/-- The bound handle of a step accepts it (R196). -/
def Dev.stepBound (d : Dev) (k : Nat) : Bool := d.boundIn d.seq.bound k

/-- A step without effect (R196): counted, and logged once per step and table activation. -/
def Dev.unbound (d : Dev) (o : StepOp) : Dev :=
  let d := d.bump 32 Reg.SQ_UNBOUND
  if d.seq.once.contains o.idx then d
  else (d.modSeq fun x => { x with once := o.idx :: x.once }).log1 0x0293 o.idx (o.hslot % 128)

/-- A step that names a handle: f where the handle is bound and accepts it. -/
def Dev.runHandleStep (d : Dev) (a : Nat) (o : StepOp) (accepts : Dev → Bool) (f : Dev → Nat → Dev) : Dev :=
  d.runStep a o fun d ts => if d.stepBound o.hslot && accepts d then f d ts else d.unbound o

/-! Records (R194). -/

/-- G in ns. -/
def Dev.guardNs (d : Dev) : Nat := d.rd Reg.SQ_LATCH_GUARD * 1000

/-- A latch at slot time t (R194, R196, R335): records up to t - G form the set; the newest goes to the process image, the handle
objects and the local port (R312). -/
def Dev.latch (d : Dev) (k t : Nat) : Dev :=
  let x := d.slot k
  let cut := t - d.guardNs
  if d.link (d.chanOf k / 4) ≠ 1 then (d.setSlot k { x with latched := [] }).breach 4
  else if d.hst k = STOPPED then d.setSlot k { x with latched := [], cut := some cut }
  else
    let set := x.pend.filter fun r => r.tOut ≤ cut
    let d := d.setSlot k { x with latched := set, pend := x.pend.filter (fun r => cut < r.tOut), cut := some cut }
    match set.getLast? with
    | none => d
    | some r =>
      let d := (d.modSlot k fun x => { x with shown := some (r.w, r.a) }).showValue k r
      { d with port := { d.port with seq := (d.port.seq + 1) % 65536, pend := setBit d.port.pend 2 true } }

/-! Result packets (R218 to R220). -/

/-- The queue takes the sequencer's packets: enabled, producer STEPS. -/
def Dev.stepsQueue (d : Dev) (q : Nat) : Bool := d.rd (Reg.QU_STATE q) = 1 && d.rd (Reg.QU_PRODUCER q) = 0

/-- A rejected packet step (R218): the event once per step and table activation. -/
def Dev.stepRejected (d : Dev) (o : StepOp) (action : Nat) : Dev :=
  if d.seq.onceQ.contains o.idx then d
  else (d.modSeq fun x => { x with onceQ := o.idx :: x.onceQ }).log1 0x0504 o.queue (o.idx + action * 65536)

/-- Opening a result packet (R218): the header with count 0. An open packet found there is aborted as skipped. -/
def Dev.openResult (d : Dev) (q ty : Nat) : Dev :=
  let d := d.when (d.queue q).opn.isSome fun d => logged (d.abortPacket q 6)
  let d := logged (d.openPacket q ty)
  logged (d.appendBytes q (ty :: List.replicate 15 0))

/-- The time a record carries in a packet (R220, R123). -/
def Rec.time (r : Rec) : Nat := if r.pub then r.tOut else r.tRep

/-- The bytes of a record in a packet (R219). -/
def Rec.bytes (timed : Bool) (r : Rec) : List Nat := bytesLE 4 r.w ++ bytesLE 4 r.a ++ (if timed then bytesLE 8 r.time else [])

/-- Appending one record to the open packet of a queue (R219, R220, R243). -/
def Dev.pushOne (d : Dev) (q : Nat) (r : Rec) : Dev :=
  match (d.queue q).opn with
  | none => d
  | some o =>
    if r.bad then logged (d.abortPacket q 4)
    else
      let d := logged (d.appendBytes q (r.bytes (o.ty = 2)))
      d.modQueue q fun x => { x with opn := x.opn.map fun o => { o with
        count := o.count + 1, ts := if o.count = 0 then r.time else o.ts, pub := if o.count = 0 then r.pub else o.pub } }

/-- Appending a latched set, or its newest n records (R220). -/
def Dev.pushSet (d : Dev) (q k n : Nat) : Dev :=
  let set := (d.slot k).latched
  let cut := n ≠ 0 && n < set.length
  let d := d.when cut fun d => d.modQueue q fun x => { x with opn := x.opn.map fun o => { o with limited := true } }
  d.each (if cut then set.drop (set.length - n) else set) fun d r => d.pushOne q r

/-- The 16 header bytes of a result packet (R219). -/
def Open.header (o : Open) (cycle t : Nat) : List Nat :=
  bytesLE 1 o.ty ++ bytesLE 1 (nat01 (o.pub && o.count ≠ 0) + nat01 o.limited * 2 + nat01 (o.count = 0) * 4) ++ bytesLE 2 o.count ++
    bytesLE 4 cycle ++ bytesLE 8 (if o.count = 0 then t else o.ts)

/-- Closing a result packet (R190, R216, R220): an empty one vanishes where discard is asked. -/
def Dev.closeResult (d : Dev) (q t : Nat) (discard : Bool) : Dev :=
  match (d.queue q).opn with
  | none => d
  | some o =>
    let bytes := if o.count = 0 ∧ discard = true then [] else o.header (d.rd Reg.SQ_CYCLE_INDEX) t ++ o.bytes.drop 16
    logged ((d.modQueue q fun x => { x with opn := some { o with bytes := bytes } }).commitPacket q)

/-! The actions (R190). -/

/-- NOP. -/
def execNop (o : StepOp) (s : State) : Host.Outcome State Fault Refusal := s.run fun _ d => d.runStep 0 o fun d _ => d

/-- APPLY_OUTPUT leaves the output unchanged (R53, R58, R335): SAFE or LATCHED, module HOLD or SAFE, link down. -/
def Dev.applyHeld (d : Dev) (k : Nat) : Bool :=
  d.hst k = HSAFE || d.hst k = LATCHED || d.mode = HOLD || d.mode = SAFE || !d.hears (d.chanOf k / 4)

/-- The handle accepts a step that sends a word (R90, R190, R196). -/
def Dev.acceptsWord (d : Dev) (a k : Nat) : Bool := a ≠ 2 || (d.urgentOk k && d.kind k ≠ 7)

/-- The word of a branch-bound step leaves for its branch with the slot's ring time (R16, R192): CONV for START_CONV (R65), a queued urgent
request for URGENT_CONV (R90), which a full table refuses (R201), APPLY for APPLY_OUTPUT (R27). -/
def Dev.issue (d : Dev) (a k ts : Nat) : Dev :=
  let n := d.chanOf k
  if a = 1 then d.when (d.hears (n / 4)) fun d => d.toBranch (n / 4) (.conv k 0 ts)
  else if a = 2 then if d.opsFree then d.takeOp.urgentRequest k 256 0 ts else (d.bump 32 Reg.OPS_BUSY_COUNT).breach 8
  else if d.applyHeld k then d else d.toBranch (n / 4) (.apply n ts)

/-- A step that sends a word (R192). -/
def Dev.runWordStep (d : Dev) (a : Nat) (o : StepOp) : Dev :=
  d.runHandleStep a o (fun d => d.acceptsWord a o.hslot) fun d ts => d.issue a o.hslot ts

/-- START_CONV (R65, R66). -/
def execStartConv (o : StepOp) (s : State) : Host.Outcome State Fault Refusal := s.run fun _ d => d.runWordStep 1 o

/-- URGENT_CONV (R90, R190, R196, R201). -/
def execUrgentConv (o : StepOp) (s : State) : Host.Outcome State Fault Refusal := s.run fun _ d => d.runWordStep 2 o

/-- LATCH_RESULT (R194). -/
def execLatchResult (o : StepOp) (s : State) : Host.Outcome State Fault Refusal :=
  s.run fun _ d => d.runHandleStep 3 o (fun _ => true) fun d ts => d.latch o.hslot ts

/-- OPEN_PACKET (R218). -/
def execOpenPacket (o : StepOp) (s : State) : Host.Outcome State Fault Refusal :=
  s.run fun _ d => d.runStep 4 o fun d _ =>
    let ty := o.param % 256
    if d.stepsQueue o.queue && (ty = 1 || ty = 2) then d.openResult o.queue ty else d.stepRejected o 4

/-- PUSH_RESULT (R218, R220). -/
def execPushResult (o : StepOp) (s : State) : Host.Outcome State Fault Refusal :=
  s.run fun _ d => d.runHandleStep 5 o (fun _ => true) fun d _ =>
    if d.stepsQueue o.queue then d.pushSet o.queue o.hslot (o.param % 128) else d.stepRejected o 5

/-- COMMIT_PACKET (R218). -/
def execCommitPacket (o : StepOp) (s : State) : Host.Outcome State Fault Refusal :=
  s.run fun _ d => d.runStep 6 o fun d ts =>
    if d.stepsQueue o.queue then d.closeResult o.queue ts (bitOf o.param 0) else d.stepRejected o 6

/-- APPLY_OUTPUT (R27, R58, R190). -/
def execApplyOutput (o : StepOp) (s : State) : Host.Outcome State Fault Refusal := s.run fun _ d => d.runWordStep 7 o

/-- SAMPLE_INPUTS (R150, R184): a record for the handle and its observers. -/
def execSampleInputs (o : StepOp) (s : State) : Host.Outcome State Fault Refusal :=
  s.run fun e d => d.runHandleStep 8 o (fun _ => true) fun d ts =>
    let k := o.hslot
    if !d.linked (d.chanOf k / 4) then d
    else if d.kind k = 4 then
      let r := d.lvRecord k ts
      r.1.pushStatus k r.2
    else
      let d := d.senseSwitch e.worn k
      d.pushStatus k (d.swRecord e.worn k ts)

/-- SYNC_FILTERS (R124). -/
def execSyncFilters (o : StepOp) (s : State) : Host.Outcome State Fault Refusal :=
  s.run fun _ d => d.runStep 9 o fun d ts => d.syncGroups (o.param % 256) 1 ts

/-- DIAG_WINDOW (R87). -/
def execDiagWindow (o : StepOp) (s : State) : Host.Outcome State Fault Refusal :=
  s.run fun _ d => d.runHandleStep 10 o (fun _ => true) fun d ts =>
    let b := d.chanOf o.hslot / 4
    if d.hears b then d.toBranch b (.conv o.hslot 2 ts) else d

/-- MARK_TIME (R190). -/
def execMarkTime (o : StepOp) (s : State) : Host.Outcome State Fault Refusal :=
  s.run fun _ d => d.runStep 11 o fun d ts => d.wr (Reg.SQ_MARK (o.param % 8)) ts

/-- WAIT_CYCLE (R192). -/
def execWaitCycle (o : StepOp) (s : State) : Host.Outcome State Fault Refusal :=
  s.run fun _ d => d.runStep 12 o fun d _ => d.modSeq fun x => { x with ended := true }

/-- SYNC_LAND_EDGE (R124, R301): only in input mode, and for the polarity selected. -/
def execSyncLandEdge (rising : Bool) (t : Nat) (s : State) : Host.Outcome State Fault Refusal :=
  s.run fun _ d =>
    let d := d.at t
    let sel := d.rd Reg.FE_LAND_SYNC_EDGE
    if d.crownUp && d.rd Reg.SY_LAND_MODE = 0 && (sel = 2 || (sel = 0) == rising) then d.syncGroups (d.rd Reg.FE_LAND_SYNC_MASK) 2 t
    else d

/-! The cycle clock (R193, R197). -/

/-- The sequencer may run: out of INIT, at RUN, its source present (R191, R197). -/
def Dev.cyclesMayRun (d : Dev) : Bool :=
  d.crownUp && d.mode ≠ INIT && d.rd Reg.PL_RUNG = 0 &&
    (d.rd Reg.SQ_CYCLE_SRC = 1 || d.rd Reg.SQ_LOCK = 1 || d.rd Reg.SQ_LOCK = 2 || d.rd Reg.RT_STATE = 2)

/-- The cycle length the source asks for. -/
def Dev.wantedNs (d : Dev) : Nat := if d.rd Reg.SQ_CYCLE_SRC = 1 then d.rd Reg.SQ_LOCAL_PERIOD else d.seq.annNs

/-- The first multiple of T at or after t. -/
def multipleAt (T t : Nat) : Nat := (t + T - 1) / T * T

/-- Setting 0210:08; each change, also of the length in force, is logged (R197). -/
def Dev.setLock (d : Dev) (v T : Nat) : Dev :=
  let was := d.rd Reg.SQ_LOCK
  let wasT := d.rd Reg.SQ_CYCLE_NS
  let d := (d.wr Reg.SQ_LOCK v).wr Reg.SQ_CYCLE_NS T
  d.when (was ≠ v || (wasT ≠ T && v ≠ 0)) fun d => d.log1 0x0292 0xFFF9 (v + T / 1000 % 2 ^ 24 * 256)

/-- The sequencer stops (R197): no step runs, nothing stands fixed. -/
def Dev.haltCycles (d : Dev) : Dev :=
  (d.setLock 0 (d.rd Reg.SQ_CYCLE_NS)).modSeq fun x => { x with running := false, ended := true, fixed := false, nextSwap := false, ahead := [] }

/-- Cycles begin from STOPPED (R197): LOCKED once ring time is synchronised and a length announced, LOCAL under the local source; the
first cycle starts at the next multiple of the length. -/
def Dev.cyclesBegin (d : Dev) : Dev :=
  if d.rd Reg.SQ_LOCK ≠ 0 || !d.crownUp || d.mode = INIT || d.rd Reg.PL_RUNG ≠ 0 then d
  else if d.rd Reg.SQ_CYCLE_SRC = 1 then d.setLock 3 (d.rd Reg.SQ_LOCAL_PERIOD)
  else if d.rd Reg.RT_STATE = 2 && d.seq.annNs ≠ 0 then d.setLock 1 d.seq.annNs
  else d

/-- The steps of a table whose words leave with the fixing of its cycle (R192, R193): index and word of each step that sends one and stands
in the first 5 µs, before the last 2 µs of a cycle of T ns. -/
def Dev.aheadSteps (d : Dev) (shadow : Bool) (T : Nat) : List (Nat × Nat) :=
  match d.waitIndex shadow with
  | none => []
  | some n => ((List.range n).map fun i => (i, d.stepWord shadow i)).filter fun p =>
      sendsWord (stAction p.2) && stSlot p.2 < 500 && stSlot p.2 * 10 + 2000 < T

/-- Sending them for the cycle that starts at next: each step whose bound handle accepts it. -/
def Dev.issueAhead (d : Dev) (shadow : Bool) (bind : List (Nat × Nat)) (T next : Nat) : Dev :=
  d.each (d.aheadSteps shadow T) fun d p =>
    let a := stAction p.2
    let k := stHslot p.2
    d.when (d.boundIn bind k && d.acceptsWord a k) fun d =>
      (d.issue a k (next + stSlot p.2 * 10)).modSeq fun x => { x with ahead := x.ahead ++ [p.1] }

/-- CYCLE_FIX (R193): length and table of the next cycle, 6 µs before its boundary, with the words of its first 5 µs. Where the length
changes so that the next cycle starts later than the running one ends, its words leave with the fixing before that start. -/
def execCycleFix (t : Nat) (s : State) : Host.Outcome State Fault Refusal :=
  s.run fun _ d =>
    let d := d.at t
    if !d.cyclesMayRun || d.seq.fixed then d
    else
      let T := d.wantedNs
      let stop := if d.seq.running then d.seq.start + d.rd Reg.SQ_CYCLE_NS else t
      let next := if T = 0 then stop else multipleAt T stop
      let d := d.modSeq fun x => { x with nextNs := T, nextSrc := d.rd Reg.SQ_CYCLE_SRC, fixed := true, ahead := [] }
      let swap := d.swapDue next
      let d := d.modSeq fun x => { x with nextSwap := swap.isSome }
      if T ≠ 0 ∧ (next = stop ∨ d.seq.running = false) then d.issueAhead swap.isSome (swap.getD d.seq.bound) T next else d

/-! The judgement of a cycle (R203, R204). -/

/-- The cause mask of the cycle that ends: what it marked, CYCLE without a frame under the ring source, TIME_LOST by the canopy's
beacons or, outside a canopy, by ACQUIRING (R357), and each link that is down (R335). -/
def Dev.breaches (d : Dev) : Nat :=
  let lock := d.rd Reg.SQ_LOCK
  let m := d.seq.breach
  let m := if lock = 3 || (lock = 1 && d.seq.frame) then m else m ||| 2
  let inCanopy := d.rd Reg.CN_ENABLE = 1 && d.rd Reg.CN_RANK < 8
  let m := if (if inCanopy then d.rd Reg.CN_TIME_LOST ≠ 0 || d.canopy.timeLost else d.rd Reg.RT_STATE = 1) then m ||| 8 else m
  (List.range 4).foldl (fun m b =>
    if d.link b = 2 && d.branchDrivers b ≠ [] then (if (d.branch b).crownHeld then m ||| 0x40 else m ||| 0x10) else m) m

/-- Judging cycle j with mask m (R204). -/
def Dev.judgeCycle (d : Dev) (j m : Nat) : Dev :=
  if m ≠ 0 then
    let d := (d.wr Reg.GU_DET_HOLDS 0).wr Reg.GU_DET_CAUSE (d.rd Reg.GU_DET_CAUSE ||| m)
    let d := d.when (d.rd Reg.GU_DET_COUNT = 0) fun d => d.wr Reg.GU_DET_FIRST j
    let d := (d.wr Reg.GU_DET_LAST j).bump 32 Reg.GU_DET_COUNT
    let d := d.when d.seq.held fun d => (d.modSeq fun x => { x with runCnt := 0 }).log1 0x0280 m j
    d.modSeq fun x => { x with held := false, runCnt := min 65535 (x.runCnt + 1) }
  else
    let d := d.wr Reg.GU_DET_HOLDS 1
    let d := d.when (!d.seq.held) fun d => d.log1 0x0281 d.seq.runCnt j
    d.modSeq fun x => { x with held := true, runCnt := 0 }

/-- The steps of the running cycle that were not reached are skipped (R195). -/
def Dev.skipRest (d : Dev) : Dev :=
  match d.waitIndex false with
  | none => d
  | some n =>
    if !d.seq.running || d.seq.ended || n < d.seq.doneTo then d
    else (d.wr Reg.SQ_SKIPPED ((d.rd Reg.SQ_SKIPPED + (n + 1 - d.seq.doneTo)) % 2 ^ 32)).stepDirty d.seq.doneTo (2 ^ 31)

/-- The running cycle is judged with cause mask m, and its marks end (R203, R204). -/
def Dev.closeCycle (d : Dev) (m : Nat) : Dev :=
  let d := if d.det then d.judgeCycle (d.rd Reg.SQ_CYCLE_INDEX) m else (d.wr Reg.GU_DET_HOLDS 0).modSeq fun x => { x with held := true }
  d.modSeq fun x => { x with breach := 0, frame := false, wasDirty := x.dirty, dirty := false }

/-- The cycles stop (R197): the cycle that is cut off fails CYCLE, as 0210:08 falls to STOPPED in it (R203). -/
def Dev.stopCycles (d : Dev) : Dev := (d.when d.seq.running fun d => d.closeCycle (d.breaches ||| 2)).haltCycles

/-- The running cycle ends at a boundary: rest skipped (R195), DET judged, HOLDOVER without a frame (R197). -/
def Dev.endCycle (d : Dev) : Dev :=
  if !d.seq.running then d
  else
    let d := d.skipRest
    (d.closeCycle d.breaches).when (d.rd Reg.SQ_LOCK = 1 && !d.seq.frame) fun d => d.setLock 2 (d.rd Reg.SQ_CYCLE_NS)

/-- At a cycle start, the packets that the sequencer left open are aborted (R217 reason 6). -/
def Dev.abortLeft (d : Dev) : Dev :=
  d.each (d.enabledQueues.filter fun q => d.rd (Reg.QU_PRODUCER q) = 0 && (d.queue q).opn.isSome) fun d q => logged (d.abortPacket q 6)

/-- A cycle starts at a boundary t (R191, R192, R197): the fixed length and table, where t is a multiple of the length. -/
def Dev.startCycle (d : Dev) (t : Nat) : Dev :=
  if !d.cyclesMayRun then (if d.rd Reg.SQ_LOCK = 0 then d else d.haltCycles)
  else
    let was := d.rd Reg.SQ_CYCLE_NS
    let T := if d.seq.fixed then d.seq.nextNs else was
    let swap := d.seq.nextSwap && d.rd Reg.SQ_SWAP_STATE = 1
    let lock := d.rd Reg.SQ_LOCK
    if d.seq.fixed = false ∧ lock = 0 then d.cyclesBegin
    else if T = 0 then (if lock = 0 then d else d.haltCycles)
    else
      let src := if d.seq.fixed then d.seq.nextSrc else if lock = 3 then 1 else 0
      let d := d.setLock (if src = 1 then 3 else if lock = 2 && T = was then 2 else 1) T
      if t % T ≠ 0 then d.modSeq fun x => { x with running := false, ended := true, fixed := false }
      else
        let d := d.abortLeft.wr Reg.SQ_CYCLE_INDEX (t / T % 2 ^ 32)
        let d := d.when swap (·.exchange t)
        let wait := d.waitIndex false
        d.modSeq fun x => { x with
          running := true, start := t, ended := wait.isNone, doneTo := 0, fixed := false, nextSwap := false,
          ahead := if x.fixed then x.ahead else [],
          lateAnn := false, breach := if x.lateAnn then x.breach ||| 2 else x.breach }

/-- GU_DET_ACK acts (R204). -/
def Dev.detAck (d : Dev) : Dev :=
  (((d.wr Reg.GU_DET_CAUSE 0).wr Reg.GU_DET_FIRST 0).wr Reg.GU_DET_LAST 0).wr Reg.GU_DET_COUNT 0

end Sys2Proof.Machine
end

