-- ==== Sys2Proof/Machine/Watchdogs.lean ====
section
/-!
DEFINITION. The task watchdogs W0 and W1 (R323 to R330) and the FAULT and WDO lands (R331, R332).
-/
namespace Sys2Proof.Machine

/-- A watchdog: W1 or W0. -/
def Dev.wd (d : Dev) (w1 : Bool) : Wd := if w1 then d.wd1 else d.wd0

/-- Writing a watchdog. -/
def Dev.setWd (d : Dev) (w1 : Bool) (x : Wd) : Dev := if w1 then { d with wd1 := x } else { d with wd0 := x }

/-- The state object of a watchdog. -/
def wdState (w1 : Bool) : Nat := if w1 then Reg.WD1_STATE else Reg.WD0_STATE

/-- W0's parameters as the firmware sets them, within the limits of R330 (R323, R341): 0 T_OPEN, 1 T_CLOSE, 2 t_WARN, 3 required. -/
def wd0Param (i : Nat) : Nat :=
  match i with
  | 0 => max 1000 (Config.wd0 0 % 2 ^ 32)
  | 1 => min 1000000 (Config.wd0 1)
  | 2 => min 100000 (Config.wd0 2)
  | _ => Config.wd0 3 % 65536

/-- T_OPEN in ticks. -/
def Dev.wdOpen (d : Dev) (w1 : Bool) : Nat := if w1 then d.rd Reg.WD1_T_OPEN else wd0Param 0

/-- T_CLOSE in ticks. -/
def Dev.wdClose (d : Dev) (w1 : Bool) : Nat := if w1 then d.rd Reg.WD1_T_CLOSE else wd0Param 1

/-- The required-task mask. -/
def Dev.wdRequired (d : Dev) (w1 : Bool) : Nat := if w1 then d.rd Reg.WD1_REQUIRED else wd0Param 3

/-- REPEAT policy FAULT (R325, R330). -/
def Dev.wdRepeatFault (d : Dev) (w1 : Bool) : Bool := !w1 || bitOf (d.rd Reg.WD1_POLICY) 1

/-- The watchdog runs: W1 while enabled and out of INIT, W0 while its core runs and no swap pauses it (R328 to R330). -/
def Dev.wdRuns (d : Dev) (w1 : Bool) : Bool :=
  if w1 then d.crownUp && d.rd Reg.WD1_STATE ≠ 0 else d.crownUp && d.coreUp && !d.wd0.paused

/-- Required tasks that have not checked in (R327). -/
def Dev.wdMissing (d : Dev) (w1 : Bool) : Nat := d.wdRequired w1 &&& (0xFFFF ^^^ ((d.wd w1).seen &&& 0xFFFF))

/-- The source code of a watchdog's events (R345). -/
def wdSrc (w1 : Bool) : Nat := if w1 then 0xFFF5 else 0xFFF4

/-- Missing and repeat masks, the detail of its events (R328). -/
def Dev.wdDetail (d : Dev) (w1 : Bool) : Nat := d.wdMissing w1 + (d.wd w1).rep % 65536 * 65536

/-- The tick of the running cycle. -/
def Dev.wdTick (d : Dev) (w1 : Bool) : Nat := (d.now - (d.wd w1).start) / 1000

/-- A new cycle (R324). -/
def Wd.cycle (x : Wd) (t : Nat) : Wd := { x with start := t, seen := 0, rep := 0 }

/-- violation(c) of R327 at a captured tick: 1 EARLY, 2 KEY, 3 REPEAT, 4 MISSING, 5 EXPIRED. Entry into WARNING logs; a violation in
WARNING or STAGE2 only counts (R340). -/
def Dev.wdViolate (d : Dev) (w1 : Bool) (c tick : Nat) : Dev :=
  let x := d.wd w1
  let det := d.wdDetail w1
  let enters := d.rd (wdState w1) = 1
  let d := d.setWd w1 { x with
    viols := (x.viols + 1) % 2 ^ 32, lastC := c, lastT := tick,
    tViol := if enters then d.now else x.tViol }
  if enters then
    let d := (d.wr (wdState w1) 2).log1 (0x01FF + c) (wdSrc w1) det
    if w1 then { d with port := { d.port with pend := setBit d.port.pend 5 true } } else d.bump 32 Reg.WD0_WARNINGS
  else d

/-- A check-in (R325, R327). -/
def Dev.wdCheckIn (d : Dev) (w1 : Bool) (id : Nat) : Dev :=
  let x := d.wd w1
  if !d.wdRuns w1 then d
  else if bitOf x.seen id then
    let d := d.setWd w1 { x with rep := setBit x.rep id true }
    d.when (d.wdRepeatFault w1) fun d => d.wdViolate w1 3 (d.wdTick w1)
  else d.setWd w1 { x with seen := setBit x.seen id true }

/-- service(t) of R327. -/
def Dev.wdService (d : Dev) (w1 : Bool) (tick : Nat) : Dev :=
  let x := d.wd w1
  let st := d.rd (wdState w1)
  if d.wdMissing w1 ≠ 0 then d.setWd w1 { x with inc := (x.inc + 1) % 2 ^ 32 }
  else if st = 1 ∧ tick < d.wdOpen w1 then d.wdViolate w1 1 tick
  else
    let d := d.when (st = 2) fun d => d.bump 32 (if w1 then Reg.WD1_RETURNS else Reg.WD0_RETURNS)
    let d := d.when (st = 2 || st = 3) fun d =>
      d.log1 0x0205 (wdSrc w1) (min (2 ^ 24 - 1) ((d.now - x.tViol) / 1000) + nat01 (st = 3) * 2 ^ 24)
    (d.wr (wdState w1) 1).setWd w1 (x.cycle d.now)

/-- A key write at a captured tick (R326, R327). -/
def Dev.wdKey (d : Dev) (w1 : Bool) (v tick : Nat) : Dev :=
  let x := d.wd w1
  if !d.wdRuns w1 then d
  else if v = 0x3C5A ∧ x.armed = false then d.setWd w1 { x with armed := true }
  else if v = 0xA5C3 ∧ x.armed = true then (d.setWd w1 { x with armed := false }).wdService w1 tick
  else (d.setWd w1 { x with armed := false }).wdViolate w1 2 tick

/-- A key value written to 0401:09 (R326): at the captured tick that the key's own command gives, else 0 to 2 ticks after the write. -/
def Dev.keyWrite (d : Dev) (v : Nat) : Dev :=
  match d.wd1.cap with
  | some t => d.wdKey true v t
  | none => d.took.wdKey true v (d.wdTick true + d.freeNat 8 % 3)

/-- WD_WINDOW_CLOSE (R327): T_CLOSE in NORMAL. -/
def execWdWindowClose (w1 : Bool) (t : Nat) (s : State) : Host.Outcome State Fault Refusal :=
  s.run fun _ d =>
    let d := d.at t
    if d.wdRuns w1 && d.rd (wdState w1) = 1 then d.wdViolate w1 (if d.wdMissing w1 ≠ 0 then 4 else 5) (d.wdClose w1) else d

/-- A WDO pulse begins (R332); a second entry during a pulse does not lengthen it. -/
def Dev.wdoPulse (d : Dev) : Dev := if d.wdoLow then d else { d with wdoLow := true }.bump 32 Reg.WDO_PULSES

/-- WD_STAGE2 (R327, R328): t_WARN ends in WARNING. -/
def execWdStage2 (w1 : Bool) (t : Nat) (s : State) : Host.Outcome State Fault Refusal :=
  s.run fun _ d =>
    let d := d.at t
    if d.wdRuns w1 && d.rd (wdState w1) = 2 then
      let d := (d.wr (wdState w1) 3).log1 0x0206 (wdSrc w1) (d.wdDetail w1)
      if w1 then
        let d := (d.bump 32 Reg.WD1_STAGE2).wdoPulse
        d.when (bitOf (d.rd Reg.WD1_POLICY) 0) (·.moduleSafe 4)
      else { d.bump 32 Reg.WD0_RESETS with coreUp := false }
    else d

/-- WDO_PULSE_END (R332). -/
def execWdoPulseEnd (t : Nat) (s : State) : Host.Outcome State Fault Refusal :=
  s.run fun _ d => { d.at t with wdoLow := false }

/-- W1 starts with a new cycle (R329): when it is enabled, and when the module leaves INIT. -/
def Dev.wd1Start (d : Dev) : Dev :=
  if d.rd Reg.WD1_ENABLE = 1 ∧ d.mode ≠ INIT ∧ d.rd Reg.WD1_STATE = 0 then
    { d.wr Reg.WD1_STATE 1 with wd1 := { d.wd1 with start := d.now, seen := 0, rep := 0, armed := false } }
  else d

/-- A write of 0401:01 (R329). -/
def Dev.wd1Set (d : Dev) (v : Nat) : Dev :=
  let d := d.wr Reg.WD1_ENABLE v
  if v = 1 then d.wd1Start else { d.wr Reg.WD1_STATE 0 with wd1 := { d.wd1 with armed := false } }

/-- Judging a write to 0401:03 to 0401:07 (R329, R342). -/
def Dev.wd1Check (d : Dev) (sub v : Nat) : Nat :=
  if sub = 3 ∧ (v < 10 ∨ d.rd Reg.WD1_T_CLOSE < v + 10) then RANGE
  else if sub = 4 ∧ (v < d.rd Reg.WD1_T_OPEN + 10 ∨ 60000000 < v) then RANGE
  else if 3 ≤ sub ∧ sub ≤ 7 ∧ d.rd Reg.WD1_STATE ≠ 0 then BUSY
  else OK

/-! FAULT (R331). -/

/-- 0410:01. -/
def Dev.faultCause (d : Dev) : Nat :=
  let ks := d.liveSlots
  let m := d.mode
  nat01 (m = SAFE) + nat01 (ks.any fun k => d.hst k = LATCHED) * 2 +
    nat01 (d.rd Reg.WD0_STATE = 2 || d.rd Reg.WD0_STATE = 3) * 4 + nat01 (d.rd Reg.WD1_STATE = 2 || d.rd Reg.WD1_STATE = 3) * 8 +
    nat01 ((List.range 4).any fun b => d.link b ≠ 1 && d.branchDrivers b ≠ []) * 16 + nat01 (d.rd Reg.SPR_MAINT ≠ 0) * 32 +
    nat01 (d.rd Reg.GU_DET_CAUSE ≠ 0) * 64 + nat01 ((List.range 4).any fun b => (d.branch b).mismatch) * 128 + nat01 (m = INIT) * 256

/-- The FAULT land: held low (0) while the crown runs and no enabled cause holds, else released (1); it keeps its level through the
power ladder, and stays released with TEST high (R425). -/
def Dev.faultLand (d : Dev) : Nat :=
  if d.asleep then d.faultD0 else if d.crownUp && !d.testHigh && (d.faultCause &&& d.rd Reg.FAULT_MASK) = 0 then 0 else 1

end Sys2Proof.Machine
end

