-- ==== Sys2Proof/Machine/Operands.lean ====
section
/-!
DEFINITION. The operand forms of a request (R250 to R261): lengths and values that fit a type, access, ranges, reserved bits,
privileges, and the owners of RWS objects.
-/
namespace Sys2Proof.Machine

/-- The bytes of a value of fixed length; none for strings and octets (R251). -/
def Ty.size : Ty → Option Nat
  | .bool => some 1
  | .u n => some n
  | .i n => some n
  | .f32 => some 4
  | .str _ => none
  | .octets _ => none
  | .record n => some n

/-- The length of a value as it is read: strings end before their first zero byte (R251). -/
def Ty.length (ty : Ty) (v : Nat) : Nat :=
  match ty with
  | .str n => ((bytesLE n v).takeWhile (· ≠ 0)).length
  | .octets n => n
  | _ => (ty.size).getD 0

/-- Length and value against a type, check 10 (R251, R258). -/
def Ty.check (ty : Ty) (len v : Nat) : Nat :=
  match ty with
  | .bool => if len ≠ 1 then LENGTH else if 1 < v then TYPE else OK
  | .f32 => if len ≠ 4 then LENGTH else if bitsOf v 23 8 = 255 then TYPE else OK
  | .str n =>
    if len = 0 ∨ n < len then LENGTH
    else if (bytesLE len v).all (fun b => 0x20 ≤ b && b ≤ 0x7E) then OK else TYPE
  | .octets n => if len = 0 ∨ n < len then LENGTH else OK
  | _ => if ty.size = some len then OK else LENGTH

/-- The number a value stands for. -/
def Ty.value (ty : Ty) (v : Nat) : Int :=
  match ty with
  | .i n => toInt (8 * n) v
  | _ => v

/-- A value lies in a range of an object table (R8). -/
def Rng.holds (r : Rng) (v : Int) : Bool :=
  match r with
  | .any => true
  | .span lo hi => decide (lo ≤ v ∧ v ≤ hi)
  | .gaps e lo hi => decide (v = e ∨ (lo ≤ v ∧ v ≤ hi))
  | .mult lo hi step => decide (lo ≤ v ∧ v ≤ hi ∧ v % step = 0)

/-- The slot of a handle object (R48). -/
def slotOf (ix : Nat) : Nat := (ix - 0x2000) / 0x40

/-- A handle object (R37). -/
def isHandleIx (ix : Nat) : Bool := 0x2000 ≤ ix && ix < 0x4000

/-- The row of an object for the handles that live now (R48, R255). -/
def Dev.info (d : Dev) (ix sub : Nat) : Option Info := objInfo (fun k => if d.hst k = 0 then 0 else d.kind k) ix sub

/-- The index is assigned. -/
def indexExists (ix : Nat) : Bool := (rowsAt (fun _ => 0) ix).isSome

/-- The bits of a written value that are not reserved (R7). -/
def Dev.writeMask (d : Dev) (ix sub : Nat) : Nat :=
  let kind := d.kind (slotOf ix)
  if isHandleIx ix then
    if measuring kind && sub = 0x14 then 3
    else if isSwitch kind && sub = 0x20 then 3
    else 2 ^ 2048 - 1
  else if ix = 0x0211 && sub = 1 then 3
  else if ix = 0x0320 && sub = 4 then 15
  else if ix = 0x0401 && sub = 7 then 3
  else if ix = 0x0420 && sub = 0x0D then 15
  else if ix = 0x8200 && sub = 3 then 0x1FFFFF
  else if ix = 0xF000 || ix = 0xF100 then 0x1FFFFFFF
  else 2 ^ 2048 - 1

/-- The value of a bit-masked object as written (R7). -/
def Dev.masked (d : Dev) (ix sub v : Nat) : Nat := v &&& d.writeMask ix sub

/-- A write needs SERVICE privilege (R54, R261, R329). -/
def Dev.needsService (r : Info) (ix sub v : Nat) : Bool :=
  r.svc || (ix = 0x0200 && sub = 2 && v = 6) || (ix = 0x0401 && sub = 1 && v = 0)

/-- An object is answered in INIT (R53). -/
def inInit (ix sub : Nat) : Bool := ix = 0x0100 || (ix = 0x0200 && sub = 1)

/-- A write acts at once and needs no transaction, whatever ATOM holds (R205, R269). -/
def actsAtOnce (ix sub : Nat) : Bool :=
  (0x0400 ≤ ix && ix ≤ 0x04FF) || ix = 0x0220 || (ix = 0x0230 && (sub = 1 || sub = 2))

/-- The observer rule on converter and kind objects (R39, R97, R152, R186): a handle's driver alone writes them; a MONITOR handle has no
posture (R56). -/
def Dev.observerRefuses (d : Dev) (ix sub : Nat) : Bool :=
  let k := slotOf ix
  isHandleIx ix &&
    if d.isObserver k then
      sub = 7 || sub = 8 ||
        (if measuring (d.kind k) then (0x10 ≤ sub && sub ≤ 0x13) || (0x15 ≤ sub && sub ≤ 0x17) || (0x1A ≤ sub && sub ≤ 0x1C) || 0x20 ≤ sub
         else 0x10 ≤ sub)
    else d.kind k = 7 && (sub = 7 || sub = 8)

/-- The owner of an RWS object is stopped (R253). -/
def Dev.ownerStopped (d : Dev) (ix : Nat) : Bool :=
  if isHandleIx ix then
    let st := d.hst (slotOf ix)
    !(st = RUNNING || st = HSAFE)
  else if 0x5000 ≤ ix && ix < 0x5800 then d.rd (ix * 256 + 2) ≠ 2
  else if 0x4000 ≤ ix && ix < 0x4400 then d.rd (ix * 256 + 1) = 0
  else if 0x4410 ≤ ix && ix < 0x4420 then !(d.rd (ix * 256 + 9) = 1 || d.rd (ix * 256 + 9) = 3)
  else if 0xF000 ≤ ix then d.mode = INIT || d.mode = PREOP || d.mode = SERVICE
  else true

/-- A deferred request (R268). -/
def Dev.isDeferred (d : Dev) (ix sub : Nat) (write : Bool) : Bool :=
  (0x8000 ≤ ix && ix ≤ 0x8FFF) || (0xA000 ≤ ix && ix ≤ 0xA0FF) ||
    (write &&
      ((0x7000 ≤ ix && ix ≤ 0x70FF) || (ix = 0x1000 && (sub = 1 || sub = 2)) || ix = 0x1010 || ix = 0x1011 ||
        (0x5810 ≤ ix && ix < 0x5870 && sub = 8) || (ix = 0x0210 && sub = 1) || (ix = 0x0220 && sub = 2) || (ix = 0x0230 && sub = 3) ||
        (isHandleIx ix && sub = 0x1E && measuring (d.kind (slotOf ix)))))

/-- A command object whose writes take effect at a cycle boundary (R52, R57, R116, R117, R138, R149, R173, R204, R338). -/
def Dev.isStagedCommand (d : Dev) (ix sub : Nat) : Bool :=
  let kind := d.kind (slotOf ix)
  (isHandleIx ix && (sub = 4 || (kind = 4 && sub = 0x18) || (kind = 2 && sub = 0x26) || (isSwitch kind && sub = 0x28))) ||
    (ix = 0x0200 && sub = 2) || (ix = 0x0420 && sub = 0x0D) || (0x5000 ≤ ix && ix < 0x5800 && sub = 0x0B) || (ix = 0x0211 && sub = 7)

/-- An entry that writes a command object (R271): every WO object but creates, destroys and the service code. -/
def Dev.isCommand (d : Dev) (ix sub : Nat) : Bool :=
  match d.info ix sub with
  | none => isHandleIx ix && sub = 4
  | some r => r.acc = .wo && ix ≠ 0x1000 && !(ix = 0x0230 && sub = 3)

end Sys2Proof.Machine
end

