-- ==== Sys2Proof/Machine/Canopy.lean ====
section
/-!
DEFINITION. The canopy (R346 to R363): beacons, digest, admission, leadership, time, state, views and images. What a frame brings is
taken at its end, what a cycle's end judges is judged at its boundary.
-/
namespace Sys2Proof.Machine

/-- Changing the canopy's state. -/
def Dev.modCn (d : Dev) (f : Canopy → Canopy) : Dev := { d with canopy := f d.canopy }

/-- The module takes part in a canopy (R346). -/
def Dev.cnOn (d : Dev) : Bool := d.crownUp && d.rd Reg.CN_ENABLE = 1 && d.rd Reg.CN_RANK < 8

/-- The module's own rank. -/
def Dev.cnRank (d : Dev) : Nat := d.rd Reg.CN_RANK

/-- A rank is expected (R346). -/
def Dev.cnMember (d : Dev) (r : Nat) : Bool := bitOf (d.rd Reg.CN_MEMBERS) r

/-- ID_SERIAL (R278). -/
def serialNo : Nat := Config.identity 3 % 2 ^ 64

/-- The value kept for a rank. -/
def rankVal (l : List (Nat × Nat)) (r : Nat) : Nat := tabGet (fun _ => 0) l r

/-- Keeping a value for a rank. -/
def rankSet (l : List (Nat × Nat)) (r v : Nat) : List (Nat × Nat) := tabSet (fun _ => 0) l r v

/-! The configuration digest (R350). -/

/-- The canopy-relevant objects in ascending order, with their lengths. -/
def digestObjects : List (Nat × Nat) := [
  (Reg.SQ_CYCLE_SRC, 1), (Reg.SQ_LOCAL_PERIOD, 4), (Reg.GU_MODE, 1), (Reg.PDW_CYCLES, 2), (Reg.FE_RING_SYNC_MASK, 1),
  (Reg.CN_CANOPY_ID, 2), (Reg.CN_MEMBERS, 1), (Reg.CN_REQUIRED, 1), (Reg.CN_LEADER_PREF, 1), (Reg.CN_POLICY, 1),
  (Reg.CN_REGION_OFFSET, 2)]

/-- The canopy-relevant objects as bytes: index, sub-index, value. -/
def Dev.digestBytes (d : Dev) : List Nat :=
  digestObjects.flatMap fun p => bytesLE 2 (p.1 / 256) ++ [p.1 % 256] ++ bytesLE p.2 (d.rd p.1)

/-- CN_DIGEST as 32 bytes. -/
def Dev.cnDigest (d : Dev) : List Nat := sha256 d.digestBytes

/-- DIGEST_TAG (R349). -/
def Dev.digestTag (d : Dev) : Nat := ofBytesLE (d.cnDigest.take 10)

/-- The values of the canopy-relevant objects in the leading bytes of an image (R360, R362). -/
def readDigest : List (Nat × Nat) → List Nat → List (Nat × Nat)
  | [], _ => []
  | (k, n) :: r, bs => (k, ofBytesLE ((bs.drop 3).take n)) :: readDigest r (bs.drop (3 + n))

/-! Views and images (R360). -/

/-- The module's own view entry of slot s. -/
def Dev.viewEntry (d : Dev) (s : Nat) : Nat :=
  if d.hst s = 0 then 0 else d.rd (Reg.HND_ID s) + d.rd (Reg.HND_BIND s) % 65536 * 65536

/-- The module's own image: its view, its safe postures, its power-up postures. -/
def Dev.ownImage (d : Dev) : List Nat :=
  (List.range 128).flatMap (fun s => bytesLE 4 (d.viewEntry s)) ++
    (List.range 128).flatMap (fun s => d.rd (Reg.HND_POSTURE s) % 256 :: bytesLE 4 (d.rd (Reg.HND_POSTURE_VALUE s))) ++
    (List.range 16).flatMap (fun n => d.rd (Reg.PUP_CODE n) % 256 :: bytesLE 4 (d.rd (Reg.PUP_VALUE n)))

/-- The view of a rank becomes that of an image. -/
def Dev.setView (d : Dev) (r : Nat) (img : List Nat) : Dev :=
  d.each (List.range 128) fun d s => d.wr (Reg.CN_VIEW r s) (ofBytesLE ((img.drop (4 * s)).take 4))

/-- The image held of a rank. -/
def Canopy.imageOf (c : Canopy) (r : Nat) : List Nat := tabGet (fun _ => []) c.images r

/-- At a boundary that changed the own image VIEW_SEQ counts up (R360). -/
def Dev.cnOwnImage (d : Dev) : Dev :=
  let img := d.ownImage
  if !d.cnOn || d.canopy.image = img then d
  else
    (d.modCn fun c => { c with
      image := img, viewSeq := (c.viewSeq + 1) % 256, images := tabSet (fun _ => []) c.images d.cnRank img }).setView d.cnRank img

/-! Beacons (R347, R349, R353). -/

/-- The freshest beacon held of a rank. -/
def Canopy.beacon (c : Canopy) (r : Nat) : Option Beacon := (c.fresh.find? fun p => p.1 = r).map (·.2)

/-- a comes after b, modulo 2 to the n (R265, R354). -/
def later (n a b : Nat) : Bool :=
  let x := (a + 2 ^ n - b % 2 ^ n) % 2 ^ n
  0 < x && x < 2 ^ (n - 1)

/-- A beacon becomes the freshest of its rank. -/
def Canopy.hold (c : Canopy) (b : Beacon) : Canopy :=
  { c with fresh := tabPut (tabDrop c.fresh b.rank) b.rank b, lost := setBit c.lost b.rank (decide (later 32 c.cyc (b.cycle + 1))) }

/-- The leader's beacon, while it is not lost. -/
def Canopy.lead (c : Canopy) : Option Beacon :=
  match c.leader with
  | none => none
  | some l => if bitOf c.lost l then none else c.beacon l

/-- The module leads. -/
def Dev.cnLeads (d : Dev) : Bool := d.canopy.leader = some d.cnRank

/-- DEV_SAFE_CAUSE, the causes 0 to 5 of all handles (R55). -/
def Dev.safeCause (d : Dev) : Nat := (d.liveSlots.foldl (fun a k => a ||| d.rd (Reg.HND_SAFE_CAUSE k)) 0) % 64

/-- The beacon the module writes in the frame of a cycle (R349). -/
def Dev.ownBeacon (d : Dev) (cycle : Nat) : Beacon :=
  let c := d.canopy
  let leads := d.cnLeads
  { rank := d.cnRank, leader := leads, state := d.mode, verMinor := 0, verMajor := 1, ownSafe := decide ((d.safeCause &&& 0x3B) ≠ 0),
    timeLost := c.timeLost, adopt := c.adopt, viewStale := c.stale, cstate := d.rd Reg.CN_STATE, node := d.rd Reg.RG_NODE_ADDR,
    cycle := cycle, serial := serialNo, offset := clampInt (-32768) 32767 (d.rdI 32 Reg.RT_OFFSET),
    admitted := if leads then c.admitted else 0, grant := if leads then c.grant else 0, grantKind := if leads then c.grantKind else 0,
    viewSeq := c.viewSeq, term := c.term, digestTag := d.digestTag }

/-! Leadership (R354, R355). -/

/-- The first rank of a mask after r in ascending order, wrapping from 7 to 0. -/
def nextRank (mask r : Nat) : Option Nat := ((List.range 8).map fun i => (r + 1 + i) % 8).find? fun x => bitOf mask x

/-- The successor of a lost leader, as the module finds it. -/
def Canopy.successor (c : Canopy) : Option Nat :=
  match c.leader with
  | none => none
  | some l => if bitOf c.lost l then nextRank (c.admitted &&& (0xFF ^^^ (c.lost &&& 0xFF))) l else none

/-- The module succeeds a lost leader (R355): the admission state, digest tags and views stay. -/
def Dev.cnSucceed (d : Dev) : Dev :=
  if d.canopy.successor = some d.cnRank && !d.cnLeads then
    let d := d.modCn fun c => { c with
      leader := some d.cnRank, term := (c.term + 1) % 256, admitted := c.admitted &&& (0xFF ^^^ (c.lost &&& 0xFF)), grant := 8,
      grantKind := 0, granted := 0 }
    d.log1 0x0706 0xFFF7 (d.cnRank + d.canopy.term * 256)
  else d

/-- The leader among the beacons held: the higher TERM modulo 256, at equal TERM the lower rank (R354). -/
def Canopy.chief (c : Canopy) (own : Option (Nat × Nat)) : Option (Nat × Nat) :=
  let l := c.fresh.filterMap fun p => if p.2.leader && !bitOf c.lost p.1 && own.map (·.1) ≠ some p.1 then some (p.1, p.2.term) else none
  l.foldl (fun best p =>
    match best with
    | none => some p
    | some q => if later 8 p.2 q.2 || (p.2 = q.2 && p.1 < q.1) then some p else best) own

/-- Accepting the leader that the beacons name (R354). -/
def Dev.cnAccept (d : Dev) : Dev :=
  let c := d.canopy
  let own := if d.cnLeads then some (d.cnRank, c.term) else none
  match c.chief own with
  | none => d
  | some (r, t) =>
    if r = d.cnRank then d
    else
      let mask := match c.beacon r with
        | some b => b.admitted
        | none => 0
      d.modCn fun c => { c with leader := some r, term := t, admitted := mask }

/-! Admission (R352). -/

/-- The event of a verdict, once as it changes. -/
def Dev.cnVerdict (d : Dev) (r v code det : Nat) : Dev :=
  if rankVal d.canopy.verdicts r = v then d
  else
    let d := d.modCn fun c => { c with verdicts := rankSet c.verdicts r v }
    d.when (code ≠ 0) fun d => d.log1 code (0xFFE0 + r) det

/-- A rank leaves the admitted ones. -/
def Canopy.expel (c : Canopy) (r : Nat) : Canopy := { c with admitted := setBit c.admitted r false, matched := rankSet c.matched r 0 }

/-- The module's own tag for the CYCLE of a beacon (R351). -/
def Canopy.tagFor (c : Canopy) (cycle : Nat) : Nat := if cycle = c.cyc then c.tagNow else c.tagOld

/-- A module at a rank that another admitted member holds is not admitted, and the holder keeps it (R352, checks 1 and 2). -/
def Dev.cnRefuse (d : Dev) (b : Beacon) : Dev :=
  if b.verMajor ≠ 1 then d.cnVerdict b.rank 4 0x0704 (b.verMinor + b.verMajor * 16)
  else d.cnVerdict b.rank 5 0x0705 (b.serial % 2 ^ 32)

/-- Judging a fresh beacon of another rank, checks 1, 3, 4 and 5 of R352. -/
def Dev.cnJudge (d : Dev) (b : Beacon) : Dev :=
  let r := b.rank
  let hit := b.digestTag = d.canopy.tagFor b.cycle
  let n := if hit then min 2 (rankVal d.canopy.matched r + 1) else 0
  if b.verMajor ≠ 1 then (d.modCn (·.expel r)).cnVerdict r 4 0x0704 (b.verMinor + b.verMajor * 16)
  else
    let d := d.modCn fun c => { c with matched := rankSet c.matched r n }
    if b.adopt && (!bitOf d.canopy.granted r || !hit) then (d.modCn fun c => { c with admitted := setBit c.admitted r false }).cnVerdict r 6 0 0
    else if !hit then (d.modCn (·.expel r)).cnVerdict r 3 0x0703 (b.digestTag % 2 ^ 32)
    else if n = 2 && !bitOf d.canopy.admitted r then
      (d.modCn fun c => { c with admitted := setBit c.admitted r true, serials := rankSet c.serials r b.serial }).cnVerdict r 2 0x0701
        (b.serial % 2 ^ 32)
    else d

/-- The module judges the others: it leads, or no leader is chosen yet (R352, R354). -/
def Dev.cnJudges (d : Dev) : Bool := d.cnLeads || d.canopy.leader.isNone

/-- Taking one beacon of the region (R347, R352 check 2, R353). Who is admitted, who leads first and who is granted an image are the
negotiation that waits while the housekeeping core is in reset (R26; DEDUCED, log entry 72). -/
def Dev.cnTakeBeacon (d : Dev) (b : Beacon) : Dev :=
  let r := b.rank
  let c := d.canopy
  if 8 ≤ r then d
  else if r = d.cnRank then
    let clash := b.serial ≠ serialNo && b.serial ≠ 0
    let d := d.modCn fun c => { c with clash := clash }
    d.when d.cnLeads fun d => if clash then d.cnRefuse b else d.cnVerdict r 0 0 0
  else if (match c.beacon r with | some o => !later 32 b.cycle o.cycle | none => false) then d
  else if bitOf c.admitted r && rankVal c.serials r ≠ 0 && rankVal c.serials r ≠ b.serial then
    d.when d.cnJudges fun d => d.cnRefuse b
  else
    let d := d.modCn fun c => c.hold b
    d.when (d.coreUp && d.cnJudges && d.cnMember r) fun d => d.cnJudge b

/-- The first leader is chosen (R354): once every expected rank passes, or 16 cycles after the enable. -/
def Dev.cnForm (d : Dev) : Dev :=
  let c := d.canopy
  let me := d.cnRank
  let pass := setBit (c.admitted &&& d.rd Reg.CN_MEMBERS) me (d.cnMember me)
  let all := decide (pass = d.rd Reg.CN_MEMBERS)
  if !d.coreUp || c.leader.isSome || (!all && c.since < 16) || !d.cnMember me then d
  else
    let serial := fun r => if r = me then serialNo else rankVal c.serials r
    let pref := d.rd Reg.CN_LEADER_PREF
    let low := (List.range 8).foldl (fun best r => if bitOf pass r && serial r < serial best then r else best) me
    let chosen := if pref < 8 ∧ bitOf pass pref then pref else low
    if chosen ≠ me then d
    else
      let top := c.fresh.foldl (fun t p => if later 8 p.2.term t then p.2.term else t) c.term
      let d := d.modCn fun c => { c with leader := some me, term := (top + 1) % 256, admitted := pass }
      d.log1 0x0700 0xFFF7 (pass + me * 256)

/-- The module's own result of R352, from the leader's beacon. -/
def Dev.cnSelf (d : Dev) : Nat :=
  let c := d.canopy
  let me := d.cnRank
  let was := d.rd Reg.CN_SELF
  if !d.cnOn then 0
  else if !d.cnMember me then 5
  else if d.cnLeads then 2
  else match c.lead with
    | none => if c.leader.isNone then (if 16 ≤ c.since then 2 else 1) else was
    | some l =>
      if l.verMajor ≠ 1 then 4
      else if c.clash && was ≠ 2 && bitOf l.admitted me then 5
      else if bitOf l.admitted me then 2
      else if c.adopt then 6
      else if l.digestTag ≠ c.tagFor l.cycle then 3
      else 1

/-! Canopy state (R358, R359). -/

/-- The pair of state and causes after a raise (R358): codes 4 SAFE, 3 HOLD, 2 DEGRADED, 1 OPERATE rise with restriction. -/
def raiseTo (p : Nat × Nat) (st bit : Nat) : Nat × Nat := (max p.1 st, p.2 ||| 2 ^ bit)

/-- What one expected rank adds to the canopy state. -/
def Dev.cnRankState (d : Dev) (p : Nat × Nat) (r : Nat) : Nat × Nat :=
  let c := d.canopy
  if !d.cnMember r then p
  else if bitOf c.lost r || !bitOf c.admitted r then
    if bitOf (d.rd Reg.CN_REQUIRED) r then raiseTo p 4 1 else raiseTo p 2 4
  else match c.beacon r with
    | none => p
    | some b =>
      let p := if b.ownSafe then raiseTo p 4 0 else if b.state = HOLD then raiseTo p 3 6
        else if b.state ≠ OPERATE ∧ b.state ≠ SAFE then raiseTo p 2 5 else p
      if b.timeLost then raiseTo p 2 3 else p

/-- The canopy state and its causes (R358). -/
def Dev.cnState (d : Dev) : Nat × Nat :=
  let self := d.cnSelf
  if 3 ≤ self ∧ self ≤ 5 then (4, 4)
  else if d.canopy.leader.isNone || self = 1 || self = 6 || self = 0 then (0, 0)
  else (List.range 8).foldl d.cnRankState (1, 0)

/-- SAFE acts on the module (R359). -/
def Dev.cnTriggers (d : Dev) (st cause : Nat) : Bool := st = 4 && !(d.rd Reg.CN_POLICY = 1 && cause = 1)

/-- Publishing what the beacons say, and the safe trigger of R359. -/
def Dev.cnPublish (d : Dev) : Dev :=
  let self := d.cnSelf
  let (st, cause) := d.cnState
  let was := d.rd Reg.CN_STATE
  let acted := d.cnTriggers was (d.rd Reg.CN_CAUSE)
  let c := d.canopy
  let adm := if c.leader.isNone then (if self = 2 then 2 ^ d.cnRank else 0) else c.admitted
  let lost := (c.fresh.filter fun p => p.2.timeLost && bitOf adm p.1).foldl (fun m p => m ||| 2 ^ p.1) 0
  let minor := (c.fresh.filter fun p => bitOf adm p.1).foldl (fun m p => min m p.2.verMinor) 0
  let d := (((d.wr Reg.CN_SELF self).wr Reg.CN_ADMITTED adm).wr Reg.CN_LEADER (c.leader.getD 0xFF)).wr Reg.CN_TERM c.term
  let d := ((d.wr Reg.CN_TIME_LOST lost).wr Reg.CN_MINOR minor).wr Reg.CN_CAUSE cause
  let d := d.wr Reg.CN_STATE st
  let d := d.when (was ≠ st) fun d => d.log1 0x0709 0xFFF7 (st + cause * 256)
  d.when (d.cnTriggers st cause && !acted) fun d => d.moduleSafe 2

/-! The transfer record (R360, R361). -/

/-- Bytes of an image without the digest objects, and of the digest part of an adoption (R360, R362). -/
def imageLen : Nat := 1232
def digestLen : Nat := 256

/-- The grant that the leader's beacon gives this module: kind, 0 for none. -/
def Dev.cnGranted (d : Dev) : Nat :=
  if d.cnLeads then (if d.canopy.grant = d.cnRank then d.canopy.grantKind else 0)
  else match d.canopy.lead with
    | some l => if l.grant = d.cnRank then l.grantKind else 0
    | none => 0

/-- The record the holder of the grant writes in this frame, and the device after it (R361): the image from POS 0 onward, twice. -/
def Dev.cnSend (d : Dev) : Dev × Option Transfer :=
  let kind := d.cnGranted
  if kind = 0 then (d.modCn fun c => { c with sendEnds := 2, sendImg := [] }, none)
  else
    let me := d.cnRank
    let target := if kind = 2 then d.canopy.grantTo else me
    let d := d.when (d.canopy.sendImg = []) fun d => d.modCn fun c =>
      let img := if kind = 2 then d.digestBytes ++ List.replicate (digestLen - d.digestBytes.length) 0 ++ c.imageOf target else d.ownImage
      { c with sendImg := img, sendPos := 0, sendEnds := 0, sendSeq := if kind = 2 then rankVal c.vseqs target else c.viewSeq }
    let c := d.canopy
    if 2 ≤ c.sendEnds then (d, none)
    else
      let total := c.sendImg.length
      let part := (c.sendImg.drop c.sendPos).take 24
      let t : Transfer := {
        sender := me, kind := kind, target := target, pos := c.sendPos, total := total, vseq := c.sendSeq,
        payload := part ++ List.replicate (24 - part.length) 0 }
      let last := decide (total ≤ c.sendPos + 24)
      (d.modCn fun c => { c with
        sendPos := if last then 0 else c.sendPos + 24, sendEnds := if last then c.sendEnds + 1 else c.sendEnds,
        vseqs := if last && c.sendEnds = 1 && kind = 1 then rankSet c.vseqs me c.sendSeq else c.vseqs }, some t)

/-- All records of an image are there. -/
def Rx.complete (x : Rx) : Bool := (List.range ((x.total + 23) / 24)).all fun i => (x.cells.find? fun p => p.1 = 24 * i).isSome

/-- The bytes of a complete image. -/
def Rx.image (x : Rx) : List Nat := ((List.range ((x.total + 23) / 24)).flatMap fun i => tabGet (fun _ => []) x.cells (24 * i)).take x.total

/-- A complete image is stored (R361): a view becomes that rank's, an adoption image waits for its boundary. -/
def Dev.cnStore (d : Dev) (x : Rx) : Dev :=
  let r := x.key % 8
  let kind := x.key / 8
  let img := x.image
  let old := d.canopy.imageOf r
  let img1 := if kind = 2 then img.drop digestLen else img
  let d := (d.modCn fun c => { c with images := tabSet (fun _ => []) c.images r img1, vseqs := rankSet c.vseqs r x.vseq }).setView r
    img1
  d.when (old ≠ img1) fun d => d.log1 0x070A (0xFFE0 + r) x.vseq

/-- One transfer record is stored (R361). -/
def Dev.cnTakeRecord (d : Dev) (t : Transfer) : Dev :=
  let key := 8 * t.kind + t.target
  let own : Bool := t.sender = d.cnRank
  if own || t.kind = 0 || 3 ≤ t.kind || 8 ≤ t.target then d
  else
    let x := match d.canopy.rx.find? fun x => x.key = key with
      | some x => if x.vseq = t.vseq && x.total = t.total && x.ends < 2 then x else { key := key, vseq := t.vseq, total := t.total }
      | none => { key := key, vseq := t.vseq, total := t.total }
    let last := decide (t.total ≤ t.pos + 24)
    let had := x.complete && x.cells ≠ []
    let x := { x with cells := tabPut (tabDrop x.cells t.pos) t.pos t.payload, ends := if last then x.ends + 1 else x.ends }
    let d := d.modCn fun c =>
      let l := x :: c.rx.filter fun y => y.key ≠ key
      { c with rx := l, stale := l.any fun y => y.ends = 2 && !y.complete }
    let d := d.when (x.complete && !had) fun d => d.cnStore x
    d.when (t.kind = 2 && t.target = d.cnRank && d.canopy.adopt && x.complete && x.ends = 2) fun d => d.modCn fun c => { c with ready := true }

/-- The leader counts the passes of the grant it gave (R361). -/
def Dev.cnCountPass (d : Dev) (t : Option Transfer) : Dev :=
  match t with
  | none => d
  | some t => d.when (d.cnLeads && t.sender = d.canopy.grant && t.total ≤ t.pos + 24) fun d => d.modCn fun c => { c with grantEnds := c.grantEnds + 1 }

/-- A rank that asks to adopt may be granted its image (R362): expected, not admitted, a new SERIAL, an image held. -/
def Dev.cnMayAdopt (d : Dev) (r : Nat) : Bool :=
  let c := d.canopy
  match c.beacon r with
  | none => false
  | some b =>
    b.adopt && d.cnMember r && !bitOf c.lost r && !bitOf c.admitted r && b.verMajor = 1 && rankVal c.serials r ≠ b.serial &&
      c.imageOf r ≠ [] && !bitOf c.granted r

/-- A rank needs a VIEW grant (R361). -/
def Dev.cnNeedsView (d : Dev) (r : Nat) : Bool :=
  let c := d.canopy
  bitOf c.admitted r &&
    if r = d.cnRank then decide (rankVal c.vseqs r ≠ c.viewSeq) || c.stale
    else match c.beacon r with
      | some b => !bitOf c.lost r && (decide (rankVal c.vseqs r ≠ b.viewSeq) || b.viewStale)
      | none => false

/-- The leader ends and gives grants (R361, R362). -/
def Dev.cnGrant (d : Dev) : Dev :=
  if !d.cnLeads || !d.coreUp then d
  else
    let c := d.canopy
    let ends := c.grant < 8 && (2 ≤ c.grantEnds || (c.grant ≠ d.cnRank && bitOf c.lost c.grant) ||
      (c.grantKind = 2 && bitOf c.lost c.grantTo))
    let d := if ends then d.modCn fun c => { c with
        grant := 8, grantKind := 0, grantEnds := 0, granted := if c.grantKind = 2 then setBit c.granted c.grantTo (decide (2 ≤ c.grantEnds)) else c.granted }
      else d
    if ends || d.canopy.grant < 8 then d
    else match (List.range 8).find? fun r => d.cnMayAdopt r with
      | some r => d.modCn fun c => { c with grant := d.cnRank, grantKind := 2, grantTo := r, grantEnds := 0, sendImg := [] }
      | none => match (List.range 8).find? fun r => d.cnNeedsView r with
        | some r => d.modCn fun c => { c with grant := r, grantKind := 1, grantTo := r, grantEnds := 0 }
        | none => d

/-! A frame (R347). -/

/-- The member writes its beacon and, with the grant, the transfer record, in a frame that it serves in full. -/
def Dev.cnWrite (d : Dev) (cycle : Nat) : Dev :=
  if !d.cnOn || !d.cnMember d.cnRank then { d with ring := { d.ring with beaconOut := none, transferOut := none } }
  else
    let d := (d.modCn fun c => { c with cyc := cycle }).cnSucceed
    let b := d.ownBeacon cycle
    let (d, t) := d.cnSend
    let d := (d.modCn fun c => c.hold b).cnCountPass t
    { d with ring := { d.ring with beaconOut := some b, transferOut := t } }

/-- A frame with a good FCS passed (R357): the leader's offset is taken from it, whatever its service. -/
def Dev.cnPassed (d : Dev) (f : Frame) : Dev :=
  if !d.cnOn then d
  else
    let d := d.modCn fun c => { c with passed := true, cyc := f.cycleIndex }
    match d.canopy.leader with
    | none => d
    | some l =>
      match f.beacons.find? fun b => b.rank = l && b.leader with
      | some b => d.modCn fun c => { c with leadOff := some (b.cycle, b.offset) }
      | none => d

/-- The end of an adoption (R362): the member is admitted. -/
def Dev.cnAdopted (d : Dev) : Dev :=
  if d.canopy.adopt && d.cnSelf = 2 && !d.cnLeads && d.canopy.leader.isSome then
    (d.modCn fun c => { c with adopt := false }).log1 0x070B (0xFFE0 + d.cnRank) d.canopy.made
  else d

/-- At the frame's end, under R291, the member takes every beacon and the transfer record. -/
def Dev.cnFrameEnd (d : Dev) (f : Frame) : Dev :=
  if !d.cnOn then d
  else
    let d := (d.each f.beacons fun d b => d.cnTakeBeacon b).cnAccept
    let tr := if d.ring.transferOut.isSome then none else f.transfer
    let d := match tr with
      | none => d
      | some t => (d.cnTakeRecord t).cnCountPass (some t)
    (((d.cnForm.cnGrant).cnAdopted).cnPublish)

/-! The end of a cycle (R353, R357, R358). -/

/-- A rank is lost at the end of cycle c (R353). -/
def Dev.cnLose (d : Dev) (r : Nat) : Dev :=
  match d.canopy.beacon r with
  | none => d
  | some b =>
    if bitOf d.canopy.lost r || !later 32 d.canopy.cyc (b.cycle + 1) then d
    else
      let d := d.modCn fun c => { c with lost := setBit c.lost r true }
      let d := d.when d.cnJudges fun d => d.modCn fun c => { c.expel r with verdicts := rankSet c.verdicts r 0 }
      d.when (r ≠ d.cnRank) fun d => d.log1 0x0702 (0xFFE0 + r) b.cycle

/-- Δ of a cycle (R357), none where it is not formed. -/
def Dev.cnDelta (d : Dev) : Option Int :=
  let c := d.canopy
  if !c.passed then none
  else if d.cnLeads then some 0
  else match c.leadOff with
    | none => none
    | some (cy, o) => if cy = c.cyc || (cy + 1) % 2 ^ 32 = c.cyc then some (d.rdI 32 Reg.RT_OFFSET - o) else none

/-- The runs of R357. -/
def Dev.cnTime (d : Dev) : Dev :=
  match d.cnDelta with
  | none => d
  | some x =>
    let far := decide (1000 < x.natAbs)
    let d := (d.wrI 32 Reg.CN_DELTA (clampInt (-(2 ^ 31)) (2 ^ 31 - 1) x)).modCn fun c => { c with
      above := if far then min 16 (c.above + 1) else 0, below := if far then 0 else min 16 (c.below + 1) }
    let det := ofInt 32 (clampInt (-(2 ^ 31)) (2 ^ 31 - 1) x)
    if !d.canopy.timeLost && d.canopy.above = 16 then (d.modCn fun c => { c with timeLost := true }).log1 0x0707 (0xFFE0 + d.cnRank) det
    else if d.canopy.timeLost && d.canopy.below = 16 then (d.modCn fun c => { c with timeLost := false }).log1 0x0708 (0xFFE0 + d.cnRank) det
    else d

/-- What the end of a cycle judges. -/
def Dev.cnCycleEnd (d : Dev) : Dev :=
  if !d.cnOn then d
  else
    let d := d.modCn fun c => { c with
      cyc := if c.passed then c.cyc else (c.cyc + 1) % 2 ^ 32, since := min 17 (c.since + 1), tagOld := c.tagNow }
    let d := (d.each (List.range 8) fun d r => d.cnLose r).cnTime
    (d.modCn fun c => { c with passed := false }).cnForm.cnPublish

/-- After the staged work of a boundary: the tag of the cycle that starts, and the own image. -/
def Dev.cnBoundary (d : Dev) : Dev := if !d.cnOn then d else (d.modCn fun c => { c with tagNow := d.digestTag }).cnOwnImage

/-- Enabling, disabling or a change of the rank starts the canopy's state afresh (R352, R353). -/
def Dev.cnRestart (d : Dev) : Dev :=
  let c := d.canopy
  let d := { d with canopy := { viewSeq := c.viewSeq, images := c.images, adopt := c.adopt, tagNow := d.digestTag, tagOld := d.digestTag } }
  let d := (((d.wr Reg.CN_STATE 0).wr Reg.CN_CAUSE 0).wr Reg.CN_ADMITTED 0).wr Reg.CN_LEADER 0xFF
  let d := ((d.wr Reg.CN_TERM 0).wr Reg.CN_TIME_LOST 0).wr Reg.CN_MINOR 0
  (d.wrI 32 Reg.CN_DELTA 0).wr Reg.CN_SELF d.cnSelf

end Sys2Proof.Machine
end

