-- ==== Sys2Proof/Machine/Crown.lean ====
section
/-!
DEFINITION. What a crown reset loses and keeps (R23, R59, R207, R254, R264, R413). The branches run on.
-/
namespace Sys2Proof.Machine

/-- The staged creates of a transaction free their slots; the generations increment (R43), also of a slot whose destroy was staged before
the create and whose handle lives on. -/
def Dev.unreserve (d : Dev) (num : Nat) : Dev :=
  d.each ((List.range 128).filter fun k => (d.slot k).held = some num) fun d k =>
    d.modSlot k fun x => { x with gen := nextGen k x.gen, held := none }

/-- An output object that APPLY applies (R134, R186, R274). -/
def outputSub (kind sub : Nat) : Bool :=
  (isSwitch kind && 0x10 ≤ sub && sub ≤ 0x12) || (kind = 2 && sub = 0x20) || (kind = 1 && sub = 0x24)

/-- An object keeps its value through a crown reset (R254): it is no volatile one. -/
def Dev.survives (d : Dev) (key : Nat) : Bool :=
  match objInfo (fun k => d.kind k) (key / 256) (key % 256) with
  | some r => r.persist ≠ .vol
  | none => true

/-- The objects after a crown reset: volatile ones at their defaults, outputs as last committed (R207). -/
def Dev.keptObjects (d : Dev) : Tab Nat :=
  let m := d.obj.filter fun p =>
    d.survives p.1 && !(isHandleIx (p.1 / 256) && outputSub (d.kind (slotOf (p.1 / 256))) (p.1 % 256))
  d.heart.kept.foldl (fun m p => tabSet dfltOf m p.1 p.2) m

/-- The objects with the trims that a button sequence in progress found (R141), where their handles still exist. -/
def Dev.trimsBack (d : Dev) (m : Tab Nat) : Tab Nat :=
  (d.buttons.undo.filter fun p => d.hst (slotOf (p.1 / 256)) ≠ 0).foldl (fun m p => tabSet dfltOf m p.1 p.2) m

/-- The crown stops (R413): 1 VIN, 2 brown-out, 3 RSTN, 4 clock, 5 command, 6 wake from KEEP. Requests, open transactions, snapshots
and queue contents are gone, the volatile counts and what the words had shown of the branches (R254) with them; a vote and a calibration
cycle end. Each branch keeps what it holds and finds the link lost by itself. -/
def Dev.crownDown (d : Dev) (cause : Nat) : Dev :=
  if !d.crownUp then { d with cause := cause, asleep := false }
  else
    let hk := d.rd Reg.GR_HK_STATE
    let d := d.when (d.graft.calSlot.isSome) fun d => d.graftLeave
    let d := d.each [0, 1, 2, 3] fun d b => (d.calAbandon b).when (d.rd (Reg.BR_T_STATE b) = 2) (·.tRest b)
    let lost := d.txns.filter fun x => x.st = 1 || (x.st = 2 && !x.done)
    let d := d.each lost fun d x => d.unreserve x.num
    let slots := d.slots.map fun p => (p.1, ({ gen := p.2.gen, prior := p.2.prior, left := p.2.left, held := p.2.held } : Slot))
    let queues := d.queues.map fun p => (p.1, if d.rd (Reg.QU_ENABLE p.1) = 1 then { p.2 with opn := none } else { resets := p.2.resets })
    let g := d.graft
    let active := if hk = 6 then d.otherBank else g.active
    { d with
      obj := d.trimsBack d.keptObjects, crownUp := false, coreUp := false, cause := cause, rungWas := d.rd Reg.PL_RUNG, resp := {},
      slots := slots,
      insts := d.insts.map fun p => (p.1, ({ crc := p.2.crc } : Inst)), queues := queues, dmas := [], wdoLow := false, asleep := false,
      chans := d.chans.map fun p => (p.1, { p.2 with tRise := 0, tFall := 0 }),
      branches := d.branches.map fun p => (p.1, { p.2 with
        toCrown := [], toBranch := [], crownLost := none, crownHeld := false, vf := 0, vfMin := 0, die := 0, seenStatus := 0,
        seenPower := 0, seenRef := 0, hbUp := none, joinT := none }),
      eccLast := [], eccCnt := [], psErrs := [], scrubAt := none,
      staged := [], txns := d.txns.filter fun x => x.st = 2 && x.done, discarded := d.discarded ++ lost.map fun x => (x.num, x.id), deferred := [],
      reqs := [], ops := 0, staging := [], seq := { bound := d.seq.bound }, ring := {}, port := {}, wd0 := {}, wd1 := {},
      canopy := { images := d.canopy.images }, buttons := {}, fails := [], syncClk := none, lockEnd := none,
      graft := { g with
        active := active, unconf := false, rollback := hk = 5 || hk = 6, calSlot := none, calWant := 0, calOn := false, ucBranch := none } }

end Sys2Proof.Machine
end

