-- ==== Sys2Proof/Machine/Entries.lean ====
section
/-!
DEFINITION. Writes to objects: the object's own conditions (check 14 of R258) and what a write does as it takes effect. Both are functions
of the device, so that a check can be made with earlier writes laid over the state in force (R270).
-/
namespace Sys2Proof.Machine

/-- The object an entry writes, as index * 256 + sub-index. -/
def Entry.key (x : Entry) : Nat := x.ix * 256 + x.sub

/-- The bank of an index 0x5810 + 3 i + k. -/
def bankOf (ix : Nat) : Nat × Nat := ((ix - 0x5810) / 3, (ix - 0x5810) % 3)

/-! Process-image maps (R274). -/

/-- The fields of a map entry: object, length, EDGE. -/
def mapObj (v : Nat) : Nat × Nat := (v % 65536, v / 65536 % 256)
def mapLen (v : Nat) : Nat := v / 2 ^ 24 % 16
def mapEdge (v : Nat) : Bool := bitOf v 28

/-- The entries of a map in order, up to the first with INDEX 0. -/
def Dev.mapEntries (d : Dev) (out : Bool) : List (Nat × Nat) :=
  (((List.range 64).map fun i => (i, d.rd (if out then Reg.PI_OUT_MAP i else Reg.PI_IN_MAP i))).takeWhile fun p => p.2 % 65536 ≠ 0)

/-- The length of a part of the process image. -/
def Dev.mapBytes (d : Dev) (out : Bool) : Nat := ((d.mapEntries out).map fun p => mapLen p.2).sum

/-- A command that an EDGE entry may name (R274). -/
def Dev.edgeObject (d : Dev) (ix sub : Nat) : Bool :=
  let kind := d.kind (slotOf ix)
  (isHandleIx ix && (sub = 4 || (kind = 4 && sub = 0x18) || (kind = 2 && sub = 0x26) || (isSwitch kind && sub = 0x28))) ||
    (ix = 0x0200 && sub = 2) || (ix = 0x0211 && sub = 7)

/-- Judging a mapping write (R274). -/
def Dev.mapCheck (d : Dev) (out : Bool) (key v hnd : Nat) : Nat :=
  let (ix, sub) := mapObj v
  let d1 := d.wr key v
  if ix = 0 then OK
  else if isHandleIx ix && (!d.isLive hnd || slotOf ix ≠ hnd % 128) then STALE_HANDLE
  else match d.info ix sub with
    | none => RANGE
    | some r =>
      let size := r.ty.size.getD 0
      let bad := if !out then decide (r.acc = .wo) || d.isDeferred ix sub false || 8 < size || size = 0 || mapLen v ≠ size
        else if mapEdge v then !d.edgeObject ix sub || mapLen v ≠ 1
        else !(isHandleIx ix && outputSub (d.kind (slotOf ix)) sub) || mapLen v ≠ size
      if bad || 128 < d1.mapBytes out then RANGE else OK

/-! Check 14 (R258, R270, R271). -/

/-- A safe posture allowed for a handle (R56). -/
def Dev.postureFits (d : Dev) (k code : Nat) : Bool :=
  let kind := d.kind k
  if isSwitch kind then code ≤ 2
  else if kind = 2 then 2 ≤ code && code ≤ 5
  else if kind = 1 && bitOf (d.rd (Reg.HND_BIND k)) 10 then code ≤ 2
  else code = 2

/-- The conditions of handle objects. -/
def Dev.handleObjCheck (d : Dev) (k sub v : Nat) : Nat :=
  let kind := d.kind k
  let ok := fun (b : Bool) => if b then OK else RANGE
  if sub = 4 then d.handleCheck k v
  else if sub = 7 then ok (d.postureFits k v)
  else if measuring kind && sub = 0x12 then ok (v = 0 || (d.isLive v && d.kind (v % 128) = 4))
  else if measuring kind && sub = 0x14 then ok (!d.bipolar k || bitOf v 1)
  else if measuring kind && sub = 0x15 then ok (v = 0 || kind = 3)
  else if measuring kind && sub = 0x1A then ok (v = 0 || kind ≠ 2)
  else if measuring kind && sub = 0x1E then (if d.urgentOk k then OK else BUSY)
  else if kind = 1 && sub = 0x24 then ok (bitOf (d.rd (Reg.HND_BIND k)) 10)
  else if kind = 4 && sub = 0x13 then ok (v = 0 || bitsOf (d.rd (Reg.HND_BIND k)) 14 2 = 2)
  else if isSwitch kind && [0x18, 0x19, 0x1A, 0x1B, 0x1D, 0x1E].contains sub then ok (bitOf (d.rd (Reg.HND_BIND k)) 13)
  else OK

/-- The conditions of filter units (R112, R116, R117). -/
def Dev.unitCheck (d : Dev) (i sub v : Nat) : Nat :=
  let st := d.rd (Reg.FI_STATE i)
  if 4 ≤ sub ∧ sub ≤ 6 then
    let d1 := d.wr ((0x5000 + 0x40 * i) * 256 + sub) v
    if (d.inst i).armed && !d.fits i (d1.cfg i (d.active i)).load then BUSY else OK
  else if sub = 0x0B then
    let act := d.cfg i (d.active i)
    let c := d.cfg i v
    if st = 0 then BUSY
    else if d.rd (Reg.FI_CLASS i) = 1 then
      if st = 2 then NEEDS_STOP
      else if d.bank i v ≠ 1 && v ≠ d.active i then RANGE
      else if (d.inst i).armed && !d.fits i c.load then BUSY else OK
    else if d.bank i v = 0 || c.m2 * c.m3 ≠ act.m2 * act.m3 then RANGE
    else if st ≠ 2 then (if (d.inst i).armed && !d.fits i c.load then BUSY else OK)
    else if v = d.active i || d.rd (Reg.FI_FADE_TARGET i) ≠ 0xFF || d.settlingUnit i then OK
    else if d.fits i ((d.inst i).load + c.load) then OK else BUSY
  else OK

/-- The conditions of queues (R213, R221, R225, R231). -/
def Dev.queueCheck (d : Dev) (q sub v len : Nat) : Nat :=
  match sub with
  | 0x02 => if v = 1 then d.quEnableCheck q else d.quDisableCheck q
  | 0x07 => if v ≤ d.rd (Reg.QU_WM_LOW q) then RANGE else OK
  | 0x08 => if d.rd (Reg.QU_WM_HIGH q) ≤ v then RANGE else OK
  | 0x0E => if d.captured q then BUSY else (d.queueCmd q v).2
  | 0x0F => if d.captured q then BUSY else (d.releaseTo q (BitVec.ofNat 32 v)).2
  | 0x11 => if d.hostQueue q then (d.hostWrite q (bytesLE len v)).2 else BUSY
  | 0x12 => if d.hostQueue q then OK else BUSY
  | _ => OK

/-- The conditions of the canopy objects (R362, R364). -/
def Dev.canopyCheck (d : Dev) (sub v : Nat) : Nat :=
  if sub = 5 then (if v &&& (0xFF ^^^ d.rd Reg.CN_MEMBERS) = 0 then OK else RANGE)
  else if sub = 0x0A then (if d.mode = PREOP && d.liveSlots = [] then OK else BUSY)
  else OK

/-- What a refused write still does: a QU_WRITE whose bytes cannot all be stored aborts its packet (R221), and a consumer command still
compares the pointer copies that it met (R228). -/
def Dev.refusedWrite (d : Dev) (x : Entry) : Dev :=
  let q := (x.ix - 0x4000) / 0x10
  if 0x4000 ≤ x.ix ∧ x.ix < 0x4400 ∧ x.sub = 0x11 ∧ d.hostQueue q then (d.hostWrite q (bytesLE x.len x.val)).1
  else if 0x4000 ≤ x.ix ∧ x.ix < 0x4400 ∧ (x.sub = 0x0E ∨ x.sub = 0x0F) then logged (d.guardQueue q)
  else d

/-- A create as its own transaction sees it: the slot it reserved is free for it (R43). -/
def Dev.ownReserve (d : Dev) (x : Entry) : Dev := if x.aux = 0 then d else d.modSlot (x.aux % 128) fun s => { s with held := none }

/-- The conditions of an entry's object, in the state given. -/
def Dev.entryCheck (d : Dev) (w : Worn) (x : Entry) : Nat :=
  let ix := x.ix
  let v := x.val
  if isHandleIx ix then
    if !d.isLive x.hnd || slotOf ix ≠ x.hnd % 128 then STALE_HANDLE else d.handleObjCheck (slotOf ix) x.sub v
  else if 0x5000 ≤ ix && ix < 0x5800 then d.unitCheck ((ix - 0x5000) / 0x40) x.sub v
  else if 0x5810 ≤ ix && ix < 0x5870 then
    let (i, k) := bankOf ix
    if 2 ≤ d.bank i k then BANK_BUSY else if x.sub = 8 && !d.bankPasses i k then RANGE else OK
  else if 0x4000 ≤ ix && ix < 0x4400 then d.queueCheck ((ix - 0x4000) / 0x10) x.sub v x.len
  else if 0x4410 ≤ ix && ix < 0x4420 then (if x.sub = 8 then d.dmCheck (ix - 0x4410) v else OK)
  else if 0x6400 ≤ ix && ix < 0x6800 then (if d.rd Reg.SQ_SWAP_STATE = 1 then BUSY else OK)
  else match ix with
    | 0x1000 => if x.sub = 1 then createStatus ((d.ownReserve x).createCheck v) else d.destroyCheck v
    | 0x1010 =>
      if d.pupCheck (x.sub - 1) v ≠ OK then d.pupCheck (x.sub - 1) v else if d.linked ((x.sub - 1) / 4) then OK else BUSY
    | 0x1011 => if d.rd (Reg.PUP_CODE (x.sub - 1)) = 7 then RANGE else if d.linked ((x.sub - 1) / 4) then OK else BUSY
    | 0x0200 => d.moduleCheck v
    | 0x0401 => d.wd1Check x.sub v
    | 0x0420 => if x.sub = 0x0D && (d.releasable v).length ≠ ((List.range 4).filter fun b => bitOf v b).length then BUSY else OK
    | 0x0210 => if x.sub ≠ 1 then OK else if x.aux = 1 || d.swapCheck v ≠ OK then d.swapCheck v else (d.swapPend v).2
    | 0x0211 => if x.sub = 1 && d.mode ≠ PREOP && d.mode ≠ SERVICE then BUSY else OK
    | 0x5801 =>
      if x.sub ≠ 2 then OK
      else if toInt 32 v < -0x800000 ∨ 0x7FFFFF < toInt 32 v then RANGE
      else if d.coefBusy (d.rd Reg.CR_ADDR) then BANK_BUSY else OK
    | 0x9020 => if x.sub = 2 && !(d.isLive v && d.isDriver (v % 128) && (d.kind (v % 128) = 1 || d.kind (v % 128) = 2)) then RANGE else OK
    | 0x0800 => if d.mode = OPERATE || d.mode = SAFE || d.mode = HOLD then BUSY else OK
    | 0x8020 => if d.rd Reg.RT_STATE = 2 then BUSY else OK
    | 0x8200 => if 17 ≤ bitsOf v 16 5 then RANGE else OK
    | 0xA000 =>
      if x.sub = 2 then d.hkCheck v else if x.sub = 4 then d.hkCheck 6
      else if x.sub = 7 && v < d.rd Reg.GR_HK_MIN_VERSION then RANGE else OK
    | 0xA010 => if x.sub = 3 then d.calCheck w v else OK
    | 0xA020 => if x.sub = 1 then d.ucCheck v else OK
    | 0x7000 => d.canopyCheck x.sub v
    | 0xF000 => d.mapCheck true x.key v x.hnd
    | 0xF100 => d.mapCheck false x.key v x.hnd
    | _ => OK

/-! What a write does (R95, R134, R141, R186, and the chapter of each object). -/

/-- The staged value of a driver leaves for its branch as a STAGE word (R16). -/
def Dev.sendStage (d : Dev) (k : Nat) : Dev :=
  let n := d.chanOf k
  d.when (d.hears (n / 4)) fun d => d.toBranch (n / 4) (.stage n (d.committedOut k))

/-- An output object as written: the value, and the STAGE word. -/
def Dev.writeOutput (d : Dev) (k key v : Nat) : Dev := (d.wr key v).sendStage k

/-- The load of a unit that is reserved follows its configuration (R112). -/
def Dev.reload (d : Dev) (i : Nat) : Dev :=
  d.when (d.inst i).armed fun d => d.setLoad i (d.cfg i (d.active i)).load (d.inst i).fadeLoad

/-- The settings of a driver's grid changed (R95): its unit and its observers' units follow. -/
def Dev.gridChange (d : Dev) (k : Nat) : Dev :=
  let d := d.each ((k :: d.observers k).map fun j => d.unitOf j) fun d i => if i < 32 then (d.refreshUnit i).reload i else d
  (d.mainsStart k).settlingChange k d.now

/-- The branch of a handle takes settings now: link UP, handle armed. -/
def Dev.settles (d : Dev) (k : Nat) : Bool := d.hears (d.chanOf k / 4) && ARMED ≤ d.hst k

/-- A write to an object of a live handle takes effect. -/
def Dev.handleWrite (d : Dev) (w : Worn) (x : Entry) : Dev :=
  let k := slotOf x.ix
  let n := d.chanOf k
  let kind := d.kind k
  let v := x.val
  let old := d.rd x.key
  if x.sub = 4 then d.handleDo w k v
  else if x.sub = 7 ∨ x.sub = 8 then (d.wr x.key v).sendPostureSet k
  else if measuring kind && x.sub = 0x1E then d.urgentRequest k x.id x.seq
  else if measuring kind && (x.sub = 0x10 || x.sub = 0x11 || x.sub = 0x15) then
    let d := d.wr x.key v
    if old = v then d else d.gridChange k
  else if measuring kind && x.sub = 0x12 then
    let d := d.wr x.key v
    if old = v then d
    else if d.rd (Reg.CV_WINDOW k) = 2 ∨ d.rd (Reg.CV_WINDOW k) = 3 then d.gridChange k else d.mainsStart k
  else if outputSub kind x.sub then
    let d := d.writeOutput k x.key v
    { d with heart := { d.heart with kept := tabPut (tabDrop d.heart.kept x.key) x.key v } }
  else if (kind = 1 || kind = 2) && (x.sub = 0x28 || x.sub = 0x29) then
    let d := d.applyTrim k (x.sub = 0x29) (toInt 32 v) x.aux d.now
    d.when (d.settles k) fun d => d.branchSettings k
  else if kind = 2 && x.sub = 0x25 then
    let d := d.wr x.key v
    if v = 0 && old = 1 && (d.chan n).subst then d.modChan n fun c => { c with ackDue := true } else d
  else if kind = 2 && x.sub = 0x26 then d.modChan n fun c => { c with ackDue := true }
  else if kind = 2 && (x.sub = 0x23 || x.sub = 0x24) then
    let d := d.wr x.key v
    d.when (d.hears (n / 4) && (d.chan n).safeOn && (d.chan n).post + 0x1F = x.sub) fun d => d.applyPosture w n
  else if kind = 4 && x.sub = 0x12 then
    let d := d.wr x.key v
    d.when (d.settles k) fun d => d.lvInvert k v
  else if kind = 4 && x.sub = 0x13 then
    let d := d.wr x.key v
    d.when (d.settles k) fun d => d.lvDetect k v
  else if kind = 4 && x.sub = 0x11 then
    let d := d.wr x.key v
    d.when (d.settles k) fun d => d.modChan n fun c => { c with debounce := v }
  else if kind = 4 && x.sub = 0x18 then d.modChan n fun c => { c with rises := 0, falls := 0 }
  else if isSwitch kind && x.sub = 0x28 then d.when (d.mayClear n) fun d => d.modChan n fun c => { c with flags := setBit c.flags 3 false }
  else if isSwitch kind then
    let d := d.wr x.key v
    d.when (d.settles k) fun d => d.swCommit k
  else d.wr x.key v

/-- A write to a filter unit takes effect. -/
def Dev.unitWrite (d : Dev) (i sub key v : Nat) : Dev :=
  if sub = 0x0B then d.bankReqAct i v
  else
    let d := d.wr key v
    if 4 ≤ sub ∧ sub ≤ 6 then (d.refreshUnit i).reload i else d

/-- The words of a bank that passed its check go to the coefficient store in NOR flash, a transfer of its own (R28, R240). -/
def Dev.coefKept (d : Dev) (i k : Nat) : Dev :=
  let b := d.rd (Reg.BK_BASE i k)
  let words := (List.range (d.rd (Reg.BK_N2 i k) + d.rd (Reg.BK_N3 i k))).map (b + ·)
  { d.passOp with coefNor := words.foldl (fun m a => tabSet (fun _ => 0) m a (ofInt 24 (d.coefInt a))) d.coefNor }

/-- A bank passes its check (R110): READY. -/
def Dev.bankLoaded (d : Dev) (i k : Nat) : Dev := (d.bankChecked i k 1).coefKept i k

/-- A write to a bank takes effect (R109, R110). -/
def Dev.bankWrite (d : Dev) (ix sub key v : Nat) : Dev :=
  let (i, k) := bankOf ix
  if sub = 8 then d.bankLoaded i k else (d.wr key v).setBank i k 0

/-- A write to a queue takes effect. -/
def Dev.queueWrite (d : Dev) (q sub key v len : Nat) : Dev :=
  match sub with
  | 0x02 => if v = 1 then d.quEnable q else d.quDisable q
  | 0x0E => (d.queueCmd q v).1
  | 0x0F => (d.releaseTo q (BitVec.ofNat 32 v)).1
  | 0x11 => (d.hostWrite q (bytesLE len v)).1
  | 0x12 => d.hostEnd q v
  | _ => d.wr key v

/-- A handle is created (R43): its slot starts without a committed output of an earlier handle. -/
def Dev.createNow (d : Dev) (k r : Nat) : Dev :=
  { d with heart := { d.heart with kept := d.heart.kept.filter fun p => p.1 / 256 ≠ 0x2000 + 0x40 * k } }.createAt k r

/-- The slot a create takes: the reserved one, else the lowest free one (R36, R43). -/
def Dev.createSlot (d : Dev) (x : Entry) : Option Nat := if x.aux = 0 then d.freeSlot else some (x.aux % 128)

/-- A write to the sequencer, the ring, the canopy, heartwood or the grafts takes effect. -/
def Dev.systemWrite (d : Dev) (w : Worn) (x : Entry) : Dev :=
  let v := x.val
  match x.ix, x.sub with
  | 0x1000, 1 => match d.createSlot x with
    | some k => (d.ownReserve x).createNow k v
    | none => d
  | 0x1000, _ => d.destroyAt w (v % 128)
  | 0x1010, s => d.pupWrite (s - 1) v
  | 0x0200, _ => d.moduleDo v
  | 0x0300, 9 => d.crownDown 5
  | 0x0401, 1 => d.wd1Set v
  | 0x0401, 8 => d.wdCheckIn true v
  | 0x0401, 9 => d.keyWrite v
  | 0x0420, 0x0D => d.brReleaseAct v
  | 0x0210, 1 => if x.aux = 1 then d.swapInTxn v [] else (d.swapPend v).1
  | 0x0211, 7 => d.detAck
  | 0x5801, 2 => d.coefWrite v
  | 0x9020, 1 => { d.wr x.key v with buttons := { d.buttons with last := d.now } }
  | 0x9020, 2 => (d.when (d.rd Reg.TB_HANDLE ≠ v) (·.captureAbandon)).wr x.key v
  | 0x0230, 3 => (d.wr x.key v).wr Reg.PV_DEFAULT_CODE (nat01 (v = 0x1624))
  | 0x0800, 1 =>
    let old := d.rd x.key
    let d := d.wr x.key v
    d.when (old ≠ v) fun d => d.log1 0x060B 0xFFFC (old + v * 256)
  | 0x8000, 0x0B => d.lifeFlush
  | 0x8020, 1 => if x.aux = 1 then d.calWrite v else { d.wr Reg.CAL_STATE 1 with staged := d.staged ++ [{ x with aux := 1 }] }
  | 0xA000, 2 => d.hkDo v
  | 0xA000, 4 => d.hkProgram (bytesLE x.len v)
  | 0xA010, 3 => d.calDo v
  | 0xA020, 1 => d.ucStart v
  | 0x7000, 0x0A => d.modCn fun c => { c with adopt := true }
  | 0x7000, s =>
    let old := d.rd x.key
    let d := d.wr x.key v
    d.when ((s = 1 || s = 3) && old ≠ v) (·.cnRestart)
  | 0xF000, _ =>
    let d := { d.wr x.key v with mapHnd := tabSet (fun _ => 0) d.mapHnd x.key x.hnd, ring := { d.ring with seen := [] } }
    d.wr Reg.PI_OUT_LEN (d.mapBytes true)
  | 0xF100, _ =>
    let d := { d.wr x.key v with mapHnd := tabSet (fun _ => 0) d.mapHnd x.key x.hnd }
    d.wr Reg.PI_IN_LEN (d.mapBytes false)
  | _, _ =>
    if 0x9010 ≤ x.ix && x.ix < 0x9014 && x.sub = 1 then d.refSelect (x.ix - 0x9010) v d.now
    else if 0x0310 ≤ x.ix && x.ix < 0x0314 then
      let d := d.wr x.key v
      d.when (d.linked (x.ix - 0x0310)) fun d => d.supplySettings (x.ix - 0x0310)
    else if 0x4410 ≤ x.ix && x.ix < 0x4420 && x.sub = 8 then d.dmDo (x.ix - 0x4410) v
    else d.wr x.key v

/-- A consumer command of a queue (R231). -/
def Entry.consumer (x : Entry) : Bool := 0x4000 ≤ x.ix && x.ix < 0x4400 && (x.sub = 0x0E || x.sub = 0x0F)

/-- The queue was reset after a staged consumer command was accepted (R245): aux holds its count of resets then, plus 1. -/
def Dev.outlived (d : Dev) (x : Entry) : Bool :=
  x.consumer && x.aux ≠ 0 && x.aux ≠ (d.queue ((x.ix - 0x4000) / 0x10)).resets + 1

/-- An entry takes effect; a write with reserved bits leaves them 0 (R7). -/
def Dev.applyEntry (d : Dev) (w : Worn) (x : Entry) : Dev :=
  let ix := x.ix
  if isHandleIx ix then d.handleWrite w x
  else if 0x5000 ≤ ix && ix < 0x5800 then d.unitWrite ((ix - 0x5000) / 0x40) x.sub x.key x.val
  else if 0x5810 ≤ ix && ix < 0x5870 then d.bankWrite ix x.sub x.key x.val
  else if 0x4000 ≤ ix && ix < 0x4400 then
    (if d.outlived x then d else d.queueWrite ((ix - 0x4000) / 0x10) x.sub x.key x.val x.len)
  else d.systemWrite w x

end Sys2Proof.Machine
end

