-- ==== Sys2Proof/Machine/Objects.lean ====
section
/-!
DEFINITION. What a read of an object answers: the objects held in Dev.obj as they stand, and those that the module forms as they are read.
-/
namespace Sys2Proof.Machine

/-- A sub-index that an observer reads from its driver (R39, R97, R152 to R156, R186). -/
def fromDriver (kind sub : Nat) : Bool :=
  if measuring kind then
    (0x10 ≤ sub && sub ≤ 0x13) || (0x15 ≤ sub && sub ≤ 0x18) || (0x1A ≤ sub && sub ≤ 0x1D) ||
      (kind = 1 && (sub = 0x22 || sub = 0x23 || sub = 0x24 || 0x28 ≤ sub)) || (kind = 2 && 0x20 ≤ sub)
  else 0x10 ≤ sub

/-- The objects of a level input that its channel holds (R156). -/
def levelValue (c : Chan) (sub : Nat) : Option Nat :=
  match sub with
  | 0x10 => some c.lvState
  | 0x14 => some c.rises
  | 0x15 => some c.falls
  | 0x16 => some c.tRise
  | 0x17 => some c.tFall
  | 0x19 => some c.na
  | _ => none

/-- The objects of a switch that its channels hold (R160, R186, R187). -/
def Dev.switchValue (d : Dev) (w : Worn) (n sub : Nat) : Option Nat :=
  let c := d.chan n
  let ch := d.pairChans n
  match sub with
  | 0x13 => some c.state
  | 0x14 => some (d.swFlags w n)
  | 0x1C => some c.left
  | 0x1F => some c.dAct
  | 0x22 => some (ofInt 32 ((ch.map fun m => ((d.chan m).iOut : Int)).sum))
  | 0x23 => some (ofInt 16 (d.swTemp n))
  | 0x24 => some c.share
  | 0x25 => some (min (2 ^ 32 - 1) (ch.map fun m => (d.chan m).clampLast).sum)
  | 0x29 => some c.cause
  | _ => none

/-- The value of an object of slot k. -/
def Dev.handleValue (d : Dev) (w : Worn) (k sub : Nat) : Nat :=
  let kind := d.kind k
  let n := d.chanOf k
  let j := if fromDriver kind sub then d.master k else k
  let own := d.rd ((0x2000 + 0x40 * j) * 256 + sub)
  if d.hst k = 0 then own
  else if kind = 4 then (levelValue (d.chan n) sub).getD own
  else if isSwitch kind then (d.switchValue w n sub).getD own
  else if usesPair kind && sub = 0x19 then roleOf w n
  else if kind = 2 && sub = 0x27 then (if (d.chan n).subst then d.rd (Reg.LP_ALARM_LOW j) else (d.chan n).target)
  else own

/-- 0220:04 for a reader: its latest transaction (R279). -/
def Dev.txStatus (d : Dev) (id : Nat) : Nat :=
  match (d.txns.filter fun x => x.id = id).getLast? with
  | none => 0
  | some x => packLE [(4, x.num), (1, x.st), (1, x.entries.length), (2, (x.entries.map (·.len)).sum), (2, x.status), (1, x.pos)]

/-- A requester's record. -/
def Dev.requester (d : Dev) (id : Nat) : Option Requester := d.reqs.find? fun r => r.id = id

/-- The requester holds SERVICE privilege (R261, R262). -/
def Dev.serviceOf (d : Dev) (id : Nat) : Bool :=
  match d.requester id with
  | none => false
  | some r => r.service

/-- The version of the image in a bank, the part's own where the bank still holds the factory image (R278, R387). -/
def Dev.imageVersion (d : Dev) (i : Nat) : Nat :=
  let v := (d.graft.bank i).hdr.version
  if v = 0 then Config.identity 5 % 2 ^ 24 else v % 2 ^ 24

/-- The part's order code (R1, R278): PT1624-IL or PT1624-XL. -/
def orderCode : Nat := ofBytesLE ([0x50, 0x54, 0x31, 0x36, 0x32, 0x34, 0x2D] ++ (if Config.identity 2 % 2 = 0 then [0x49, 0x4C] else [0x58, 0x4C]))

/-- The identity objects (R278). -/
def Dev.identity (d : Dev) (sub : Nat) : Nat :=
  match sub with
  | 1 => d.rd Reg.ID_VENDOR
  | 2 => orderCode
  | 3 => serialNo
  | 5 => d.imageVersion d.graft.active + d.graft.active * 2 ^ 24
  | 6 => packLE ((List.range 4).map fun b => (4, if (d.branch b).ucode = 0 then Config.identity 6 % 2 ^ 24 else (d.branch b).ucode % 2 ^ 24))
  | s => Config.identity s

/-- 0320:06, the failing conditions of R407. A branch is OFF to the crown as its words last showed it (R13): one that is not linked holds
(DEDUCED, log entry 65). -/
def Dev.ladderBlock (d : Dev) : Nat :=
  let target := d.rd Reg.PL_TARGET
  let hk := d.rd Reg.GR_HK_STATE
  let uc := d.rd Reg.GR_UC_STATE
  let m := d.mode
  nat01 (target = 0) + nat01 (d.now < d.ring.tFrame + d.rd Reg.PL_QUIET_MS * 1000000) * 2 +
    nat01 (!(m = PREOP || m = SAFE || m = SERVICE)) * 4 + nat01 (d.rd Reg.WD1_STATE ≠ 0) * 8 + nat01 (d.opsInUse ≠ 0) * 16 +
    nat01 (d.txns.any fun x => x.st = 1 || x.st = 2) * 32 +
    nat01 (!((hk = 0 || hk = 3 || hk = 7) && (uc = 0 || 4 ≤ uc) && d.rd Reg.GR_CAL_STATE = 0)) * 64 + nat01 d.warn * 128 +
    nat01 (d.staging ≠ []) * 256 +
    nat01 (3 ≤ target && (List.range 16).any fun c => d.rd (Reg.DM_STATE c) = 1 || d.rd (Reg.DM_STATE c) = 3) * 512 +
    nat01 ((List.range 4).any fun b => d.link b ≠ 1 && (d.branch b).seenPower ≠ 0) * 1024

/-- The objects that are formed as they are read, index by index; none for those held in Dev.obj. -/
def Dev.formed (d : Dev) (w : Worn) (ix sub id : Nat) : Option Nat :=
  match ix, sub with
  | 0x0100, s => some (d.identity s)
  | 0x0200, 3 => some d.safeCause
  | 0x0220, 4 => some (d.txStatus id)
  | 0x0220, 5 => some (d.txns.filter fun x => x.st = 1).length
  | 0x0230, 5 => some (nat01 (d.serviceOf id))
  | 0x0230, 7 => some (match d.lockEnd with | some t => (t - d.now + 999999999) / 1000000000 | none => 0)
  | 0x0240, 5 => some d.reqs.length
  | 0x0240, 6 => some d.deferred.length
  | 0x02F0, 1 => some d.opsInUse
  | 0x0300, 4 => some (setBit (d.rd Reg.PWR_FLAGS) 0 d.warn)
  | 0x0320, 6 => some d.ladderBlock
  | 0x0400, 2 => some (wd0Param 0)
  | 0x0400, 3 => some (wd0Param 1)
  | 0x0400, 4 => some (wd0Param 2)
  | 0x0400, 5 => some (wd0Param 3)
  | 0x0401, 0x0A => some (if d.wdRuns true then d.wdTick true else 0)
  | 0x0401, 0x0B => some d.wd1.seen
  | 0x0401, 0x0C => some d.wd1.rep
  | 0x0401, 0x0D => some d.wd1.lastC
  | 0x0401, 0x0E => some d.wd1.lastT
  | 0x0401, 0x11 => some d.wd1.viols
  | 0x0401, 0x12 => some d.wd1.inc
  | 0x0410, 1 => some d.faultCause
  | 0x0410, 3 => some d.faultLand
  | 0x0810, 1 => some d.now
  | 0x0830, 3 => some (if d.rd Reg.PDW_STATE = 1 then min (2 ^ 32 - 1) (d.ring.pdwEnd - d.now) else 0)
  | 0x1000, 5 => some d.slotsFree
  | 0x1000, 6 => some (32 - d.unitsUsed.length)
  | 0x4400, 2 => some d.noticeSummary
  | 0x7000, 0x19 => some (ofBytesLE d.cnDigest)
  | 0x8000, 0x0D => some (nat01 d.warn)
  | 0x8110, 1 => some (d.moduleLine w d.heart.mod 0 d.flushSeq false)
  | 0x8200, 4 => some d.selectedRecord
  | 0x8010, 2 => some d.evOldest
  | 0x8010, 5 => some d.staging.length
  | 0x8020, 1 => some d.now
  | 0xA000, 5 => some (packLE [(1, d.graft.active), (4, d.imageVersion 0), (4, d.imageVersion 1),
      (1, nat01 d.graft.bank0.valid + nat01 d.graft.bank1.valid * 2 + nat01 d.graft.unconf * 4)])
  | 0xF200, 3 => some (d.ring.seen.foldl (fun a p => setBit a p.1 p.2) 0)
  | _, _ => none

/-- The value of an object for the requester id, as the number in its little-endian bytes. A step of the shadow table shows its reserved
PARAM bits as written (DESIGN CHOICE, log entry 71). -/
def Dev.value (d : Dev) (w : Worn) (ix sub id : Nat) : Nat :=
  let held := d.rd (ix * 256 + sub)
  if isHandleIx ix then d.handleValue w (slotOf ix) sub
  else if 0x4000 ≤ ix && ix < 0x4400 then
    let x := d.queue ((ix - 0x4000) / 0x10)
    match sub with
    | 0x0A => x.pointers
    | 0x09 => d.pMax ((ix - 0x4000) / 0x10)
    | 0x0B => x.level
    | 0x10 => x.notice
    | _ => held
  else if 0x9010 ≤ ix && ix < 0x9014 then
    let b := ix - 0x9010
    let x := d.branch b
    match sub with
    | 2 => x.seenRef
    | 7 => bitsOf w.conv.toNat (8 * b) 8
    | _ => held
  else if 0x0310 ≤ ix && ix < 0x0314 then
    let x := d.branch (ix - 0x0310)
    match sub with
    | 3 => x.vf
    | 4 => x.seenStatus
    | 5 => x.seenPower
    | 6 => x.vfMin
    | 8 => x.offCnt
    | _ => held
  else if 0x8100 ≤ ix && ix < 0x8110 then d.channelLine w (d.chan (ix - 0x8100)).life (ix - 0x8100) 0 d.flushSeq false
  else (d.formed w ix sub id).getD held

/-- A read with the side effect its object states, as (device, status, value): queue and ring reads, coefficients, the event log, and
the quantities measured as they are read (R107, R146, R160, R225, R228, R237, R382; log entry 15). -/
def Dev.readNow (d : Dev) (e : Env) (ix sub id : Nat) : Dev × Nat × Nat :=
  let pure := fun (d : Dev) => (d, OK, d.value e.worn ix sub id)
  if isHandleIx ix && isSwitch (d.kind (slotOf ix)) && (sub = 0x22 || sub = 0x24) then pure (d.senseSwitch e.worn (slotOf ix))
  else if isHandleIx ix && d.kind (slotOf ix) = 4 && sub = 0x19 && d.linked (d.chanOf (slotOf ix) / 4) then pure (d.senseLevel (slotOf ix))
  else if 0x4000 ≤ ix && ix < 0x4400 && (sub = 0x0A || sub = 0x0B) then pure (logged (d.guardQueue ((ix - 0x4000) / 0x10)))
  else if 0x4000 ≤ ix && ix < 0x4400 && (sub = 0x0C || sub = 0x0D) then
    let q := (ix - 0x4000) / 0x10
    if d.captured q then (d, BUSY, 0)
    else if sub = 0x0C then
      let r := (d.fillForRead e.ps q).queueRead q
      (r.1, OK, packLE [(8, r.2.1), (1, r.2.2)])
    else
      let r := (d.fillForRead e.ps q).queueRead3 q 3
      (r.1, OK, packLE (r.2.flatMap fun p => [(8, p.1), (1, p.2)]))
  else if 0x4410 ≤ ix && ix < 0x4420 && sub = 0x0E then
    let r := d.ringRead e.ps (ix - 0x4410)
    (r.1, OK, r.2)
  else if ix = 0x5801 && sub = 2 then
    let a := d.rd Reg.CR_ADDR
    (d.wr Reg.CR_ADDR ((a + 1) % 65536), OK, ofInt 32 (d.coefInt a))
  else if ix = 0x8010 && sub = 4 then
    match d.evFind (d.rd Reg.EV_READ_NUM) with
    | none => (d, RANGE, 0)
    | some r => (d.wr Reg.EV_READ_NUM ((d.rd Reg.EV_READ_NUM + 1) % 2 ^ 32), OK, ofBytesLE r.bytes)
  else if ix = 0x0300 && sub = 1 then (d.took, OK, d.freeNat 16)
  else pure d

end Sys2Proof.Machine
end

