-- ==== Sys2Proof/Machine/Engine.lean ====
section
/-!
DEFINITION. The dictionary engine (R256 to R273): the checks of a request, the requester table, segments, transactions and deferred requests.
-/
namespace Sys2Proof.Machine

/-- The OP codes of R256. -/
abbrev OP_READ : Nat := 1
abbrev OP_WRITE : Nat := 2
abbrev OP_ECHO : Nat := 3

/-! Requesters (R264 to R267). -/

/-- A request that carries an id restarts the idle times of its requester and of its open transaction (R262, R272). -/
def Dev.touch (d : Dev) (id : Nat) : Dev :=
  { d.modReq id (fun r => { r with last := d.now }) with
    txns := d.txns.map fun x => if x.id = id && x.st = 1 then { x with last := d.now } else x }

/-- Holding a response (R265): the last 32 in order of arrival, and the newest SEQ. -/
def Dev.hold (d : Dev) (q : Request) : Dev :=
  d.modReq q.id fun r =>
    let held := r.held ++ [(q.seq, d.resp)]
    { r with
      held := held.drop (held.length - 32),
      newest := match r.newest with
        | none => some q.seq
        | some n => some (if (q.seq + 65536 - n) % 65536 ≤ 32767 then q.seq else n) }

/-- Evicting a requester (R267). -/
def Dev.evict (d : Dev) (id : Nat) : Dev :=
  ({ d with reqs := d.reqs.filter fun r => r.id ≠ id }).bump 32 Reg.DR_EVICTIONS

/-- The requester idle longest without a deferred request in progress (R267). -/
def Dev.evictable (d : Dev) : Option Nat :=
  ((d.reqs.filter fun r => d.deferred.all fun f => f.q.id ≠ r.id).foldl
    (fun best r => match best with
      | none => some r
      | some b => some (if r.last < b.last then r else b)) none).map (·.id)

/-- Checks 1 and 2 of R258. -/
def malformed (q : Request) : Option Answer :=
  if 3 < q.op ∨ 15 < q.segment then some { status := RANGE, detail := 1 }
  else if 16 < q.len then some { status := LENGTH }
  else if q.op = OP_WRITE ∧ (q.id = 0 ∨ (0 < q.total ∧ q.total < 17) ∨ 256 < q.total ∨ (q.total = 0 ∧ q.segment ≠ 0)) then
    some { status := RANGE, detail := 1 }
  else none

/-! Access (checks 5 to 13 of R258). -/

/-- The open transaction of a requester (R269). -/
def Dev.openTxn (d : Dev) (id : Nat) : Option Txn := d.txns.find? fun x => x.id = id && x.st = 1

/-- The access code and the privilege of the object demand an open transaction (R205, R252, R262). -/
def Dev.needsTxn (d : Dev) (r : Info) (ix sub : Nat) : Bool :=
  r.acc = .rwt || (ix = 0x0230 && sub = 3) || (d.atom && r.acc ≠ .ro && !actsAtOnce ix sub)

/-- Checks 5 to 13 of a write, by service privilege and open transaction. -/
def Dev.writeAccess (d : Dev) (service opened : Bool) (ix sub hnd len v : Nat) : Nat :=
  if !indexExists ix then NO_OBJECT
  else match d.info ix sub with
    | none => NO_SUB
    | some r =>
      let m := d.masked ix sub v
      if Dev.needsService r ix sub v && !service then PRIVILEGE
      else if r.acc = .ro || d.observerRefuses ix sub then READ_ONLY
      else if isHandleIx ix && (!d.isLive hnd || slotOf ix ≠ hnd % 128) then STALE_HANDLE
      else if r.ty.check len v ≠ OK then r.ty.check len v
      else if d.needsTxn r ix sub && !opened then NEEDS_TXN
      else if r.acc = .rws && !d.ownerStopped ix then NEEDS_STOP
      else if !r.rng.holds (r.ty.value m) then RANGE
      else OK

/-- Checks 5 to 9 of a read. -/
def Dev.readAccess (d : Dev) (ix sub hnd : Nat) : Nat :=
  if !indexExists ix then NO_OBJECT
  else match d.info ix sub with
    | none => NO_SUB
    | some r =>
      if r.acc = .wo then WRITE_ONLY
      else if isHandleIx ix && !(d.isLive hnd && slotOf ix = hnd % 128) && !(sub ≤ 3 && hnd = 0) then STALE_HANDLE
      else OK

/-! Laying over (R270, R271). -/

/-- A write that resets the crown. -/
def Entry.resets (x : Entry) : Bool := x.ix = 0x0300 && x.sub = 9

/-- The effect of one entry laid over a state: a command only where it is valid. -/
def Dev.layEntry (w : Worn) (d : Dev) (x : Entry) : Dev :=
  if x.resets || (d.isCommand x.ix x.sub && d.entryCheck w x ≠ OK) then d else d.applyEntry w x

/-- Entries laid over a state in order. -/
def Dev.layOver (d : Dev) (w : Worn) (l : List Entry) : Dev := l.foldl (Dev.layEntry w) d

/-- The entries of the committed transactions not yet applied, in number order (R270). -/
def Dev.waiting (d : Dev) : List Entry := (d.txns.filter fun x => x.st = 2).flatMap (·.entries)

/-- The first entry that fails check 14, with its status, its position and the reason of a refused create; commands count when cmds. -/
def Dev.checkAll (w : Worn) (cmds : Bool) : Dev → List Entry → Nat → Option (Nat × Nat × Nat)
  | _, [], _ => none
  | d, x :: l, p =>
    let st := d.entryCheck w x
    if st ≠ OK ∧ (cmds ∨ !d.isCommand x.ix x.sub) then
      some (st, p, if x.key = Reg.HM_CREATE then (d.ownReserve x).createCheck x.val else 0)
    else Dev.checkAll w cmds (if st ≠ OK ∨ x.resets then d else d.applyEntry w x) l (p + 1)

/-- An entry changes a canopy-relevant object (R350, R351). -/
def Dev.changesCanopy (d : Dev) (x : Entry) : Bool := (digestObjects.any fun p => p.1 = x.key) && d.rd x.key ≠ x.val

/-- The canopy's conditions on a commit in the running cycle: status and position of the entry (R351). -/
def Dev.canopyRefuses (d : Dev) (es : List Entry) : Option (Nat × Nat) :=
  let j := d.rd Reg.SQ_CYCLE_INDEX
  match es.findIdx? (fun x => x.key = Reg.CN_APPLY_AT) with
  | some i =>
    let a := ((es.map (·.val)).getD i 0 + 2 ^ 32 - j) % 2 ^ 32
    if a < 2 ∨ 2 ^ 31 ≤ a then some (RANGE, i + 1) else none
  | none =>
    if d.rd Reg.CN_SELF ≠ 2 then none
    else (es.findIdx? fun x => d.changesCanopy x).map fun i => (BUSY, i + 1)

/-! Transactions (R269 to R273). -/

/-- The journal records the number as COMMITTED or APPLIED (R273). -/
def Dev.journalHas (d : Dev) (num : Nat) : Bool := d.journal.any fun p => p.1 = num && (p.2.2 = 2 || p.2.2 = 3)

/-- Ended transactions stay only as the latest of their requester (R279). -/
def Dev.pruneTxns (d : Dev) : Dev :=
  { d with txns := d.txns.filter fun x => x.st ≤ 2 || (d.txns.filter fun y => y.id = x.id).getLast? = some x }

/-- A transaction ends in a state, with a refusal's status and position; its reserved slots are free unless it was applied. -/
def Dev.endTxn (d : Dev) (num st status pos : Nat) : Dev :=
  ((d.modTxn num fun x => { x with st := st, status := status, pos := pos }).when (st ≠ 3) (·.unreserve num)).pruneTxns

/-- A transaction is refused, with event 0x0289 (R270, R271). -/
def Dev.refuseTxn (d : Dev) (x : Txn) (f : Nat × Nat × Nat) : Dev :=
  let id := match x.entries[f.2.1 - 1]? with | some e => e.id | none => x.id
  let d := d.when (f.2.2 ≠ 0) fun d => d.createRefused f.2.2 id
  let d := d.when (x.st = 2) fun d => d.journalPut x.num x.id 6
  (d.endTxn x.num 6 f.1 f.2.1).log1 0x0289 x.id x.num

/-- The next number is issued (R269). -/
def Dev.issueTxn (d : Dev) : Dev × Nat :=
  let n := d.rd Reg.TX_NEXT
  (d.wr Reg.TX_NEXT (if n = 2 ^ 32 - 1 then 1 else n + 1), n)

/-- TX_OPEN (R269). -/
def Dev.txOpenNow (d : Dev) (id : Nat) : Dev × Answer :=
  if (d.openTxn id).isSome then (d, { status := BUSY, detail := 4 })
  else if 8 ≤ (d.txns.filter fun x => x.st = 1).length then (d, { status := BUSY, detail := 3 })
  else
    let r := d.issueTxn
    (({ r.1 with txns := r.1.txns ++ [({ num := r.2, id := id, last := d.now } : Txn)] }).pruneTxns, { len := 4, data := r.2 })

/-- A COMMIT or ABORT of a number that is not open for the requester (R273). -/
def Dev.fromJournal (d : Dev) (num : Nat) : Answer :=
  if d.journalHas num then { detail := 1 } else { status := RANGE, detail := 4 }

/-- TX_ABORT (R272). -/
def Dev.txAbortNow (d : Dev) (id num : Nat) : Dev × Answer :=
  match d.openTxn id with
  | some x => if x.num = num then (d.endTxn num 4 0 0, {}) else (d, d.fromJournal num)
  | none => (d, d.fromJournal num)

/-- The journal entry of a transaction is complete (R270). -/
def Dev.txJournalled (d : Dev) (num id : Nat) : Dev := (d.modTxn num fun x => { x with st := 2, done := true }).journalPut num id 2

/-- TX_COMMIT as it completes, for a commit accepted in cycle cyc (R270). -/
def Dev.txCommitNow (d : Dev) (w : Worn) (id num cyc : Nat) : Dev × Answer :=
  match d.openTxn id with
  | none => (d, d.fromJournal num)
  | some x =>
    if x.num ≠ num then (d, d.fromJournal num)
    else
      let bad : Option (Nat × Nat × Nat) := match Dev.checkAll w true (d.layOver w d.waiting) x.entries 1 with
        | some f => some f
        | none => (d.canopyRefuses x.entries).map fun f => (f.1, f.2, 0)
      match bad with
      | some f => (d.refuseTxn x f, { status := f.1, detail := 0x100 + f.2.1 })
      | none =>
        let at? := (x.entries.find? fun e => e.key = Reg.CN_APPLY_AT).map (·.val)
        ((d.modTxn num fun y => { y with cyc := cyc, applyAt := at? }).txJournalled num id, {})

/-- The transaction has reserved the slot of a handle (R43, R269). -/
def Txn.reserves (x : Txn) (h : Nat) : Bool := x.entries.any fun e => e.key = Reg.HM_CREATE && e.aux = h && h ≠ 0

/-- Staging one write (R43, R269); rw for an RW or RWT object, whose earlier write it replaces. A table swap is checked when it is
written (R200). -/
def Dev.stageWrite (d : Dev) (w : Worn) (x : Txn) (e : Entry) (rw : Bool) : Dev × Answer :=
  let again := rw && x.entries.any fun y => y.key = e.key
  let put := fun (e : Entry) => if again then x.entries.map fun y => if y.key = e.key then e else y else x.entries ++ [e]
  let l := put e
  if 64 < l.length ∨ 2048 < (l.map (·.len)).sum then (d, { status := BUSY, detail := 3 })
  else if e.key = Reg.HM_CREATE then
    let b := d.layOver w x.entries
    let why := b.createCheck e.val
    match why, b.freeSlot with
    | 0, some k =>
      let h := handleOf k (b.slot k).gen
      let d := d.modSlot k fun s => { s with held := some x.num }
      (d.modTxn x.num fun y => { y with entries := put { e with aux := h } }, { detail := 2, len := 2, data := h })
    | 0, none => (d.createRefused 1 e.id, { status := BUSY })
    | _, _ => (d.createRefused why e.id, { status := createStatus why })
  else if e.key = Reg.SQ_SWAP then
    let b := d.layOver w x.entries
    if b.swapCheck e.val ≠ OK then (d, { status := b.swapCheck e.val })
    else match b.tableCheck with
      | some c => (d.wr Reg.SQ_CHECK c, { status := RANGE })
      | none => ((d.wr Reg.SQ_CHECK 0).modTxn x.num fun y => { y with entries := put { e with aux := 1 }, bind := b.bindings }, { detail := 2 })
  else
    let e := if e.key = Reg.CAL_TIME then { e with aux := 1 }
      else if e.consumer then { e with aux := (d.queue ((e.ix - 0x4000) / 0x10)).resets + 1 } else e
    (d.modTxn x.num fun y => { y with entries := put e }, { detail := 2 })

/-- A write to a kept object outside a transaction forms one of its own (R272), where its journal line finds an entry of the operations
table (R28, R29). -/
def Dev.implicitTxn (d : Dev) (w : Worn) (e : Entry) : Dev × Answer :=
  let st := (d.layOver w d.waiting).entryCheck w e
  if st ≠ OK then (d, { status := st })
  else if (d.canopyRefuses [e]).isSome then (d, { status := BUSY })
  else if !d.opsFree then (d, { status := BUSY, detail := 1 })
  else
    let (d, n) := d.issueTxn
    let x : Txn := { num := n, id := e.id, st := 2, entries := [e], last := d.now, cyc := e.cyc, done := d.mayWrite }
    ((({ d with txns := d.txns ++ [x] }).when x.done fun d => d.journalPut n e.id 2).pruneTxns, {})

/-- A staged bank request (R116, R117). -/
def Entry.bankCmd (x : Entry) : Bool := 0x5000 ≤ x.ix && x.ix < 0x5800 && x.sub = 0x0B

/-- A staged bank request of a supervision unit: R117 itself says what its change of condition does at the boundary. -/
def Dev.supervisionBank (d : Dev) (x : Entry) : Bool := x.bankCmd && d.rd (Reg.FI_CLASS ((x.ix - 0x5000) / 0x40)) = 0

/-- A command of the module. -/
def Entry.moduleCmd (x : Entry) : Bool := x.ix = 0x0200 && x.sub = 2

/-- Among the entries l of one boundary, an entry that acts after all others: a module command where SAFE reaches the boundary too (R54),
and a START where a bank request of the handle's unit does (R116). -/
def Dev.actsLast (d : Dev) (l : List Entry) (x : Entry) : Bool :=
  (x.moduleCmd && x.val ≠ 3 && l.any fun y => y.moduleCmd && y.val = 3) ||
    (isHandleIx x.ix && x.sub = 4 && x.val = 2 && l.any fun y => y.bankCmd && (y.ix - 0x5000) / 0x40 = d.unitOf (slotOf x.ix))

/-- One entry of a transaction whose checks passed takes effect; a command that its own check refuses is dropped alone (R271). -/
def Dev.txnEntry (d : Dev) (w : Worn) (bind : List (Nat × Nat)) (e : Entry) : Dev :=
  if d.supervisionBank e then
    (d.applyEntry w e).when (d.entryCheck w e ≠ OK && d.rd (Reg.FI_FADE_TARGET ((e.ix - 0x5000) / 0x40)) = 0xFF) fun d =>
      d.bump 32 Reg.HM_CMD_DROPPED
  else if d.isCommand e.ix e.sub && d.entryCheck w e ≠ OK then (d.refusedWrite e).bump 32 Reg.HM_CMD_DROPPED
  else if isHandleIx e.ix && e.sub = 0x1E then
    if d.opsFree then d.takeOp.urgentRequest (slotOf e.ix) 256 0 else d.bump 32 Reg.HM_CMD_DROPPED
  else if e.swapReq then d.swapInTxn e.val bind
  else d.applyEntry w e

/-- A committed transaction at its boundary (R271): checked again as a whole, then applied or refused; l holds every entry that reaches
the boundary. -/
def Dev.applyTxn (d : Dev) (w : Worn) (l : List Entry) (x : Txn) : Dev :=
  match Dev.checkAll w false d x.entries 1 with
  | some f => d.refuseTxn x f
  | none =>
    let d := d.each (x.entries.filter fun e => !d.actsLast l e) fun d e => d.txnEntry w x.bind e
    ((d.journalPut x.num x.id 3).endTxn x.num 3 0 0).wr Reg.GU_ATOM_LAST_TXN x.num

/-! Privilege (R262, R263). -/

/-- PV_UNLOCK. -/
def Dev.unlock (d : Dev) (id code : Nat) : Dev × Answer :=
  let right := code = d.rd Reg.PV_SERVICE_CODE
  let locked := match d.lockEnd with | some t => decide (d.now < t) | none => false
  let d := d.when (!right) (·.bump 32 Reg.PV_FAILS)
  if locked then (d, { status := PRIVILEGE, detail := 1 })
  else if right then (d.modReq id fun r => { r with service := true }, {})
  else
    let l := (if d.lockEnd.isSome then [] else d.fails.filter fun t => d.now < t + 60000000000) ++ [d.now]
    let d := { d with fails := l, lockEnd := none }
    (if l.length < 3 then d else { d with fails := [], lockEnd := some (d.now + 300000000000) }, { status := PRIVILEGE })

/-! Carrying out (checks 14 to 16). -/

/-- A deferred request is accepted (R28, R268): one entry of the operations table until its final response is held. -/
def Dev.accept (d : Dev) (f : Deferred) : Dev × Answer :=
  if !d.opsFree then (d, { status := BUSY, detail := 1 })
  else
    let d := { d with deferred := d.deferred ++ [f] }
    (d.wr Reg.OPS_PEAK (max (d.rd Reg.OPS_PEAK) d.opsInUse), { status := DEFERRED })

/-- An urgent request is accepted (R90, R202): issued now, or at the next boundary under DET. -/
def Dev.acceptUrgent (d : Dev) (q : Request) (x : Entry) : Dev × Answer :=
  if !d.urgentOk (slotOf x.ix) then (d, { status := BUSY })
  else
    let r := d.accept { q := q, e := x }
    if r.2.status ≠ DEFERRED then r
    else (if d.det then { r.1 with staged := r.1.staged ++ [x] } else r.1.urgentRequest (slotOf x.ix) x.id x.seq, r.2)

/-- A write that acts at once. -/
def Dev.direct (d : Dev) (w : Worn) (x : Entry) : Dev × Answer :=
  let st := d.entryCheck w x
  if st ≠ OK then (d.refusedWrite x, { status := st }) else (d.withDigests (·.applyEntry w x), {})

/-- A command whose target state is the present state (R50, R54): it is answered OK and does nothing. -/
def Dev.namesPresent (d : Dev) (x : Entry) : Bool :=
  if isHandleIx x.ix then
    let st := d.hst (slotOf x.ix)
    x.sub = 4 && ((x.val = 1 && st = ARMED) || (x.val = 2 && st = RUNNING) || (x.val = 3 && st = STOPPED) || (x.val = 4 && st = HSAFE))
  else
    let m := d.mode
    x.ix = 0x0200 && ((x.val = 1 && m = PREOP) || (x.val = 2 && m = OPERATE) || (x.val = 3 && m = SAFE) || (x.val = 5 && m = HOLD) ||
      (x.val = 6 && m = SERVICE))

/-- A staged command (R52): checked now and again at its boundary; one that names the present state leaves nothing (R50, R54). -/
def Dev.stageCommand (d : Dev) (w : Worn) (x : Entry) : Dev × Answer :=
  let st := d.entryCheck w x
  if st ≠ OK then (d, { status := st })
  else if d.namesPresent x then (d, {})
  else ({ d with staged := d.staged ++ [x] }, {})

/-- A write of a whole value of len bytes. -/
def Dev.writeValue (d : Dev) (w : Worn) (q : Request) (len v : Nat) : Dev × Answer :=
  let ix := q.ix
  let sub := q.sub
  let own := d.openTxn q.id
  let base := match own with
    | some x => if isHandleIx ix && x.reserves q.hnd then d.layOver w x.entries else d
    | none => d
  let st := base.writeAccess (d.serviceOf q.id) own.isSome ix sub q.hnd len v
  if st ≠ OK then (d, { status := st })
  else
    let acc := (base.info ix sub).map (·.acc)
    let kept := (base.info ix sub).map (·.persist) = some .kept
    let x : Entry := {
      id := q.id, seq := q.seq, ix := ix, sub := sub, hnd := q.hnd, val := base.masked ix sub v, len := len, cyc := d.rd Reg.SQ_CYCLE_INDEX }
    if ix = 0x0220 ∧ sub = 1 then d.txOpenNow q.id
    else if ix = 0x0220 ∧ sub = 2 then
      if (d.openTxn q.id).map (·.num) = some v then d.accept { q := q, e := x } else (d, d.fromJournal v)
    else if ix = 0x0220 ∧ sub = 3 then d.txAbortNow q.id v
    else if ix = 0x0230 ∧ sub = 1 then d.unlock q.id v
    else if ix = 0x0230 ∧ sub = 2 then (d.modReq q.id fun r => { r with service := false }, {})
    else if x.key = Reg.BR_RELEASE then d.stageCommand w x
    else if actsAtOnce ix sub then d.direct w x
    else match own with
      | some t => d.stageWrite w t x (acc = some .rw || acc = some .rwt)
      | none =>
        if isHandleIx ix && sub = 0x1E && measuring (d.kind (slotOf ix)) then d.acceptUrgent q x
        else if d.isDeferred ix sub true then d.accept { q := q, e := x }
        else if d.isStagedCommand ix sub then d.stageCommand w x
        else if kept then d.implicitTxn w x
        else d.direct w x

/-- The collection of a requester ends without effect (R260). -/
def Dev.dropCollect (d : Dev) (id : Nat) : Dev := d.modReq id fun r => { r with collect := none }

/-- One segment of a segmented write (R260). -/
def Dev.writeSegment (d : Dev) (w : Worn) (q : Request) : Dev × Answer :=
  let bs := bytesLE q.len q.data
  if q.segment = 0 then
    if q.len = 16 then (d.modReq q.id fun r => { r with collect := some (q.ix, q.sub, q.total, bs) }, { detail := 16 })
    else (d.dropCollect q.id, { status := LENGTH })
  else match (d.requester q.id).bind (·.collect) with
    | none => (d, { status := RANGE, detail := 3 })
    | some (ix, sub, total, got) =>
      if ix ≠ q.ix ∨ sub ≠ q.sub ∨ total ≠ q.total ∨ got.length ≠ 16 * q.segment then
        (d.dropCollect q.id, { status := RANGE, detail := 3 })
      else if q.len ≠ min 16 (total - got.length) then (d.dropCollect q.id, { status := LENGTH })
      else
        let l := got ++ bs
        if l.length < total then (d.modReq q.id fun r => { r with collect := some (ix, sub, total, l) }, { detail := l.length })
        else (d.dropCollect q.id).writeValue w q total (ofBytesLE l)

/-- The answer that a snapshot of L bytes gives for segment k (R257, R260). -/
def segmentOf (k L v : Nat) : Answer :=
  let n := min 16 (L - 16 * k)
  { detail := L, len := n, data := v / 2 ^ (128 * k) % 2 ^ (8 * n) }

/-- A read of the object needs an entry of the operations table (R28): the PSRAM answers a ring read, and a queue read that waits for a
fill. -/
def Dev.readTakes (d : Dev) (ix sub : Nat) : Bool :=
  (0x4410 ≤ ix && ix < 0x4420 && sub = 0x0E) ||
    (0x4000 ≤ ix && ix < 0x4400 && (sub = 0x0C || sub = 0x0D) && d.waitsFill ((ix - 0x4000) / 0x10))

/-- A read carried out: segment 0 takes the snapshot, a later one is served from it (R260). -/
def Dev.readValue (d : Dev) (e : Env) (q : Request) : Dev × Answer :=
  if q.segment = 0 && d.readTakes q.ix q.sub && !d.opsFree then (d, { status := BUSY, detail := 1 })
  else if q.segment = 0 then
    let r := d.readNow e q.ix q.sub q.id
    if r.2.1 ≠ OK then (r.1, { status := r.2.1 })
    else
      let L := match d.info q.ix q.sub with | some i => i.ty.length r.2.2 | none => 0
      (r.1.modReq q.id fun x => { x with snap := some (q.ix, q.sub, L, r.2.2) }, segmentOf 0 L r.2.2)
  else match (d.requester q.id).bind (·.snap) with
    | none => (d, { status := RANGE, detail := 3 })
    | some (ix, sub, L, v) => if ix = q.ix ∧ sub = q.sub then (d, segmentOf q.segment L v) else (d, { status := RANGE, detail := 3 })

/-- The snapshot and the collection that a request of the same requester ends (R260). -/
def Dev.endTransfers (d : Dev) (q : Request) : Dev :=
  d.modReq q.id fun r =>
    let same := fun (p : Nat × Nat) => p.1 = q.ix && p.2 = q.sub
    { r with
      snap := if q.op = OP_READ ∧ 0 < q.segment then r.snap.filter fun s => same (s.1, s.2.1) else none,
      collect := if q.op = OP_ECHO then r.collect else r.collect.filter fun c => same (c.1, c.2.1) }

/-- Checks 4 to 16 (R258). -/
def Dev.carryOut (d : Dev) (e : Env) (q : Request) : Dev × Answer :=
  let d := d.endTransfers q
  if q.op = OP_ECHO then (d, { len := q.len, data := q.data % 2 ^ (8 * q.len) })
  else if d.mode = INIT && !inInit q.ix q.sub then (d, { status := BUSY, detail := 5 })
  else if q.op = OP_READ then
    let st := d.readAccess q.ix q.sub q.hnd
    if st ≠ OK then (d, { status := st })
    else if d.isDeferred q.ix q.sub false then d.accept { q := q, e := { id := q.id, seq := q.seq, ix := q.ix, sub := q.sub, hnd := q.hnd } }
    else d.readValue e q
  else if q.total = 0 then d.writeValue e.worn q q.len (q.data % 2 ^ (8 * q.len))
  else d.writeSegment e.worn q

/-- A request is carried out and answered; one that is refused for a full operations table has no other effect (R29). -/
def Dev.answered (d : Dev) (e : Env) (q : Request) : Dev × Answer :=
  let r := d.carryOut e q
  if r.2.status = BUSY ∧ r.2.detail = 1 then (d.reply q r.2, r.2) else (r.1.reply q r.2, r.2)

/-- A new request of a tracked requester: carried out and its answer held, BUSY of the two full tables apart (R265). -/
def Dev.runNew (d : Dev) (e : Env) (q : Request) : Dev :=
  let r := d.answered e q
  if r.2.status = BUSY ∧ (r.2.detail = 1 ∨ r.2.detail = 2) then r.1 else r.1.hold q

/-- A request of a requester that the table holds (R265). -/
def Dev.tracked (d : Dev) (e : Env) (q : Request) (r : Requester) : Dev :=
  match r.held.find? fun p => p.1 = q.seq with
  | some p => { d.bump 32 Reg.DR_REPEATS with resp := p.2 }
  | none =>
    let old := match r.newest with
      | none => false
      | some n => let g := (n + 65536 - q.seq) % 65536; 33 ≤ g && g ≤ 32767
    if old then (d.bump 32 Reg.DR_TOO_OLD).reply q { status := RANGE, detail := 2 } else d.runNew e q

/-- A tracked requester enters the table (R264). -/
def Dev.enroll (d : Dev) (id : Nat) : Dev := { d with reqs := d.reqs ++ [{ id := id, last := d.now }] }

/-- A request reaches the dictionary engine (R256 to R268). While the crown is in reset nothing answers; OP 0x00 is no request. -/
def Dev.request (d : Dev) (e : Env) (q : Request) : Dev :=
  let d := { d with resp := {} }
  if !d.crownUp ∨ d.rd Reg.PL_RUNG ≠ 0 ∨ q.op = 0 then d
  else
    let d := d.touch q.id
    match malformed q with
    | some a => (d.when (q.op = OP_WRITE && q.total ≠ 0) (·.dropCollect q.id)).reply q a
    | none =>
      if q.id = 0 then (d.answered e q).1
      else match d.requester q.id with
        | some r => d.tracked e q r
        | none =>
          if d.reqs.length < 16 then (d.enroll q.id).runNew e q
          else match d.evictable with
            | none => d.reply q { status := BUSY, detail := 2 }
            | some id => ((d.evict id).enroll q.id).runNew e q

/-! Completion of deferred requests (R268). -/

/-- The write of a deferred request takes effect, or its own conditions refuse it (R268). A commit whose journal line finds no entry of the
operations table is refused and leaves its transaction open (R277). -/
def Dev.completeWrite (d : Dev) (w : Worn) (x : Entry) : Dev × Answer :=
  let st := d.entryCheck w x
  if x.key = Reg.TX_COMMIT then if d.opsFree then d.txCommitNow w x.id x.val x.cyc else (d, { status := BUSY, detail := 1 })
  else if x.key = Reg.HM_CREATE then
    let why := d.createCheck x.val
    match why, d.freeSlot with
    | 0, some k =>
      let h := handleOf k (d.slot k).gen
      (d.withDigests (·.createNow k x.val), { len := 2, data := h })
    | _, _ => (d.createRefused why x.id, { status := createStatus why })
  else if x.key = Reg.SQ_SWAP then
    if d.swapCheck x.val ≠ OK then (d, { status := st }) else ((d.swapPend x.val).1, { status := st })
  else if 0x5810 ≤ x.ix ∧ x.ix < 0x5870 then
    let (i, k) := bankOf x.ix
    if st = OK then (d.applyEntry w x, {}) else (d.when (st = RANGE) fun d => d.setBank i k 0, { status := st })
  else if st ≠ OK then (d, { status := st })
  else if (d.canopyRefuses [x]).isSome then (d, { status := BUSY })
  else (d.withDigests (·.applyEntry w x), {})

/-- The housekeeping core works (R26): out of reset, not swapping images. -/
def Dev.coreWorks (d : Dev) : Bool := d.crownUp && d.coreUp && d.rd Reg.PL_RUNG = 0 && d.rd Reg.GR_HK_STATE ≠ 5

/-- A deferred write whose heartwood line waits for the end of a dip (R398). -/
def Deferred.waitsDip (f : Deferred) : Bool :=
  let ix := f.e.ix
  f.q.op = OP_WRITE && (ix = 0x0220 || ix = 0x1000 || ix / 256 = 0x70 || ix = 0x8000 || 0xA000 ≤ ix)

/-- The next deferred request in order (R268). -/
def Dev.nextDeferred (d : Dev) : Option Deferred := d.deferred.find? fun f => !f.urgent

/-- The housekeeping core completes the next deferred request, if it is of the kind asked for. -/
def Dev.completeNext (d : Dev) (e : Env) (kind : Deferred → Bool) : Dev :=
  match d.nextDeferred with
  | none => d
  | some f =>
    if !d.coreWorks || !kind f || (f.waitsDip && !d.mayWrite && (d.warn || f.e.key ≠ Reg.TX_COMMIT)) then d
    else
      let r := if f.q.op = OP_READ then d.readValue e f.q else d.completeWrite e.worn f.e
      r.1.finish f r.2

end Sys2Proof.Machine
end

