-- ==== Sys2Proof/Machine/Requests.lean ====
section
/-!
DEFINITION. The commands that are dictionary requests, one definition each, and the completions and time limits of the engine
(R42 to R63, R90 to R94, R107 to R117, R138 to R149, R173, R199, R204, R213 to R237, R256 to R273, R325 to R329, R338, R362, R377 to
R392, R413). A row of an object's own is the request that names the object; REGISTER_WRITE, SEGMENTED_READ and SEGMENTED_WRITE
carry any request.
-/
namespace Sys2Proof.Machine

/-- The WRITE request of len bytes to an object. -/
def writeReq (r : Req) (key hnd len v : Nat) : Request :=
  { id := r.id, seq := r.seq, op := OP_WRITE, len := len, ix := key / 256, sub := key % 256, hnd := hnd, data := v, t := r.t }

/-- The READ request of an object. -/
def readReq (r : Req) (key : Nat) : Request :=
  { id := r.id, seq := r.seq, op := OP_READ, len := 0, ix := key / 256, sub := key % 256, t := r.t }

/-- The requests that write a value byte by byte: one, or segments with consecutive SEQ (R260). -/
def writeBytes (r : Req) (key : Nat) (bs : List Nat) : List Request :=
  if bs.length ≤ 16 then [writeReq r key 0 bs.length (ofBytesLE bs)]
  else (List.range ((bs.length + 15) / 16)).map fun k =>
    let c := (bs.drop (16 * k)).take 16
    { writeReq r key 0 c.length (ofBytesLE c) with seq := (r.seq + k) % 65536, segment := k, total := bs.length }

/-- A request runs at its instant. -/
def State.ask (q : Request) (s : State) : Host.Outcome State Fault Refusal := s.run fun e d => (d.at q.t).request e q

/-- The next deferred request completes, if it is of the kind given (R268). -/
def State.complete (kind : Deferred → Bool) (t : Nat) (s : State) : Host.Outcome State Fault Refusal :=
  s.run fun e d => (d.at t).completeNext e kind

/-- A deferred write to an object. -/
def Deferred.writes (key : Nat) (f : Deferred) : Bool := f.q.op = OP_WRITE && f.e.key = key

/-! Branches and handles. -/

/-- BR_RELEASE (R338): the branch mask is written to 0420:0D. -/
def execBrRelease (r : Req) (mask : Nat) (s : State) : Host.Outcome State Fault Refusal :=
  s.ask (writeReq r Reg.BR_RELEASE 0 1 mask)

/-- HM_CREATE (R42, R43). -/
def execHmCreate (r : Req) (rcd : Nat) (s : State) : Host.Outcome State Fault Refusal :=
  s.ask (writeReq r Reg.HM_CREATE 0 4 rcd)

/-- CREATE_COMPLETE (R43, R44). -/
def execCreateComplete (t : Nat) (s : State) : Host.Outcome State Fault Refusal :=
  s.complete (Deferred.writes Reg.HM_CREATE) t

/-- HM_DESTROY (R45). -/
def execHmDestroy (r : Req) (h : Nat) (s : State) : Host.Outcome State Fault Refusal :=
  s.ask (writeReq r Reg.HM_DESTROY 0 2 h)

/-- DESTROY_COMPLETE (R45). -/
def execDestroyComplete (t : Nat) (s : State) : Host.Outcome State Fault Refusal :=
  s.complete (Deferred.writes Reg.HM_DESTROY) t

/-- ARM (R49): HND_CMD 1 of a handle, staged (R52). -/
def execArm (r : Req) (h : Nat) (s : State) : Host.Outcome State Fault Refusal :=
  s.ask (writeReq r (Reg.HND_CMD (h % 128)) h 1 1)

/-- START (R49): HND_CMD 2 of a handle, staged (R52). -/
def execStart (r : Req) (h : Nat) (s : State) : Host.Outcome State Fault Refusal :=
  s.ask (writeReq r (Reg.HND_CMD (h % 128)) h 1 2)

/-- STOP (R49): HND_CMD 3 of a handle, staged (R52). -/
def execStop (r : Req) (h : Nat) (s : State) : Host.Outcome State Fault Refusal :=
  s.ask (writeReq r (Reg.HND_CMD (h % 128)) h 1 3)

/-- SAFE (R57): HND_CMD 4 of a handle, staged (R52). -/
def execSafe (r : Req) (h : Nat) (s : State) : Host.Outcome State Fault Refusal :=
  s.ask (writeReq r (Reg.HND_CMD (h % 128)) h 1 4)

/-- RESUME (R50): HND_CMD 5 of a handle, staged (R52). -/
def execResume (r : Req) (h : Nat) (s : State) : Host.Outcome State Fault Refusal :=
  s.ask (writeReq r (Reg.HND_CMD (h % 128)) h 1 5)

/-- CLEAR (R50, R163): HND_CMD 6 of a handle, staged (R52). -/
def execClear (r : Req) (h : Nat) (s : State) : Host.Outcome State Fault Refusal :=
  s.ask (writeReq r (Reg.HND_CMD (h % 128)) h 1 6)

/-- GO_PREOP (R54): DEV_CMD 1, staged (R52). -/
def execGoPreop (r : Req) (s : State) : Host.Outcome State Fault Refusal :=
  s.ask (writeReq r Reg.DEV_CMD 0 1 1)

/-- GO_OPERATE (R54): DEV_CMD 2, staged (R52). -/
def execGoOperate (r : Req) (s : State) : Host.Outcome State Fault Refusal :=
  s.ask (writeReq r Reg.DEV_CMD 0 1 2)

/-- DEV_SAFE (R54): DEV_CMD 3, staged (R52). -/
def execDevSafe (r : Req) (s : State) : Host.Outcome State Fault Refusal :=
  s.ask (writeReq r Reg.DEV_CMD 0 1 3)

/-- DEV_RESUME (R54): DEV_CMD 4, staged (R52). -/
def execDevResume (r : Req) (s : State) : Host.Outcome State Fault Refusal :=
  s.ask (writeReq r Reg.DEV_CMD 0 1 4)

/-- HOLD (R54): DEV_CMD 5, staged (R52). -/
def execHold (r : Req) (s : State) : Host.Outcome State Fault Refusal :=
  s.ask (writeReq r Reg.DEV_CMD 0 1 5)

/-- ENTER_SERVICE (R54): DEV_CMD 6, staged (R52). -/
def execEnterService (r : Req) (s : State) : Host.Outcome State Fault Refusal :=
  s.ask (writeReq r Reg.DEV_CMD 0 1 6)

/-- LEAVE_SERVICE (R54): DEV_CMD 7, staged (R52). -/
def execLeaveService (r : Req) (s : State) : Host.Outcome State Fault Refusal :=
  s.ask (writeReq r Reg.DEV_CMD 0 1 7)

/-- PUP_CODE_WRITE (R60): the code, or the loop current of code VALUE. -/
def execPupCodeWrite (r : Req) (isValue : Bool) (n : ChanNo) (v : Nat) (s : State) : Host.Outcome State Fault Refusal :=
  s.ask (if isValue then writeReq r (Reg.PUP_VALUE n) 0 4 v else writeReq r (Reg.PUP_CODE n) 0 1 v)

/-- PUP_WRITE_DONE (R60). -/
def execPupWriteDone (t : Nat) (s : State) : Host.Outcome State Fault Refusal :=
  s.complete (fun f => f.q.op = OP_WRITE && (f.e.ix = 0x1010 || f.e.ix = 0x1011)) t

/-! Converters and filters. -/

/-- CV_URGENT_REQ (R90). -/
def execCvUrgentReq (r : Req) (h : Nat) (s : State) : Host.Outcome State Fault Refusal :=
  s.ask (writeReq r (Reg.CV_URGENT_REQ (h % 128)) h 1 1)

/-- The urgent value of a driver as P's holder formed it from a fresh residue (R91), with its saturation. -/
def Dev.urgentValue (d : Dev) (w : Worn) (k : Nat) (m : WinMeas) : Frac × Bool :=
  let n := d.chanOf k
  let y := (d.modChan n fun c => { c with resP := none, resT := none }).triple w k m (Spans.all 4096)
  if roleOf w n = 1 || d.standsIn k false then (y.t, m.ovT) else (y.p, m.ovP)

/-- Storing an urgent value in I:1F of a slot in its own format (R91). -/
def Dev.keepUrgent (d : Dev) (w : Worn) (k : Nat) (y : Frac) (sat : Bool) (m : WinMeas) (time : Nat) : Dev :=
  let c := codeOf (d.signedFmt k) (d.trimmed k m.vf y)
  let f : RecFlags := {
    sat := sat || c.2, wire := (d.slot (d.master k)).wire, plaus := d.disagrees (d.master k), degr := degradedChan w (d.chanOf k) }
  d.storeUrgent k c.1 (d.judge k c.1 m.limiter f.sat f).1 time

/-- URGENT_RESULT (R91, R93): stored for the driver and its observers; in fast mode the filter output does this (R93). -/
def execUrgentResult (h : SlotNo) (m : WinMeas) (t : Nat) (s : State) : Host.Outcome State Fault Refusal :=
  s.run fun e d =>
    let d := d.at t
    let x := d.slot h
    if !x.urgRun || d.kind h = 7 || d.fast h || !d.hears (d.chanOf h / 4) then d
    else
      let y := d.urgentValue e.worn h m
      (d.each (h.val :: d.observers h) fun d k => d.keepUrgent e.worn k y.1 y.2 m x.urgMid).urgentServed h false

/-- The ring time of the newest sample of a MONITOR source (R94): T measured REF_A and REF_B in its last two windows of 20 ms (R85). -/
def Dev.monitorTime (d : Dev) (k t : Nat) : Nat :=
  let x := d.branch (d.chanOf k / 4)
  match d.chanOf k % 4 with
  | 2 => x.refT - 20000000
  | 3 => x.refT
  | _ => t

/-- MONITOR_URGENT_DONE (R94): one value from the source, timed by its newest sample. -/
def execMonitorUrgentDone (h : SlotNo) (mon : Int) (t : Nat) (s : State) : Host.Outcome State Fault Refusal :=
  s.run fun e d =>
    let d := d.at t
    if !(d.slot h).urgRun || d.kind h ≠ 7 || !d.hears (d.chanOf h / 4) then d
    else
      let c := codeOf (d.signedFmt h) (d.monitorValue h mon)
      (d.storeUrgent h c.1 { sat := c.2, degr := drifts e.worn (d.chanOf h / 4) } (d.monitorTime h t)).urgentServed h true

/-- CR_DATA_WRITE (R107, R109). -/
def execCrDataWrite (r : Req) (v : Nat) (s : State) : Host.Outcome State Fault Refusal :=
  s.ask (writeReq r Reg.CR_DATA 0 4 v)

/-- CR_DATA_READ (R107). -/
def execCrDataRead (r : Req) (s : State) : Host.Outcome State Fault Refusal :=
  s.ask (readReq r Reg.CR_DATA)

/-- BANK_DESCRIPTOR_WRITE (R109): BK_BASE has two bytes, the others one. -/
def execBankDescriptorWrite (r : Req) (i : UnitNo) (k : Fin 3) (sub v : Nat) (s : State) : Host.Outcome State Fault Refusal :=
  s.ask (writeReq r ((0x5810 + 3 * i + k) * 256 + sub % 256) 0 (if sub = 1 then 2 else 1) v)

/-- BK_LOAD (R110). -/
def execBkLoad (r : Req) (i : UnitNo) (k : Fin 3) (s : State) : Host.Outcome State Fault Refusal :=
  s.ask (writeReq r (Reg.BK_LOAD i k) 0 1 1)

/-- BK_LOAD_COMPLETE (R110). -/
def execBkLoadComplete (t : Nat) (s : State) : Host.Outcome State Fault Refusal :=
  s.complete (fun f => f.q.op = OP_WRITE && 0x5810 ≤ f.e.ix && f.e.ix < 0x5870) t

/-- FI_BANK_REQ (R116, R117). -/
def execFiBankReq (r : Req) (i : UnitNo) (v : Nat) (s : State) : Host.Outcome State Fault Refusal :=
  s.ask (writeReq r (Reg.FI_BANK_REQ i) 0 1 v)

/-! Loops, levels, switches. -/

/-- LP_COMPLIANCE_ACK (R138). -/
def execLpComplianceAck (r : Req) (h : Nat) (s : State) : Host.Outcome State Fault Refusal :=
  s.ask (writeReq r (Reg.LP_COMPLIANCE_ACK (h % 128)) h 1 1)

/-- TRIM_WRITE (R141): v is the two's complement of the trim in nA. -/
def execTrimWrite (r : Req) (h : Nat) (span : Bool) (v : Nat) (s : State) : Host.Outcome State Fault Refusal :=
  s.ask (writeReq r (if span then Reg.LP_TRIM_SPAN (h % 128) else Reg.LP_TRIM_ZERO (h % 128)) h 4 v)

/-- TB_ENABLE (R142). -/
def execTbEnable (r : Req) (s : State) : Host.Outcome State Fault Refusal :=
  s.ask (writeReq r Reg.TB_ENABLE 0 1 1)

/-- The button transaction (R141): the sequence's trims form a journalled transaction of their own; the steps that wait for the boundary are
its entries, due at that boundary. -/
def Dev.buttonTxn (d : Dev) : Dev :=
  let step := fun (x : Entry) => x.aux = 2 && isHandleIx x.ix
  let l := d.staged.filter step
  if d.buttons.undo = [] ∧ l = [] then d
  else
    let (d, n) := d.issueTxn
    let x : Txn := {
      num := n, id := 0, st := 2, entries := l, last := d.now, cyc := (d.rd Reg.SQ_CYCLE_INDEX + 2 ^ 32 - 1) % 2 ^ 32, done := d.mayWrite }
    let d := { d with staged := d.staged.filter fun x => !step x, txns := d.txns ++ [x], buttons := { d.buttons with undo := [] } }
    (d.when x.done fun d => d.journalPut n 0 2).pruneTxns

/-- BUTTON_RELEASE (R141, R142): the last button is released; the button transaction closes. -/
def execButtonRelease (t : Nat) (s : State) : Host.Outcome State Fault Refusal :=
  s.run fun _ d =>
    let d := d.at t
    let d := { (d.wr Reg.TB_LANDS (d.rd Reg.TB_LANDS &&& 4)) with buttons := { d.buttons with held := none, lock := false } }
    d.buttonTxn

/-- LV_COUNT_CLEAR (R149). -/
def execLvCountClear (r : Req) (h : Nat) (s : State) : Host.Outcome State Fault Refusal :=
  s.ask (writeReq r (Reg.LV_COUNT_CLEAR (h % 128)) h 1 1)

/-- SW_CLAMP_ACK (R173). -/
def execSwClampAck (r : Req) (h : Nat) (s : State) : Host.Outcome State Fault Refusal :=
  s.ask (writeReq r (Reg.SW_CLAMP_ACK (h % 128)) h 1 1)

/-! Sequencer and queues. -/

/-- SQ_SWAP (R199). -/
def execSqSwap (r : Req) (v : Nat) (s : State) : Host.Outcome State Fault Refusal :=
  s.ask (writeReq r Reg.SQ_SWAP 0 1 v)

/-- SQ_SWAP_CHECK_DONE (R199). -/
def execSqSwapCheckDone (t : Nat) (s : State) : Host.Outcome State Fault Refusal :=
  s.complete (Deferred.writes Reg.SQ_SWAP) t

/-- GU_DET_ACK (R204). -/
def execGuDetAck (r : Req) (v : Nat) (s : State) : Host.Outcome State Fault Refusal :=
  s.ask (writeReq r Reg.GU_DET_ACK 0 1 v)

/-- QU_ENABLE (R213). -/
def execQuEnable (r : Req) (q : QueueNo) (s : State) : Host.Outcome State Fault Refusal :=
  s.ask (writeReq r (Reg.QU_ENABLE q) 0 1 1)

/-- QU_DISABLE (R213). -/
def execQuDisable (r : Req) (q : QueueNo) (s : State) : Host.Outcome State Fault Refusal :=
  s.ask (writeReq r (Reg.QU_ENABLE q) 0 1 0)

/-- QU_READ (R225, R227). -/
def execQuRead (r : Req) (q : QueueNo) (s : State) : Host.Outcome State Fault Refusal :=
  s.ask (readReq r (Reg.QU_READ q))

/-- QU_READ3 (R225). -/
def execQuRead3 (r : Req) (q : QueueNo) (s : State) : Host.Outcome State Fault Refusal :=
  s.ask (readReq r (Reg.QU_READ3 q))

/-- MARK (R227): QU_CMD 1. -/
def execMark (r : Req) (q : QueueNo) (s : State) : Host.Outcome State Fault Refusal :=
  s.ask (writeReq r (Reg.QU_CMD q) 0 1 1)

/-- REWIND (R227): QU_CMD 2. -/
def execRewind (r : Req) (q : QueueNo) (s : State) : Host.Outcome State Fault Refusal :=
  s.ask (writeReq r (Reg.QU_CMD q) 0 1 2)

/-- RELEASE (R227): QU_CMD 3. -/
def execRelease (r : Req) (q : QueueNo) (s : State) : Host.Outcome State Fault Refusal :=
  s.ask (writeReq r (Reg.QU_CMD q) 0 1 3)

/-- FLUSH (R228): QU_CMD 4. -/
def execFlush (r : Req) (q : QueueNo) (s : State) : Host.Outcome State Fault Refusal :=
  s.ask (writeReq r (Reg.QU_CMD q) 0 1 4)

/-- ACK (R231): QU_CMD 5. -/
def execAck (r : Req) (q : QueueNo) (s : State) : Host.Outcome State Fault Refusal :=
  s.ask (writeReq r (Reg.QU_CMD q) 0 1 5)

/-- QU_RELEASE_AT (R227). -/
def execQuReleaseAt (r : Req) (q : QueueNo) (p : Nat) (s : State) : Host.Outcome State Fault Refusal :=
  s.ask (writeReq r (Reg.QU_RELEASE_AT q) 0 4 p)

/-- QU_WRITE (R221): up to 24 bytes, in segments where they exceed one request (R260). -/
def execQuWrite (r : Req) (q : QueueNo) (bytes : List Nat) (s : State) : Host.Outcome State Fault Refusal :=
  s.run fun e d => (writeBytes r (Reg.QU_WRITE q) bytes).foldl (fun d x => d.request e x) (d.at r.t)

/-- QU_WRITE_END_COMMIT (R221). -/
def execQuWriteEndCommit (r : Req) (q : QueueNo) (s : State) : Host.Outcome State Fault Refusal :=
  s.ask (writeReq r (Reg.QU_WRITE_END q) 0 1 1)

/-- QU_WRITE_END_ABORT (R221). -/
def execQuWriteEndAbort (r : Req) (q : QueueNo) (s : State) : Host.Outcome State Fault Refusal :=
  s.ask (writeReq r (Reg.QU_WRITE_END q) 0 1 2)

/-- DM_START (R234): DM_CTRL 1. -/
def execDmStart (r : Req) (c : DmaNo) (s : State) : Host.Outcome State Fault Refusal :=
  s.ask (writeReq r (Reg.DM_CTRL c) 0 1 1)

/-- DM_STOP (R235): DM_CTRL 2. -/
def execDmStop (r : Req) (c : DmaNo) (s : State) : Host.Outcome State Fault Refusal :=
  s.ask (writeReq r (Reg.DM_CTRL c) 0 1 2)

/-- DM_TRIGGER (R236): DM_CTRL 3. -/
def execDmTrigger (r : Req) (c : DmaNo) (s : State) : Host.Outcome State Fault Refusal :=
  s.ask (writeReq r (Reg.DM_CTRL c) 0 1 3)

/-- DM_RD_DATA (R237). -/
def execDmRdData (r : Req) (c : DmaNo) (s : State) : Host.Outcome State Fault Refusal :=
  s.ask (readReq r (Reg.DM_RD_DATA c))

/-! The dictionary. -/

/-- REGISTER_WRITE (R258): a WRITE to any object. -/
def execRegisterWrite (q : Request) (s : State) : Host.Outcome State Fault Refusal :=
  s.ask { q with op := OP_WRITE }

/-- ECHO (R257). -/
def execEcho (q : Request) (s : State) : Host.Outcome State Fault Refusal :=
  s.ask { q with op := OP_ECHO }

/-- SEGMENTED_READ (R260): every READ is one, of segment 0 or later. -/
def execSegmentedRead (q : Request) (s : State) : Host.Outcome State Fault Refusal :=
  s.ask { q with op := OP_READ }

/-- SEGMENTED_WRITE (R260): a WRITE with a TOTAL. -/
def execSegmentedWrite (q : Request) (s : State) : Host.Outcome State Fault Refusal :=
  s.ask { q with op := OP_WRITE }

/-- DEFERRED_COMPLETE (R268): the next deferred request of any kind. -/
def execDeferredComplete (t : Nat) (s : State) : Host.Outcome State Fault Refusal :=
  s.complete (fun _ => true) t

/-- TX_OPEN (R269). -/
def execTxOpen (r : Req) (v : Nat) (s : State) : Host.Outcome State Fault Refusal :=
  s.ask (writeReq r Reg.TX_OPEN 0 1 v)

/-- TX_COMMIT (R270). -/
def execTxCommit (r : Req) (n : Nat) (s : State) : Host.Outcome State Fault Refusal :=
  s.ask (writeReq r Reg.TX_COMMIT 0 4 n)

/-- TX_COMMIT_DONE (R270). -/
def execTxCommitDone (t : Nat) (s : State) : Host.Outcome State Fault Refusal :=
  s.complete (Deferred.writes Reg.TX_COMMIT) t

/-- TX_ABORT (R272). -/
def execTxAbort (r : Req) (n : Nat) (s : State) : Host.Outcome State Fault Refusal :=
  s.ask (writeReq r Reg.TX_ABORT 0 4 n)

/-- TX_TIMEOUT (R272): the open transaction n has been idle for 0220:07 s. -/
def execTxTimeout (n : Nat) (t : Nat) (s : State) : Host.Outcome State Fault Refusal :=
  s.run fun _ d =>
    let d := d.at t
    match d.txns.find? fun x => x.num = n && x.st = 1 with
    | some x =>
      if x.last + d.rd Reg.TX_TIMEOUT * 1000000000 ≤ t then (d.endTxn n 5 0 0).log1 0x0289 x.id n else d
    | none => d

/-- PV_UNLOCK (R262, R263). -/
def execPvUnlock (r : Req) (code : Nat) (s : State) : Host.Outcome State Fault Refusal :=
  s.ask (writeReq r Reg.PV_UNLOCK 0 4 code)

/-- PV_LOCK (R262). -/
def execPvLock (r : Req) (v : Nat) (s : State) : Host.Outcome State Fault Refusal :=
  s.ask (writeReq r Reg.PV_LOCK 0 1 v)

/-- PV_SERVICE_CODE (R262). -/
def execPvServiceCode (r : Req) (code : Nat) (s : State) : Host.Outcome State Fault Refusal :=
  s.ask (writeReq r Reg.PV_SERVICE_CODE 0 4 code)

/-- PV_TIMEOUT (R262): the requester has been idle for 0230:04 s. -/
def execPvTimeout (id : Nat) (t : Nat) (s : State) : Host.Outcome State Fault Refusal :=
  s.run fun _ d =>
    let d := d.at t
    let limit := d.rd Reg.PV_TIMEOUT * 1000000000
    d.modReq id fun r => if r.last + limit ≤ t then { r with service := false } else r

/-- PV_LOCKOUT_END (R263): the count of three starts afresh. -/
def execPvLockoutEnd (t : Nat) (s : State) : Host.Outcome State Fault Refusal :=
  s.run fun _ d =>
    let d := d.at t
    match d.lockEnd with
    | some e => if e ≤ t then { d with lockEnd := none, fails := [] } else d
    | none => d

/-! Watchdogs. The tasks of W0 are the housekeeping core's own and reach it without the dictionary (R323). -/

/-- WD_CHECKIN (R325): an id above 15 is refused and has no effect. -/
def execWdCheckin (w1 : Bool) (r : Req) (id : Nat) (s : State) : Host.Outcome State Fault Refusal :=
  if w1 then s.ask (writeReq r Reg.WD1_CHECKIN 0 1 id)
  else s.run fun _ d => let d := d.at r.t; if id < 16 then d.wdCheckIn false id else d

/-- A key write with its captured tick (R326). -/
def State.key (w1 : Bool) (r : Req) (v tick : Nat) (s : State) : Host.Outcome State Fault Refusal :=
  s.run fun e d =>
    let d := d.at r.t
    if w1 then
      let d := { d with wd1 := { d.wd1 with cap := some tick } }.request e (writeReq r Reg.WD1_KEY 0 2 v)
      { d with wd1 := { d.wd1 with cap := none } }
    else d.wdKey false v tick

/-- WD_KEY1 (R326). -/
def execWdKey1 (w1 : Bool) (r : Req) (tick : Nat) (s : State) : Host.Outcome State Fault Refusal :=
  s.key w1 r 0x3C5A tick

/-- WD_KEY2 (R327). -/
def execWdKey2 (w1 : Bool) (r : Req) (tick : Nat) (s : State) : Host.Outcome State Fault Refusal :=
  s.key w1 r 0xA5C3 tick

/-- WD1_ENABLE (R329). -/
def execWd1Enable (r : Req) (s : State) : Host.Outcome State Fault Refusal :=
  s.ask (writeReq r Reg.WD1_ENABLE 0 1 1)

/-- WD1_DISABLE (R329). -/
def execWd1Disable (r : Req) (s : State) : Host.Outcome State Fault Refusal :=
  s.ask (writeReq r Reg.WD1_ENABLE 0 1 0)

/-! Canopy, heartwood, calendar, grafts, reset. -/

/-- CN_ADOPT (R362). -/
def execCnAdopt (r : Req) (s : State) : Host.Outcome State Fault Refusal :=
  s.ask (writeReq r Reg.CN_ADOPT 0 1 1)

/-- HW_FLUSH (R377). -/
def execHwFlush (r : Req) (s : State) : Host.Outcome State Fault Refusal :=
  s.ask (writeReq r Reg.HW_FLUSH 0 1 1)

/-- EV_READ (R382). -/
def execEvRead (r : Req) (s : State) : Host.Outcome State Fault Refusal :=
  s.ask (readReq r Reg.EV_READ)

/-- CAL_TIME_WRITE (R384). -/
def execCalTimeWrite (r : Req) (v : Nat) (s : State) : Host.Outcome State Fault Refusal :=
  s.ask (writeReq r Reg.CAL_TIME 0 8 v)

/-- ERASE (R388): GR_HK_CMD 1. -/
def execErase (r : Req) (s : State) : Host.Outcome State Fault Refusal :=
  s.ask (writeReq r Reg.GR_HK_CMD 0 1 1)

/-- GR_HK_DATA (R388): bytes of the image, in segments where they exceed one request. -/
def execGrHkData (r : Req) (bytes : List Nat) (s : State) : Host.Outcome State Fault Refusal :=
  s.run fun e d => (writeBytes r Reg.GR_HK_DATA bytes).foldl (fun d x => d.request e x) (d.at r.t)

/-- VERIFY (R388): GR_HK_CMD 2. -/
def execVerify (r : Req) (s : State) : Host.Outcome State Fault Refusal :=
  s.ask (writeReq r Reg.GR_HK_CMD 0 1 2)

/-- SWAP (R388): GR_HK_CMD 3. -/
def execSwap (r : Req) (s : State) : Host.Outcome State Fault Refusal :=
  s.ask (writeReq r Reg.GR_HK_CMD 0 1 3)

/-- CONFIRM (R388): GR_HK_CMD 4. -/
def execConfirm (r : Req) (s : State) : Host.Outcome State Fault Refusal :=
  s.ask (writeReq r Reg.GR_HK_CMD 0 1 4)

/-- CANCEL (R388): GR_HK_CMD 5. -/
def execCancel (r : Req) (s : State) : Host.Outcome State Fault Refusal :=
  s.ask (writeReq r Reg.GR_HK_CMD 0 1 5)

/-- CAL_START (R391): GR_CAL_CMD 1. -/
def execCalStart (r : Req) (s : State) : Host.Outcome State Fault Refusal :=
  s.ask (writeReq r Reg.GR_CAL_CMD 0 1 1)

/-- CAL_LOW (R391): GR_CAL_CMD 2. -/
def execCalLow (r : Req) (s : State) : Host.Outcome State Fault Refusal :=
  s.ask (writeReq r Reg.GR_CAL_CMD 0 1 2)

/-- CAL_HIGH (R391): GR_CAL_CMD 3. -/
def execCalHigh (r : Req) (s : State) : Host.Outcome State Fault Refusal :=
  s.ask (writeReq r Reg.GR_CAL_CMD 0 1 3)

/-- CAL_APPLY (R391): GR_CAL_CMD 4. -/
def execCalApply (r : Req) (s : State) : Host.Outcome State Fault Refusal :=
  s.ask (writeReq r Reg.GR_CAL_CMD 0 1 4)

/-- CAL_ABORT (R391): GR_CAL_CMD 5. -/
def execCalAbort (r : Req) (s : State) : Host.Outcome State Fault Refusal :=
  s.ask (writeReq r Reg.GR_CAL_CMD 0 1 5)

/-- CAL_RESTORE (R391): GR_CAL_CMD 6. -/
def execCalRestore (r : Req) (s : State) : Host.Outcome State Fault Refusal :=
  s.ask (writeReq r Reg.GR_CAL_CMD 0 1 6)

/-- GR_UC_START (R392). -/
def execGrUcStart (r : Req) (b : BranchNo) (s : State) : Host.Outcome State Fault Refusal :=
  s.ask (writeReq r Reg.GR_UC_START 0 1 b)

/-- PWR_RESET_CMD (R413). -/
def execPwrResetCmd (r : Req) (v : Nat) (s : State) : Host.Outcome State Fault Refusal :=
  s.ask (writeReq r Reg.PWR_RESET_CMD 0 2 v)

end Sys2Proof.Machine
end

