-- ==== Sys2Proof/Machine/Ring.lean ====
section
/-!
DEFINITION. The ring node (R283 to R309): frames, seals, process data (R274 to R276), ring time, DELAY stamps, the process-data watchdog
and the ports.
-/
namespace Sys2Proof.Machine

/-- Changing the ring state. -/
def Dev.modRing (d : Dev) (f : Ring → Ring) : Dev := { d with ring := f d.ring }

/-- The source code of a port's events (R309). -/
def portSrc (portB : Bool) : Nat := if portB then 0xFFFB else 0xFFFA

/-- The forwarding core runs (R303, R406): the crown is out of reset and on a rung with D5 on. -/
def Dev.forwards (d : Dev) : Bool := d.crownUp && d.rd Reg.PL_RUNG ≤ 1

/-- Both ports are LOOPED: the node is isolated and forwards nothing (R287). -/
def Dev.isolated (d : Dev) : Bool := bitOf (d.rd Reg.RP_LOOP) 0 && bitOf (d.rd Reg.RP_LOOP) 1

/-! Frame errors and refusals (R285, R309). -/

/-- A frame with a wrong FCS: marked bad upstream, or a local error of its port, which also restarts the port's error-free time. -/
def Dev.fcsError (d : Dev) (portB upstream : Bool) : Dev :=
  if upstream then d.bump 32 Reg.RP_FCS_UPSTREAM
  else
    let d := d.bump 32 (if portB then Reg.RP_FCS_B else Reg.RP_FCS_A)
    let n := (if portB then d.ring.nFcsB else d.ring.nFcsA) + 1
    let last := if portB then d.ring.tFcsB else d.ring.tFcsA
    let due := match last with
      | none => true
      | some t => decide (t + 60000000000 ≤ d.now)
    let tl := if due then some d.now else last
    let m := if due then 0 else n
    let d := d.modRing fun r =>
      if portB then { r with nFcsB := m, tFcsB := tl, cleanB := d.now } else { r with nFcsA := m, tFcsA := tl, cleanA := d.now }
    d.when due fun d => d.log1 0x0604 (portSrc portB) n

/-- A check of R290 refuses a frame that arrived at t: the event for the first refusal after 60 s without one. -/
def Dev.refuseFrame (d : Dev) (t check cycle : Nat) : Dev :=
  let due := match d.ring.tRefuse with
    | none => true
    | some t0 => decide (t0 + 60000000000 ≤ t)
  (d.modRing fun r => { r with tRefuse := some t }).when due fun d => d.logAt t 0x0605 0xFFFC (check + cycle % 2 ^ 24 * 256)

/-! The checks and the seal (R290, R292). -/

/-- This node's own cycle index at an instant: in the running cycles, or in the length that the frame states. -/
def Dev.ownIndex (d : Dev) (t cycleNs : Nat) : Nat :=
  let T := if d.rd Reg.SQ_LOCK ≠ 0 then d.rd Reg.SQ_CYCLE_NS else cycleNs
  t / T % 2 ^ 32

/-- The number of the first check of R290 that fails; 10 when none does. -/
def Dev.frameCheck (d : Dev) (f : Frame) : Nat :=
  let st := d.rd Reg.RT_STATE
  if f.verMajor ≠ 1 ∨ (f.ftype ≠ 1 ∧ f.ftype ≠ 2) then 1
  else if 1500 < 32 + f.sealCount + f.pdLen + 128 * f.acycGroups then 2
  else if f.ftype ≠ 1 then 3
  else if d.rd Reg.PL_RUNG ≠ 0 then 4
  else if d.rd Reg.RG_NODE_ADDR = 0 ∧ !f.posaddr then 5
  else if d.mode = INIT then 6
  else if st ≠ 2 ∧ st ≠ 3 then 7
  else if f.cycleIndex ≠ d.ownIndex f.tArr f.cycleNs then 8
  else if f.pdEpoch ≠ d.rd Reg.RG_PD_EPOCH ∨ f.pdLen < d.rd Reg.RG_OUT_OFFSET + d.rd Reg.PI_OUT_LEN ∨
      f.pdLen < d.rd Reg.RG_IN_OFFSET + d.rd Reg.PI_IN_LEN then 9
  else 10

/-- The STATUS of the seal for a check result (R290, R292); none where no seal is written. -/
def Dev.sealStatus (d : Dev) (check : Nat) : Option Nat :=
  match check with
  | 4 => some 7
  | 6 => some 6
  | 7 => some 10
  | 8 => some 9
  | 9 => some 8
  | 10 => some (if d.mode = OPERATE then 1 else if d.mode = PREOP then 2 else d.mode)
  | _ => none

/-- The seal as the frame passes (R292): only where the address lies in the seal table. -/
def Dev.sealFrame (d : Dev) (f : Frame) (check : Nat) : Dev :=
  let a := d.rd Reg.RG_NODE_ADDR
  match d.sealStatus check with
  | none => d
  | some st =>
    let k := if d.rd Reg.SQ_LOCK ≠ 0 then d.rd Reg.SQ_CYCLE_INDEX else f.cycleIndex
    d.when (1 ≤ a && a ≤ f.sealCount) fun d => d.wr Reg.RG_SEAL_LAST (k % 16 + st * 16)

/-! Process data (R274 to R276, R293). -/

/-- A process-data entry refused or unbound (R274 to R276). -/
def Dev.pdDenied (d : Dev) : Dev := d.bump 32 Reg.DR_PD_DENIED

/-- The handle that a map entry binds. -/
def Dev.mapHandle (d : Dev) (out : Bool) (i : Nat) : Nat :=
  tabGet (fun _ => 0) d.mapHnd (if out then Reg.PI_OUT_MAP i else Reg.PI_IN_MAP i)

/-- One input entry: its bytes in the snapshot; 0 where it is unbound or not readable. -/
def Dev.inputEntry (d : Dev) (e : Env) (i v : Nat) : Dev × List Nat :=
  let (ix, sub) := mapObj v
  let n := mapLen v
  if d.readAccess ix sub (d.mapHandle false i) ≠ OK then (d.pdDenied, List.replicate n 0)
  else
    let r := d.readNow e ix sub 0
    if r.2.1 ≠ OK then (r.1.pdDenied, List.replicate n 0) else (r.1, bytesLE n r.2.2)

/-- The input part: one snapshot of every entry (R293). -/
def Dev.inputPart (d : Dev) (e : Env) : Dev × List Nat :=
  (d.mapEntries false).foldl (fun p x => let r := p.1.inputEntry e x.1 x.2; (r.1, p.2 ++ r.2)) (d, [])

/-- A process-data value: with OPERATE privilege and without a transaction, staged now, or at the boundary under DET (R202, R275). -/
def Dev.outputEntry (d : Dev) (w : Worn) (i v val : Nat) : Dev :=
  let (ix, sub) := mapObj v
  let h := d.mapHandle true i
  let x : Entry := { id := 256, ix := ix, sub := sub, hnd := h, val := val, len := mapLen v, cyc := d.rd Reg.SQ_CYCLE_INDEX }
  if d.writeAccess false true ix sub h x.len val ≠ OK || d.entryCheck w x ≠ OK then d.pdDenied
  else if d.det then { d with staged := d.staged ++ [x] }
  else d.writeOutput (slotOf ix) x.key val

/-- A toggle command byte (R276): the first sets the baseline, a change of TOGGLE stages the command. -/
def Dev.toggleEntry (d : Dev) (w : Worn) (i v b : Nat) : Dev :=
  let t := bitOf b 7
  let set := fun (d : Dev) => d.modRing fun r => { r with seen := (r.seen.filter fun p => p.1 ≠ i) ++ [(i, t)] }
  match d.ring.seen.find? fun p => p.1 = i with
  | none => set d
  | some p =>
    if p.2 = t then d
    else
      let d := set d
      let (ix, sub) := mapObj v
      let h := d.mapHandle true i
      let x : Entry := { ix := ix, sub := sub, hnd := h, val := b % 128, len := 1, cyc := d.rd Reg.SQ_CYCLE_INDEX }
      if d.writeAccess false true ix sub h 1 x.val ≠ OK || d.entryCheck w x ≠ OK then d.pdDenied
      else { d with staged := d.staged ++ [x] }

/-- The output part of a valid frame is written in entry order; level entries are ignored in PREOP and SERVICE (R53). -/
def Dev.outputPart (d : Dev) (w : Worn) (bs : List Nat) : Dev :=
  ((d.mapEntries true).foldl (fun (p : Dev × List Nat) x =>
    let n := mapLen x.2
    let v := ofBytesLE (p.2.take n)
    let d := if mapEdge x.2 then p.1.toggleEntry w x.1 x.2 v
      else if p.1.mode = PREOP || p.1.mode = SERVICE then p.1
      else p.1.outputEntry w x.1 x.2 v
    (d, p.2.drop n)) (d, bs)).1

/-- The process-data watchdog reaches zero (R302): safe trigger bit 0 acts. -/
def Dev.pdwExpire (d : Dev) : Dev :=
  if d.rd Reg.PDW_STATE = 1 && d.ring.pdwEnd ≤ d.now then
    let d := ((d.wr Reg.PDW_STATE 2).bump 32 Reg.PDW_EXPIRIES).modRing fun r => { r with pdwOut := true }
    (d.log1 0x0609 0xFFFC (d.rd Reg.SQ_CYCLE_INDEX)).moduleSafe 0
  else d

/-- The process-data watchdog at the end of a valid frame that brings outputs (R302); a timer that reached zero by then has expired, and
the frame ends the persisting condition at once (R304). -/
def Dev.pdwFrame (d : Dev) (cycle : Nat) : Dev :=
  let d := d.pdwExpire
  let back := d.ring.pdwOut
  let d := d.modRing fun r => { r with pdwOut := false }
  let d := d.when (d.rd Reg.PDW_STATE ≠ 0) fun d => (d.wr Reg.PDW_STATE 1).pdwRestart
  d.when back fun d => d.log1 0x060A 0xFFFC cycle

/-! Ring time (R297, R298). -/

/-- A value in ns as a saturating signed 32-bit number. -/
def sat32 (x : Int) : Int := clampInt (-(2 ^ 31)) (2 ^ 31 - 1) x

/-- The clock is stepped (R298): the sequencer stops, except where the time was FREE. -/
def Dev.stepClock (d : Dev) (off : Int) : Dev :=
  let d := d.when (d.rd Reg.RT_STATE ≠ 0) (·.stopCycles)
  let d := { d with now := ((d.now : Int) - off).toNat }
  ((d.wr Reg.RT_STATE 1).modRing fun r => { r with inLock := 0, outLock := 0 }).log1 0x0608 0xFFFC (ofInt 32 (sat32 (-off / 1000)))

/-- ACQUIRING is entered by a slew. -/
def Dev.slewClock (d : Dev) (off : Int) : Dev :=
  ((d.wr Reg.RT_STATE 1).modRing fun r => { r with inLock := 0, outLock := 0 }).log1 0x0607 0xFFFC (ofInt 32 (sat32 off))

/-- The offset of a frame acts (R297, R298). -/
def Dev.takeTime (d : Dev) (off : Int) : Dev :=
  let a := off.natAbs
  let rate := clampInt (-500000) 500000 (Config.piRate off (d.rdI 32 Reg.RT_RATE))
  let d := (d.wrI 32 Reg.RT_OFFSET (sat32 off)).wrI 32 Reg.RT_RATE rate
  let st := d.rd Reg.RT_STATE
  if st = 0 ∨ 1000000 < a then d.stepClock off
  else if st = 1 then
    let n := if a ≤ 20 then d.ring.inLock + 1 else 0
    if 16 ≤ n then
      ((d.wr Reg.RT_STATE 2).modRing fun r => { r with inLock := 0, outLock := 0 }).log1 0x0606 0xFFFC (ofInt 32 off)
    else d.modRing fun r => { r with inLock := n }
  else if st = 2 then
    let n := if 200 < a then d.ring.outLock + 1 else 0
    if 3 ≤ n then d.slewClock off else d.modRing fun r => { r with outLock := n }
  else if a ≤ 200 then (d.wr Reg.RT_STATE 2).modRing fun r => { r with outLock := 0 }
  else d.slewClock off

/-- A cycle frame tells the sequencer that it passed, and its cycle length (R193, R197, R289): a length outside R289 is no announcement. -/
def Dev.announce (d : Dev) (T : Nat) : Dev :=
  let good := 62500 ≤ T && T ≤ 100000000 && T % 10 = 0
  let T := if good then T else d.seq.annNs
  let d := d.modSeq fun x => { x with
    frame := true, annNs := T, lateAnn := x.lateAnn || (x.fixed && x.nextSrc = 0 && x.nextNs ≠ T && x.running) }
  d.when (d.rd Reg.SQ_LOCK = 2 && d.rd Reg.SQ_CYCLE_NS = T) fun d => d.setLock 1 T

/-! Requests in a frame (R294, R296). -/

/-- A record addressed to this node: by address, or by position under POSADDR. -/
def Dev.addressed (d : Dev) (f : Frame) (r : FrameReq) : Bool :=
  r.req.op ≠ 0 && (if f.posaddr then r.node = f.hops + 1 else d.rd Reg.RG_NODE_ADDR ≠ 0 && r.node = d.rd Reg.RG_NODE_ADDR)

/-- The requests of a frame in frame order, with their answers. -/
def Dev.frameRequests (d : Dev) (e : Env) (f : Frame) : Dev :=
  let l := f.requests.filter fun r => d.addressed f r
  l.foldl (fun d r => let d := d.request e r.req; d.modRing fun x => { x with answers := x.answers ++ [d.resp] }) d

/-! CYCLE_FRAME. -/

/-- The canopy region lies inside the process-data region (R347). -/
def Dev.regionFits (d : Dev) (f : Frame) : Bool := d.rd Reg.CN_REGION_OFFSET + 288 ≤ f.pdLen

/-- What a served frame does at its end, with a good FCS (R291), for the check c that decided. -/
def Dev.frameEnd (d : Dev) (e : Env) (f : Frame) (c : Nat) : Dev :=
  let delay := if f.portB then d.rd Reg.RT_PROP_DELAY_B else d.rd Reg.RT_PROP_DELAY
  let off := (f.tArr : Int) - (f.ringTime + delay)
  let d := d.modRing fun r => { r with served := some f.cycleIndex, passed := true }
  let d := (d.announce f.cycleNs).frameRequests e f
  let d := if c = 10 then
      let d := (d.bump 32 Reg.RP_SERVED).when (d.regionFits f) fun d => d.cnWrite f.cycleIndex
      (d.outputPart e.worn f.outputs).pdwFrame f.cycleIndex
    else d
  let d := d.when (9 ≤ c && f.ringSync && !d.canopy.timeLost) fun d => d.modSeq fun x => { x with ringSync := true }
  let d := (d.takeTime off).cyclesBegin.cnPassed f
  d.when (c = 10 && d.regionFits f) fun d => d.cnFrameEnd f

/-- A pass of a DELAY frame is stamped under its measurement number (R299); a frame that comes again ends at check 3. -/
def Dev.delayStamp (d : Dev) (portB copy : Bool) (num t : Nat) : Dev :=
  let r := d.ring
  let r : Ring := if r.stamps = num then r else { r with stamps := num, stampP := 0, stampP2 := 0, stampS := 0, stampPort := 0 }
  let r : Ring := if copy then (if r.stampS = 0 then { r with stampS := t } else r)
    else if r.stampP = 0 then { r with stampP := t, stampPort := nat01 portB }
    else if r.stampP2 = 0 then { r with stampP2 := t } else r
  ({ d with ring := r }.wr Reg.RG_LAST_CHECK 3).wr Reg.RT_DELAY_STAMPS
    (packLE [(4, r.stamps), (8, r.stampP), (8, r.stampP2), (8, r.stampS), (1, r.stampPort)])

/-- HOPS and SERVED as they leave the node (R289): HOPS incremented on a first pass that check 1 lets through, SERVED where check 8 is
reached. -/
def Dev.markPassed (d : Dev) (f : Frame) (c : Nat) : Dev :=
  d.modRing fun r => { r with
    hopsOut := if c = 1 then f.hops else (f.hops + 1) % 256, servedOut := if 8 ≤ c then (f.served + 1) % 65536 else f.served }

/-- CYCLE_FRAME (R286, R290 to R298): the first pass of a frame; a later pass of an index already served changes nothing. An isolated
node passes none (R287). -/
def execCycleFrame (f : Frame) (s : State) : Host.Outcome State Fault Refusal :=
  s.run fun e d =>
    let d := d.at f.tEnd
    if !d.forwards then d
    else
      let d := d.when (!f.fcsOk) fun d => d.fcsError f.portB f.upstream
      let d := d.when (f.ftype = 1) fun d => d.modRing fun r => { r with tFrame := f.tArr }
      let c := d.frameCheck f
      if d.isolated || (d.ring.served = some f.cycleIndex && f.ftype = 1) then d
      else if c = 3 then d.delayStamp f.portB f.copy f.cycleIndex f.tArr
      else
        let d := ((d.wr Reg.RG_LAST_CHECK c).when (2 ≤ c) fun d => d.wr Reg.RG_POSITION ((f.hops + 1) % 256)).markPassed f c
        let d := d.when (c ≤ 2) fun d => d.bump 32 Reg.RP_REFUSED
        let d := d.when (c ≠ 10) fun d => d.refuseFrame f.tArr c f.cycleIndex
        let d := (d.sealFrame f c).when (4 ≤ c && f.fcsOk) fun d => d.wrBit Reg.RP_LOOP 7 f.broken
        let d := d.modRing fun r => { r with answers := [], inputs := [], beaconOut := none, transferOut := none }
        if c < 6 then d
        else
          let r := if c = 6 then (d, List.replicate (d.rd Reg.PI_IN_LEN) 0) else if c = 9 || f.pdLen < d.rd Reg.RG_IN_OFFSET + d.rd Reg.PI_IN_LEN then (d, []) else d.inputPart e
          let d := (if f.fcsOk then r.1 else d).modRing fun x => { x with inputs := r.2 }
          if f.fcsOk then d.frameEnd e f c else d

/-- DELAY_FRAME (R299): each pass is stamped under its measurement number; it needs D5 only. -/
def execDelayFrame (portB : Bool) (copy : Bool) (num : Nat) (t : Nat) (s : State) : Host.Outcome State Fault Refusal :=
  s.run fun _ d =>
    let d := d.at t
    if !d.forwards || d.isolated then d else d.delayStamp portB copy num t

/-- FOREIGN_FRAME (R284, R285): forwarded unchanged; a wrong FCS is counted. -/
def execForeignFrame (portB : Bool) (fcsOk upstream : Bool) (t : Nat) (s : State) : Host.Outcome State Fault Refusal :=
  s.run fun _ d =>
    let d := d.at t
    if d.forwards && !fcsOk then d.fcsError portB upstream else d

/-! Ports (R283, R287). -/

/-- The link object of a port. -/
def portLink (portB : Bool) : Nat := if portB then Reg.RP_LINK_B else Reg.RP_LINK_A

/-- PORT_LINK_LOST (R283, R287): the loop closes. -/
def execPortLinkLost (portB : Bool) (t : Nat) (s : State) : Host.Outcome State Fault Refusal :=
  s.run fun _ d =>
    let d := d.at t
    if !d.forwards || d.rd (portLink portB) = 0 then d
    else
      let d := ((d.wr (portLink portB) 0).bump 32 Reg.RP_LINK_LOSSES).log1 0x0600 (portSrc portB) 0
      if bitOf (d.rd Reg.RP_LOOP) (nat01 portB) then d
      else
        let d := d.wrBit Reg.RP_LOOP (nat01 portB) true
        d.log1 0x0602 (portSrc portB) (d.rd Reg.RP_LOOP)

/-- PORT_LINK_UP (R283): the error-free time of the port begins. -/
def execPortLinkUp (portB : Bool) (t : Nat) (s : State) : Host.Outcome State Fault Refusal :=
  s.run fun _ d =>
    let d := d.at t
    if !d.forwards || d.rd (portLink portB) = 1 then d
    else
      let d := d.modRing fun r => if portB then { r with cleanB := t } else { r with cleanA := t }
      (d.wr (portLink portB) 1).log1 0x0601 (portSrc portB) 0

/-- LOOP_REOPEN (R287): the link is up and has been free of errors for 0820:08. -/
def execLoopReopen (portB : Bool) (t : Nat) (s : State) : Host.Outcome State Fault Refusal :=
  s.run fun _ d =>
    let d := d.at t
    let since := if portB then d.ring.cleanB else d.ring.cleanA
    if d.forwards && bitOf (d.rd Reg.RP_LOOP) (nat01 portB) && d.rd (portLink portB) = 1 &&
        since + d.rd Reg.RP_REOPEN_MS * 1000000 ≤ t then
      let d := d.wrBit Reg.RP_LOOP (nat01 portB) false
      d.log1 0x0603 (portSrc portB) (d.rd Reg.RP_LOOP)
    else d

/-- PDW_EXPIRED (R302): the timer has reached zero; safe trigger bit 0 acts. -/
def execPdwExpired (t : Nat) (s : State) : Host.Outcome State Fault Refusal :=
  s.run fun _ d => (d.at t).pdwExpire

end Sys2Proof.Machine
end

