-- ==== Sys2Proof/Machine/Port.lean ====
section
/-!
DEFINITION. The local SPI port (R310 to R322): window words, process values and their shadow, interrupt causes, mailbox.
-/
namespace Sys2Proof.Machine

/-- Changing the port. -/
def Dev.modPort (d : Dev) (f : Port → Port) : Dev := { d with port := f d.port }

/-- The port is served: the crown is out of reset and D7 is on (R321, R406). -/
def Dev.portOn (d : Dev) : Bool := d.crownUp && d.rd Reg.PL_RUNG = 0

/-- Setting a sticky bit of PT_STATUS. -/
def Dev.portError (d : Dev) (bit : Nat) : Dev := d.modPort fun p => { p with sticky := setBit p.sticky bit true }

/-- PT_IRQ_PEND: sticky causes and the three levels (R318). -/
def Dev.irqPend (d : Dev) : Nat :=
  (d.port.pend &&& 0x2E) + nat01 (d.noticeSummary ≠ 0) + nat01 (d.mode = SAFE) * 16 + nat01 (d.port.sticky % 16 ≠ 0) * 64

/-- The IRQ land is asserted (R318). -/
def Dev.irq (d : Dev) : Bool := d.portOn && (d.irqPend &&& d.port.mask) ≠ 0

/-- PT_STATUS (R313). -/
def Dev.portStatus (d : Dev) : Nat :=
  d.port.sticky % 16 + nat01 (d.port.mbState = 1) * 16 + nat01 (d.port.mbState = 2) * 32 + nat01 d.irq * 64 + nat01 (d.mode = INIT) * 128

/-- Word j of the process value of slot s: result word and aux word of the newest latched record (R314). -/
def valueWord (w a j : Nat) : Nat :=
  match j with
  | 0 => w % 65536
  | 1 => w / 65536 % 65536
  | 2 => a % 65536
  | _ => a / 65536 % 65536

/-- A read of a LO word takes the shadow (R316). -/
def Dev.takeShadow (d : Dev) (k tick : Nat) : Dev × Nat :=
  let v := (d.slot k).shown.getD (0, 0)
  (d.modPort fun p => { p with shadow := some (k, v.1, v.2, tick), shadowSeq := p.seq }, valueWord v.1 v.2 0)

/-- A read of a HI or aux word: from a shadow of the slot no more than 50 ticks old, else live with TORN (R316). -/
def Dev.serveShadow (d : Dev) (k j tick : Nat) : Dev × Nat :=
  let live := (d.slot k).shown.getD (0, 0)
  match d.port.shadow with
  | some (s, w, a, t0) =>
    if s = k ∧ tick ≤ t0 + 50 ∧ t0 ≤ tick + 50 then (d, valueWord w a j) else (d.portError 0, valueWord live.1 live.2 j)
  | none => (d.portError 0, valueWord live.1 live.2 j)

/-- A READ of one window word (R311, R312). A write-only word holds no value: what it reads as is free. -/
def Dev.portRead (d : Dev) (a tick : Nat) : Dev × Nat :=
  if 0x100 ≤ a ∧ a < 0x300 then
    let k := (a - 0x100) / 4
    if (a - 0x100) % 4 = 0 then d.takeShadow k tick else d.serveShadow k ((a - 0x100) % 4) tick
  else if 0x20 ≤ a ∧ a < 0x30 then (d, d.port.req.getD (a - 0x20) 0)
  else if 0x30 ≤ a ∧ a < 0x40 then (d, d.port.rsp.getD (a - 0x30) 0)
  else match a with
    | 0 => (d, d.portStatus)
    | 1 => (d, d.port.seq)
    | 2 => (d, d.port.shadowSeq)
    | 3 => (d, d.irqPend)
    | 4 => (d, d.port.mask)
    | 5 => (d.took, d.freeNat 16)
    | 0x10 => (d.took, d.freeNat 16)
    | 0x11 => (d, d.port.mbState)
    | _ => (d.portError 1, 0)

/-- The request record in the words of the request buffer (R256, R312): NODE, and the request. -/
def mailRequest (ws : List Nat) (t : Nat) : Nat × Request :=
  let v := ofBytesLE (ws.flatMap fun w => bytesLE 2 w)
  let f := fun (lo n : Nat) => v / 2 ^ lo % 2 ^ n
  (f 0 8, {
    id := f 8 8, seq := f 16 16, op := f 32 8, len := f 40 8, ix := f 48 16, sub := f 64 8, segment := f 72 8, hnd := f 80 16,
    total := f 96 16, data := f 128 128, t := t })

/-- A response record as words (R257, R312). -/
def mailWords (node : Nat) (r : Resp) : List Nat :=
  let v := packLE [(1, node), (1, r.id), (2, r.seq), (1, r.op), (1, r.len), (2, r.status), (1, r.epoch), (1, r.segment), (2, 0),
    (4, r.detail), (16, r.data)]
  (List.range 16).map fun k => v / 2 ^ (16 * k) % 65536

/-- A write of PT_MB_CTRL (R319): the request runs and its response is written; DONE raises its cause. -/
def Dev.mailSubmit (d : Dev) (e : Env) (v : Nat) : Dev :=
  if d.port.mbState = 1 ∨ v ≠ 1 then d.portError 1
  else
    let (node, q) := mailRequest d.port.req d.now
    let d := d.request e q
    if !d.crownUp then d
    else d.modPort fun p => { p with mbState := 2, rsp := mailWords node d.resp, pend := setBit p.pend 1 true }

/-- A WRITE of one window word (R312, R313, R318, R320). -/
def Dev.portWrite (d : Dev) (e : Env) (a v : Nat) : Dev :=
  if 0x20 ≤ a ∧ a < 0x30 then
    if d.port.mbState = 1 then d.portError 1
    else d.modPort fun p => { p with req := p.req.set (a - 0x20) (v % 65536) }
  else match a with
    | 0 => d.modPort fun p => { p with sticky := p.sticky &&& (0xF ^^^ (v &&& 0xF)) }
    | 4 => d.modPort fun p => { p with mask := v % 65536 }
    | 5 => d.modPort fun p => { p with pend := p.pend &&& (0x2E ^^^ (v &&& 0x2E)) }
    | 0x10 => d.mailSubmit e v
    | _ => d.portError 1

/-- A READ frame of n words from an address (R311). -/
def Dev.readFrame (d : Dev) (a n tick : Nat) : Dev :=
  let d := d.modPort fun p => { p with out := [] }
  d.each (List.range n) fun d i =>
    let r := d.portRead ((a + i) % 65536) tick
    r.1.modPort fun p => { p with out := p.out ++ [r.2] }

/-- A WRITE frame of words from an address (R311). -/
def Dev.writeFrame (d : Dev) (e : Env) (a : Nat) (ws : List Nat) : Dev :=
  ((ws.foldl (fun (p : Dev × Nat) v => (p.1.portWrite e (p.2 % 65536) v, p.2 + 1)) (d, a))).1

/-- Only where the port is served (R321); elsewhere the frame is lost, and the wake that its falling edge of CSN gives is a WAKE command. -/
def State.port (f : Env → Dev → Dev) (t : Nat) (s : State) : Host.Outcome State Fault Refusal :=
  s.run fun e d =>
    let d := d.at t
    if d.portOn then f e d else d

/-- SPI_READ (R311): a word whose first bit is driven counts as read, also where CSN rises inside it. -/
def execSpiRead (addr words : Nat) (cutShort : Bool) (tick t : Nat) (s : State) : Host.Outcome State Fault Refusal :=
  s.port (fun _ d => (d.readFrame addr words tick).when cutShort (·.portError 3)) t

/-- SPI_WRITE (R311): an incomplete last word is discarded and sets FRAME_ERR. -/
def execSpiWrite (addr : Nat) (data : List Nat) (cutShort : Bool) (t : Nat) (s : State) : Host.Outcome State Fault Refusal :=
  s.port (fun e d => (d.writeFrame e addr (if cutShort then data.dropLast else data)).when cutShort (·.portError 3)) t

/-- PT_VALUE_LO_READ (R316). -/
def execPtValueLoRead (h : SlotNo) (tick t : Nat) (s : State) : Host.Outcome State Fault Refusal :=
  s.port (fun _ d => d.readFrame (0x100 + 4 * h) 1 tick) t

/-- PT_VALUE_HI_READ (R316): HI, aux LO or aux HI. -/
def execPtValueHiRead (h : SlotNo) (j : Fin 3) (tick t : Nat) (s : State) : Host.Outcome State Fault Refusal :=
  s.port (fun _ d => d.readFrame (0x101 + 4 * h + j) 1 tick) t

/-- PT_STATUS_WRITE (R313). -/
def execPtStatusWrite (v : Nat) (t : Nat) (s : State) : Host.Outcome State Fault Refusal :=
  s.port (fun e d => d.portWrite e 0 v) t

/-- PT_IRQ_ACK (R318). -/
def execPtIrqAck (v : Nat) (t : Nat) (s : State) : Host.Outcome State Fault Refusal :=
  s.port (fun e d => d.portWrite e 5 v) t

/-- PT_MB_CTRL (R319). -/
def execPtMbCtrl (v : Nat) (t : Nat) (s : State) : Host.Outcome State Fault Refusal :=
  s.port (fun e d => d.portWrite e 0x10 v) t

end Sys2Proof.Machine
end

