-- ==== Sys2Proof/Machine/Boundary.lean ====
section
/-!
DEFINITION. The cycle boundary (R52, R191, R197, R202, R206, R271): what the ending cycle leaves, the staged work in its order, and the
cycle that starts.
-/
namespace Sys2Proof.Machine

/-! Staged work. -/

/-- A staged trim change or calendar value, which carries its source. -/
def Entry.isValue (x : Entry) : Bool := x.aux ≠ 0

/-- The staged commands in the order they act: bank requests before the handles' commands (R116), else as accepted. -/
def stagedOrder (l : List Entry) : List Entry :=
  let l := l.filter fun x => !x.isValue && x.id < 256
  l.filter Entry.bankCmd ++ l.filter fun x => !x.bankCmd

/-- A staged command acts, or is dropped (R52); a dropped urgent request ends with BUSY. BR_RELEASE acts in the branches whose condition
still holds (R340). -/
def Dev.stagedCommand (d : Dev) (w : Worn) (x : Entry) : Dev :=
  if x.key = Reg.BR_RELEASE ∨ d.supervisionBank x = true ∨ d.entryCheck w x = OK then d.applyEntry w x
  else
    let d := d.bump 32 Reg.HM_CMD_DROPPED
    d.when (isHandleIx x.ix && x.sub = 0x1E) fun d => d.urgentDone [(x.id, x.seq)] BUSY

/-- One due transaction: a late CN_APPLY_AT is reported (R351). -/
def Dev.dueTxn (d : Dev) (w : Worn) (t : Nat) (l : List Entry) (x : Txn) : Dev :=
  let late := match x.applyAt with
    | some a => decide (d.startingIndex t ≠ a)
    | none => false
  (d.when late fun d => d.log1 0x070C 0xFFF7 (x.applyAt.getD 0)).applyTxn w l x

/-- The staged trims that reached the crown before transaction num (R151), applied to their live handles. -/
def Dev.stagedTrims (d : Dev) (w : Worn) (l : List Entry) : Dev :=
  d.each l fun d x => if d.isLive x.hnd then d.applyEntry w x else d

/-- Transactions in number order, with the trims of captures and buttons between them as they came (R151, R270); all holds every entry
that reaches the boundary. -/
def Dev.applyDue (d : Dev) (w : Worn) (t : Nat) (all trims : List Entry) : List Txn → Dev
  | [] => d.stagedTrims w trims
  | x :: l =>
    let d := d.stagedTrims w (trims.filter fun y => y.cyc ≤ x.num)
    Dev.applyDue (d.dueTxn w t all x) w t all (trims.filter fun y => x.num < y.cyc) l

/-- A process-data value takes its place at the boundary (R202, R277). -/
def Dev.stagedOutput (d : Dev) (w : Worn) (x : Entry) : Dev :=
  if d.entryCheck w x = OK then d.writeOutput (slotOf x.ix) x.key x.val else d.pdDenied

/-- A trim that a capture or a button staged. -/
def Entry.isTrim (x : Entry) : Bool := x.isValue && isHandleIx x.ix

/-- Everything staged for the boundary t: the commands, the transactions due, the commands that act last, the outputs. Staged trims wait
while the housekeeping core is in reset (R26). -/
def Dev.stagedWork (d : Dev) (w : Worn) (t : Nat) : Dev :=
  let l := d.staged
  let due := d.txns.filter fun x => d.txnDue t x
  let trims := l.filter Entry.isTrim
  let cmds := stagedOrder l
  let all := cmds ++ due.flatMap (·.entries)
  let last := fun (x : Entry) => d.actsLast all x
  let d := ({ d with staged := if d.coreUp then [] else trims } : Dev).each (cmds.filter fun x => !last x) fun d x => d.stagedCommand w x
  let d := d.applyDue w t all (if d.coreUp then trims else []) due
  let applied := due.filter fun x => d.journal.any fun p => p.1 = x.num && p.2.2 = 3
  let d := d.each ((cmds ++ applied.flatMap (·.entries)).filter last) fun d x => d.stagedCommand w x
  d.each (l.filter fun x => !x.isValue && 256 ≤ x.id) fun d x => d.stagedOutput w x

/-! Adoption of an image (R362). -/

/-- One handle of the image: its slot, generation and create record, in state CREATED. -/
def Dev.adoptHandle (d : Dev) (k v : Nat) : Dev :=
  if v = 0 ∨ d.hst k ≠ 0 then d
  else
    let d := d.setSlot k { gen := v % 65536 / 128 }
    (d.createAt k (v / 65536)).modCn fun c => { c with made := c.made + 1 }

/-- The image the joiner has received. -/
def Dev.adoptImage (d : Dev) : Option (List Nat) := (d.canopy.rx.find? fun x => x.key = 16 + d.cnRank).map Rx.image

/-- The values of an image: digest objects, power-up postures, handles with drivers before observers, safe postures. -/
def Dev.adoptValues (d : Dev) (img : List Nat) : Dev :=
  let body := img.drop digestLen
  let view := fun (k : Nat) => ofBytesLE ((body.drop (4 * k)).take 4)
  let five := fun (a : Nat) => (body.getD a 0, ofBytesLE ((body.drop (a + 1)).take 4))
  let d := d.each (readDigest digestObjects (img.take digestLen)) fun d p => d.wr p.1 p.2
  let d := d.each (List.range 16) fun d n => (d.wr (Reg.PUP_CODE n) (five (1152 + 5 * n)).1).wr (Reg.PUP_VALUE n) (five (1152 + 5 * n)).2
  let obs := fun (k : Nat) => bitOf (view k / 65536) 8
  let d := d.each ((List.range 128).filter fun k => !obs k) fun d k => d.adoptHandle k (view k)
  let d := d.each ((List.range 128).filter obs) fun d k => d.adoptHandle k (view k)
  d.each ((List.range 128).filter fun k => view k ≠ 0 && d.hst k = CREATED) fun d k =>
    (d.wr (Reg.HND_POSTURE k) (five (512 + 5 * k)).1).wr (Reg.HND_POSTURE_VALUE k) (five (512 + 5 * k)).2

/-- The adopted image is applied as one journalled transaction at the first boundary after both passes. -/
def Dev.adoptAtBoundary (d : Dev) : Dev :=
  if !d.canopy.ready || !d.mayWrite || !d.coreUp then d
  else match d.adoptImage with
    | none => d
    | some img =>
      let (d, n) := d.issueTxn
      let d := (d.modCn fun c => { c with ready := false, made := 0 }).adoptValues img
      (d.journalPut n 0 3).wr Reg.GU_ATOM_LAST_TXN n

/-! The boundary. -/

/-- A transaction misses its boundary (R203 bit 7): accepted in cycle i, not complete before boundary i + 2. -/
def Dev.journalBreach (d : Dev) : Dev :=
  let late := fun (cyc : Nat) (done : Bool) =>
    let n := d.boundariesSince cyc
    2 ≤ n && n < 2 ^ 31 && (!done || 3 ≤ n)
  let b := (d.txns.any fun x => x.st = 2 && x.applyAt.isNone && late x.cyc x.done) ||
    d.deferred.any fun f => f.e.key = Reg.TX_COMMIT && late f.e.cyc false
  d.when (d.det && d.atom && b) (·.breach 7)

/-- Ring time in a cycle that ends without a frame (R298). -/
def Dev.timeHoldover (d : Dev) : Dev :=
  (d.when (d.rd Reg.RT_STATE = 2 && !d.ring.passed) fun d => d.wr Reg.RT_STATE 3).modRing fun r => { r with passed := false }

/-- The end of a recovery (R207): reported once, at the first boundary, with what it applied. -/
def Dev.recovered (d : Dev) : Dev :=
  if d.recover then ({ d with recover := false }.bump 32 Reg.GU_ATOM_RECOVERIES).log1 0x0288 0xFFF9 (d.rd Reg.GU_ATOM_LAST_TXN) else d

/-- The supply settings of the branches that the crown configures (R333, R416). -/
def Dev.sendSupply (d : Dev) : Dev :=
  d.each [0, 1, 2, 3] fun d b => if d.linked b && !(d.branch b).mismatch then d.supplySettings b else d

/-- The work of the boundary t between the cycle that ends and the one that starts. -/
def Dev.boundaryWork (d : Dev) (w : Worn) (t : Nat) : Dev :=
  let d := (d.withDigests fun d => (d.stagedWork w t).adoptAtBoundary).recovered.sendSupply
  let d := ((d.refEnds t).originsAt t).each (List.range 32) fun d i => d.startPending i
  (d.atSafePoint.ucAtBoundary).cnBoundary

/-- A ring sync and the SYNC land at the boundary t (R124, R301). -/
def Dev.boundarySync (d : Dev) (t : Nat) : Dev :=
  let sync := d.seq.ringSync
  let d := d.modSeq fun x => { x with ringSync := false }
  let d := d.when sync fun d => (d.bump 32 Reg.SY_RING_SYNCS).syncGroups (d.rd Reg.FE_RING_SYNC_MASK) 0 t
  let mode := d.rd Reg.SY_LAND_MODE
  d.when (mode = 1 || (mode = 2 && sync)) fun d => d.modRing fun r => { r with pulse := t + d.rd Reg.SY_PULSE_NS }

/-- Calendar values written under FREE time: ring time takes the value (R384). -/
def Dev.boundaryCalendar (d : Dev) (w : Worn) (l : List Entry) : Dev :=
  d.each (l.filter fun x => x.isValue && x.key = Reg.CAL_TIME) fun d x => d.applyEntry w x

/-- CYCLE_BOUNDARY (R191, R197, R202, R206, R271). -/
def execCycleBoundary (t : Nat) (s : State) : Host.Outcome State Fault Refusal :=
  s.run fun e d =>
    let d := d.at t
    if !d.crownUp || d.mode = INIT || d.rd Reg.PL_RUNG ≠ 0 then d
    else
      let l := d.staged
      let d := ((d.cnCycleEnd.timeHoldover).journalBreach).endCycle
      (((d.boundaryWork e.worn t).startCycle t).boundarySync t).boundaryCalendar e.worn l

end Sys2Proof.Machine
end

