-- ==== Sys2Proof/Machine/Power.lean ====
section
/-!
DEFINITION. Supplies, branch states, the power ladder, crown starts and resets (R396 to R414), with the restore of R59, R111 and R207.
-/
namespace Sys2Proof.Machine

/-! The crown supply (R397, R398, R401). -/

/-- VIN_VALID (R397): the power-on reset is released; a start after VIN was absent has code 1 (R413). -/
def execVinValid (t : Nat) (s : State) : Host.Outcome State Fault Refusal :=
  s.run fun _ d =>
    let d := d.at t
    if d.vinValid then d
    else if d.vinAbsent then { d with vinValid := true, vinAbsent := false, cause := 1, rungWas := 5 }
    else { d with vinValid := true }

/-- PWR_WARN_SET (R398): a dip begins; at RUN the warning flush starts at once. -/
def execPwrWarnSet (t : Nat) (s : State) : Host.Outcome State Fault Refusal :=
  s.run fun _ d =>
    let d := d.at t
    if !d.vinValid || d.warn then d
    else { d with warn := true, tWarn := some t }.when (d.crownUp && d.coreUp && d.rd Reg.PL_RUNG = 0) (·.warnFlush)

/-- A dip is recorded (R398): lowest VIN, duration, its begin, DIPS, event 0x0101. -/
def Dev.logDip (d : Dev) (p : Nat × Nat × Nat) : Dev :=
  let d := ((d.wr Reg.PWR_DIP_MIN p.1).wr Reg.PWR_DIP_TIME (min (2 ^ 32 - 1) p.2.1)).wr Reg.PWR_DIP_AT p.2.2
  (d.modLife fun m => { m with dips := m.dips + 1 }).log1 0x0101 0xFFFF (min 65535 p.2.1 + p.1 % 65536 * 65536)

/-- The dips that D0 measured below RUN are logged (R398). -/
def Dev.logDips (d : Dev) : Dev := ({ d with dipsD0 := [] } : Dev).each d.dipsD0 fun d p => d.logDip p

/-- The warning flush of a dip is reported after recovery (R377). -/
def Dev.logWarnFlush (d : Dev) : Dev :=
  match d.heart.warnFlushed with
  | none => d
  | some n => ({ d with heart := { d.heart with warnFlushed := none } }).log1 0x0803 0xFFFD n

/-- PWR_WARN_CLEARED (R398): waiting writes go on, and the dip is logged, below RUN at the next RUN. -/
def execPwrWarnCleared (minMv us t : Nat) (s : State) : Host.Outcome State Fault Refusal :=
  s.run fun _ d =>
    let d := d.at t
    if !d.warn || !d.vinValid then d
    else
      let dip := d.tWarn.map fun t0 => (minMv, us, t0)
      let d := { d with warn := false, tWarn := none }
      if d.crownUp && d.rd Reg.PL_RUNG = 0 then
        let d := d.resumeWrites.logWarnFlush
        match dip with
        | none => d
        | some p => d.logDip p
      else { d with dipsD0 := d.dipsD0 ++ dip.toList }

/-- BROWN_OUT (R397, R413): a dip that ends so is none (R398). -/
def execBrownOut (t : Nat) (s : State) : Host.Outcome State Fault Refusal :=
  s.run fun _ d =>
    let d := d.at t
    if !d.vinValid then d else { d.crownDown 2 with vinValid := false, tWarn := none }

/-- VIN_ABSENT (R397, R406): the crown is at KEEP, whatever it was commanded. -/
def execVinAbsent (t : Nat) (s : State) : Host.Outcome State Fault Refusal :=
  s.run fun _ d =>
    let d := (d.at t).crownDown 1
    { d with vinValid := false, vinAbsent := true, tWarn := none, rungWas := 5 }

/-- VBAK as measured (R401): the event on the rise of VBAK_LOW. -/
def Dev.measureVbak (d : Dev) (mv : Nat) : Dev :=
  let was := bitOf (d.rd Reg.PWR_FLAGS) 3
  let d := (d.wr Reg.PWR_VBAK (mv % 65536)).wrBit Reg.PWR_FLAGS 3 (decide (mv < 2200))
  d.when (mv < 2200 && !was) fun d => d.log1 0x0104 0xFFFF mv

/-- VBAK_MEASURE (R401). -/
def execVbakMeasure (mv t : Nat) (s : State) : Host.Outcome State Fault Refusal :=
  s.run fun _ d => (d.at t).when d.crownUp fun d => d.measureVbak mv

/-- VBAK_LOST (R383, R401): D0 has no supply left; the calendar is INVALID. -/
def execVbakLost (t : Nat) (s : State) : Host.Outcome State Fault Refusal :=
  s.run fun _ d => (d.at t).when d.vinAbsent fun d => d.wr Reg.CAL_STATE 0

/-- RSTN (R413). -/
def execRstn (t : Nat) (s : State) : Host.Outcome State Fault Refusal := s.run fun _ d => (d.at t).crownDown 3

/-- CLOCK_LOSS (R413): seen where the 25 MHz clock runs. -/
def execClockLoss (t : Nat) (s : State) : Host.Outcome State Fault Refusal :=
  s.run fun _ d => (d.at t).when (d.crownUp && d.rd Reg.PL_RUNG ≤ 1) fun d => d.crownDown 4

/-! Crown start (R412). -/

/-- VIO and its class (R400): 200 MHz, 100 MHz, or VIO_FAULT. -/
def Dev.measureVio (d : Dev) (mv : Nat) : Dev :=
  let low := 1650 ≤ mv && mv ≤ 1950
  let high := 3000 ≤ mv && mv ≤ 3600
  let d := (d.wr Reg.PWR_VIO (mv % 65536)).wrBit Reg.PWR_FLAGS 1 high
  if low then d.wr Reg.QM_XSPI_CLOCK 200
  else if high then d.wr Reg.QM_XSPI_CLOCK 100
  else { (d.wrBit Reg.PWR_FLAGS 2 true).log1 0x0103 0xFFFF mv with stuck := true }

/-- The probes of the external memories (R239, R242): NOR flash with its size where it answers, then PSRAM of 8 MiB to 64 MiB, 0 where
there is none. -/
def Dev.probe (d : Dev) (nor : Option Nat) (psram : Nat) : Dev :=
  if d.rd Reg.QM_XSPI_CLOCK = 0 then d
  else
    let d := match nor with
      | some size => (d.wr Reg.QM_NOR_STATE 1).wr Reg.QM_NOR_SIZE (size % 2 ^ 32)
      | none => { (d.wr Reg.QM_NOR_STATE 2).log1 0x050D 0x53 3 with stuck := true }
    if psram = 0 then d
    else if 8388608 ≤ psram ∧ psram ≤ 67108864 then
      ((d.wr Reg.QM_PSRAM_STATE 1).wr Reg.QM_PSRAM_RAW psram).wr Reg.QM_PSRAM_USABLE (usableOf psram)
    else (d.wr Reg.QM_PSRAM_STATE 2).log1 0x050D 0x52 3

/-- The housekeeping images (R32, R388, R390): an unconfirmed image has gone back; the active bank must pass, else the other. -/
def Dev.bootImages (d : Dev) (ok0 ok1 : Bool) : Dev :=
  let back := d.graft.rollback
  let d := { d with graft := { d.graft with rollback := false } }
  let d := if back then
      ((d.wr Reg.GR_HK_STATE 7).wr Reg.GR_HK_REFUSE 7).log1 0x0814 0xFFFE (d.graft.bank d.graft.active).hdr.version
    else d
  let a := d.graft.active
  let ok := fun (i : Nat) => if i = 0 then ok0 else ok1
  if ok a then { d with coreUp := true }
  else
    let g := d.graft.setBank a { d.graft.bank a with valid := false }
    let d := ({ d with graft := g }.log1 0x0815 0xFFFE a)
    let d := (d.wr Reg.SPR_IMAGES d.validImages).setMaint 4
    if ok (1 - a) then { d with coreUp := true, graft := { d.graft with active := 1 - a } } else { d with stuck := true }

/-- The queues that stay enabled through a crown start are reset with reason 3 (R207, R228); a spill channel is IDLE, so its queue runs
with its segment alone until it is disabled and enabled (R233, R245). -/
def Dev.restoreQueues (d : Dev) : Dev :=
  let qs := (List.range 64).filter fun q => d.rd (Reg.QU_ENABLE q) = 1
  let d := d.each qs fun d q =>
    let d := d.modQueue q fun x => { x with cap := d.segSize q }
    (d.wr (Reg.QU_STATE q) 1).wr Reg.QM_SRAM_FREE (d.rd Reg.QM_SRAM_FREE - d.segSize q)
  d.resetQueues 3

/-- The crown starts (R412): ring time from the calendar, supplies, probes, images, restored counters, volatile state afresh. -/
def Dev.crownBoot (d : Dev) (vio vbak : Nat) (nor : Option Nat) (testHigh : Bool) (psram : Nat) (ok0 ok1 : Bool) (failed : List Nat) : Dev :=
  let lost := d.rd Reg.CAL_STATE = 0
  let d := { d with crownUp := true, warn := true, tWarn := none, stuck := testHigh, testHigh := testHigh }
  let d := (d.at (if lost then 0 else d.now)).wr Reg.PWR_RESET_CAUSE d.cause
  let d := d.each failed fun d l => d.lineFails l
  let d := d.restoreLife.modLife fun m => if d.cause = 1 then { m with powerUps := m.powerUps + 1 } else { m with resets := m.resets + 1 }
  let d := d.when lost fun d => d.log1 0x0808 0xFFFD 0
  let d := ((d.measureVio vio).measureVbak vbak).probe nor psram
  let d := (d.bootImages ok0 ok1).wr Reg.WD0_STATE 1
  let d := { d with wd0 := { start := d.now } }
  let d := d.restoreQueues
  let d := ((d.wr Reg.PI_OUT_LEN (d.mapBytes true)).wr Reg.PI_IN_LEN (d.mapBytes false)).cnRestart
  match d.wakeD0 with
  | none => d.logDips
  | some n => ((({ d with wakeD0 := none }).wr Reg.PL_LAST_WAKE n).log1 0x0109 0xFFFF (5 + n * 256)).logDips

/-- CROWN_START (R368, R412): VIN is valid and the crown is not at KEEP; failed names the heartwood lines whose CRC fails as the crown reads
them. -/
def execCrownStart (vio vbak : Nat) (nor : Option Nat) (testHigh : Bool) (psram : Nat) (bank0 bank1 : Bool) (failed : List Nat) (t : Nat)
    (s : State) : Host.Outcome State Fault Refusal :=
  let d := s.dev.at t
  if d.crownUp || !d.vinValid || d.asleep then .next { s with dev := d }
  else
    let d := d.crownBoot vio vbak nor testHigh psram bank0 bank1 failed
    .next { s with dev := d, worn := s.worn.loseCal d.heart.failed }

/-! The restore (R59, R111, R207). -/

/-- The state a handle's converting follows: its recorded state, behind SAFE and LATCHED the prior one. -/
def Dev.recorded (d : Dev) (k : Nat) : Nat := if d.hst k = HSAFE ∨ d.hst k = LATCHED then (d.slot k).prior else d.hst k

/-- One bank of a unit is checked against its recorded CRC (R111): a TARGET is READY again; a bank that fails is FREE, and bank A stands
in for an ACTIVE one. -/
def Dev.restoreBank (d : Dev) (h i k : Nat) : Dev :=
  let d := d.when (d.bank i k = 3) fun d => d.setBank i k 1
  let st := d.bank i k
  if st = 0 || d.bankCrc i k = d.rd (Reg.BK_CRC i k) then d
  else
    let d := (d.setBank i k 0).log1 0x0417 h k
    if st ≠ 2 then d
    else
      let d := d.bankAReset i
      d.when (h ≠ 0 && d.isDriver (h % 128)) fun d => d.safeTrigger (h % 128) 5

/-- The banks of a unit are checked again, and FI_BANKS is formed (R111). -/
def Dev.restoreBanks (d : Dev) (h i : Nat) : Dev :=
  let d := d.each [0, 1, 2] fun d b => d.restoreBank h i b
  d.setBank i 0 (d.bank i 0)

/-- The unit of a live handle: bound, its banks checked, its load reserved; it runs while its handle is RUNNING or SAFE (R40). -/
def Dev.restoreUnit (d : Dev) (k : Nat) : Dev :=
  let i := d.unitOf k
  if !measuring (d.kind k) || 32 ≤ i then d
  else
    let h := d.rd (Reg.HND_ID k)
    let st := d.recorded k
    let d := (d.wr (Reg.FI_HANDLE i) h).wr (Reg.FI_STATE i) (if d.hst k = RUNNING ∨ d.hst k = HSAFE then 2 else 1)
    let d := (d.restoreBanks h i).when (d.isDriver k || d.kind k = 7) (·.mainsStart k)
    let d := d.when (ARMED ≤ st) fun d =>
      (d.modInst i fun x => { x with armed := true }).setLoad i (d.cfg i (d.active i)).load 0
    d.refreshUnit i

/-- The branches that are adopted with a driver handle (R54). -/
def Dev.adoptedDrivers (d : Dev) : Bool :=
  [0, 1, 2, 3].any fun b => d.link b = 1 && !(d.branch b).mismatch && d.branchDrivers b ≠ []

/-- Everything the restore does at its end (R412): DR_EPOCH counts on, recovered transactions, filter units, branches, mode and events. -/
def Dev.restored (d : Dev) (w : Worn) : Dev :=
  let d := d.wr Reg.DR_EPOCH ((d.rd Reg.DR_EPOCH + 1) % 256)
  let d := ({ d with discarded := [] } : Dev).each d.discarded fun d p => d.log1 0x0289 p.2 p.1
  let d := { d with coef := d.coefNor, coefBad := [] }
  let used := d.unitsUsed
  let d := d.each ((List.range 32).filter fun i => !used.contains i) fun d i => d.restoreBanks 0 i
  let d := d.each d.liveSlots fun d k => d.restoreUnit k
  let d := d.each [0, 1, 2, 3] fun d b => if d.link b = 1 then d.adopt w b else d
  let d := if d.adoptedDrivers then (d.wr Reg.DEV_STATE HOLD).pdwRun else d.wr Reg.DEV_STATE PREOP
  let d := { d.log1 0x0100 0xFFFF (d.cause + d.rungWas * 256) with recover := d.atom }
  (d.modSeq fun x => { x with breach := 0 }).wd1Start.cyclesBegin

/-- RESTORE_COMPLETE (R54, R59, R412): not while something keeps the module in INIT. -/
def execRestoreComplete (t : Nat) (s : State) : Host.Outcome State Fault Refusal :=
  s.run fun e d =>
    let d := d.at t
    if d.crownUp && d.mode = INIT && d.coreUp && !d.stuck then d.restored e.worn else d

/-- HOUSEKEEPING_CORE_RESET_END (R328): W0 in NORMAL with a new cycle; deferred work resumes. -/
def execHousekeepingCoreResetEnd (t : Nat) (s : State) : Host.Outcome State Fault Refusal :=
  s.run fun _ d =>
    let d := d.at t
    if d.crownUp && !d.coreUp && d.rd Reg.GR_HK_STATE ≠ 5 && !d.stuck then d.coreBack.wr Reg.WD0_STATE 1 else d

/-! Branch supplies (R402 to R405, R410). -/

/-- BRANCH_START (R402, R404): the branch reads its store; nothing turns on before VFb is valid. -/
def execBranchStart (b : BranchNo) (t : Nat) (s : State) : Host.Outcome State Fault Refusal :=
  s.run fun _ d =>
    let d := d.at t
    let x := d.branch b
    if x.power ≠ 0 then d
    else d.setBranch b { x with
      power := 1, startLock := true, offCnt := (x.offCnt + 1) % 2 ^ 32, offS := x.tOff.map fun t0 => (t - t0) / 1000000000 }

/-- The power-up posture of one channel acts (R60, R61, R136), whatever the crown knows. -/
def Dev.pupApply (d : Dev) (w : Worn) (n : Nat) : Dev :=
  let code := d.rd (Reg.PUP_CODE n)
  let d := d.modChan n fun c => { c with pup := true, safeOn := false, due := false }
  if code = 7 then d
  else
    let v : OutVal := match code with
      | 1 => { cmd := 1 }
      | 3 => { nA := d.rd (Reg.PUP_VALUE n) }
      | 4 => { nA := 3600000 }
      | 5 => { nA := 21000000 }
      | 6 => { cmd := 1 }
      | _ => {}
    let free := (d.drvP n).isNone
    let d := if free && (code = 1 || code = 6) then
        (d.modChan n fun c => { c with set := { c.set with pair := code = 6 } }).when (code = 6) fun d =>
          d.modChan (n + 1) fun c => { c with set := { c.set with pair := true } }
      else d
    let switch := match d.drvP n with
      | some k => isSwitch (d.kind k)
      | none => code = 1 || code = 6 || (d.chan n).state ≠ swOFF
    if switch then d.swRequest w (d.lead n) v
    else (d.modChan n fun c => { c with force := v, target := v.nA, txOn := false, drive := c.driveFor v.nA }).alarmMark n

/-- VFB_VALID (R61, R404): the start lock ends; the power-up postures act. -/
def execVfbValid (b : BranchNo) (t : Nat) (s : State) : Host.Outcome State Fault Refusal :=
  s.run fun e d =>
    let d := d.at t
    let x := d.branch b
    if x.power = 0 || !x.startLock then d
    else
      (d.setBranch b { x with startLock := false, valid := true }).each (List.range 4) fun d i => d.pupApply e.worn (4 * b + i)

/-- The channels of a branch whose state is their own, or their pair's. -/
def Dev.leads (d : Dev) (b : Nat) : List Nat := ((List.range 4).map fun i => 4 * b + i).filter fun n => d.lead n = n

/-- UNDER_VOLTAGE_LOCK (R25, R163, R404): every switch off, remainders and latches kept; a protection word reports it. -/
def execUnderVoltageLock (b : BranchNo) (vf t : Nat) (s : State) : Host.Outcome State Fault Refusal :=
  s.run fun _ d =>
    let d := d.at t
    let x := d.branch b
    if x.power = 0 || x.startLock || x.uvlo then d
    else
      let d := d.setBranch b { x with uvlo := true, valid := false }
      let d := (d.each (d.leads b) fun d n => d.swLock n).bump 32 (Reg.VF_UVLO_COUNT b)
      d.protect (4 * b) 0x0112 vf

/-- LOCK_RELEASED (R404): the resume policy that the branch holds decides. -/
def execLockReleased (b : BranchNo) (ms t : Nat) (s : State) : Host.Outcome State Fault Refusal :=
  s.run fun e d =>
    let d := d.at t
    let x := d.branch b
    if x.power = 0 || !x.uvlo then d
    else
      let d := d.setBranch b { x with uvlo := false, valid := true }
      let d := d.report (4 * b) 0x0113 (0xFFF0 + b) (min 65535 ms + x.uvPol % 2 * 65536)
      d.each ((d.leads b).filter fun n => (d.chan n).state = swOFF) fun d n =>
        if x.uvPol = 0 then d.swFromOff e.worn n else d.modChan n fun c => { c with stayOff := true }

/-- What an OFF leaves of a channel (R149, R183, R405): the latched states, the settings and calibration of the store. -/
def Chan.offState (c : Chan) (now : Nat) : Chan :=
  { c with
    staged := {}, force := {}, pup := false, due := false, safeOn := false, state := if swLatched c.state then c.state else swOFF,
    flags := 0, tOff := some now, tries := 0, inSeq := false, stayOff := false, dAct := 0, onTicks := 0, open3 := 0, short3 := 0, ok3 := 0, clampEnd := none,
    iOut := 0, rises := 0, falls := 0, tRise := 0, tFall := 0, live := false, compWire := false, compShort := false, wireBrk := false, short := false, target := 0, drive := 0, lpSt := 0, subst := false, subDue := false, ackDue := false, txOn := false,
    txOff := false, txLim := false, resP := none, resC := none, resT := none, inc := {} }

/-- BRANCH_OFF (R402, R405): outputs off, counters and link state lost. -/
def execBranchOff (b : BranchNo) (t : Nat) (s : State) : Host.Outcome State Fault Refusal :=
  s.run fun _ d =>
    let d := d.at t
    let x := d.branch b
    if x.power = 0 then d
    else
      let d := (d.calAbandon b).setBranch b { x with
        power := 0, startLock := false, valid := false, uvlo := false, warn := false, high := false, tOff := some t, linkUp := false,
        holding := false, postured := false, parked := false, configured := false, buf := [], toCrown := [], toBranch := [], nackUp := 0,
        nackDown := 0, refReady := false, refinFault := false, refEnd := false, tempWarn := false, gone := [], trim := 0,
        refMeasA := 0, refMeasB := 0, refT := 0, zeroT := 0, cal := none, calLast := none, driftDue := none, joinT := none }
      (d.each (List.range 4) fun d i => (d.modChan (4 * b + i) fun c => c.offState t).alarmMark (4 * b + i)).ucAbandon b 3

/-- VF_WARN (R403): set below the level the branch holds, cleared 0.50 V above it. -/
def execVfWarn (b : BranchNo) (set : Bool) (vf t : Nat) (s : State) : Host.Outcome State Fault Refusal :=
  s.run fun _ d =>
    let d := d.at t
    let x := d.branch b
    if x.power = 0 || x.warn = set || (if set then x.warnLvl ≤ vf else vf < x.warnLvl + 50) then d
    else (d.setBranch b { x with warn := set }).report (4 * b) (if set then 0x0110 else 0x0111) (0xFFF0 + b) vf

/-- VF_HIGH (R402): set above 61.0 V, cleared below 60.0 V; no action. -/
def execVfHigh (b : BranchNo) (set : Bool) (vf t : Nat) (s : State) : Host.Outcome State Fault Refusal :=
  s.run fun _ d =>
    let d := d.at t
    let x := d.branch b
    if x.power = 0 || x.high = set || (if set then vf ≤ 6100 else 6000 ≤ vf) then d
    else
      let d := d.setBranch b { x with high := set }
      d.when set fun d => d.report (4 * b) 0x0115 (0xFFF0 + b) vf

/-! The power ladder (R406 to R409). -/

/-- What STANDBY and the rungs below take down at the descent (R406, R408): branches parked, ports down. -/
def Dev.goDeep (d : Dev) : Dev :=
  let d := d.each [0, 1, 2, 3] fun d b => if d.link b = 1 && (d.branch b).power = 1 then d.park b else d
  (d.wr Reg.RP_LINK_A 0).wr Reg.RP_LINK_B 0

/-- The descent (R407): event, flush for KEEP, wake settings into D0, W0 paused. -/
def Dev.descend (d : Dev) : Dev :=
  let target := d.rd Reg.PL_TARGET
  let d := (d.bump 32 Reg.PL_DESCENTS).log1 0x0108 0xFFFF target
  let d := d.when (target = 5) (·.lifeFlush)
  let d := { d with maskD0 := d.rd Reg.PL_WAKE_MASK, timeD0 := d.rd Reg.PL_WAKE_TIME, wd0 := { d.wd0 with paused := true }, faultD0 := d.faultLand }
  let d := ((d.when (2 ≤ target) (·.goDeep)).stopCycles).wr Reg.PL_RUNG target
  if target = 5 then { d.crownDown 6 with asleep := true } else d

/-- DESCENT (R407): every condition of PL_BLOCK holds. -/
def execDescent (t : Nat) (s : State) : Host.Outcome State Fault Refusal :=
  s.run fun _ d =>
    let d := d.at t
    if d.crownUp && d.mode ≠ INIT && d.rd Reg.PL_RUNG = 0 && d.ladderBlock = 0 then d.descend else d

/-- A wake event is effective (R409): bits 0 to 3 by the mask in D0, a parked branch (8) and the ring-record instant (9) always. -/
def Dev.wakes (d : Dev) (source : Nat) : Bool :=
  if source < 4 then
    bitOf d.maskD0 source && (source ≠ 2 || d.rd Reg.SY_LAND_MODE = 0) && (source ≠ 3 || (d.timeD0 ≠ 0 && d.timeD0 ≤ d.now))
  else if source = 8 then (List.range 4).any fun b => (d.branch b).parked
  else source = 9

/-- D4 returns from off (R409): filter histories empty, coefficients reloaded, the process image reads 0 until the first latch. -/
def Dev.freshD4 (d : Dev) : Dev :=
  let d := d.each d.liveSlots fun d k =>
    let d := d.modSlot k fun x => { x with pend := [], latched := [], shown := none, cut := none }
    let d := d.when (measuring (d.kind k) && d.unitOf k < 32) fun d => d.modInst (d.unitOf k) fun x => x.chainReset d.now
    if d.kind k = 1 then d.wr (Reg.LP_IN_VALUE k) 0 else if d.kind k = 3 then d.wr (Reg.VI_VALUE k) 0 else d
  { d with reqs := [], coef := d.coefNor, coefBad := [] }

/-- D6, D7 and D2 return from off (R232, R244, R245, R321, R409): the spill channels are IDLE, so each queue has its segment alone, and a
scrubbing pass begins anew. -/
def Dev.freshD6 (d : Dev) : Dev :=
  let d := { d with staging := [], port := {}, wdoLow := false, dmas := [], scrubAt := none }
  let d := d.each (List.range 16) fun d c => d.wr (Reg.DM_STATE c) 0
  let d := d.each ((List.range 64).filter fun q => d.queueOn q) fun d q => d.modQueue q fun x => { x with cap := d.segSize q }
  d.resetQueues 3

/-- A parked branch is taken back at RUN (R405, R408): buffered events, counters, latches; then its grids restart. -/
def Dev.takeParked (d : Dev) (b : Nat) : Dev :=
  let x := d.branch b
  if !x.parked then d
  else
    let d := (d.setBranch b { x with buf := [] }).each x.buf fun d e => d.takeProt e
    let d := d.each (List.range 4) fun d i => d.collect (4 * b + i)
    (d.latchAdopted b).unpark b

/-- The way back to RUN from rung r (R409). -/
def Dev.wakeTo (d : Dev) (r source : Nat) : Dev :=
  let d := ((d.wr Reg.PL_RUNG 0).wr Reg.PL_LAST_WAKE source).wr Reg.WD0_STATE 1
  let d := d.coreBack
  let d := d.when (2 ≤ r) fun d =>
    { (d.wr Reg.RT_STATE 0).wr Reg.RT_RATE 0 with ring := { pdwEnd := d.ring.pdwEnd, pdwOut := d.ring.pdwOut, tFrame := d.ring.tFrame } }
  let d := (d.when (3 ≤ r) (·.freshD6)).when (4 ≤ r) (·.freshD4)
  let d := d.when (2 ≤ r) fun d => d.each [0, 1, 2, 3] fun d b => d.takeParked b
  (d.log1 0x0109 0xFFFF (r + source * 256)).logDips.cyclesBegin

/-- WAKE (R409): at KEEP a crown start with code 6 follows. -/
def execWake (source t : Nat) (s : State) : Host.Outcome State Fault Refusal :=
  s.run fun _ d =>
    let d := d.at t
    if !d.wakes source then d
    else if d.asleep then { d with asleep := false, cause := 6, wakeD0 := some source }
    else if d.crownUp && d.rd Reg.PL_RUNG ≠ 0 then d.wakeTo (d.rd Reg.PL_RUNG) source
    else d

end Sys2Proof.Machine
end

