-- ==== Sys2Proof/Machine/Dispatch.lean ====
section
/-! DEFINITION. One arm per command: the meaning it calls. -/
namespace Sys2Proof.Machine

/-- A command's effect on everything but the queue of waiting commands. -/
def exec (i : Instr) (s : State) : Host.Outcome State Fault Refusal :=
  match i with
  | .apply b w t => Sys2Proof.Machine.execApply b w t s
  | .posture b w t => Sys2Proof.Machine.execPosture b w t s
  | .stage b w t => Sys2Proof.Machine.execStage b w t s
  | .conv b w t => Sys2Proof.Machine.execConv b w t s
  | .config b w t => Sys2Proof.Machine.execConfig b w t s
  | .heartbeat b d w t => Sys2Proof.Machine.execHeartbeat b d w t s
  | .protEvent b w t => Sys2Proof.Machine.execProtEvent b w t s
  | .status b w vf die t0 t1 t2 t3 t => Sys2Proof.Machine.execStatus b w vf die t0 t1 t2 t3 t s
  | .resultWord b w r t => Sys2Proof.Machine.execResultWord b w r t s
  | .bitstream b w x t => Sys2Proof.Machine.execBitstream b w x t s
  | .branchLinkLost b t => Sys2Proof.Machine.execBranchLinkLost b t s
  | .crownLinkLost b t => Sys2Proof.Machine.execCrownLinkLost b t s
  | .holdEnd b t => Sys2Proof.Machine.execHoldEnd b t s
  | .crownHoldEnd b t => Sys2Proof.Machine.execCrownHoldEnd b t s
  | .linkUp b t => Sys2Proof.Machine.execLinkUp b t s
  | .branchConfigured b t => Sys2Proof.Machine.execBranchConfigured b t s
  | .brRelease r mask => Sys2Proof.Machine.execBrRelease r mask s
  | .hmCreate r rcd => Sys2Proof.Machine.execHmCreate r rcd s
  | .createComplete t => Sys2Proof.Machine.execCreateComplete t s
  | .hmDestroy r h => Sys2Proof.Machine.execHmDestroy r h s
  | .destroyComplete t => Sys2Proof.Machine.execDestroyComplete t s
  | .arm r h => Sys2Proof.Machine.execArm r h s
  | .start r h => Sys2Proof.Machine.execStart r h s
  | .stop r h => Sys2Proof.Machine.execStop r h s
  | .safe r h => Sys2Proof.Machine.execSafe r h s
  | .resume r h => Sys2Proof.Machine.execResume r h s
  | .clear r h => Sys2Proof.Machine.execClear r h s
  | .goPreop r => Sys2Proof.Machine.execGoPreop r s
  | .goOperate r => Sys2Proof.Machine.execGoOperate r s
  | .devSafe r => Sys2Proof.Machine.execDevSafe r s
  | .devResume r => Sys2Proof.Machine.execDevResume r s
  | .hold r => Sys2Proof.Machine.execHold r s
  | .enterService r => Sys2Proof.Machine.execEnterService r s
  | .leaveService r => Sys2Proof.Machine.execLeaveService r s
  | .pupCodeWrite r isValue n v => Sys2Proof.Machine.execPupCodeWrite r isValue n v s
  | .pupWriteDone t => Sys2Proof.Machine.execPupWriteDone t s
  | .restoreComplete t => Sys2Proof.Machine.execRestoreComplete t s
  | .windowEnd h m t => Sys2Proof.Machine.execWindowEnd h m t s
  | .fastBlockEnd h m t => Sys2Proof.Machine.execFastBlockEnd h m t s
  | .mainsTimeout h t => Sys2Proof.Machine.execMainsTimeout h t s
  | .refReady b t => Sys2Proof.Machine.execRefReady b t s
  | .refinFault b mv t => Sys2Proof.Machine.execRefinFault b mv t s
  | .refinRestored b mv t => Sys2Proof.Machine.execRefinRestored b mv t s
  | .calibrationCycle b devA devB zero t => Sys2Proof.Machine.execCalibrationCycle b devA devB zero t s
  | .cvUrgentReq r h => Sys2Proof.Machine.execCvUrgentReq r h s
  | .urgentResult h m t => Sys2Proof.Machine.execUrgentResult h m t s
  | .monitorUrgentDone h mon t => Sys2Proof.Machine.execMonitorUrgentDone h mon t s
  | .crDataWrite r v => Sys2Proof.Machine.execCrDataWrite r v s
  | .crDataRead r => Sys2Proof.Machine.execCrDataRead r s
  | .bankDescriptorWrite r u k sub v => Sys2Proof.Machine.execBankDescriptorWrite r u k sub v s
  | .bkLoad r u k => Sys2Proof.Machine.execBkLoad r u k s
  | .bkLoadComplete t => Sys2Proof.Machine.execBkLoadComplete t s
  | .fiBankReq r u v => Sys2Proof.Machine.execFiBankReq r u v s
  | .syncLandEdge rising t => Sys2Proof.Machine.execSyncLandEdge rising t s
  | .limiterAct h mv t => Sys2Proof.Machine.execLimiterAct h mv t s
  | .txsupLimitTimeout n t => Sys2Proof.Machine.execTxsupLimitTimeout n t s
  | .txsupOffEnd n t => Sys2Proof.Machine.execTxsupOffEnd n t s
  | .lpComplianceAck r h => Sys2Proof.Machine.execLpComplianceAck r h s
  | .trimWrite r h span v => Sys2Proof.Machine.execTrimWrite r h span v s
  | .tbEnable r => Sys2Proof.Machine.execTbEnable r s
  | .tbEnableTimeout t => Sys2Proof.Machine.execTbEnableTimeout t s
  | .buttonPress span trd t => Sys2Proof.Machine.execButtonPress span trd t s
  | .buttonRepeat trd t => Sys2Proof.Machine.execButtonRepeat trd t s
  | .buttonRelease t => Sys2Proof.Machine.execButtonRelease t s
  | .levelRawChange n raw t => Sys2Proof.Machine.execLevelRawChange n raw t s
  | .levelEdgeAccepted n t => Sys2Proof.Machine.execLevelEdgeAccepted n t s
  | .lineFaultDeclared n short na t => Sys2Proof.Machine.execLineFaultDeclared n short na t s
  | .lineFaultEnd n na t => Sys2Proof.Machine.execLineFaultEnd n na t s
  | .lvCountClear r h => Sys2Proof.Machine.execLvCountClear r h s
  | .pwmPeriodStart n vf t => Sys2Proof.Machine.execPwmPeriodStart n vf t s
  | .overcurrentTrip n ma t => Sys2Proof.Machine.execOvercurrentTrip n ma t s
  | .shortCircuit n t => Sys2Proof.Machine.execShortCircuit n t s
  | .thermalTrip n temp t => Sys2Proof.Machine.execThermalTrip n temp t s
  | .cool n temp t => Sys2Proof.Machine.execCool n temp t s
  | .tempWarn b set temp who t => Sys2Proof.Machine.execTempWarn b set temp who t s
  | .attemptSuccess n t => Sys2Proof.Machine.execAttemptSuccess n t s
  | .tLimExpiry n ma t => Sys2Proof.Machine.execTLimExpiry n ma t s
  | .retryGapEnd n temp t => Sys2Proof.Machine.execRetryGapEnd n temp t s
  | .retryRestore n t => Sys2Proof.Machine.execRetryRestore n t s
  | .clampEvent n energy tempStart tStart t => Sys2Proof.Machine.execClampEvent n energy tempStart tStart t s
  | .swClampAck r h => Sys2Proof.Machine.execSwClampAck r h s
  | .loadTest n vS vO t => Sys2Proof.Machine.execLoadTest n vS vO t s
  | .iselChange b sel t => Sys2Proof.Machine.execIselChange b sel t s
  | .halfRetired n half t => Sys2Proof.Machine.execHalfRetired n half t s
  | .halvesLost n t => Sys2Proof.Machine.execHalvesLost n t s
  | .stuckOn n half ma t => Sys2Proof.Machine.execStuckOn n half ma t s
  | .cycleFix t => Sys2Proof.Machine.execCycleFix t s
  | .cycleBoundary t => Sys2Proof.Machine.execCycleBoundary t s
  | .nop o => Sys2Proof.Machine.execNop o s
  | .startConv o => Sys2Proof.Machine.execStartConv o s
  | .urgentConv o => Sys2Proof.Machine.execUrgentConv o s
  | .latchResult o => Sys2Proof.Machine.execLatchResult o s
  | .openPacket o => Sys2Proof.Machine.execOpenPacket o s
  | .pushResult o => Sys2Proof.Machine.execPushResult o s
  | .commitPacket o => Sys2Proof.Machine.execCommitPacket o s
  | .applyOutput o => Sys2Proof.Machine.execApplyOutput o s
  | .sampleInputs o => Sys2Proof.Machine.execSampleInputs o s
  | .syncFilters o => Sys2Proof.Machine.execSyncFilters o s
  | .diagWindow o => Sys2Proof.Machine.execDiagWindow o s
  | .markTime o => Sys2Proof.Machine.execMarkTime o s
  | .waitCycle o => Sys2Proof.Machine.execWaitCycle o s
  | .sqSwap r v => Sys2Proof.Machine.execSqSwap r v s
  | .sqSwapCheckDone t => Sys2Proof.Machine.execSqSwapCheckDone t s
  | .guDetAck r v => Sys2Proof.Machine.execGuDetAck r v s
  | .quEnable r q => Sys2Proof.Machine.execQuEnable r q s
  | .quDisable r q => Sys2Proof.Machine.execQuDisable r q s
  | .quRead r q => Sys2Proof.Machine.execQuRead r q s
  | .quRead3 r q => Sys2Proof.Machine.execQuRead3 r q s
  | .mark r q => Sys2Proof.Machine.execMark r q s
  | .rewind r q => Sys2Proof.Machine.execRewind r q s
  | .release r q => Sys2Proof.Machine.execRelease r q s
  | .flush r q => Sys2Proof.Machine.execFlush r q s
  | .ack r q => Sys2Proof.Machine.execAck r q s
  | .quReleaseAt r q p => Sys2Proof.Machine.execQuReleaseAt r q p s
  | .quWrite r q bytes => Sys2Proof.Machine.execQuWrite r q bytes s
  | .quWriteEndCommit r q => Sys2Proof.Machine.execQuWriteEndCommit r q s
  | .quWriteEndAbort r q => Sys2Proof.Machine.execQuWriteEndAbort r q s
  | .spillTransfer c t => Sys2Proof.Machine.execSpillTransfer c t s
  | .fillTransfer c t => Sys2Proof.Machine.execFillTransfer c t s
  | .writeBeatResume q held t => Sys2Proof.Machine.execWriteBeatResume q held t s
  | .dmStart r c => Sys2Proof.Machine.execDmStart r c s
  | .dmStop r c => Sys2Proof.Machine.execDmStop r c s
  | .dmTrigger r c => Sys2Proof.Machine.execDmTrigger r c s
  | .captureCopy c t => Sys2Proof.Machine.execCaptureCopy c t s
  | .dmRdData r c => Sys2Proof.Machine.execDmRdData r c s
  | .xspiNoStrobe nor t => Sys2Proof.Machine.execXspiNoStrobe nor t s
  | .coefRepair addr readable t => Sys2Proof.Machine.execCoefRepair addr readable t s
  | .scrub mem reading corrected double t => Sys2Proof.Machine.execScrub mem reading corrected double t s
  | .registerWrite q => Sys2Proof.Machine.execRegisterWrite q s
  | .echo q => Sys2Proof.Machine.execEcho q s
  | .segmentedRead q => Sys2Proof.Machine.execSegmentedRead q s
  | .segmentedWrite q => Sys2Proof.Machine.execSegmentedWrite q s
  | .deferredComplete t => Sys2Proof.Machine.execDeferredComplete t s
  | .txOpen r v => Sys2Proof.Machine.execTxOpen r v s
  | .txCommit r n => Sys2Proof.Machine.execTxCommit r n s
  | .txCommitDone t => Sys2Proof.Machine.execTxCommitDone t s
  | .txAbort r n => Sys2Proof.Machine.execTxAbort r n s
  | .txTimeout n t => Sys2Proof.Machine.execTxTimeout n t s
  | .pvUnlock r code => Sys2Proof.Machine.execPvUnlock r code s
  | .pvLock r v => Sys2Proof.Machine.execPvLock r v s
  | .pvServiceCode r code => Sys2Proof.Machine.execPvServiceCode r code s
  | .pvTimeout id t => Sys2Proof.Machine.execPvTimeout id t s
  | .pvLockoutEnd t => Sys2Proof.Machine.execPvLockoutEnd t s
  | .cycleFrame f => Sys2Proof.Machine.execCycleFrame f s
  | .delayFrame portB copy num t => Sys2Proof.Machine.execDelayFrame portB copy num t s
  | .foreignFrame portB fcsOk upstream t => Sys2Proof.Machine.execForeignFrame portB fcsOk upstream t s
  | .portLinkLost portB t => Sys2Proof.Machine.execPortLinkLost portB t s
  | .portLinkUp portB t => Sys2Proof.Machine.execPortLinkUp portB t s
  | .loopReopen portB t => Sys2Proof.Machine.execLoopReopen portB t s
  | .pdwExpired t => Sys2Proof.Machine.execPdwExpired t s
  | .spiRead addr words cutShort tick t => Sys2Proof.Machine.execSpiRead addr words cutShort tick t s
  | .spiWrite addr data cutShort t => Sys2Proof.Machine.execSpiWrite addr data cutShort t s
  | .ptValueLoRead h tick t => Sys2Proof.Machine.execPtValueLoRead h tick t s
  | .ptValueHiRead h j tick t => Sys2Proof.Machine.execPtValueHiRead h j tick t s
  | .ptStatusWrite v t => Sys2Proof.Machine.execPtStatusWrite v t s
  | .ptIrqAck v t => Sys2Proof.Machine.execPtIrqAck v t s
  | .ptMbCtrl v t => Sys2Proof.Machine.execPtMbCtrl v t s
  | .wdCheckin w1 r id => Sys2Proof.Machine.execWdCheckin w1 r id s
  | .wdKey1 w1 r tick => Sys2Proof.Machine.execWdKey1 w1 r tick s
  | .wdKey2 w1 r tick => Sys2Proof.Machine.execWdKey2 w1 r tick s
  | .wdWindowClose w1 t => Sys2Proof.Machine.execWdWindowClose w1 t s
  | .wdStage2 w1 t => Sys2Proof.Machine.execWdStage2 w1 t s
  | .wd1Enable r => Sys2Proof.Machine.execWd1Enable r s
  | .wd1Disable r => Sys2Proof.Machine.execWd1Disable r s
  | .wdoPulseEnd t => Sys2Proof.Machine.execWdoPulseEnd t s
  | .cnAdopt r => Sys2Proof.Machine.execCnAdopt r s
  | .fold t => Sys2Proof.Machine.execFold t s
  | .lifeFlush t => Sys2Proof.Machine.execLifeFlush t s
  | .hwFlush r => Sys2Proof.Machine.execHwFlush r s
  | .counterReport b incs t => Sys2Proof.Machine.execCounterReport b incs t s
  | .ringRecord year late t => Sys2Proof.Machine.execRingRecord year late t s
  | .evRead r => Sys2Proof.Machine.execEvRead r s
  | .calCompare cal t => Sys2Proof.Machine.execCalCompare cal t s
  | .calFree t => Sys2Proof.Machine.execCalFree t s
  | .calTimeWrite r v => Sys2Proof.Machine.execCalTimeWrite r v s
  | .erase r => Sys2Proof.Machine.execErase r s
  | .grHkData r bytes => Sys2Proof.Machine.execGrHkData r bytes s
  | .verify r => Sys2Proof.Machine.execVerify r s
  | .swap r => Sys2Proof.Machine.execSwap r s
  | .confirm r => Sys2Proof.Machine.execConfirm r s
  | .cancel r => Sys2Proof.Machine.execCancel r s
  | .hkSwapReady ms t => Sys2Proof.Machine.execHkSwapReady ms t s
  | .hkSwapTimeout t => Sys2Proof.Machine.execHkSwapTimeout t s
  | .hkWaitTimeout t => Sys2Proof.Machine.execHkWaitTimeout t s
  | .hkConfirmTimeout t => Sys2Proof.Machine.execHkConfirmTimeout t s
  | .calStart r => Sys2Proof.Machine.execCalStart r s
  | .calLow r => Sys2Proof.Machine.execCalLow r s
  | .calHigh r => Sys2Proof.Machine.execCalHigh r s
  | .calApply r => Sys2Proof.Machine.execCalApply r s
  | .calAbort r => Sys2Proof.Machine.execCalAbort r s
  | .calRestore r => Sys2Proof.Machine.execCalRestore r s
  | .calGraftTimeout t => Sys2Proof.Machine.execCalGraftTimeout t s
  | .grUcStart r b => Sys2Proof.Machine.execGrUcStart r b s
  | .ucSwitched b version ms t => Sys2Proof.Machine.execUcSwitched b version ms t s
  | .ucReverted b ms t => Sys2Proof.Machine.execUcReverted b ms t s
  | .ucAbandoned b t => Sys2Proof.Machine.execUcAbandoned b t s
  | .vinValid t => Sys2Proof.Machine.execVinValid t s
  | .pwrWarnSet t => Sys2Proof.Machine.execPwrWarnSet t s
  | .pwrWarnCleared minMv us t => Sys2Proof.Machine.execPwrWarnCleared minMv us t s
  | .brownOut t => Sys2Proof.Machine.execBrownOut t s
  | .vinAbsent t => Sys2Proof.Machine.execVinAbsent t s
  | .vbakMeasure mv t => Sys2Proof.Machine.execVbakMeasure mv t s
  | .rstn t => Sys2Proof.Machine.execRstn t s
  | .clockLoss t => Sys2Proof.Machine.execClockLoss t s
  | .pwrResetCmd r v => Sys2Proof.Machine.execPwrResetCmd r v s
  | .crownStart vio vbak nor testHigh psram bank0 bank1 failed t => Sys2Proof.Machine.execCrownStart vio vbak nor testHigh psram bank0 bank1 failed t s
  | .branchStart b t => Sys2Proof.Machine.execBranchStart b t s
  | .vfbValid b t => Sys2Proof.Machine.execVfbValid b t s
  | .underVoltageLock b vf t => Sys2Proof.Machine.execUnderVoltageLock b vf t s
  | .lockReleased b ms t => Sys2Proof.Machine.execLockReleased b ms t s
  | .branchOff b t => Sys2Proof.Machine.execBranchOff b t s
  | .vfWarn b set vf t => Sys2Proof.Machine.execVfWarn b set vf t s
  | .vfHigh b set vf t => Sys2Proof.Machine.execVfHigh b set vf t s
  | .descent t => Sys2Proof.Machine.execDescent t s
  | .wake source t => Sys2Proof.Machine.execWake source t s
  | .txsupCurrentLimit n active t => Sys2Proof.Machine.execTxsupCurrentLimit n active t s
  | .lineFaultComparator n short active t => Sys2Proof.Machine.execLineFaultComparator n short active t s
  | .watchComplianceJudgement h satNs satEver t => Sys2Proof.Machine.execWatchComplianceJudgement h satNs satEver t s
  | .housekeepingCoreResetEnd t => Sys2Proof.Machine.execHousekeepingCoreResetEnd t s
  | .vbakLost t => Sys2Proof.Machine.execVbakLost t s

end Sys2Proof.Machine
end

