-- ==== Sys2Proof/Safety.lean ====
section
/-!
DEFINITION. The terms in which claims about runs are made: whole next states, frames, what makes the engine serve a request, and the
invariants of a run.
-/
namespace Sys2Proof.Machine

/-- The command answers a next state whose module is d; the waiting commands, PSRAM and the used spares stay as they are. -/
def Goes (c : Instr) (s : State) (d : Dev) : Prop := exec c s = .next { s with dev := d }

/-- Nothing but the module differs. -/
def Rest (s t : State) : Prop := t.pending = s.pending ∧ t.ps = s.ps ∧ t.worn = s.worn

/-- The module without the engine's own bookkeeping of a request: the instant, the answer, the table of requesters, and when a
transaction was last used. -/
def Dev.aside (d : Dev) : Dev :=
  { d with now := 0, resp := {}, reqs := [], hole := false, txns := d.txns.map fun x => { x with last := 0 } }

/-- The request is a new one of a requester that is tracked or can be (R264, R265). -/
def Dev.isNew (d : Dev) (id seq : Nat) : Prop :=
  match d.requester id with
  | none => d.reqs.length < 16
  | some r => (r.held.find? fun p => p.1 = seq) = none ∧
      match r.newest with
      | none => True
      | some n => ¬ (33 ≤ (n + 65536 - seq) % 65536 ∧ (n + 65536 - seq) % 65536 ≤ 32767)

/-- The engine serves the request: the crown runs in RUN, out of INIT, and the request of a named requester is new (R53, R258, R265,
R408). -/
def Dev.serves (d : Dev) (id seq : Nat) : Prop :=
  d.crownUp = true ∧ d.rd Reg.PL_RUNG = 0 ∧ d.mode ≠ INIT ∧ id ≠ 0 ∧ d.isNew id seq

/-- The engine serves a WRITE of a whole value outside a transaction, and it passes checks 5 to 13 of R258. -/
def Dev.permits (d : Dev) (q : Request) : Prop :=
  d.serves q.id q.seq ∧ d.openTxn q.id = none ∧ q.data < 2 ^ (8 * q.len) ∧
    d.writeAccess (d.serviceOf q.id) false q.ix q.sub q.hnd q.len q.data = OK

/-- The engine serves a READ, and it passes checks 5 to 9 of R258. -/
def Dev.grants (d : Dev) (q : Request) : Prop := d.serves q.id q.seq ∧ d.readAccess q.ix q.sub q.hnd = OK

/-- The module as the engine takes up a request of a tracked requester: the instant, the idle times restarted, and what the request ends of
earlier transfers (R260, R272). -/
def Dev.readied (d : Dev) (q : Request) : Dev := (({ d.at q.t with resp := {} } : Dev).touch q.id).endTransfers q

/-- The module with the idle time of the requester's open transaction restarted (R272). -/
def Dev.used (d : Dev) (q : Request) : Dev :=
  { d with txns := d.txns.map fun x => if x.id = q.id && x.st = 1 then { x with last := q.t } else x }

/-- The entry that a WRITE stages, journals, carries out or completes. -/
def Dev.entryOf (d : Dev) (q : Request) : Entry :=
  { id := q.id, seq := q.seq, ix := q.ix, sub := q.sub, hnd := q.hnd, val := d.masked q.ix q.sub q.data, len := q.len,
    cyc := d.rd Reg.SQ_CYCLE_INDEX }

/-- The WRITE request that a command is, for the commands whose row names one object that it writes. -/
def writeOf : Instr → Option Request
  | .brRelease r mask => some (writeReq r Reg.BR_RELEASE 0 1 mask)
  | .hmCreate r rcd => some (writeReq r Reg.HM_CREATE 0 4 rcd)
  | .hmDestroy r h => some (writeReq r Reg.HM_DESTROY 0 2 h)
  | .arm r h => some (writeReq r (Reg.HND_CMD (h % 128)) h 1 1)
  | .start r h => some (writeReq r (Reg.HND_CMD (h % 128)) h 1 2)
  | .stop r h => some (writeReq r (Reg.HND_CMD (h % 128)) h 1 3)
  | .safe r h => some (writeReq r (Reg.HND_CMD (h % 128)) h 1 4)
  | .resume r h => some (writeReq r (Reg.HND_CMD (h % 128)) h 1 5)
  | .clear r h => some (writeReq r (Reg.HND_CMD (h % 128)) h 1 6)
  | .goPreop r => some (writeReq r Reg.DEV_CMD 0 1 1)
  | .goOperate r => some (writeReq r Reg.DEV_CMD 0 1 2)
  | .devSafe r => some (writeReq r Reg.DEV_CMD 0 1 3)
  | .devResume r => some (writeReq r Reg.DEV_CMD 0 1 4)
  | .hold r => some (writeReq r Reg.DEV_CMD 0 1 5)
  | .enterService r => some (writeReq r Reg.DEV_CMD 0 1 6)
  | .leaveService r => some (writeReq r Reg.DEV_CMD 0 1 7)
  | .pupCodeWrite r true n v => some (writeReq r (Reg.PUP_VALUE n) 0 4 v)
  | .pupCodeWrite r false n v => some (writeReq r (Reg.PUP_CODE n) 0 1 v)
  | .cvUrgentReq r h => some (writeReq r (Reg.CV_URGENT_REQ (h % 128)) h 1 1)
  | .crDataWrite r v => some (writeReq r Reg.CR_DATA 0 4 v)
  | .bankDescriptorWrite r i k sub v =>
      some (writeReq r ((0x5810 + 3 * i + k) * 256 + sub % 256) 0 (if sub = 1 then 2 else 1) v)
  | .bkLoad r i k => some (writeReq r (Reg.BK_LOAD i k) 0 1 1)
  | .fiBankReq r i v => some (writeReq r (Reg.FI_BANK_REQ i) 0 1 v)
  | .lpComplianceAck r h => some (writeReq r (Reg.LP_COMPLIANCE_ACK (h % 128)) h 1 1)
  | .trimWrite r h true v => some (writeReq r (Reg.LP_TRIM_SPAN (h % 128)) h 4 v)
  | .trimWrite r h false v => some (writeReq r (Reg.LP_TRIM_ZERO (h % 128)) h 4 v)
  | .tbEnable r => some (writeReq r Reg.TB_ENABLE 0 1 1)
  | .lvCountClear r h => some (writeReq r (Reg.LV_COUNT_CLEAR (h % 128)) h 1 1)
  | .swClampAck r h => some (writeReq r (Reg.SW_CLAMP_ACK (h % 128)) h 1 1)
  | .sqSwap r v => some (writeReq r Reg.SQ_SWAP 0 1 v)
  | .guDetAck r v => some (writeReq r Reg.GU_DET_ACK 0 1 v)
  | .quEnable r q => some (writeReq r (Reg.QU_ENABLE q) 0 1 1)
  | .quDisable r q => some (writeReq r (Reg.QU_ENABLE q) 0 1 0)
  | .mark r q => some (writeReq r (Reg.QU_CMD q) 0 1 1)
  | .rewind r q => some (writeReq r (Reg.QU_CMD q) 0 1 2)
  | .release r q => some (writeReq r (Reg.QU_CMD q) 0 1 3)
  | .flush r q => some (writeReq r (Reg.QU_CMD q) 0 1 4)
  | .ack r q => some (writeReq r (Reg.QU_CMD q) 0 1 5)
  | .quReleaseAt r q p => some (writeReq r (Reg.QU_RELEASE_AT q) 0 4 p)
  | .quWriteEndCommit r q => some (writeReq r (Reg.QU_WRITE_END q) 0 1 1)
  | .quWriteEndAbort r q => some (writeReq r (Reg.QU_WRITE_END q) 0 1 2)
  | .dmStart r c => some (writeReq r (Reg.DM_CTRL c) 0 1 1)
  | .dmStop r c => some (writeReq r (Reg.DM_CTRL c) 0 1 2)
  | .dmTrigger r c => some (writeReq r (Reg.DM_CTRL c) 0 1 3)
  | .registerWrite q => some { q with op := OP_WRITE }
  | .segmentedWrite q => some { q with op := OP_WRITE }
  | .txOpen r v => some (writeReq r Reg.TX_OPEN 0 1 v)
  | .txCommit r n => some (writeReq r Reg.TX_COMMIT 0 4 n)
  | .txAbort r n => some (writeReq r Reg.TX_ABORT 0 4 n)
  | .pvUnlock r code => some (writeReq r Reg.PV_UNLOCK 0 4 code)
  | .pvLock r v => some (writeReq r Reg.PV_LOCK 0 1 v)
  | .pvServiceCode r code => some (writeReq r Reg.PV_SERVICE_CODE 0 4 code)
  | .wdCheckin true r id => some (writeReq r Reg.WD1_CHECKIN 0 1 id)
  | .wd1Enable r => some (writeReq r Reg.WD1_ENABLE 0 1 1)
  | .wd1Disable r => some (writeReq r Reg.WD1_ENABLE 0 1 0)
  | .cnAdopt r => some (writeReq r Reg.CN_ADOPT 0 1 1)
  | .hwFlush r => some (writeReq r Reg.HW_FLUSH 0 1 1)
  | .calTimeWrite r v => some (writeReq r Reg.CAL_TIME 0 8 v)
  | .erase r => some (writeReq r Reg.GR_HK_CMD 0 1 1)
  | .verify r => some (writeReq r Reg.GR_HK_CMD 0 1 2)
  | .swap r => some (writeReq r Reg.GR_HK_CMD 0 1 3)
  | .confirm r => some (writeReq r Reg.GR_HK_CMD 0 1 4)
  | .cancel r => some (writeReq r Reg.GR_HK_CMD 0 1 5)
  | .calStart r => some (writeReq r Reg.GR_CAL_CMD 0 1 1)
  | .calLow r => some (writeReq r Reg.GR_CAL_CMD 0 1 2)
  | .calHigh r => some (writeReq r Reg.GR_CAL_CMD 0 1 3)
  | .calApply r => some (writeReq r Reg.GR_CAL_CMD 0 1 4)
  | .calAbort r => some (writeReq r Reg.GR_CAL_CMD 0 1 5)
  | .calRestore r => some (writeReq r Reg.GR_CAL_CMD 0 1 6)
  | .grUcStart r b => some (writeReq r Reg.GR_UC_START 0 1 b)
  | .pwrResetCmd r v => some (writeReq r Reg.PWR_RESET_CMD 0 2 v)
  | _ => none

/-- The request is answered with a and the answer is held for its requester; the other requesters stay as they are (R257, R265). -/
def Answered (s t : State) (q : Request) (a : Answer) : Prop :=
  t.dev.now = q.t ∧ t.dev.resp = s.dev.respond q a ∧
    (∃ r, t.dev.requester q.id = some r ∧ (q.seq, t.dev.resp) ∈ r.held ∧ r.last = q.t) ∧
    ∀ id, id ≠ q.id → t.dev.requester id = s.dev.requester id

/-- The command, which is the request q, is answered with a and leaves the module as d, bookkeeping of the engine apart. -/
def Obeys (c : Instr) (s : State) (q : Request) (a : Answer) (d : Dev) : Prop :=
  ∃ t, exec c s = .next t ∧ Rest s t ∧ Answered s t q a ∧ t.dev.aside = d.aside

/-- Heartwood's committed output values and the trims that a button sequence may bring back are objects of handles (R141, R254). -/
def Dev.keepsOutputs (d : Dev) : Prop := ∀ p ∈ d.heart.kept ++ d.buttons.undo, 0x2000 ≤ p.1 / 256 ∧ p.1 / 256 < 0x4000

/-- A step with action a runs in its slot (R192, R195): a cycle runs, the active table holds the step next, its word has not left with the
fixing of the cycle, the slot lies before its last 2 µs and has not passed. -/
def Dev.onTime (d : Dev) (a : Nat) (o : StepOp) : Prop :=
  d.seq.running = true ∧ d.seq.ended = false ∧ o.idx = d.seq.doneTo ∧ d.stepWord false o.idx = stepCode a o ∧
    d.seq.ahead.contains o.idx = false ∧ o.slot * 10 + 2000 < d.rd Reg.SQ_CYCLE_NS ∧ d.now ≤ d.slotTime o

/-- The module when a step with action a goes out: at its slot, 5 µs before it where it sends a word (R192). -/
def Dev.stepped (d : Dev) (a : Nat) (o : StepOp) : Dev :=
  { d with now := max d.now (d.slotTime o - stepLead a), seq := { d.seq with doneTo := o.idx + 1 } }

/-- Used spares stay used (R33). -/
def Worn.within (a b : Worn) : Prop :=
  a.conv &&& b.conv = a.conv ∧ a.halves &&& b.halves = a.halves ∧ a.lost &&& b.lost = a.lost ∧ a.drift &&& b.drift = a.drift ∧
    a.driftB &&& b.driftB = a.driftB ∧ a.calLost &&& b.calLost = a.calLost

/-- The states a run passes through. -/
inductive Reaches (s : State) : State → Prop where
  | here : Reaches s s
  | next {t u : State} (h : Reaches s t) (k : step t = .next u) : Reaches s u

end Sys2Proof.Machine
end

