-- ==== Sys2Proof/Certificates/Slice0/Obligations.lean ====
section
/-!
DEFINITION. The statements about the module, one definition each. A command that is a request is stated through Obeys: its answer, what
the engine holds of it, and the whole module after it. Every other command is stated through Goes: the whole next state.
-/
section
open Sys2Proof Sys2Proof.Machine

/-- A step runs the command at the front of the queue on the queue's rest; an empty queue idles (log entry 4). -/
def Obligations.StepRunsTheFront : Prop :=
  ∀ s : State,
    (∀ c rest, s.pending = c :: rest → step s = exec c { s with pending := rest }) ∧
    (s.pending = [] → step s = .next s) ∧
    ∀ nbits w, s.withFetchWord nbits w = s

/-- R53, R137, R331, R405, R413: the module before its supplies come up. Values that no rule states are the model's (log entry 2). -/
def Obligations.ResetStateHolds : Prop :=
  let d := State.reset.dev
  State.reset.pending = [] ∧ Memory.wf State.reset.ps = true ∧ State.reset.worn = {} ∧ d.crownUp = false ∧ d.coreUp = false ∧
    d.mode = INIT ∧ d.vinValid = false ∧ d.reqs = [] ∧ d.txns = [] ∧ d.deferred = [] ∧ d.staged = [] ∧ d.log = [] ∧ d.wdoLow = false ∧
    (∀ k, k < 128 → d.hst k = 0) ∧ (∀ n, (d.chan n).state = swOFF ∧ (d.chan n).force = {}) ∧
    (∀ b, (d.branch b).power = 0 ∧ (d.branch b).linkUp = false) ∧ (∀ q, (d.queue q).pkts = [])

/-- PSRAM keeps its canonical form, one listing for one content, in every step: addresses rise strictly and no listed byte is what an
unlisted address reads as. -/
def Obligations.EveryStepKeepsMemoryForm : Prop :=
  ∀ s t : State, Memory.wf s.ps = true → step s = .next t → Memory.wf t.ps = true

/-- R33: a used spare stays used through every run: no command, no reset and no loss of a supply gives back a retired converter or half, or
makes a drifted reference good. -/
def Obligations.SparesStayUsed : Prop :=
  ∀ s t : State, Reaches s t → s.worn.within t.worn ∧ (∀ n, n < 16 → roleOf s.worn n ≠ 0 → roleOf t.worn n ≠ 0) ∧
    (∀ n, n < 16 → halvesLeft t.worn n ≤ halvesLeft s.worn n) ∧ (∀ b, b < 4 → drifts s.worn b = true → drifts t.worn b = true)

/-- Which commands may touch what lies outside the module's own state: none the waiting commands, the two DMA copies PSRAM, and the judgements
of spares and the reading of heartwood at a start the used spares. None is refused, only a transfer to or from a PSRAM address that does
not exist faults (R242), and every command but the three transfers answers a next state in every state. -/
def Obligations.CommandsKeepTheRest : Prop :=
  ∀ (c : Instr) (s : State),
    (∀ t, exec c s = .next t →
      t.pending = s.pending ∧
      (t.ps = s.ps ∨ (∃ h t0, c = .spillTransfer h t0) ∨ ∃ h t0, c = .captureCopy h t0) ∧
      (t.worn = s.worn ∨ (∃ h m t0, c = .windowEnd h m t0) ∨ (∃ h m t0, c = .fastBlockEnd h m t0) ∨
        (∃ b x y z t0, c = .calibrationCycle b x y z t0) ∨ (∃ n h t0, c = .halfRetired n h t0) ∨ (∃ n t0, c = .halvesLost n t0) ∨
        ∃ vio vbak nor high ps b0 b1 l t0, c = .crownStart vio vbak nor high ps b0 b1 l t0)) ∧
    (∀ r, exec c s ≠ .refused r) ∧
    ((∀ h t0, c ≠ .spillTransfer h t0) → (∀ h t0, c ≠ .captureCopy h t0) → (∀ h t0, c ≠ .fillTransfer h t0) →
      ∃ t, exec c s = .next t) ∧
    (∀ f, exec c s = .fault f → f = .psramHole ∧
      ((∃ h t0, c = .spillTransfer h t0) ∨ (∃ h t0, c = .captureCopy h t0) ∨ ∃ h t0, c = .fillTransfer h t0))

/-- R15 to R18, R22, R27, R56, R63, R66, R87, R91, R138, R334, R340: what a good word does in a branch where it is the one that the crown sends
next and names its channel; and that a word which is not, or is on another channel, changes nothing. The payload layout is the model's (log
entry 5). -/
def Obligations.BranchWordsAct : Prop :=
  ∀ (s : State) (b : BranchNo) (w : LinkBits) (t : Nat) (q : List LWord), linkGood w = true → s.dev.linked b = true →
    let x := s.dev.branch b
    let d := (s.dev.at t).setBranch b { x with nackDown := 0, toBranch := q }
    let n := 4 * b.val + linkChan w
    let c := s.dev.chan n
    (∀ ts, sent x.toBranch = some (.apply n ts, q) →
      let e := d.at (actTime ts t)
      (c.pup = true ∨ c.safeOn = true ∨ s.dev.ucSwitching (n / 4) = true → Goes (.apply b w t) s e) ∧
      (∀ k, c.pup = false → c.safeOn = false → s.dev.ucSwitching (n / 4) = false → s.dev.drvP n = some k →
        (isSwitch (s.dev.kind k) = true → Goes (.apply b w t) s (e.swRequest s.worn (d.lead n) c.staged)) ∧
        (isSwitch (s.dev.kind k) = false → c.ackDue = false → c.subDue = false →
          Goes (.apply b w t) s ((e.modChan n fun c => { c with
            force := c.staged, target := c.staged.nA, txOn := c.staged.tx = 1 && !c.txOff,
            drive := if c.subst then c.drive else c.driveFor c.staged.nA }).alarmMark n)))) ∧
    (sent x.toBranch = some (.postureNow n, q) →
      (c.pup = true ∨ s.dev.ucSwitching (n / 4) = true → Goes (.posture b w t) s (d.modChan n fun c => { c with due := true })) ∧
      (c.pup = false → s.dev.ucSwitching (n / 4) = false →
        let e := d.modChan n fun c => { c with safeOn := true, due := false }
        (∀ k, s.dev.drvP n = some k → isSwitch (s.dev.kind k) = true → c.post ≤ 1 →
          Goes (.posture b w t) s (e.swRequest s.worn (e.lead n) { c.force with cmd := c.post })) ∧
        (c.post = 2 → Goes (.posture b w t) s e))) ∧
    (∀ code nA, sent x.toBranch = some (.postureSet n code nA, q) → c.safeOn = false →
      Goes (.posture b w t) s (d.modChan n fun c => { c with post := code, postNA := nA })) ∧
    (∀ v, sent x.toBranch = some (.stage n v, q) → Goes (.stage b w t) s (d.modChan n fun c => { c with staged := v })) ∧
    (∀ k t0, sent x.toBranch = some (.conv k 0 t0, q) → s.dev.chanOf k = n →
      ((s.dev.slot k).await = true → x.refReady = true → Goes (.conv b w t) s
        (((d.modSlot k fun y => { y with
          winEnd := tickUp t0, ideal := 15625 * tickUp t0, settleNext := true, await := false, needOrg := false }).openWindow k).freshResidues k)) ∧
      ((s.dev.slot k).await = false ∨ x.refReady = false → Goes (.conv b w t) s d)) ∧
    (∀ k t0, sent x.toBranch = some (.conv k 1 t0, q) → s.dev.chanOf k = n →
      Goes (.conv b w t) s (d.modSlot k fun y => { y with
        urgRun := true, urgNeed := y.urgNeed || !s.dev.fast k, urgMid := max t0 t + 127000 })) ∧
    (∀ k t0, sent x.toBranch = some (.conv k 2 t0, q) → s.dev.chanOf k = n →
      Goes (.conv b w t) s (d.modSlot k fun y => { y with owExtra := true })) ∧
    (sent x.toBranch = some (.config 1, q) →
      ((∀ i, i < 4 → (s.dev.chan (4 * b.val + i)).pup = false ∧ (s.dev.chan (4 * b.val + i)).due = false) → x.postured = false →
        Goes (.config b w t) s (d.modBranch b fun y => { y with holding := false, postured := false, configured := true })) ∧
      ((∀ i, i < 4 → (s.dev.chan (4 * b.val + i)).pup = false ∧ (s.dev.chan (4 * b.val + i)).due = false) → x.postured = true →
        s.dev.rd (Reg.ADOPT_RESULT b) = 1 → s.dev.branchDrivers b = [] →
        Goes (.config b w t) s ((d.wr (Reg.ADOPT_RESULT b) 2).modBranch b fun y =>
          { y with holding := false, postured := false, configured := true }))) ∧
    (∀ y q', sent x.toBranch = some (y, q') → (∀ m, s.dev.downChan y = some m → m ≠ n) → s.dev.downChan y ≠ none →
      ∀ i ∈ [Instr.apply b w t, .posture b w t, .stage b w t, .conv b w t], Goes i s (s.dev.at t)) ∧
    (x.toBranch = [] → Goes (.heartbeat b .toBranch w t) s ((s.dev.at t).setBranch b { x with nackDown := 0, trim := x.trimNext })) ∧
    (x.toBranch ≠ [] → Goes (.heartbeat b .toBranch w t) s (s.dev.at t))

/-- R16, R22, R25, R30, R70, R80, R374, R376, R408: what a good word does at the crown: the queued one that its branch sends next, and STATUS,
BITSTREAM and HEARTBEAT, which pass where no word above their priority waits. -/
def Obligations.CrownWordsAct : Prop :=
  ∀ (s : State) (b : BranchNo) (w : LinkBits) (t : Nat) (q : List LWord), linkGood w = true → s.dev.linked b = true →
    let x := s.dev.branch b
    let d := (s.dev.at t).setBranch b { x with nackUp := 0, toCrown := q }
    let n := 4 * b.val + linkChan w
    (∀ e, sent x.toCrown = some (.prot e, q) → e.chan = n → s.dev.pairChans n = [n] →
      let f := (d.modChan n fun c => { c with life := c.life.count e.code }).logAt e.time e.code (s.dev.protSrc e) e.det
      (s.dev.pairDriver n = none ∨ e.code / 256 = 1 → Goes (.protEvent b w t) s f) ∧
      (∀ k, e.code / 256 ≠ 1 → f.pairDriver n = some k → f.urgentOk k = true →
        (f.opsFree = true → Goes (.protEvent b w t) s (f.takeOp.urgentRequest k 256 0)) ∧
        (f.opsFree = false → Goes (.protEvent b w t) s (f.bump 32 Reg.OPS_PROT_LOST)))) ∧
    (∀ m, sent x.toCrown = some (.result .c m, q) → s.dev.chanOf m.slot = n → s.dev.rd Reg.PL_RUNG = 0 → s.dev.kind m.slot = 2 →
      Goes (.resultWord b w .c t) s (d.wrI 32 (Reg.LP_OUT_ACTUAL m.slot) (Frac.mul (m.num, m.den) (25000000, 1)).round)) ∧
    (∀ r m, r ≠ .c → sent x.toCrown = some (.result r m, q) → s.dev.chanOf m.slot = n → s.dev.rd Reg.PL_RUNG = 0 →
      s.dev.takers m.slot = [m.slot] →
      Goes (.resultWord b w r t) s (match d.unitInput m.slot m with
        | (e, none) => e
        | (e, some o) => e.captureRecord m.slot o)) ∧
    (∀ r m, sent x.toCrown = some (.result r m, q) → s.dev.chanOf m.slot = n → s.dev.rd Reg.PL_RUNG ≠ 0 → Goes (.resultWord b w r t) s d) ∧
    (∀ y q', sent x.toCrown = some (y, q') → s.dev.upChan y ≠ some n → s.dev.upChan y ≠ none →
      Goes (.protEvent b w t) s (s.dev.at t) ∧ ∀ r, Goes (.resultWord b w r t) s (s.dev.at t)) ∧
    (∀ vf die t0 t1 t2 t3,
      (noneAbove 2 x.toCrown = true → Goes (.status b w vf die t0 t1 t2 t3 t) s
        ((((((((s.dev.at t).setBranch b { x with nackUp := 0 }).modBranch b fun y => { y with
          vf := vf, vfMin := if y.vfMin = 0 then vf else min y.vfMin vf, die := die, seenStatus := y.supplyFlags,
          seenRef := y.refFlags (drifts s.worn b) }).modLife fun m => { m with
            peakBr := m.peakBr.zipIdx.map fun p => if p.2 = b.val then max p.1 die else p.1 }).modChan
          (4 * b.val) fun c => { c with temp := t0 }).modChan (4 * b.val + 1) fun c => { c with temp := t1 }).modChan
          (4 * b.val + 2) fun c => { c with temp := t2 }).modChan (4 * b.val + 3) fun c => { c with temp := t3 })) ∧
      (noneAbove 2 x.toCrown = false → Goes (.status b w vf die t0 t1 t2 t3 t) s (s.dev.at t))) ∧
    (∀ k r ov, noneAbove 3 x.toCrown = true → s.dev.pairDriver n = some k → s.dev.rd Reg.PL_RUNG = 0 → s.dev.fast k = true →
      let bits := (List.range 32).map fun i => bitOf (linkPayload w) i
      let e := ((s.dev.at t).setBranch b { x with nackUp := 0 }).modSlot k fun y => y.sumBits r (bits.map nat01).sum
      let fault := x.refinFault || x.refEnd
      (r ≠ e.feeder s.worn k fault → Goes (.bitstream b w ⟨r, ov⟩ t) s e) ∧
      (r = e.feeder s.worn k fault → e.takers k = [k] → e.rd (Reg.FI_STATE (e.unitOf k)) = 2 →
        let i := e.unitOf k
        let o := e.feedBits k i ((e.inst i).fresh bits t) (fault && e.disagrees k) (e.bitTag s.worn k r fault ov)
        Goes (.bitstream b w ⟨r, ov⟩ t) s (o.1.each o.2 fun f u => (f.captureRecord k u).urgentOutput k k u))) ∧
    (noneAbove 4 x.toCrown = true → Goes (.heartbeat b .toCrown w t) s
      ((s.dev.at t).setBranch b { x with nackUp := 0, seenPower := x.power, trimNext := (s.dev.at t).trimWanted b t, hbUp := some t })) ∧
    (noneAbove 4 x.toCrown = false → Goes (.heartbeat b .toCrown w t) s (s.dev.at t))

/-- R17, R18: a word that fails its CRC-8 has no effect but a count of its repetitions; the fourth failure in a row discards it and counts
it in 02F2. -/
def Obligations.BadWordsAreDiscarded : Prop :=
  ∀ (s : State) (b : BranchNo) (w : LinkBits) (r : Role) (ov : Bool) (vf : Nat) (die t0 t1 t2 t3 : Int) (t : Nat),
    linkGood w = false → s.dev.linked b = true →
    let x := s.dev.branch b
    let d := s.dev.at t
    (∀ c ∈ [Instr.apply b w t, .posture b w t, .stage b w t, .conv b w t, .config b w t, .heartbeat b .toBranch w t],
      (x.nackDown < 3 → Goes c s (d.setBranch b { x with nackDown := x.nackDown + 1 })) ∧
      (3 ≤ x.nackDown → ∃ q, q.Sublist x.toBranch ∧ (q = x.toBranch ∨ ∃ y, sent x.toBranch = some (y, q)) ∧
        Goes c s ((d.setBranch b { x with nackDown := 0, toBranch := q }).bump 32 (Reg.LINK_DISCARD b)))) ∧
    ∀ c ∈ [Instr.protEvent b w t, .status b w vf die t0 t1 t2 t3 t, .resultWord b w r t, .bitstream b w ⟨r, ov⟩ t, .heartbeat b .toCrown w t],
      (x.nackUp < 3 → Goes c s (d.setBranch b { x with nackUp := x.nackUp + 1 })) ∧
      (3 ≤ x.nackUp → ∃ q, q.Sublist x.toCrown ∧ (q = x.toCrown ∨ ∃ y, sent x.toCrown = some (y, q)) ∧
        Goes c s ((d.setBranch b { x with nackUp := 0, toCrown := q }).bump 32 (Reg.LINK_DISCARD b)))

/-- R19, R333 to R335: the loss of a link on either side, and the ends of t_HOLD. -/
def Obligations.LinkLossHolds : Prop :=
  ∀ (s : State) (b : BranchNo) (t : Nat),
    let x := s.dev.branch b
    let d := s.dev.at t
    (x.power ≠ 0 → x.parked = false → x.linkUp = true → x.tHold ≠ 0 →
      Goes (.branchLinkLost b t) s (d.setBranch b { x with
        linkUp := false, holding := true, postured := false, configured := false, tLost := t, toCrown := [], toBranch := [],
        nackUp := 0, nackDown := 0 })) ∧
    (s.dev.hears b = true → s.dev.graft.ucBranch ≠ some b.val →
      Goes (.crownLinkLost b t) s (((((d.wr (Reg.LINK_STATE b) 2).setBranch b { x with
        crownLost := some t, crownHeld := false, toCrown := [], toBranch := [], nackUp := 0, nackDown := 0 }).bump 32
        Reg.HOLD_COUNT).log1 0x0210 (0xFFF0 + b.val) 0))) ∧
    (x.holding = true → x.postured = false →
      Goes (.holdEnd b t) s ((d.setBranch b { x with postured := true }).each
        ((s.dev.branchDrivers b).filter fun k => s.dev.drivenOutput k && ARMED ≤ s.dev.hst k)
        fun e k => e.applyPosture s.worn (e.chanOf k))) ∧
    (s.dev.crownUp = true → s.dev.link b = 2 → x.crownLost.isSome = true → x.crownHeld = false →
      Goes (.crownHoldEnd b t) s (((d.setBranch b { x with crownHeld := true }).each (s.dev.branchDrivers b)
        fun e k => e.safeTrigger k 1).log1 0x0211 (0xFFF0 + b.val) (((d.setBranch b { x with crownHeld := true }).each
          (s.dev.branchDrivers b) fun e k => e.safeTrigger k 1).rd (Reg.HOLD_TIME b))))

/-- R336, R337, R338, R411: adoption of a branch, which under ATOM is a recovery (R207); the end of its configuration, and BR_RELEASE at its
boundary. -/
def Obligations.BranchesAreAdopted : Prop :=
  ∀ (s : State) (b : BranchNo) (t : Nat),
    let x := s.dev.branch b
    let up := ((s.dev.at t).wr (Reg.LINK_STATE b) 1).setBranch b { x with linkUp := true }
    (s.dev.crownUp = true → s.dev.rd Reg.PL_RUNG < 2 → x.power ≠ 0 → s.dev.link b ≠ 1 →
      (s.dev.mode = INIT → Goes (.linkUp b t) s up) ∧
      (s.dev.mode ≠ INIT → Goes (.linkUp b t) s { up.adopt s.worn b with recover := s.dev.recover || s.dev.atom }) ∧
      (s.dev.mode ≠ INIT → s.dev.branchHandles b = [] → x.buf = [] → x.offS = none → x.holding = false → x.crownLost = none →
        x.parked = false → x.gone = [] → (∀ i, i < 4 → swLatched (s.dev.chan (4 * b.val + i)).state = false) →
        ∃ u, exec (.linkUp b t) s = .next u ∧ Rest s u ∧ u.dev.link b = 1 ∧ u.dev.rd (Reg.BR_DIGEST b) = x.digest ∧
          (u.dev.branch b).mismatch = decide (x.digest ≠ s.dev.heartDigest b) ∧
          u.dev.rd (Reg.ADOPT_RESULT b) = if x.digest = s.dev.heartDigest b then (if x.postured then 2 else 1) else 3)) ∧
    (s.dev.linked b = true → x.mismatch = true → (∀ k ∈ s.dev.branchDrivers b, ¬ ARMED ≤ s.dev.hst k) →
      (∀ i, i < 4 → swLatched (s.dev.chan (4 * b.val + i)).state = false) →
      let d := (s.dev.at t).supplySettings b
      Goes (.branchConfigured b t) s (((((d.wr (Reg.BR_DIGEST b) (s.dev.heartDigest b)).modBranch b fun y =>
        { y with mismatch := false, digest := s.dev.heartDigest b }).wr (Reg.ADOPT_RESULT b) 4).log1 0x0215 (0xFFF0 + b.val) 0).levelsBack b)) ∧
    (s.dev.linked b = false ∨ x.mismatch = false → Goes (.branchConfigured b t) s (s.dev.at t))

/-- R49, R50, R52, R57, R163: a handle command that the present state admits is answered OK and waits for the next boundary, or does nothing
where it names the present state; one that the state does not admit is answered RANGE or BUSY and leaves nothing; and the states that admit each command. -/
def Obligations.HandleCommandsAreStaged : Prop :=
  (∀ (s : State) (r : Req) (h v : Nat) (c : Instr),
    (c, v) ∈ [(Instr.arm r h, 1), (.start r h, 2), (.stop r h, 3), (.safe r h, 4), (.resume r h, 5), (.clear r h, 6)] →
    let q := writeReq r (Reg.HND_CMD (h % 128)) h 1 v
    let st := s.dev.handleCheck (h % 128) v
    s.dev.permits q →
    let k := h % 128
    let present := (v = 1 ∧ s.dev.hst k = ARMED) ∨ (v = 2 ∧ s.dev.hst k = RUNNING) ∨ (v = 3 ∧ s.dev.hst k = STOPPED) ∨
      (v = 4 ∧ s.dev.hst k = HSAFE)
    (st = OK → present → Obeys c s q {} s.dev) ∧
    (st = OK → ¬ present → Obeys c s q {} { s.dev with staged := s.dev.staged ++ [s.dev.entryOf q] }) ∧
    (st = RANGE → Obeys c s q { status := RANGE } s.dev) ∧
    (st = BUSY → Obeys c s q { status := BUSY } (s.dev.bump 32 Reg.OPS_BUSY_COUNT))) ∧
  (∀ (d : Dev) (k : Nat),
    (d.handleCheck k 1 = OK ↔ d.hst k = ARMED ∨ (d.hst k = CREATED ∧ d.armFits k = true ∧
      (measuring (d.kind k) = true → d.fits (d.unitOf k) (d.cfg (d.unitOf k) (d.active (d.unitOf k))).load = true))) ∧
    (d.handleCheck k 2 = OK ↔ d.hst k = RUNNING ∨ d.hst k = ARMED ∨ d.hst k = STOPPED) ∧
    (d.handleCheck k 3 = OK ↔ d.hst k = STOPPED ∨ d.hst k = RUNNING) ∧
    (d.handleCheck k 4 = OK ↔ d.isDriver k = true ∧
      (d.hst k = HSAFE ∨ d.hst k = ARMED ∨ d.hst k = RUNNING ∨ d.hst k = STOPPED ∨ d.hst k = LATCHED)) ∧
    (d.handleCheck k 5 = OK ↔ d.hst k = HSAFE ∧ d.rd (Reg.HND_SAFE_CAUSE k) &&& 0x1D = 0 ∧ d.anyPersists k = false) ∧
    (d.handleCheck k 6 = OK ↔ d.hst k = LATCHED ∧ (d.chan (d.chanOf k)).state ≠ swSTUCK_ON ∧ d.hears (d.chanOf k / 4) = true))

/-- R40, R49, R50, R51, R52, R57, R163: what a staged handle command does at its boundary, in the states that admit it, and that it is dropped
and counted in the others. Reg.HND_CMD k is the key of the entry, whose handle is live. -/
def Obligations.HandleCommandsAct : Prop :=
  ∀ (d : Dev) (w : Worn) (k : Nat) (x : Entry), k < 128 → x.ix = 0x2000 + 0x40 * k → x.sub = 4 → d.isLive x.hnd = true → x.hnd % 128 = k →
    let n := d.chanOf k
    (d.handleCheck k x.val ≠ OK → d.stagedCommand w x = d.bump 32 Reg.HM_CMD_DROPPED) ∧
    (x.val = 1 → d.hst k = ARMED → d.stagedCommand w x = d) ∧
    (x.val = 1 → d.handleCheck k 1 = OK → d.hst k = CREATED → measuring (d.kind k) = false → d.isObserver k = true →
      d.stagedCommand w x = d.wr (Reg.HND_STATE k) ARMED) ∧
    (x.val = 1 → d.handleCheck k 1 = OK → d.hst k = CREATED → isSwitch (d.kind k) = true → d.isObserver k = false → d.hears (n / 4) = true →
      d.stagedCommand w x = (((((d.wr (Reg.HND_STATE k) ARMED).swCommit k).modChan n fun c =>
        { c with left := c.set.retryN, refill := false }).toBranch (n / 4) (.config 1)).toBranch (n / 4)
          (.postureSet n (d.rd (Reg.HND_POSTURE k)) (d.rd (Reg.HND_POSTURE_VALUE k))))) ∧
    (x.val = 1 → d.handleCheck k 1 = OK → d.hst k = CREATED → measuring (d.kind k) = true → d.isObserver k = true →
      d.stagedCommand w x = ((d.wr (Reg.HND_STATE k) ARMED).modInst (d.unitOf k) fun y => { y with armed := true }).setLoad (d.unitOf k)
        (d.cfg (d.unitOf k) (d.active (d.unitOf k))).load 0) ∧
    (x.val = 2 → d.hst k = RUNNING → d.stagedCommand w x = d) ∧
    (x.val = 2 → d.hst k = ARMED ∨ d.hst k = STOPPED → measuring (d.kind k) = false →
      d.stagedCommand w x = d.wr (Reg.HND_STATE k) RUNNING) ∧
    (x.val = 2 → d.hst k = ARMED ∨ d.hst k = STOPPED → measuring (d.kind k) = true → d.rd (Reg.FI_CLASS (d.unitOf k)) = 0 →
      let e := ((d.wr (Reg.HND_STATE k) RUNNING).wr (Reg.FI_STATE (d.unitOf k)) 2).wr (Reg.FI_SAT_COUNT (d.unitOf k)) 0
      (d.isObserver k = true → d.stagedCommand w x = e.chainReset (d.unitOf k) d.now) ∧
      (d.isObserver k = false →
        d.stagedCommand w x = ((e.mainsStart k).restart k d.now true).modSlot k fun y => { y with owCnt := 0 })) ∧
    (x.val = 3 → d.hst k = STOPPED → d.stagedCommand w x = d) ∧
    (x.val = 3 → d.hst k = RUNNING → d.rd Reg.TB_HANDLE ≠ d.rd (Reg.HND_ID k) →
      d.stagedCommand w x = (d.wr (Reg.HND_STATE k) STOPPED).unitStop k) ∧
    (x.val = 4 → d.isDriver k = true → d.hst k = ARMED ∨ d.hst k = RUNNING ∨ d.hst k = STOPPED →
      d.stagedCommand w x = ((((d.wrBit (Reg.HND_SAFE_CAUSE k) 6 true).modSlot k fun y => { y with prior := d.hst k }).wr
        (Reg.HND_STATE k) HSAFE).orderPosture k).unitRun k) ∧
    (x.val = 4 → d.isDriver k = true → d.hst k = LATCHED → d.stagedCommand w x = d.wrBit (Reg.HND_SAFE_CAUSE k) 6 true) ∧
    (x.val = 4 → d.isDriver k = true → d.hst k = HSAFE → d.stagedCommand w x = d) ∧
    (x.val = 5 → d.hst k = HSAFE → d.rd (Reg.HND_SAFE_CAUSE k) = 0x40 →
      let y := d.slot k
      let e := (((d.wr (Reg.HND_SAFE_CAUSE k) 0).setSlot k { y with prior := if y.prior = LATCHED then y.left else y.prior }).wr
        (Reg.HND_STATE k) y.prior).modChan n fun c => { c with safeOn := false, due := false }
      (y.prior = RUNNING → d.stagedCommand w x = e) ∧ (y.prior ≠ RUNNING → d.stagedCommand w x = e.unitStop k)) ∧
    (x.val = 5 → d.hst k = HSAFE → d.rd (Reg.HND_SAFE_CAUSE k) = 0x42 → (d.branch (n / 4)).configured = true →
      d.stagedCommand w x = d.wr (Reg.HND_SAFE_CAUSE k) 0x02) ∧
    (x.val = 6 → d.handleCheck k 6 = OK →
      let e := d.swClear w n
      (e.rd (Reg.HND_SAFE_CAUSE k) = 0 → d.stagedCommand w x = e.wr (Reg.HND_STATE k) (e.slot k).prior) ∧
      (e.rd (Reg.HND_SAFE_CAUSE k) ≠ 0 → d.stagedCommand w x = (e.wr (Reg.HND_STATE k) HSAFE).orderPosture k) ∧
      ((d.chan n).state = swOC_LATCH ∨ (d.chan n).state = swTHERMAL_LATCH → (d.chan n).force.cmd = 0 →
        let c := d.chan n
        let f := (d.setChan n { c with left := c.set.retryN, state := swOFF, tries := 0 }).log1 0x0308 (d.chanSrc n) c.state
        (f.chan n).force.cmd = 0 → e = f))

/-- R53, R54, R57, R261: the module commands are staged where the module state admits them, ENTER_SERVICE with SERVICE privilege alone; and
what each does at its boundary. -/
def Obligations.ModuleCommandsAct : Prop :=
  (∀ (s : State) (r : Req) (v : Nat) (c : Instr),
    (c, v) ∈ [(Instr.goPreop r, 1), (.goOperate r, 2), (.devSafe r, 3), (.devResume r, 4), (.hold r, 5), (.enterService r, 6),
      (.leaveService r, 7)] →
    s.dev.serves r.id r.seq → s.dev.openTxn r.id = none → s.dev.atom = false →
    let q := writeReq r Reg.DEV_CMD 0 1 v
    (v = 6 → s.dev.serviceOf r.id = false → Obeys c s q { status := PRIVILEGE } s.dev) ∧
    ((v = 6 → s.dev.serviceOf r.id = true) →
      let m := s.dev.mode
      let present := (v = 1 ∧ m = PREOP) ∨ (v = 2 ∧ m = OPERATE) ∨ (v = 3 ∧ m = SAFE) ∨ (v = 5 ∧ m = HOLD) ∨ (v = 6 ∧ m = SERVICE)
      (s.dev.moduleCheck v = OK → present → Obeys c s q {} s.dev) ∧
      (s.dev.moduleCheck v = OK → ¬ present → Obeys c s q {} { s.dev with staged := s.dev.staged ++ [s.dev.entryOf q] }) ∧
      (s.dev.moduleCheck v = RANGE → Obeys c s q { status := RANGE } s.dev) ∧
      (s.dev.moduleCheck v = BUSY → Obeys c s q { status := BUSY } (s.dev.bump 32 Reg.OPS_BUSY_COUNT)))) ∧
  (∀ (d : Dev) (w : Worn) (x : Entry), x.ix = 0x0200 → x.sub = 2 →
    (d.moduleCheck x.val ≠ OK → d.stagedCommand w x = d.bump 32 Reg.HM_CMD_DROPPED) ∧
    (x.val = 1 → d.mode = OPERATE ∨ d.mode = HOLD →
      d.stagedCommand w x = ((d.wr Reg.DEV_STATE PREOP).wr Reg.PDW_STATE 0).wr Reg.PDW_REMAIN 0) ∧
    (x.val = 2 → d.mode = PREOP ∨ d.mode = HOLD → d.rd Reg.CN_ENABLE = 0 → d.stagedCommand w x = (d.wr Reg.DEV_STATE OPERATE).pdwRun) ∧
    (x.val = 2 → d.mode = PREOP ∨ d.mode = HOLD → d.rd Reg.CN_ENABLE = 1 → d.rd Reg.CN_STATE = 0 → d.moduleCheck 2 = BUSY) ∧
    (x.val = 3 → d.mode = PREOP ∨ d.mode = OPERATE ∨ d.mode = HOLD ∨ d.mode = SERVICE →
      d.stagedCommand w x = ((d.each d.drivers fun e k => e.safeTrigger k 3).wr Reg.DEV_STATE SAFE).pdwRun) ∧
    (x.val = 4 → d.mode = SAFE → d.modulePersists = false →
      d.stagedCommand w x = (((d.each d.drivers fun e k => e.clearCauses k 0x1D).wr Reg.DEV_STATE PREOP).wr Reg.PDW_STATE 0).wr
        Reg.PDW_REMAIN 0) ∧
    (x.val = 4 → d.mode = SAFE → d.modulePersists = true → d.moduleCheck 4 = BUSY) ∧
    (x.val = 5 → d.mode = OPERATE → d.stagedCommand w x = (d.wr Reg.DEV_STATE HOLD).pdwRun) ∧
    (x.val = 6 → d.mode = PREOP → d.stagedCommand w x = d.wr Reg.DEV_STATE SERVICE) ∧
    (x.val = 7 → d.mode = SERVICE → d.stagedCommand w x = d.wr Reg.DEV_STATE PREOP))

/-- R116, R117, R138, R149, R173, R204, R338: the other commands that wait for a boundary are answered OK once their objects' conditions
hold; and what they do there. -/
def Obligations.StagedObjectsAct : Prop :=
  (∀ (s : State) (c : Instr) (q : Request), writeOf c = some q → s.dev.permits q →
    let staged := { s.dev with staged := s.dev.staged ++ [s.dev.entryOf q] }
    (∀ r h, c = .lpComplianceAck r h → s.dev.kind (h % 128) = 2 → Obeys c s q {} staged) ∧
    (∀ r h, c = .lvCountClear r h → s.dev.kind (h % 128) = 4 → Obeys c s q {} staged) ∧
    (∀ r h, c = .swClampAck r h → isSwitch (s.dev.kind (h % 128)) = true → Obeys c s q {} staged) ∧
    (∀ r (i : UnitNo) v, c = .fiBankReq r i v → s.dev.unitCheck i 0x0B v = OK → Obeys c s q {} staged) ∧
    (∀ r v, c = .guDetAck r v → Obeys c s q {} staged) ∧
    (∀ r mask, c = .brRelease r mask → mask < 16 →
      (s.dev.releasable mask = ((List.range 4).filter fun b => bitOf mask b) → Obeys c s q {} staged) ∧
      ((s.dev.releasable mask).length < ((List.range 4).filter fun b => bitOf mask b).length →
        Obeys c s q { status := BUSY } (s.dev.bump 32 Reg.OPS_BUSY_COUNT)))) ∧
  (∀ (d : Dev) (w : Worn) (k : Nat) (x : Entry),
    (k < 128 → x.ix = 0x2000 + 0x40 * k → d.isLive x.hnd = true → x.hnd % 128 = k →
      (x.sub = 0x26 → d.kind k = 2 → d.stagedCommand w x = d.modChan (d.chanOf k) fun c => { c with ackDue := true }) ∧
      (x.sub = 0x18 → d.kind k = 4 → d.stagedCommand w x = d.modChan (d.chanOf k) fun c => { c with rises := 0, falls := 0 }) ∧
      (x.sub = 0x28 → isSwitch (d.kind k) = true →
        (d.mayClear (d.chanOf k) = true →
          d.stagedCommand w x = d.modChan (d.chanOf k) fun c => { c with flags := setBit c.flags 3 false }) ∧
        (d.mayClear (d.chanOf k) = false → d.stagedCommand w x = d))) ∧
    (∀ i : UnitNo, x.ix = 0x5000 + 0x40 * i.val → x.sub = 0x0B → d.rd (Reg.FI_STATE i) = 1 → d.rd (Reg.FI_CLASS i) = 0 →
      d.bank i x.val = 1 → x.val ≠ d.active i → d.unitCheck i 0x0B x.val = OK →
      d.stagedCommand w x = d.bankExchange i x.val) ∧
    (x.key = Reg.BR_RELEASE → x.ix = 0x0420 → x.sub = 0x0D →
      d.stagedCommand w x = (d.each (d.releasable x.val) fun e b => e.each (e.branchDrivers b) fun e k => e.clearCauses k 0x22).log1 0x0217
        0xFFF6 ((d.releasable x.val).foldl (fun a b => a + 2 ^ b) 0)) ∧
    (x.ix = 0x0211 → x.sub = 7 → d.stagedCommand w x = d.detAck))

/-- R43, R44, R45: a create that no condition refuses takes the lowest free slot; a destroy frees the slot. Both complete the oldest
deferred request. -/
def Obligations.CreatesAndDestroysComplete : Prop :=
  ∀ (s : State) (t : Nat) (f : Deferred),
    s.dev.coreWorks = true → s.dev.mayWrite = true → s.dev.nextDeferred = some f → f.q.op = OP_WRITE →
    let d := s.dev.at t
    (∀ k, f.e.key = Reg.HM_CREATE → s.dev.createCheck f.e.val = 0 → s.dev.freeSlot = some k →
      Goes (.createComplete t) s ((d.withDigests fun e => e.createNow k f.e.val).finish f
        { len := 2, data := handleOf k (s.dev.slot k).gen })) ∧
    (f.e.key = Reg.HM_CREATE → s.dev.createCheck f.e.val ≠ 0 →
      Goes (.createComplete t) s (((d.wr Reg.HM_REFUSE (s.dev.createCheck f.e.val)).wr Reg.HM_REFUSE_REQ (f.e.id % 256)).finish f
        { status := createStatus (s.dev.createCheck f.e.val) })) ∧
    (f.e.key = Reg.HM_DESTROY → f.e.ix = 0x1000 → f.e.sub = 2 → s.dev.isLive f.e.val = true → s.dev.rd Reg.CN_SELF = 0 →
      s.dev.hst (f.e.val % 128) = RUNNING ∨ s.dev.hst (f.e.val % 128) = HSAFE →
      Goes (.destroyComplete t) s (d.finish f { status := NEEDS_STOP })) ∧
    (f.e.key = Reg.HM_DESTROY → f.e.ix = 0x1000 → f.e.sub = 2 → s.dev.isLive f.e.val = true → s.dev.rd Reg.CN_SELF = 0 →
      s.dev.hst (f.e.val % 128) ≠ RUNNING → s.dev.hst (f.e.val % 128) ≠ HSAFE →
      Goes (.destroyComplete t) s ((d.withDigests fun e => e.destroyAt s.worn (f.e.val % 128)).finish f {}) ∧
      (s.dev.isDriver (f.e.val % 128) = false → ∃ u, exec (.destroyComplete t) s = .next u ∧ Rest s u ∧
        u.dev.slot (f.e.val % 128) =
          { gen := nextGen (f.e.val % 128) (s.dev.slot (f.e.val % 128)).gen, held := (s.dev.slot (f.e.val % 128)).held }))

/-- R258, R264, R265, R267: a WRITE that fails a check is answered with its status and changes nothing; a repeat is answered from the held
responses, one that is too old is refused, a new requester evicts the one idle longest, and where none may go the answer is BUSY. -/
def Obligations.RequestsAreJudged : Prop :=
  (∀ (s : State) (c : Instr) (q : Request), writeOf c = some q → s.dev.serves q.id q.seq → q.total = 0 →
    (∀ a, malformed q = some a → ∃ t, exec c s = .next t ∧ Rest s t ∧ t.dev.resp = s.dev.respond q a ∧ t.dev.aside = s.dev.aside) ∧
    (malformed q = none → s.dev.openTxn q.id = none →
      let st := s.dev.writeAccess (s.dev.serviceOf q.id) false q.ix q.sub q.hnd q.len (q.data % 2 ^ (8 * q.len))
      st ≠ OK → Obeys c s q { status := st } s.dev)) ∧
  (∀ (s : State) (c : Instr) (q : Request), writeOf c = some q → s.dev.crownUp = true → s.dev.rd Reg.PL_RUNG = 0 → malformed q = none →
    (∀ r p, s.dev.requester q.id = some r → r.held.find? (fun p => p.1 = q.seq) = some p →
      ∃ t, exec c s = .next t ∧ Rest s t ∧ t.dev.resp = p.2 ∧ t.dev.aside = (s.dev.bump 32 Reg.DR_REPEATS).aside) ∧
    (∀ r n, s.dev.requester q.id = some r → r.held.find? (fun p => p.1 = q.seq) = none → r.newest = some n →
      33 ≤ (n + 65536 - q.seq) % 65536 → (n + 65536 - q.seq) % 65536 ≤ 32767 →
      ∃ t, exec c s = .next t ∧ Rest s t ∧ t.dev.resp = s.dev.respond q { status := RANGE, detail := 2 } ∧
        t.dev.aside = (s.dev.bump 32 Reg.DR_TOO_OLD).aside) ∧
    (s.dev.requester q.id = none → 16 ≤ s.dev.reqs.length → (∀ r ∈ s.dev.reqs, ∃ f ∈ s.dev.deferred, f.q.id = r.id) →
      ∃ t, exec c s = .next t ∧ Rest s t ∧ t.dev.resp = s.dev.respond q { status := BUSY, detail := 2 } ∧
        t.dev.aside = (s.dev.bump 32 Reg.OPS_BUSY_COUNT).aside) ∧
    (∀ j, s.dev.requester q.id = none → 16 ≤ s.dev.reqs.length → s.dev.evictable = some j → s.dev.mode = INIT → inInit q.ix q.sub = false →
      q.total = 0 → ∃ t, exec c s = .next t ∧ Rest s t ∧ t.dev.resp = s.dev.respond q { status := BUSY, detail := 5 } ∧
        t.dev.requester j = none ∧ (t.dev.requester q.id).isSome = true ∧
        t.dev.aside = ((s.dev.bump 32 Reg.DR_EVICTIONS).bump 32 Reg.OPS_BUSY_COUNT).aside))

/-- R28, R31, R268: a deferred write outside a transaction is answered DEFERRED and takes one of the 256 entries of the operations table;
where none is free it is answered BUSY. -/
def Obligations.DeferredRowsAreAccepted : Prop :=
  ∀ (s : State) (r : Req) (v : Nat) (n : ChanNo) (i : UnitNo) (k : Fin 3) (b : BranchNo) (c : Instr) (q : Request),
    writeOf c = some q → s.dev.permits q →
    let row := c ∈ [Instr.hmCreate r v, .hmDestroy r v, .pupCodeWrite r true n v, .pupCodeWrite r false n v, .bkLoad r i k, .sqSwap r v,
      .cnAdopt r, .hwFlush r, .calTimeWrite r v, .erase r, .verify r, .swap r, .confirm r, .cancel r, .calStart r, .calLow r, .calHigh r,
      .calApply r, .calAbort r, .calRestore r, .grUcStart r b]
    let other := q.total = 0 ∧ malformed q = none ∧ s.dev.isDeferred q.ix q.sub true = true ∧ isHandleIx q.ix = false ∧ q.ix ≠ 0x0220 ∧
      actsAtOnce q.ix q.sub = false
    row ∨ other →
      (s.dev.opsInUse < 256 → Obeys c s q { status := DEFERRED }
        ({ s.dev with deferred := s.dev.deferred ++ [(⟨q, s.dev.entryOf q⟩ : Deferred)] }.wr Reg.OPS_PEAK
          (max (s.dev.rd Reg.OPS_PEAK) (s.dev.opsInUse + 1)))) ∧
      (256 ≤ s.dev.opsInUse → ∃ t, exec c s = .next t ∧ Rest s t ∧ t.dev.resp = s.dev.respond q { status := BUSY, detail := 1 } ∧
        t.dev.aside = (s.dev.bump 32 Reg.OPS_BUSY_COUNT).aside)

/-- R26, R60, R110, R199, R268, R336: the housekeeping core completes the oldest deferred write: its object's conditions are judged then, the
write takes effect or not, the final response is held and the entry is free; with the checks of power-up postures, banks and step tables. -/
def Obligations.DeferredRequestsComplete : Prop :=
  (∀ (s : State) (t : Nat) (f : Deferred), s.dev.coreWorks = true → s.dev.mayWrite = true → s.dev.nextDeferred = some f →
    f.q.op = OP_WRITE → s.dev.rd Reg.CN_SELF ≠ 2 → f.e.key ≠ Reg.CN_APPLY_AT →
    f.e.key ≠ Reg.TX_COMMIT → f.e.key ≠ Reg.HM_CREATE → f.e.key ≠ Reg.SQ_SWAP → f.e.ix < 0x5810 ∨ 0x5870 ≤ f.e.ix → f.e.ix ≠ 0x1010 →
    f.e.ix ≠ 0x1011 →
    let d := s.dev.at t
    (d.entryCheck s.worn f.e ≠ OK → Goes (.deferredComplete t) s (d.finish f { status := d.entryCheck s.worn f.e })) ∧
    (d.entryCheck s.worn f.e = OK →
      Goes (.deferredComplete t) s ((d.withDigests fun e => e.applyEntry s.worn f.e).finish f {}) ∧
      (f.e.key = Reg.HW_FLUSH → f.e.ix = 0x8000 → Goes (.deferredComplete t) s ((d.withDigests fun e => e.lifeFlush).finish f {})) ∧
      (f.e.ix = 0x7000 → f.e.sub = 0x0A → Goes (.deferredComplete t) s
        ((d.withDigests fun e => e.modCn fun y => { y with adopt := true }).finish f {})) ∧
      (f.e.ix = 0x8020 → f.e.sub = 1 → f.e.aux = 0 → Goes (.deferredComplete t) s ((d.withDigests fun e =>
        { e.wr Reg.CAL_STATE 1 with staged := e.staged ++ [{ f.e with aux := 1 }] }).finish f {})))) ∧
  (∀ (s : State) (t : Nat) (f : Deferred), s.dev.coreWorks = true → s.dev.mayWrite = true → s.dev.nextDeferred = some f →
    f.q.op = OP_WRITE →
    let d := s.dev.at t
    (∀ n : ChanNo, f.e.ix = 0x1010 → f.e.sub = n.val + 1 → d.pupCheck n f.e.val = OK → s.dev.rd Reg.CN_SELF ≠ 2 →
      (d.linked (n.val / 4) = true → Goes (.pupWriteDone t) s ((d.withDigests fun e => e.pupWrite n f.e.val).finish f {})) ∧
      (d.linked (n.val / 4) = false → Goes (.pupWriteDone t) s (d.finish f { status := BUSY }))) ∧
    (∀ (i : UnitNo) (k : Fin 3), f.e.ix = 0x5810 + 3 * i.val + k.val → f.e.sub = 8 → d.bank i k < 2 →
      (d.bankPasses i k = true → Goes (.bkLoadComplete t) s (((d.bankChecked i k 1).coefKept i k).finish f {})) ∧
      (d.bankPasses i k = false → Goes (.bkLoadComplete t) s ((d.setBank i k 0).finish f { status := RANGE }))) ∧
    (f.e.key = Reg.SQ_SWAP → f.e.ix = 0x0210 → f.e.sub = 1 → f.e.aux = 0 → d.swapCheck f.e.val = OK →
      Goes (.sqSwapCheckDone t) s ((d.swapPend f.e.val).1.finish f { status := (d.swapPend f.e.val).2 })))

/-- R253, R254, R270, R272: a WRITE of a kept object outside a transaction forms a transaction of one entry, which takes the next number
and is journalled at once. -/
def Obligations.KeptWritesFormTransactions : Prop :=
  ∀ (s : State) (r : Req) (i : UnitNo) (k : Fin 3) (sub v h : Nat) (span : Bool) (u : QueueNo) (c : Instr) (q : Request),
    writeOf c = some q → s.dev.permits q →
    let row := (c = .bankDescriptorWrite r i k sub v ∧ 1 ≤ sub ∧ sub ≤ 7) ∨
      (c = .trimWrite r h span v ∧ (s.dev.kind (h % 128) = 1 ∨ s.dev.kind (h % 128) = 2)) ∨ c = .quEnable r u ∨ c = .quDisable r u
    let other := q.total = 0 ∧ malformed q = none ∧ (∃ f, s.dev.info q.ix q.sub = some f ∧ f.persist = .kept) ∧
      s.dev.isDeferred q.ix q.sub true = false ∧ s.dev.isStagedCommand q.ix q.sub = false ∧ actsAtOnce q.ix q.sub = false ∧
      (isHandleIx q.ix = true → q.sub ≠ 0x1E)
    row ∨ other → s.dev.waiting = [] → s.dev.rd Reg.CN_SELF ≠ 2 → s.dev.mayWrite = true → q.ix * 256 + q.sub ≠ Reg.CN_APPLY_AT →
      let e := s.dev.entryOf q
      let n := s.dev.rd Reg.TX_NEXT
      let d := s.dev.used q
      (s.dev.entryCheck s.worn e = OK → Obeys c s q {}
        ((({ d.wr Reg.TX_NEXT (if n = 2 ^ 32 - 1 then 1 else n + 1) with
            txns := d.txns ++ [{ num := n, id := q.id, st := 2, entries := [e], last := q.t, cyc := e.cyc, done := true }] } : Dev).journalPut
          n q.id 2).pruneTxns)) ∧
      (s.dev.entryCheck s.worn e ≠ OK → s.dev.entryCheck s.worn e ≠ BUSY → Obeys c s q { status := s.dev.entryCheck s.worn e } s.dev)

/-- R269 to R273: TX_OPEN issues the next number, writes of an open transaction are staged, TX_COMMIT is answered DEFERRED and completes with
every entry checked over the earlier ones, TX_ABORT and TX_TIMEOUT end it without effect. -/
def Obligations.TransactionsStageAndCommit : Prop :=
  (∀ (s : State) (r : Req),
    (s.dev.permits (writeReq r Reg.TX_OPEN 0 1 1) → (s.dev.txns.filter fun x => x.st = 1).length < 8 →
      let q := writeReq r Reg.TX_OPEN 0 1 1
      let n := s.dev.rd Reg.TX_NEXT
      Obeys (.txOpen r 1) s q { len := 4, data := n }
        ({ (s.dev.used q).wr Reg.TX_NEXT (if n = 2 ^ 32 - 1 then 1 else n + 1) with
          txns := (s.dev.used q).txns ++ [{ num := n, id := r.id, last := r.t }] } : Dev).pruneTxns) ∧
    (∀ x, s.dev.serves r.id r.seq → s.dev.openTxn r.id = some x → Obeys (.txOpen r 1) s (writeReq r Reg.TX_OPEN 0 1 1)
      { status := BUSY, detail := 4 } ((s.dev.used (writeReq r Reg.TX_OPEN 0 1 1)).bump 32 Reg.OPS_BUSY_COUNT)) ∧
    (∀ n x, s.dev.serves r.id r.seq → n < 2 ^ 32 → s.dev.openTxn r.id = some x →
      let q := writeReq r Reg.TX_ABORT 0 4 n
      (x.num = n → Obeys (.txAbort r n) s q {} ((s.dev.used q).endTxn n 4 0 0)) ∧
      (x.num ≠ n → s.dev.journalHas n = true → Obeys (.txAbort r n) s q { detail := 1 } s.dev) ∧
      (x.num ≠ n → s.dev.journalHas n = false → Obeys (.txAbort r n) s q { status := RANGE, detail := 4 } s.dev)) ∧
    (∀ n t x, (s.dev.txns.find? fun y => y.num = n && y.st = 1) = some x → x.last + s.dev.rd Reg.TX_TIMEOUT * 1000000000 ≤ t →
      Goes (.txTimeout n t) s (((s.dev.at t).endTxn n 5 0 0).log1 0x0289 x.id n)) ∧
    (∀ n t x, (s.dev.txns.find? fun y => y.num = n && y.st = 1) = some x → t < x.last + s.dev.rd Reg.TX_TIMEOUT * 1000000000 →
      Goes (.txTimeout n t) s (s.dev.at t))) ∧
  (∀ (s : State) (r : Req) (x : Txn), s.dev.serves r.id r.seq → s.dev.openTxn r.id = some x →
    (∀ code, code < 2 ^ 32 → s.dev.serviceOf r.id = true → x.entries.length < 64 → (x.entries.map (·.len)).sum + 4 ≤ 2048 →
      let q := writeReq r Reg.PV_SERVICE_CODE 0 4 code
      Obeys (.pvServiceCode r code) s q { detail := 2 }
        ((s.dev.used q).modTxn x.num fun y => { y with entries := x.entries ++ [s.dev.entryOf q] })) ∧
    (∀ key v, key = Reg.SY_PULSE_NS ∨ key = Reg.PL_QUIET_MS →
      let q := writeReq r key 0 (if key = Reg.SY_PULSE_NS then 4 else 2) v
      s.dev.writeAccess (s.dev.serviceOf r.id) true q.ix q.sub 0 q.len v = OK → v < 2 ^ (8 * q.len) →
      (∀ y ∈ x.entries, y.key ≠ key) → x.entries.length < 64 → (x.entries.map (·.len)).sum + q.len ≤ 2048 →
      Obeys (.registerWrite q) s q { detail := 2 }
        ((s.dev.used q).modTxn x.num fun y => { y with entries := x.entries ++ [s.dev.entryOf q] })) ∧
    (∀ n, n < 2 ^ 32 → x.num = n → s.dev.opsInUse < 256 →
      let q := writeReq r Reg.TX_COMMIT 0 4 n
      Obeys (.txCommit r n) s q { status := DEFERRED } (({ s.dev with deferred := s.dev.deferred ++ [(⟨q, s.dev.entryOf q⟩ : Deferred)] }).wr
        Reg.OPS_PEAK (max (s.dev.rd Reg.OPS_PEAK) (s.dev.opsInUse + 1)))) ∧
    (∀ t f, s.dev.coreWorks = true → s.dev.mayWrite = true → s.dev.nextDeferred = some f → f.q.op = OP_WRITE →
      f.e.key = Reg.TX_COMMIT → f.e.ix = 0x0220 → f.e.id = r.id → f.e.val = x.num →
      let d := s.dev.at t
      (∀ g, Dev.checkAll s.worn true (d.layOver s.worn d.waiting) x.entries 1 = some g →
        Goes (.txCommitDone t) s ((d.refuseTxn x g).finish f { status := g.1, detail := 0x100 + g.2.1 })) ∧
      (Dev.checkAll s.worn true (d.layOver s.worn d.waiting) x.entries 1 = none → s.dev.rd Reg.CN_SELF ≠ 2 →
        (∀ y ∈ x.entries, y.key ≠ Reg.CN_APPLY_AT) →
        Goes (.txCommitDone t) s (((d.modTxn x.num fun y => { y with cyc := f.e.cyc, applyAt := none }).txJournalled x.num r.id).finish
          f {}))))

/-- R262, R263: SERVICE privilege is granted by the code, given back by PV_LOCK and lost by idling; three wrong codes within 60 s start a
lockout of 300 s. -/
def Obligations.PrivilegeIsGuarded : Prop :=
  ∀ (s : State) (r : Req), s.dev.serves r.id r.seq →
    (∀ code, code < 2 ^ 32 → s.dev.lockEnd = none →
      let q := writeReq r Reg.PV_UNLOCK 0 4 code
      let recent := s.dev.fails.filter fun t => r.t < t + 60000000000
      (code = s.dev.rd Reg.PV_SERVICE_CODE → ∃ t, exec (.pvUnlock r code) s = .next t ∧ Rest s t ∧ Answered s t q {} ∧
        t.dev.serviceOf r.id = true ∧ t.dev.aside = (s.dev.used q).aside) ∧
      (code ≠ s.dev.rd Reg.PV_SERVICE_CODE → recent.length < 2 → Obeys (.pvUnlock r code) s q { status := PRIVILEGE }
        { s.dev.bump 32 Reg.PV_FAILS with fails := recent ++ [r.t] }) ∧
      (code ≠ s.dev.rd Reg.PV_SERVICE_CODE → 2 ≤ recent.length → Obeys (.pvUnlock r code) s q { status := PRIVILEGE }
        { s.dev.bump 32 Reg.PV_FAILS with fails := [], lockEnd := some (r.t + 300000000000) })) ∧
    (∀ code e, code = s.dev.rd Reg.PV_SERVICE_CODE → code < 2 ^ 32 → s.dev.lockEnd = some e → r.t < e →
      Obeys (.pvUnlock r code) s (writeReq r Reg.PV_UNLOCK 0 4 code) { status := PRIVILEGE, detail := 1 } s.dev) ∧
    (∀ code e, code ≠ s.dev.rd Reg.PV_SERVICE_CODE → code < 2 ^ 32 → s.dev.lockEnd = some e → r.t < e →
      Obeys (.pvUnlock r code) s (writeReq r Reg.PV_UNLOCK 0 4 code) { status := PRIVILEGE, detail := 1 } (s.dev.bump 32 Reg.PV_FAILS)) ∧
    (∃ t, exec (.pvLock r 1) s = .next t ∧ Rest s t ∧ Answered s t (writeReq r Reg.PV_LOCK 0 1 1) {} ∧
      t.dev.serviceOf r.id = false ∧ t.dev.aside = s.dev.aside) ∧
    (∀ id t p, s.dev.requester id = some p → p.service = true →
      ∃ u, exec (.pvTimeout id t) s = .next u ∧ Rest s u ∧ u.dev.now = t ∧ u.dev.aside = s.dev.aside ∧
        u.dev.serviceOf id = decide (t < p.last + s.dev.rd Reg.PV_TIMEOUT * 1000000000)) ∧
    (∀ t e, s.dev.lockEnd = some e → e ≤ t → Goes (.pvLockoutEnd t) s { s.dev.at t with lockEnd := none, fails := [] })

/-- R221, R257, R258, R260: an ECHO returns its DATA; a READ of any object that is not deferred answers at most 16 bytes of the value as it
stood at segment 0, with the side effect of its read; a segmented write collects its segments in order, and runs as one write with the last:
of QU_WRITE, the one object of more than 16 bytes that is not deferred, whole. -/
def Obligations.SegmentsCarryValues : Prop :=
  ∀ (s : State) (q : Request), s.dev.serves q.id q.seq → q.segment ≤ 15 → q.len ≤ 16 →
    (q.data < 2 ^ (8 * q.len) → ∃ t, exec (.echo q) s = .next t ∧ Rest s t ∧
      Answered s t { q with op := OP_ECHO } { len := q.len, data := q.data } ∧ t.dev.aside = (s.dev.used q).aside) ∧
    (∀ i, s.dev.readAccess q.ix q.sub q.hnd = OK → s.dev.isDeferred q.ix q.sub false = false → s.dev.info q.ix q.sub = some i →
      q.segment = 0 → (q.ix = 0x0210 ∨ q.ix = 0x5800 ∨ q.ix = 0x0840 ∨ q.ix = 0x02F2) →
      ∃ t, exec (.segmentedRead q) s = .next t ∧ Rest s t ∧ t.dev.aside = (s.dev.used q).aside ∧
        Answered s t { q with op := OP_READ }
          (segmentOf 0 (i.ty.length (s.dev.rd (q.ix * 256 + q.sub))) (s.dev.rd (q.ix * 256 + q.sub)))) ∧
    (∀ p i, s.dev.readAccess q.ix q.sub q.hnd = OK → s.dev.isDeferred q.ix q.sub false = false → s.dev.info q.ix q.sub = some i →
      q.segment = 0 → s.dev.requester q.id = some p → s.dev.opsFree = true →
      let w := { q with op := OP_READ }
      let r := (s.dev.readied w).readNow ⟨s.ps, s.worn⟩ q.ix q.sub q.id
      ∃ t, exec (.segmentedRead q) s = .next t ∧ Rest s t ∧
        (r.2.1 = OK → t.dev.aside = r.1.aside ∧ t.dev.resp = r.1.respond w (segmentOf 0 (i.ty.length r.2.2) r.2.2)) ∧
        (r.2.1 ≠ OK → r.2.1 ≠ BUSY → t.dev.aside = r.1.aside ∧ t.dev.resp = r.1.respond w { status := r.2.1 })) ∧
    (∀ p L v, s.dev.readAccess q.ix q.sub q.hnd = OK → s.dev.isDeferred q.ix q.sub false = false → 0 < q.segment →
      s.dev.requester q.id = some p → p.snap = some (q.ix, q.sub, L, v) →
      ∃ t, exec (.segmentedRead q) s = .next t ∧ Rest s t ∧ t.dev.aside = (s.dev.used q).aside ∧
        Answered s t { q with op := OP_READ } (segmentOf q.segment L v)) ∧
    (q.id ≠ 0 → 17 ≤ q.total → q.total ≤ 256 → q.segment = 0 → q.len = 16 →
      ∃ t p, exec (.segmentedWrite q) s = .next t ∧ Rest s t ∧ t.dev.aside = (s.dev.used q).aside ∧
        Answered s t { q with op := OP_WRITE } { detail := 16 } ∧ t.dev.requester q.id = some p ∧
        p.collect = some (q.ix, q.sub, q.total, bytesLE 16 q.data)) ∧
    (∀ p got, 17 ≤ q.total → q.total ≤ 256 → 0 < q.segment → s.dev.requester q.id = some p →
      p.collect = some (q.ix, q.sub, q.total, got) → got.length = 16 * q.segment → q.len = min 16 (q.total - got.length) →
      got.length + q.len < q.total →
      ∃ t p', exec (.segmentedWrite q) s = .next t ∧ Rest s t ∧ t.dev.aside = (s.dev.used q).aside ∧
        Answered s t { q with op := OP_WRITE } { detail := got.length + q.len } ∧ t.dev.requester q.id = some p' ∧
        p'.collect = some (q.ix, q.sub, q.total, got ++ bytesLE q.len q.data)) ∧
    (∀ (i : QueueNo) p got, q.ix = 0x4000 + 0x10 * i.val → q.sub = 0x11 → 17 ≤ q.total → q.total ≤ 24 → 0 < q.segment → s.dev.requester q.id = some p →
      p.collect = some (q.ix, q.sub, q.total, got) → (∀ x ∈ got, x < 256) → got.length = 16 * q.segment →
      q.len = min 16 (q.total - got.length) → got.length + q.len = q.total → s.dev.openTxn q.id = none →
      s.dev.writeAccess (s.dev.serviceOf q.id) false q.ix q.sub q.hnd q.total (ofBytesLE (got ++ bytesLE q.len q.data)) = OK →
      s.dev.hostQueue i = true → (s.dev.queue i).broken = none →
      let w := { q with op := OP_WRITE }
      let r := ((s.dev.at q.t).used w).hostWrite i (got ++ bytesLE q.len q.data)
      (r.2 = OK → Obeys (.segmentedWrite q) s w {} r.1) ∧
      (r.2 = BUSY → Obeys (.segmentedWrite q) s w { status := BUSY } (r.1.bump 32 Reg.OPS_BUSY_COUNT)))

/-- R397, R398, R401, R413: the crown supply, its comparators and the resets that stop the crown. -/
def Obligations.SupplyEventsAct : Prop :=
  ∀ (s : State) (t : Nat),
    let d := s.dev.at t
    (s.dev.vinValid = false → s.dev.vinAbsent = true →
      Goes (.vinValid t) s { d with vinValid := true, vinAbsent := false, cause := 1, rungWas := 5 }) ∧
    (s.dev.vinValid = false → s.dev.vinAbsent = false → Goes (.vinValid t) s { d with vinValid := true }) ∧
    (s.dev.vinValid = true → s.dev.warn = false → s.dev.crownUp = false →
      Goes (.pwrWarnSet t) s { d with warn := true, tWarn := some t }) ∧
    (s.dev.vinValid = true → s.dev.warn = false → s.dev.crownUp = true → s.dev.coreUp = true → s.dev.rd Reg.PL_RUNG = 0 →
      Goes (.pwrWarnSet t) s ({ d with warn := true, tWarn := some t } : Dev).warnFlush) ∧
    (∀ mv us t0, s.dev.vinValid = true → s.dev.warn = true → s.dev.tWarn = some t0 →
      (s.dev.crownUp = true → s.dev.rd Reg.PL_RUNG = 0 → Goes (.pwrWarnCleared mv us t) s
        (({ d with warn := false, tWarn := none } : Dev).resumeWrites.logWarnFlush.logDip (mv, us, t0))) ∧
      (s.dev.crownUp = false → Goes (.pwrWarnCleared mv us t) s
        { d with warn := false, tWarn := none, dipsD0 := s.dev.dipsD0 ++ [(mv, us, t0)] })) ∧
    (∀ mv us t0, s.dev.logDip (mv, us, t0) = ((((s.dev.wr Reg.PWR_DIP_MIN mv).wr Reg.PWR_DIP_TIME (min (2 ^ 32 - 1) us)).wr
      Reg.PWR_DIP_AT t0).modLife fun m => { m with dips := m.dips + 1 }).log1 0x0101 0xFFFF (min 65535 us + mv % 65536 * 65536)) ∧
    (s.dev.vinValid = true → Goes (.brownOut t) s { d.crownDown 2 with vinValid := false, tWarn := none }) ∧
    Goes (.vinAbsent t) s { d.crownDown 1 with vinValid := false, vinAbsent := true, tWarn := none, rungWas := 5 } ∧
    (s.dev.vinAbsent = true → Goes (.vbakLost t) s (d.wr Reg.CAL_STATE 0)) ∧
    Goes (.rstn t) s (d.crownDown 3) ∧
    (s.dev.crownUp = true → s.dev.rd Reg.PL_RUNG ≤ 1 → Goes (.clockLoss t) s (d.crownDown 4)) ∧
    (∀ mv, s.dev.crownUp = true → 2200 ≤ mv → mv < 65536 →
      Goes (.vbakMeasure mv t) s ((d.wr Reg.PWR_VBAK mv).wrBit Reg.PWR_FLAGS 3 false)) ∧
    (∀ mv, s.dev.crownUp = true → mv < 2200 → bitOf (s.dev.rd Reg.PWR_FLAGS) 3 = false →
      Goes (.vbakMeasure mv t) s (((d.wr Reg.PWR_VBAK mv).wrBit Reg.PWR_FLAGS 3 true).log1 0x0104 0xFFFF mv))

/-- R23, R59, R207, R254, R264, R413: a reset of the running crown ends its requests, open transactions, open packets and volatile counts, and
leaves what the branches and channels hold, heartwood and the event log; PWR_RESET_CMD is such a reset, answered before it. -/
def Obligations.CrownResetForgets : Prop :=
  (∀ (d : Dev) (cause : Nat), d.crownUp = true → d.graft.calSlot = none → d.keepsOutputs →
    let e := d.crownDown cause
    e.crownUp = false ∧ e.coreUp = false ∧ e.cause = cause ∧ e.rungWas = d.rd Reg.PL_RUNG ∧ e.mode = INIT ∧ e.reqs = [] ∧ e.deferred = [] ∧
      e.staged = [] ∧ e.ops = 0 ∧ e.resp = {} ∧ e.dmas = [] ∧ e.staging = [] ∧ e.fails = [] ∧ e.lockEnd = none ∧ e.eccCnt = [] ∧
      e.psErrs = [] ∧ e.scrubAt = none ∧ (∀ i, e.inst i = { crc := (d.inst i).crc }) ∧
      (∀ x ∈ e.txns, x ∈ d.txns ∧ x.st = 2 ∧ x.done = true) ∧ (∀ x ∈ d.txns, x.st = 2 → x.done = true → x ∈ e.txns) ∧
      (∀ q, (e.queue q).opn = none ∧ (e.queue q).pkts = (if d.rd (Reg.QU_ENABLE q) = 1 then (d.queue q).pkts else [])) ∧
      (∀ n, e.chan n = { d.chan n with tRise := 0, tFall := 0 }) ∧ e.journal = d.journal ∧ e.heart = d.heart ∧ e.log = d.log ∧
      e.psBad = d.psBad ∧
      (∀ b, (e.branch b).toCrown = [] ∧ (e.branch b).toBranch = [] ∧ (e.branch b).power = (d.branch b).power ∧
        (e.branch b).digest = (d.branch b).digest ∧ (e.branch b).buf = (d.branch b).buf ∧ (e.branch b).linkUp = (d.branch b).linkUp ∧
        (e.branch b).vf = 0 ∧ (e.branch b).vfMin = 0 ∧ (e.branch b).seenStatus = 0 ∧ (e.branch b).seenPower = 0)) ∧
  (∀ (s : State) (r : Req) (v : Nat), s.dev.permits (writeReq r Reg.PWR_RESET_CMD 0 2 v) →
    s.dev.keepsOutputs → s.dev.graft.calSlot = none →
    ∃ t, exec (.pwrResetCmd r v) s = .next t ∧ Rest s t ∧ t.dev.crownUp = false ∧ t.dev.cause = 5 ∧ t.dev.mode = INIT ∧
      t.dev.resp = s.dev.respond (writeReq r Reg.PWR_RESET_CMD 0 2 v) {})

/-- R54, R59, R111, R207, R368, R412: the crown starts where its supply is valid, and the restore ends INIT unless something keeps the module
there: HOLD where a branch with a driver is adopted, else PREOP. -/
def Obligations.CrownStartsAndRestores : Prop :=
  ∀ (s : State) (t : Nat),
    let d := s.dev.at t
    (∀ vio vbak nor testHigh psram bank0 bank1 failed, s.dev.crownUp = false → s.dev.vinValid = true → s.dev.asleep = false →
      let e := d.crownBoot vio vbak nor testHigh psram bank0 bank1 failed
      exec (.crownStart vio vbak nor testHigh psram bank0 bank1 failed t) s =
        .next { s with dev := e, worn := s.worn.loseCal e.heart.failed } ∧
      ((bank0 = true ∧ s.dev.graft.active = 0) ∨ (bank1 = true ∧ s.dev.graft.active = 1) → testHigh = false → nor.isSome = true →
        (1650 ≤ vio ∧ vio ≤ 1950) ∨ (3000 ≤ vio ∧ vio ≤ 3600) →
        failed = [] → e.crownUp = true ∧ e.coreUp = true ∧ e.stuck = false ∧ e.rd Reg.PWR_RESET_CAUSE = s.dev.cause ∧ e.rd Reg.PWR_VIO = vio ∧
          e.rd Reg.QM_XSPI_CLOCK = (if vio ≤ 1950 then 200 else 100) ∧ e.rd Reg.WD0_STATE = 1)) ∧
    (∀ (e : Dev) mv, e.measureVio mv = (let f := (e.wr Reg.PWR_VIO (mv % 65536)).wrBit Reg.PWR_FLAGS 1 (decide (3000 ≤ mv ∧ mv ≤ 3600))
      if 1650 ≤ mv ∧ mv ≤ 1950 then f.wr Reg.QM_XSPI_CLOCK 200 else if 3000 ≤ mv ∧ mv ≤ 3600 then f.wr Reg.QM_XSPI_CLOCK 100
      else { (f.wrBit Reg.PWR_FLAGS 2 true).log1 0x0103 0xFFFF mv with stuck := true })) ∧
    (s.dev.crownUp = true → s.dev.mode = INIT → s.dev.coreUp = true → s.dev.stuck = false →
      Goes (.restoreComplete t) s (d.restored s.worn) ∧
      (s.dev.liveSlots = [] → (d.restored s.worn).mode = PREOP ∧
        (d.restored s.worn).rd Reg.DR_EPOCH = (s.dev.rd Reg.DR_EPOCH + 1) % 256 ∧ (d.restored s.worn).coef = s.dev.coefNor ∧
        (d.restored s.worn).recover = s.dev.atom ∧ (d.restored s.worn).discarded = [])) ∧
    (s.dev.crownUp = true → s.dev.coreUp = false → s.dev.rd Reg.GR_HK_STATE ≠ 5 → s.dev.stuck = false →
      Goes (.housekeepingCoreResetEnd t) s (({ d with
        coreUp := true, wd0 := { start := t, armed := false, lastC := s.dev.wd0.lastC, lastT := s.dev.wd0.lastT } } : Dev).wr
        Reg.WD0_STATE 1))

/-- R60, R61, R136, R163, R183, R402 to R405, R418: a branch supply starts, becomes valid, fails and ends. -/
def Obligations.BranchSuppliesAct : Prop :=
  ∀ (s : State) (b : BranchNo) (t vf : Nat),
    let x := s.dev.branch b
    let d := s.dev.at t
    (x.power = 0 → Goes (.branchStart b t) s (d.setBranch b { x with
      power := 1, startLock := true, offCnt := (x.offCnt + 1) % 2 ^ 32, offS := x.tOff.map fun t0 => (t - t0) / 1000000000 })) ∧
    (x.power ≠ 0 → x.startLock = true → Goes (.vfbValid b t) s
      ((((((d.setBranch b { x with startLock := false, valid := true }).pupApply s.worn (4 * b.val)).pupApply s.worn (4 * b.val + 1)).pupApply
        s.worn (4 * b.val + 2)).pupApply s.worn (4 * b.val + 3)))) ∧
    (∀ (e : Dev) (n : Nat), (e.drvP n).isNone = true → (e.chan n).state = swOFF → e.rd (Reg.PUP_CODE n) ∉ [1, 6] →
      let f := e.modChan n fun c => { c with pup := true, safeOn := false, due := false }
      let nA : Nat := match e.rd (Reg.PUP_CODE n) with
        | 3 => e.rd (Reg.PUP_VALUE n)
        | 4 => 3600000
        | 5 => 21000000
        | _ => 0
      e.pupApply s.worn n = (if e.rd (Reg.PUP_CODE n) = 7 then f else
        (f.modChan n fun c => { c with force := { nA := nA }, target := nA, txOn := false, drive := c.driveFor nA }).alarmMark n)) ∧
    (x.power ≠ 0 → x.startLock = false → x.uvlo = false → Goes (.underVoltageLock b vf t) s
      ((((d.setBranch b { x with uvlo := true, valid := false }).each ((d.setBranch b { x with uvlo := true, valid := false }).leads b)
        fun e n => e.swLock n).bump 32 (Reg.VF_UVLO_COUNT b)).protect (4 * b.val) 0x0112 vf)) ∧
    (∀ ms, x.power ≠ 0 → x.uvlo = true →
      let e := (d.setBranch b { x with uvlo := false, valid := true }).report (4 * b.val) 0x0113 (0xFFF0 + b.val)
        (min 65535 ms + x.uvPol % 2 * 65536)
      let ns := (e.leads b).filter fun n => (e.chan n).state = swOFF
      (x.uvPol = 0 → Goes (.lockReleased b ms t) s (e.each ns fun f n => f.swFromOff s.worn n)) ∧
      (x.uvPol ≠ 0 → Goes (.lockReleased b ms t) s (e.each ns fun f n => f.modChan n fun c => { c with stayOff := true }))) ∧
    (x.power ≠ 0 → ∃ u, exec (.branchOff b t) s = .next u ∧ Rest s u ∧ (u.dev.branch b).power = 0 ∧ (u.dev.branch b).linkUp = false ∧
      (u.dev.branch b).tOff = some t ∧ (u.dev.branch b).toCrown = [] ∧ (u.dev.branch b).toBranch = [] ∧
      (∀ i, i < 4 → (u.dev.chan (4 * b.val + i)).force = {} ∧ (u.dev.chan (4 * b.val + i)).set = (s.dev.chan (4 * b.val + i)).set ∧
        (u.dev.chan (4 * b.val + i)).state = (if swLatched (s.dev.chan (4 * b.val + i)).state then (s.dev.chan (4 * b.val + i)).state
          else swOFF)) ∧
      (∀ n, n / 4 ≠ b.val → u.dev.chan n = s.dev.chan n)) ∧
    (x.power ≠ 0 → x.warn = false → vf < x.warnLvl →
      Goes (.vfWarn b true vf t) s ((d.setBranch b { x with warn := true }).report (4 * b.val) 0x0110 (0xFFF0 + b.val) vf)) ∧
    (x.power ≠ 0 → x.warn = true → x.warnLvl + 50 ≤ vf →
      Goes (.vfWarn b false vf t) s ((d.setBranch b { x with warn := false }).report (4 * b.val) 0x0111 (0xFFF0 + b.val) vf)) ∧
    (x.power ≠ 0 → x.high = false → 6100 < vf →
      Goes (.vfHigh b true vf t) s ((d.setBranch b { x with high := true }).report (4 * b.val) 0x0115 (0xFFF0 + b.val) vf)) ∧
    (x.power ≠ 0 → x.high = true → vf < 6000 → Goes (.vfHigh b false vf t) s (d.setBranch b { x with high := false })) ∧
    (∀ n code src det, n / 4 = b.val →
      (s.dev.hears b = true → d.report n code src det = d.log1 code src det) ∧
      (s.dev.hears b = false → d.report n code src det = d.protect n code det))

/-- R406 to R409: a descent takes the crown to its target rung; an effective wake event brings it back to RUN, from KEEP through a crown
start with code 6. -/
def Obligations.LadderDescendsAndWakes : Prop :=
  ∀ (s : State) (t : Nat),
    let d := s.dev.at t
    (s.dev.crownUp = true → s.dev.mode ≠ INIT → s.dev.rd Reg.PL_RUNG = 0 → d.ladderBlock = 0 → Goes (.descent t) s d.descend) ∧
    (s.dev.rd Reg.PL_TARGET = 1 →
      let e := (d.bump 32 Reg.PL_DESCENTS).log1 0x0108 0xFFFF 1
      d.descend = (({ e with
        maskD0 := e.rd Reg.PL_WAKE_MASK, timeD0 := e.rd Reg.PL_WAKE_TIME, wd0 := { e.wd0 with paused := true }, faultD0 := e.faultLand } : Dev).stopCycles).wr Reg.PL_RUNG 1) ∧
    (s.dev.rd Reg.PL_TARGET = 5 → s.dev.crownUp = true → s.dev.graft.calSlot = none →
      d.descend.asleep = true ∧ d.descend.crownUp = false ∧ d.descend.cause = 6) ∧
    (∀ src, d.wakes src = true → s.dev.asleep = true →
      Goes (.wake src t) s { d with asleep := false, cause := 6, wakeD0 := some src }) ∧
    (∀ src, d.wakes src = true → s.dev.asleep = false → s.dev.crownUp = true → s.dev.rd Reg.PL_RUNG ≠ 0 →
      Goes (.wake src t) s (d.wakeTo (s.dev.rd Reg.PL_RUNG) src)) ∧
    (∀ src, s.dev.rd Reg.PL_RUNG = 1 → s.dev.dipsD0 = [] →
      d.wakeTo 1 src = ((({ ((d.wr Reg.PL_RUNG 0).wr Reg.PL_LAST_WAKE src).wr Reg.WD0_STATE 1 with
        coreUp := true, wd0 := { start := t, armed := false, lastC := s.dev.wd0.lastC, lastT := s.dev.wd0.lastT } } : Dev).log1 0x0109 0xFFFF
        (1 + src * 256)).logDips.cyclesBegin)) ∧
    (d.wakes 0 = bitOf s.dev.maskD0 0 ∧ d.wakes 1 = bitOf s.dev.maskD0 1 ∧
      d.wakes 2 = (bitOf s.dev.maskD0 2 && decide (s.dev.rd Reg.SY_LAND_MODE = 0)) ∧
      d.wakes 3 = (bitOf s.dev.maskD0 3 && (decide (s.dev.timeD0 ≠ 0) && decide (s.dev.timeD0 ≤ t))) ∧
      d.wakes 8 = ((List.range 4).any fun b => (s.dev.branch b).parked) ∧ d.wakes 9 = true)

/-- R325 to R329, R332: check-ins, keys, services, violations, the close of the window, the second stage and the WDO pulse of both watchdogs;
the check-in, the keys and the enable of W1 are requests, W0 is the housekeeping core's own. A check-in or a key of a watchdog that does not
run has no effect. -/
def Obligations.WatchdogsJudge : Prop :=
  (∀ (s : State) (r : Req) (t : Nat),
    let d := s.dev.at r.t
    let e := s.dev.at t
    (∀ id, id < 16 → s.dev.wdRuns false = true →
      (bitOf s.dev.wd0.seen id = false → Goes (.wdCheckin false r id) s { d with wd0 := { s.dev.wd0 with seen := setBit s.dev.wd0.seen id true } }) ∧
      (bitOf s.dev.wd0.seen id = true → Goes (.wdCheckin false r id) s
        (({ d with wd0 := { s.dev.wd0 with rep := setBit s.dev.wd0.rep id true } } : Dev).wdViolate false 3 ((r.t - s.dev.wd0.start) / 1000)))) ∧
    (∀ tick, s.dev.wdRuns false = true → s.dev.wd0.armed = false →
      Goes (.wdKey1 false r tick) s { d with wd0 := { s.dev.wd0 with armed := true } } ∧
      Goes (.wdKey2 false r tick) s (({ d with wd0 := { s.dev.wd0 with armed := false } } : Dev).wdViolate false 2 tick)) ∧
    (∀ tick, s.dev.wdRuns false = true → s.dev.wd0.armed = true →
      Goes (.wdKey1 false r tick) s (({ d with wd0 := { s.dev.wd0 with armed := false } } : Dev).wdViolate false 2 tick) ∧
      Goes (.wdKey2 false r tick) s (({ d with wd0 := { s.dev.wd0 with armed := false } } : Dev).wdService false tick)) ∧
    (∀ id tick, s.dev.wdRuns false = false →
      Goes (.wdCheckin false r id) s d ∧ Goes (.wdKey1 false r tick) s d ∧ Goes (.wdKey2 false r tick) s d) ∧
    (∀ w1, s.dev.wdRuns w1 = false ∨ s.dev.rd (wdState w1) ≠ 1 → Goes (.wdWindowClose w1 t) s e) ∧
    (∀ w1, s.dev.wdRuns w1 = false ∨ s.dev.rd (wdState w1) ≠ 2 → Goes (.wdStage2 w1 t) s e) ∧
    (∀ w1, s.dev.wdRuns w1 = true → s.dev.rd (wdState w1) = 1 →
      (s.dev.wdMissing w1 = 0 → Goes (.wdWindowClose w1 t) s (e.wdViolate w1 5 (s.dev.wdClose w1))) ∧
      (s.dev.wdMissing w1 ≠ 0 → Goes (.wdWindowClose w1 t) s (e.wdViolate w1 4 (s.dev.wdClose w1)))) ∧
    (s.dev.wdRuns false = true → s.dev.rd Reg.WD0_STATE = 2 → Goes (.wdStage2 false t) s
      { ((e.wr Reg.WD0_STATE 3).log1 0x0206 0xFFF4 (e.wdDetail false)).bump 32 Reg.WD0_RESETS with coreUp := false }) ∧
    (s.dev.wdRuns true = true → s.dev.rd Reg.WD1_STATE = 2 →
      let f := (((e.wr Reg.WD1_STATE 3).log1 0x0206 0xFFF5 (e.wdDetail true)).bump 32 Reg.WD1_STAGE2).wdoPulse
      (bitOf (f.rd Reg.WD1_POLICY) 0 = false → Goes (.wdStage2 true t) s f) ∧
      (bitOf (f.rd Reg.WD1_POLICY) 0 = true → Goes (.wdStage2 true t) s (f.moduleSafe 4))) ∧
    Goes (.wdoPulseEnd t) s { e with wdoLow := false } ∧
    (s.dev.wdoLow = false → s.dev.wdoPulse = ({ s.dev with wdoLow := true } : Dev).bump 32 Reg.WDO_PULSES) ∧
    (s.dev.wdoLow = true → s.dev.wdoPulse = s.dev)) ∧
  (∀ (d : Dev) (w1 : Bool) (c tick : Nat),
    (d.rd (wdState w1) ≠ 1 → d.wdViolate w1 c tick = d.setWd w1 { d.wd w1 with viols := ((d.wd w1).viols + 1) % 2 ^ 32, lastC := c, lastT := tick }) ∧
    (d.rd Reg.WD0_STATE = 1 → d.wdViolate false c tick =
      ((({ d with wd0 := { d.wd0 with viols := (d.wd0.viols + 1) % 2 ^ 32, lastC := c, lastT := tick, tViol := d.now } } : Dev).wr
        Reg.WD0_STATE 2).log1 (0x01FF + c) 0xFFF4 (d.wdDetail false)).bump 32 Reg.WD0_WARNINGS) ∧
    (d.rd Reg.WD1_STATE = 1 →
      let e := (({ d with wd1 := { d.wd1 with viols := (d.wd1.viols + 1) % 2 ^ 32, lastC := c, lastT := tick, tViol := d.now } } : Dev).wr
        Reg.WD1_STATE 2).log1 (0x01FF + c) 0xFFF5 (d.wdDetail true)
      d.wdViolate true c tick = { e with port := { e.port with pend := setBit e.port.pend 5 true } }) ∧
    (d.wdRuns w1 = false → (∀ id, d.wdCheckIn w1 id = d) ∧ ∀ v, d.wdKey w1 v tick = d) ∧
    (d.wdRuns w1 = true →
      (∀ id, bitOf (d.wd w1).seen id = false → d.wdCheckIn w1 id = d.setWd w1 { d.wd w1 with seen := setBit (d.wd w1).seen id true }) ∧
      (∀ id, bitOf (d.wd w1).seen id = true →
        let e := d.setWd w1 { d.wd w1 with rep := setBit (d.wd w1).rep id true }
        (w1 = true → bitOf (d.rd Reg.WD1_POLICY) 1 = false → d.wdCheckIn w1 id = e) ∧
        (w1 = false ∨ bitOf (d.rd Reg.WD1_POLICY) 1 = true →
          d.wdCheckIn w1 id = e.wdViolate w1 3 ((d.now - (d.wd w1).start) / 1000))) ∧
      ((d.wd w1).armed = false → d.wdKey w1 0x3C5A tick = d.setWd w1 { d.wd w1 with armed := true }) ∧
      ((d.wd w1).armed = true → d.wdKey w1 0xA5C3 tick = (d.setWd w1 { d.wd w1 with armed := false }).wdService w1 tick) ∧
      (∀ v, v ≠ 0x3C5A ∨ (d.wd w1).armed = true → v ≠ 0xA5C3 ∨ (d.wd w1).armed = false →
        d.wdKey w1 v tick = (d.setWd w1 { d.wd w1 with armed := false }).wdViolate w1 2 tick)) ∧
    (d.wdMissing w1 ≠ 0 → d.wdService w1 tick = d.setWd w1 { d.wd w1 with inc := ((d.wd w1).inc + 1) % 2 ^ 32 }) ∧
    (d.wdMissing w1 = 0 → d.rd (wdState w1) = 1 → tick < d.wdOpen w1 → d.wdService w1 tick = d.wdViolate w1 1 tick) ∧
    (d.wdMissing w1 = 0 → d.rd (wdState w1) = 1 → d.wdOpen w1 ≤ tick →
      d.wdService w1 tick = (d.wr (wdState w1) 1).setWd w1 { d.wd w1 with start := d.now, seen := 0, rep := 0 }) ∧
    (d.wdMissing w1 = 0 → d.rd (wdState w1) = 2 ∨ d.rd (wdState w1) = 3 →
      let x := d.wd w1
      let b := if d.rd (wdState w1) = 3 then 1 else 0
      let e := if d.rd (wdState w1) = 2 then d.bump 32 (if w1 then Reg.WD1_RETURNS else Reg.WD0_RETURNS) else d
      let f := e.log1 0x0205 (wdSrc w1) (min (2 ^ 24 - 1) ((d.now - x.tViol) / 1000) + b * 2 ^ 24)
      d.wdService w1 tick = (f.wr (wdState w1) 1).setWd w1 { x with start := d.now, seen := 0, rep := 0 })) ∧
  (∀ (s : State) (r : Req),
    (∀ id, id < 16 → s.dev.permits (writeReq r Reg.WD1_CHECKIN 0 1 id) → s.dev.wdRuns true = true → bitOf s.dev.wd1.seen id = false →
      Obeys (.wdCheckin true r id) s (writeReq r Reg.WD1_CHECKIN 0 1 id) {}
        { s.dev with wd1 := { s.dev.wd1 with seen := setBit s.dev.wd1.seen id true } }) ∧
    (∀ id, id < 16 → s.dev.permits (writeReq r Reg.WD1_CHECKIN 0 1 id) →
      Obeys (.wdCheckin true r id) s (writeReq r Reg.WD1_CHECKIN 0 1 id) {} ((s.dev.at r.t).wdCheckIn true id)) ∧
    (∀ tick, s.dev.permits (writeReq r Reg.WD1_KEY 0 2 0x3C5A) →
      let d := (s.dev.at r.t).wdKey true 0x3C5A tick
      Obeys (.wdKey1 true r tick) s (writeReq r Reg.WD1_KEY 0 2 0x3C5A) {} { d with wd1 := { d.wd1 with cap := none } }) ∧
    (∀ tick, s.dev.permits (writeReq r Reg.WD1_KEY 0 2 0xA5C3) →
      let d := (s.dev.at r.t).wdKey true 0xA5C3 tick
      Obeys (.wdKey2 true r tick) s (writeReq r Reg.WD1_KEY 0 2 0xA5C3) {} { d with wd1 := { d.wd1 with cap := none } }) ∧
    (∀ id, 16 ≤ id → id < 256 → s.dev.serves r.id r.seq → s.dev.openTxn r.id = none →
      Obeys (.wdCheckin true r id) s (writeReq r Reg.WD1_CHECKIN 0 1 id) { status := RANGE } s.dev) ∧
    (∀ tick, s.dev.permits (writeReq r Reg.WD1_KEY 0 2 0x3C5A) → s.dev.wdRuns true = true → s.dev.wd1.armed = false →
      Obeys (.wdKey1 true r tick) s (writeReq r Reg.WD1_KEY 0 2 0x3C5A) {} { s.dev with wd1 := { s.dev.wd1 with armed := true, cap := none } }) ∧
    (∀ tick, s.dev.permits (writeReq r Reg.WD1_KEY 0 2 0xA5C3) → s.dev.wdRuns true = true → s.dev.wd1.armed = true →
      s.dev.rd Reg.WD1_STATE = 1 → s.dev.wdMissing true = 0 → s.dev.wdOpen true ≤ tick →
      Obeys (.wdKey2 true r tick) s (writeReq r Reg.WD1_KEY 0 2 0xA5C3) {}
        ((s.dev.wr Reg.WD1_STATE 1).setWd true { s.dev.wd1 with armed := false, start := r.t, seen := 0, rep := 0, cap := none })) ∧
    (s.dev.permits (writeReq r Reg.WD1_ENABLE 0 1 1) → s.dev.rd Reg.WD1_STATE = 0 →
      Obeys (.wd1Enable r) s (writeReq r Reg.WD1_ENABLE 0 1 1) {}
        { (s.dev.wr Reg.WD1_ENABLE 1).wr Reg.WD1_STATE 1 with wd1 := { s.dev.wd1 with start := r.t, seen := 0, rep := 0, armed := false } }) ∧
    (s.dev.permits (writeReq r Reg.WD1_ENABLE 0 1 0) →
      Obeys (.wd1Disable r) s (writeReq r Reg.WD1_ENABLE 0 1 0) {}
        { (s.dev.wr Reg.WD1_ENABLE 0).wr Reg.WD1_STATE 0 with wd1 := { s.dev.wd1 with armed := false } }))

/-- R134, R369, R374, R377, R379, R384: the fold, the flush of the life lines, a branch's report with the time at alarm, ring records and the
calendar. The temperature of the crown die is a free value (log entry 15). -/
def Obligations.HeartwoodKeeps : Prop :=
  ∀ (s : State) (t : Nat),
    let d := s.dev.at t
    (s.dev.crownUp = true → s.dev.mayWrite = true → s.dev.heart.bank0 = true → s.dev.heart.bank1 = true →
      let last := s.dev.rd Reg.GU_ATOM_LAST_TXN
      Goes (.fold t) s ((({ d with heart := { s.dev.heart with folded0 := last, folded1 := last } } : Dev).wrote
        [regionLine 1, regionLine 1 + 896]).wr Reg.HW_FOLDED last)) ∧
    (s.dev.crownUp = true → s.dev.coreUp = true → s.dev.mayWrite = true → Goes (.lifeFlush t) s
      (d.took.modLife fun m => { m with
        opTime := min (2 ^ 32 - 1) (m.opTime + 600), peakCrown := max m.peakCrown (toInt 16 (s.dev.freeNat 16)) }).lifeFlush) ∧
    (∀ (b : BranchNo) (incs : List LifeInc), s.dev.linked b = true → (∀ x ∈ incs, x.chan.val / 4 ≠ b.val) →
      let f := fun (e : Dev) (n : Nat) => (e.collect n).countAlarm n
      Goes (.counterReport b incs t) s (f (f (f (f d (4 * b.val)) (4 * b.val + 1)) (4 * b.val + 2)) (4 * b.val + 3))) ∧
    (∀ (b : BranchNo) (x : LifeInc), s.dev.linked b = true → x.chan.val / 4 = b.val → (∀ i, i < 4 → (s.dev.chan (4 * b.val + i)).inc = {}) →
      let c := s.dev.chan x.chan
      let ns := c.alarmNs + match c.alarmAt with
        | none => 0
        | some t0 => t - t0
      ∃ u, exec (.counterReport b [x] t) s = .next u ∧ Rest s u ∧ (u.dev.chan x.chan).alarmNs = ns % 1000000000 ∧
        (u.dev.chan x.chan).life.alarm = min (2 ^ 32 - 1) (min (2 ^ 32 - 1) c.life.alarm + ns / 1000000000) ∧
        (u.dev.chan x.chan).life.onTime = min (2 ^ 32 - 1) (min (2 ^ 32 - 1) (s.dev.chan x.chan).life.onTime + x.onTime) ∧
        (u.dev.chan x.chan).life.peak = max (max (s.dev.chan x.chan).life.peak 0) x.peakTemp) ∧
    (∀ year late, s.dev.crownUp = true → s.dev.coreUp = true → s.dev.rd Reg.PL_RUNG = 0 → s.dev.mayWrite = true → (late = true → s.dev.rd Reg.CAL_STATE ≠ 0) →
      Goes (.ringRecord year late t) s (d.ringRecord s.worn year late)) ∧
    (∀ cal : Nat, s.dev.crownUp = true → s.dev.coreUp = true → s.dev.rd Reg.RT_STATE = 2 →
      let diff : Int := (cal : Int) - t
      let e := d.wrI 32 Reg.CAL_OFFSET (clampInt (-(2 ^ 31)) (2 ^ 31 - 1) diff)
      (61000 < diff.natAbs → Goes (.calCompare cal t) s
        (((e.log1 0x0806 0xFFFD (ofInt 32 (clampInt (-(2 ^ 31)) (2 ^ 31 - 1) (roundDiv diff 1000)))).wr Reg.CAL_STATE 2).wr
          Reg.CAL_LAST_DISC t)) ∧
      (diff.natAbs ≤ 61000 → Goes (.calCompare cal t) s
        (((e.wrI 16 Reg.CAL_TRIM (clampInt (-500) 500 (e.rdI 16 Reg.CAL_TRIM - roundDiv diff 1600))).wr Reg.CAL_STATE 2).wr
          Reg.CAL_LAST_DISC t))) ∧
    (s.dev.rd Reg.CAL_STATE = 2 → Goes (.calFree t) s (d.wr Reg.CAL_STATE 1)) ∧
    (s.dev.rd Reg.CAL_STATE ≠ 2 → Goes (.calFree t) s d)

/-- R30, R380 to R382: an event takes the next number and, where heartwood may be written, the next place of the log after those that waited;
a staging buffer that is full and cannot be written drops it; EV_READ is a deferred read of the record that EV_READ_NUM names, which then moves on. -/
def Obligations.EventsAreKept : Prop :=
  (∀ (d : Dev) (code src det : Nat), d.enabledQueues = [] → d.armedBy code = [] →
    let r : EvRec := ⟨d.rd Reg.EV_TOTAL, d.now, code, src, det % 2 ^ 32⟩
    let e : Dev := { d.drain.bump 32 Reg.EV_TOTAL with
      staging := d.drain.staging ++ [r], port := { d.port with pend := setBit d.port.pend 3 true } }
    (64 ≤ d.staging.length → d.mayWrite = false → d.log1 code src det = d.bump 32 Reg.OPS_EVT_LOST) ∧
    (d.mayWrite = true →
      d.log1 code src det = e.drain ∧ (d.log1 code src det).staging = [] ∧
      (d.staging = [] → d.log.length < 16384 → (d.log1 code src det).log = d.log ++ [r]) ∧
      (d.staging = [] → d.log.length = 16384 → (d.log1 code src det).log = d.log.drop 1 ++ [r])) ∧
    (d.staging.length < 64 → d.mayWrite = false → d.log1 code src det = e)) ∧
  (∀ (s : State) (r : Req),
    (s.dev.grants (readReq r Reg.EV_READ) → s.dev.opsInUse < 256 →
      let q := readReq r Reg.EV_READ
      Obeys (.evRead r) s q { status := DEFERRED } (({ s.dev.used q with deferred := s.dev.deferred ++ [({ q := q, e :=
        { id := q.id, seq := q.seq, ix := q.ix, sub := q.sub, hnd := q.hnd } } : Deferred)] } : Dev).wr Reg.OPS_PEAK
          (max (s.dev.rd Reg.OPS_PEAK) (s.dev.opsInUse + 1)))) ∧
    (∀ t f, s.dev.coreWorks = true → s.dev.nextDeferred = some f → f.q.op = OP_READ → f.q.segment = 0 → f.q.ix = 0x8010 → f.q.sub = 4 →
      let n := s.dev.rd Reg.EV_READ_NUM
      (∀ x, s.dev.evFind n = some x → s.dev.staging = [] → ∃ u, exec (.deferredComplete t) s = .next u ∧ Rest s u ∧ f ∉ u.dev.deferred ∧ u.dev.log = s.dev.log ∧
        u.dev.rd Reg.EV_READ_NUM = (n + 1) % 2 ^ 32 ∧ u.dev.resp = s.dev.respond f.q (segmentOf 0 16 (ofBytesLE x.bytes))) ∧
      (s.dev.evFind n = none → Goes (.deferredComplete t) s ((s.dev.at t).finish f { status := RANGE }))))

/-- R387 to R390: the housekeeping graft: what its commands do as they complete, its time limits and readiness, the states that admit each
command, programming of image bytes, and the fate of an unconfirmed image. -/
def Obligations.ImagesAreGrafted : Prop :=
  (∀ (s : State) (t ms : Nat),
    let d := s.dev.at t
    (∀ e : Dev, e.hkDo 1 = ((({ e with graft := e.graft.setBank e.otherBank { hdr := {}, bytes := [], valid := false } } : Dev).wr
        Reg.GR_HK_ADDR 0).wr Reg.SPR_IMAGES (({ e with graft := e.graft.setBank e.otherBank { hdr := {}, bytes := [], valid := false } } :
          Dev).validImages)).wr Reg.GR_HK_STATE 1 ∧
      (e.verifyReason (e.graft.bank e.otherBank) ≠ 0 → e.hkDo 2 =
        ((e.wr Reg.GR_HK_STATE 7).wr Reg.GR_HK_REFUSE (e.verifyReason (e.graft.bank e.otherBank))).log1 0x0811 0xFFFE
          (e.verifyReason (e.graft.bank e.otherBank))) ∧
      (e.verifyReason (e.graft.bank e.otherBank) = 0 → e.hkDo 2 =
        (({ e with graft := e.graft.setBank e.otherBank { e.graft.bank e.otherBank with
          hdr := (e.graft.bank e.otherBank).header, valid := true } } : Dev).wr Reg.GR_HK_STATE 3).log1 0x0810 0xFFFE
            (e.graft.bank e.otherBank).header.version) ∧
      e.hkDo 3 = (e.lifeFlush.fold).wr Reg.GR_HK_STATE 4 ∧
      e.hkDo 4 = ((({ e with graft := { e.graft with unconf := false } } : Dev).wr Reg.SPR_IMAGES e.validImages).wr Reg.GR_HK_STATE 0).log1
        0x0813 0xFFFE (e.graft.bank e.graft.active).hdr.version ∧
      (e.rd Reg.GR_HK_STATE = 4 → e.hkDo 5 = e.wr Reg.GR_HK_STATE 3) ∧
      (e.rd Reg.GR_HK_STATE = 6 → e.hkDo 5 = { e with graft := { e.graft with rollback := true } })) ∧
    (s.dev.rd Reg.GR_HK_STATE = 5 →
      let f : Dev := { d with
        coreUp := true, wd0 := { start := t, armed := false, lastC := s.dev.wd0.lastC, lastT := s.dev.wd0.lastT },
        graft := { s.dev.graft with active := 1 - s.dev.graft.active, unconf := true } }
      Goes (.hkSwapReady ms t) s (((((f.wr Reg.GR_HK_STATE 6).wr Reg.GR_HK_SWAP_MS (min 65535 ms)).wrote [0]).log1 0x0812 0xFFFE
        (min 65535 ms + (1 - s.dev.graft.active) * 2 ^ 24)).resumeWrites) ∧
      Goes (.hkSwapTimeout t) s (((({ d with
        coreUp := true, wd0 := { start := t, armed := false, lastC := s.dev.wd0.lastC, lastT := s.dev.wd0.lastT } } : Dev).wr
          Reg.GR_HK_STATE 7).wr Reg.GR_HK_REFUSE 6).resumeWrites)) ∧
    (s.dev.rd Reg.GR_HK_STATE = 4 → Goes (.hkWaitTimeout t) s (d.wr Reg.GR_HK_STATE 3)) ∧
    (s.dev.rd Reg.GR_HK_STATE = 6 → Goes (.hkConfirmTimeout t) s { d with graft := { s.dev.graft with rollback := true } }) ∧
    (s.dev.rd Reg.GR_HK_STATE ∉ [4, 5, 6] → Goes (.hkSwapReady ms t) s d ∧ Goes (.hkSwapTimeout t) s d ∧ Goes (.hkWaitTimeout t) s d ∧
      Goes (.hkConfirmTimeout t) s d)) ∧
  (∀ (d : Dev),
    let st := d.rd Reg.GR_HK_STATE
    (d.hkCheck 1 = OK ↔ st = 0 ∨ st = 3 ∨ st = 7) ∧ (d.hkCheck 2 = OK ↔ st = 2) ∧ (d.hkCheck 3 = OK ↔ st = 3 ∧ d.graftStep = false) ∧
    (d.hkCheck 4 = OK ↔ st = 6 ∧ d.graft.rollback = false) ∧ (d.hkCheck 5 = OK ↔ st = 4 ∨ st = 6) ∧ (d.hkCheck 6 = OK ↔ st = 1 ∨ st = 2) ∧
    (∀ v, d.hkCheck v = OK ∨ d.hkCheck v = BUSY ∨ (d.hkCheck v = RANGE ∧ (v = 0 ∨ 6 < v))) ∧
    (∀ bs : List Nat, (∀ b ∈ bs, b < 256) → d.rd Reg.GR_HK_ADDR + bs.length ≤ 4194304 →
      let e := d.hkProgram bs
      e.rd Reg.GR_HK_STATE = 2 ∧ e.rd Reg.GR_HK_ADDR = (d.rd Reg.GR_HK_ADDR + bs.length) % 4194304 ∧
      (∀ i (h : i < bs.length), (e.graft.bank e.otherBank).byte (d.rd Reg.GR_HK_ADDR + i) = bs[i]) ∧
      (∀ a, a < d.rd Reg.GR_HK_ADDR ∨ d.rd Reg.GR_HK_ADDR + bs.length ≤ a →
        (e.graft.bank e.otherBank).byte a = (d.graft.bank d.otherBank).byte a) ∧
      e.graft.bank e.graft.active = d.graft.bank d.graft.active) ∧
    (∀ cause, d.crownUp = true → st = 6 → (d.crownDown cause).graft.active = 1 - d.graft.active ∧ (d.crownDown cause).graft.unconf = false) ∧
    (∀ (w : Worn) (x : Entry), x.ix = 0xA000 → x.sub = 7 →
      (x.val < d.rd Reg.GR_HK_MIN_VERSION → d.entryCheck w x = RANGE) ∧ (d.rd Reg.GR_HK_MIN_VERSION ≤ x.val → d.entryCheck w x = OK) ∧
      d.applyEntry w x = d.wr Reg.GR_HK_MIN_VERSION x.val))

/-- R391 to R393: the commands of a calibration graft as they take effect and its time limit; a microcode graft starts with a CONFIG word and
ends with the new or the previous microcode, or is abandoned. -/
def Obligations.ConvertersAndMicrocodeAreGrafted : Prop :=
  (∀ (s : State) (t : Nat) (e : Dev),
    let k := e.rd Reg.GR_CAL_HANDLE % 128
    let n := e.chanOf k
    (e.calDo 1 = (((({ e with graft := { e.graft with
        calLast := e.now, calSlot := some k, calOn := false, calWant := 0, calN := 0, calSum := 0, calDen := 1 } } : Dev).calAbandon
          (n / 4)).wr Reg.GR_CAL_STATE 1).wr (Reg.BR_T_STATE (n / 4)) 3).wr (Reg.BR_T_CHANNEL (n / 4)) n) ∧
    e.calDo 2 = { e with graft := { e.graft with calLast := e.now, calWant := 1 } } ∧
    e.calDo 3 = { e with graft := { e.graft with calLast := e.now, calWant := 2 } } ∧
    (∀ c, e.calNew k = some c → e.calDo 4 = ({ e with graft := { e.graft with calLast := e.now } } : Dev).calCommit k c) ∧
    e.calDo 5 = ({ e with graft := { e.graft with calLast := e.now } } : Dev).graftEnd 1 ∧
    e.calDo 6 = ({ e with graft := { e.graft with calLast := e.now } } : Dev).calCommit k (e.cals k (decide (e.rd Reg.GR_CAL_CONV = 1))).2 ∧
    (s.dev.graft.calLast + 600000000000 ≤ t → Goes (.calGraftTimeout t) s ((s.dev.at t).graftEnd 2)) ∧
    (t < s.dev.graft.calLast + 600000000000 → Goes (.calGraftTimeout t) s (s.dev.at t)) ∧
    (∀ c, e.graft.calSlot = none →
      let g := gainDelta c (e.cals k (decide (e.rd Reg.GR_CAL_CONV = 1))).1
      e.calCommit k c = ({ e.wrote [regionLine 3, regionLine 3 + 128] with graft :=
        { e.graft with calDue := some (k, decide (e.rd Reg.GR_CAL_CONV = 1), c) } } : Dev).log1 0x0818 (e.rd (Reg.HND_ID k))
          ((if e.rd Reg.GR_CAL_CONV = 1 then 1 else 0) + ofInt 24 (g.mul (1000000, 1)).round * 256))) ∧
  (∀ (s : State) (b : BranchNo) (t ms version : Nat) (e : Dev),
    let d := s.dev.at t
    (e.ucCheck b.val = OK ↔ e.graftStep = false ∧ e.hears b.val = true) ∧
    e.ucStart b.val = ((({ e with graft := { e.graft with ucBranch := some b.val } } : Dev).wr Reg.GR_UC_BRANCH b.val).wr Reg.GR_UC_STATE
      1).toBranch b.val (.config 4) ∧
    (s.dev.graft.ucBranch = some b.val → s.dev.rd Reg.GR_UC_STATE = 3 →
      Goes (.ucSwitched b version ms t) s ((d.modBranch b fun x => { x with ucode := version }).ucBack s.worn b ms 4 0x081C
        (min 65535 ms + version / 256 % 65536 * 65536)) ∧
      Goes (.ucReverted b ms t) s (d.ucBack s.worn b ms 5 0x081D (min 65535 ms))) ∧
    (∀ st code det, e.runningIn b.val = [] → (e.branch b).digest = e.heartDigest b → (∀ i, i < 4 → (e.chan (4 * b.val + i)).due = false) →
      e.ucBack s.worn b ms st code det = ((({ e with graft := { e.graft with ucBranch := none } } : Dev).wr Reg.GR_UC_STATE st).wr
        Reg.GR_UC_HOLD_MS (min 65535 ms)).log1 code (0xFFF0 + b.val) det) ∧
    (s.dev.graft.ucBranch = some b.val → s.dev.rd Reg.GR_UC_STATE = 2 → Goes (.ucAbandoned b t) s
      ((({ d with graft := { s.dev.graft with ucBranch := none } } : Dev).wr Reg.GR_UC_STATE 6).log1 0x081E (0xFFF0 + b.val) 1)) ∧
    (s.dev.rd Reg.GR_UC_STATE ≠ 2 → Goes (.ucAbandoned b t) s d) ∧
    (s.dev.rd Reg.GR_UC_STATE ≠ 3 → Goes (.ucSwitched b version ms t) s d ∧ Goes (.ucReverted b ms t) s d))

/-- R290, R292: the check of a cycle frame that fails first; check 10 is the pass of all. -/
def Obligations.FramesAreChecked : Prop :=
  ∀ (d : Dev) (f : Frame),
    let timed := d.rd Reg.RT_STATE = 2 ∨ d.rd Reg.RT_STATE = 3
    let fits := f.pdEpoch = d.rd Reg.RG_PD_EPOCH ∧ d.rd Reg.RG_OUT_OFFSET + d.rd Reg.PI_OUT_LEN ≤ f.pdLen ∧
      d.rd Reg.RG_IN_OFFSET + d.rd Reg.PI_IN_LEN ≤ f.pdLen
    (f.verMajor ≠ 1 ∨ (f.ftype ≠ 1 ∧ f.ftype ≠ 2) → d.frameCheck f = 1) ∧
    (f.verMajor = 1 → f.ftype = 1 →
      (1500 < 32 + f.sealCount + f.pdLen + 128 * f.acycGroups → d.frameCheck f = 2) ∧
      (32 + f.sealCount + f.pdLen + 128 * f.acycGroups ≤ 1500 →
        (d.rd Reg.PL_RUNG ≠ 0 → d.frameCheck f = 4) ∧
        (d.rd Reg.PL_RUNG = 0 →
          (d.rd Reg.RG_NODE_ADDR = 0 → f.posaddr = false → d.frameCheck f = 5) ∧
          (d.rd Reg.RG_NODE_ADDR ≠ 0 ∨ f.posaddr = true →
            (d.mode = INIT → d.frameCheck f = 6) ∧ (d.mode ≠ INIT → ¬ timed → d.frameCheck f = 7) ∧
            (d.mode ≠ INIT → timed → f.cycleIndex ≠ d.ownIndex f.tArr f.cycleNs → d.frameCheck f = 8) ∧
            (d.mode ≠ INIT → timed → f.cycleIndex = d.ownIndex f.tArr f.cycleNs → ¬ fits → d.frameCheck f = 9) ∧
            (d.mode ≠ INIT → timed → f.cycleIndex = d.ownIndex f.tArr f.cycleNs → fits → d.frameCheck f = 10))))) ∧
    (d.sealStatus 10 = some (if d.mode = OPERATE then 1 else if d.mode = PREOP then 2 else d.mode)) ∧
    (d.sealStatus 4 = some 7 ∧ d.sealStatus 6 = some 6 ∧ d.sealStatus 7 = some 10 ∧ d.sealStatus 8 = some 9 ∧ d.sealStatus 9 = some 8) ∧
    (d.sealStatus 1 = none ∧ d.sealStatus 2 = none ∧ d.sealStatus 3 = none ∧ d.sealStatus 5 = none)

/-- R286, R287, R289, R291 to R293, R297, R302: a frame that passes every check, one that is refused before process data, a later pass of an
index already served, and any frame at an isolated node. -/
def Obligations.CycleFramesAct : Prop :=
  ∀ (s : State) (f : Frame),
    let d := s.dev.at f.tEnd
    let seen := d.modRing fun r => { r with tFrame := f.tArr }
    s.dev.forwards = true → f.fcsOk = true → f.ftype = 1 →
    (s.dev.isolated = true ∨ s.dev.ring.served = some f.cycleIndex → Goes (.cycleFrame f) s seen) ∧
    (s.dev.isolated = false → s.dev.ring.served ≠ some f.cycleIndex → s.dev.frameCheck f = 5 →
      Goes (.cycleFrame f) s ((((((seen.wr Reg.RG_LAST_CHECK 5).wr Reg.RG_POSITION ((f.hops + 1) % 256)).modRing fun r =>
        { r with hopsOut := (f.hops + 1) % 256, servedOut := f.served }).refuseFrame f.tArr 5 f.cycleIndex).wrBit
          Reg.RP_LOOP 7 f.broken).modRing fun r => { r with answers := [], inputs := [], beaconOut := none, transferOut := none })) ∧
    (s.dev.isolated = false → s.dev.ring.served ≠ some f.cycleIndex → s.dev.frameCheck f = 10 → s.dev.mapEntries false = [] → s.dev.mapEntries true = [] →
      (∀ r ∈ f.requests, s.dev.addressed f r = false) → f.pdLen < s.dev.rd Reg.CN_REGION_OFFSET + 288 →
      let e := ((((((seen.wr Reg.RG_LAST_CHECK 10).wr Reg.RG_POSITION ((f.hops + 1) % 256)).modRing fun r =>
        { r with hopsOut := (f.hops + 1) % 256, servedOut := (f.served + 1) % 65536 }).sealFrame f 10).wrBit Reg.RP_LOOP 7 f.broken).modRing
        fun r => { r with answers := [], inputs := [], beaconOut := none, transferOut := none })
      let delay := if f.portB then s.dev.rd Reg.RT_PROP_DELAY_B else s.dev.rd Reg.RT_PROP_DELAY
      let g := (((e.modRing fun r => { r with served := some f.cycleIndex, passed := true }).announce f.cycleNs).bump 32 Reg.RP_SERVED).pdwFrame
        f.cycleIndex
      let h := if f.ringSync && !g.canopy.timeLost then g.modSeq fun x => { x with ringSync := true } else g
      Goes (.cycleFrame f) s (((h.takeTime ((f.tArr : Int) - (f.ringTime + delay))).cyclesBegin).cnPassed f))

/-- R274 to R276, R293: one output entry of a frame that passed, and the toggle of a command entry. -/
def Obligations.ProcessDataActs : Prop :=
  ∀ (d : Dev) (w : Worn) (i v val : Nat),
    let ix := (mapObj v).1
    let sub := (mapObj v).2
    let h := d.mapHandle true i
    let x : Entry := { id := 256, ix := ix, sub := sub, hnd := h, val := val, len := mapLen v, cyc := d.rd Reg.SQ_CYCLE_INDEX }
    let y : Entry := { ix := ix, sub := sub, hnd := h, val := val % 128, len := 1, cyc := d.rd Reg.SQ_CYCLE_INDEX }
    let seen := d.modRing fun r => { r with seen := (r.seen.filter fun p => p.1 ≠ i) ++ [(i, bitOf val 7)] }
    (d.writeAccess false true ix sub h (mapLen v) val ≠ OK → d.outputEntry w i v val = d.bump 32 Reg.DR_PD_DENIED) ∧
    (d.writeAccess false true ix sub h (mapLen v) val = OK → d.entryCheck w x = OK →
      (d.det = true → d.outputEntry w i v val = { d with staged := d.staged ++ [x] }) ∧
      (d.det = false → d.outputEntry w i v val = d.writeOutput (slotOf ix) (ix * 256 + sub) val)) ∧
    (d.ring.seen.find? (fun p => p.1 = i) = none → d.toggleEntry w i v val = seen) ∧
    (∀ j, d.ring.seen.find? (fun p => p.1 = i) = some (j, bitOf val 7) → d.toggleEntry w i v val = d) ∧
    (∀ j, d.ring.seen.find? (fun p => p.1 = i) = some (j, !bitOf val 7) →
      (d.writeAccess false true ix sub h 1 (val % 128) = OK → d.entryCheck w y = OK →
        d.toggleEntry w i v val = { seen with staged := d.staged ++ [y] }) ∧
      (d.writeAccess false true ix sub h 1 (val % 128) ≠ OK → d.toggleEntry w i v val = seen.bump 32 Reg.DR_PD_DENIED))

/-- R297, R298: what the offset of a frame does to ring time: a step, the lock after 16 small offsets, the loss after three large ones, and
the return from holdover. The rate is the free law of log entry 30. -/
def Obligations.RingTimeFollows : Prop :=
  ∀ (d : Dev) (off : Int),
    let e := (d.wrI 32 Reg.RT_OFFSET (sat32 off)).wrI 32 Reg.RT_RATE (clampInt (-500000) 500000 (Config.piRate off (d.rdI 32 Reg.RT_RATE)))
    (d.rd Reg.RT_STATE = 0 ∨ 1000000 < off.natAbs → d.takeTime off = e.stepClock off) ∧
    (off.natAbs ≤ 1000000 →
      (d.rd Reg.RT_STATE = 1 →
        (20 < off.natAbs → d.takeTime off = e.modRing fun r => { r with inLock := 0 }) ∧
        (off.natAbs ≤ 20 → d.ring.inLock < 15 → d.takeTime off = e.modRing fun r => { r with inLock := d.ring.inLock + 1 }) ∧
        (off.natAbs ≤ 20 → 15 ≤ d.ring.inLock → d.takeTime off =
          ((e.wr Reg.RT_STATE 2).modRing fun r => { r with inLock := 0, outLock := 0 }).log1 0x0606 0xFFFC (ofInt 32 off))) ∧
      (d.rd Reg.RT_STATE = 2 →
        (off.natAbs ≤ 200 → d.takeTime off = e.modRing fun r => { r with outLock := 0 }) ∧
        (200 < off.natAbs → d.ring.outLock < 2 → d.takeTime off = e.modRing fun r => { r with outLock := d.ring.outLock + 1 }) ∧
        (200 < off.natAbs → 2 ≤ d.ring.outLock → d.takeTime off = e.slewClock off)) ∧
      (d.rd Reg.RT_STATE = 3 →
        (off.natAbs ≤ 200 → d.takeTime off = (e.wr Reg.RT_STATE 2).modRing fun r => { r with outLock := 0 }) ∧
        (200 < off.natAbs → d.takeTime off = e.slewClock off))) ∧
    e.slewClock off = ((e.wr Reg.RT_STATE 1).modRing fun r => { r with inLock := 0, outLock := 0 }).log1 0x0607 0xFFFC (ofInt 32 (sat32 off)) ∧
    (e.rd Reg.RT_STATE = 0 → e.stepClock off = ((({ e with now := ((e.now : Int) - off).toNat } : Dev).wr Reg.RT_STATE 1).modRing
      fun r => { r with inLock := 0, outLock := 0 }).log1 0x0608 0xFFFC (ofInt 32 (sat32 (-off / 1000))))

/-- R284, R285, R287, R299, R302, R309: DELAY frames, foreign frames, the links of the two ports, and the process-data watchdog. -/
def Obligations.RingEventsAct : Prop :=
  ∀ (s : State) (portB : Bool) (t : Nat),
    let d := s.dev.at t
    let r := s.dev.ring
    (∀ copy num, s.dev.forwards = true → s.dev.isolated = true → Goes (.delayFrame portB copy num t) s d) ∧
    (∀ num, s.dev.forwards = true → s.dev.isolated = false → r.stamps ≠ num →
      Goes (.delayFrame portB false num t) s (({ d with ring := { r with
        stamps := num, stampP := t, stampP2 := 0, stampS := 0, stampPort := if portB then 1 else 0 } } : Dev).wr Reg.RG_LAST_CHECK 3 |>.wr
          Reg.RT_DELAY_STAMPS (packLE [(4, num), (8, t), (8, 0), (8, 0), (1, if portB then 1 else 0)])) ∧
      Goes (.delayFrame portB true num t) s (({ d with ring := { r with
        stamps := num, stampP := 0, stampP2 := 0, stampS := t, stampPort := 0 } } : Dev).wr Reg.RG_LAST_CHECK 3 |>.wr
          Reg.RT_DELAY_STAMPS (packLE [(4, num), (8, 0), (8, 0), (8, t), (1, 0)]))) ∧
    (s.dev.forwards = true → s.dev.isolated = false → r.stampP ≠ 0 → r.stampP2 = 0 →
      Goes (.delayFrame portB false r.stamps t) s (({ d with ring := { r with stampP2 := t } } : Dev).wr Reg.RG_LAST_CHECK 3 |>.wr
        Reg.RT_DELAY_STAMPS (packLE [(4, r.stamps), (8, r.stampP), (8, t), (8, r.stampS), (1, r.stampPort)]))) ∧
    (∀ upstream, Goes (.foreignFrame portB true upstream t) s d) ∧
    (s.dev.forwards = true → Goes (.foreignFrame portB false true t) s (d.bump 32 Reg.RP_FCS_UPSTREAM)) ∧
    (s.dev.forwards = true → portB = false → (∀ t0, r.tFcsA = some t0 → t0 + 60000000000 ≤ t) →
      Goes (.foreignFrame false false false t) s (((d.bump 32 Reg.RP_FCS_A).modRing fun x => { x with
        nFcsA := 0, tFcsA := some t, cleanA := t }).log1 0x0604 0xFFFA (r.nFcsA + 1))) ∧
    (∀ t0, s.dev.forwards = true → r.tFcsB = some t0 → t < t0 + 60000000000 →
      Goes (.foreignFrame true false false t) s ((d.bump 32 Reg.RP_FCS_B).modRing fun x => { x with nFcsB := r.nFcsB + 1, cleanB := t })) ∧
    (s.dev.forwards = true → s.dev.rd (portLink portB) ≠ 0 →
      let e := ((d.wr (portLink portB) 0).bump 32 Reg.RP_LINK_LOSSES).log1 0x0600 (portSrc portB) 0
      let f := e.wrBit Reg.RP_LOOP (if portB then 1 else 0) true
      (bitOf (e.rd Reg.RP_LOOP) (if portB then 1 else 0) = true → Goes (.portLinkLost portB t) s e) ∧
      (bitOf (e.rd Reg.RP_LOOP) (if portB then 1 else 0) = false →
        Goes (.portLinkLost portB t) s (f.log1 0x0602 (portSrc portB) (f.rd Reg.RP_LOOP)))) ∧
    (s.dev.forwards = true → s.dev.rd (portLink portB) ≠ 1 →
      Goes (.portLinkUp portB t) s (((d.modRing fun x => if portB then { x with cleanB := t } else { x with cleanA := t }).wr
        (portLink portB) 1).log1 0x0601 (portSrc portB) 0)) ∧
    (s.dev.forwards = true → bitOf (s.dev.rd Reg.RP_LOOP) (if portB then 1 else 0) = true → s.dev.rd (portLink portB) = 1 →
      (if portB then r.cleanB else r.cleanA) + s.dev.rd Reg.RP_REOPEN_MS * 1000000 ≤ t →
      let e := d.wrBit Reg.RP_LOOP (if portB then 1 else 0) false
      Goes (.loopReopen portB t) s (e.log1 0x0603 (portSrc portB) (e.rd Reg.RP_LOOP))) ∧
    (s.dev.rd Reg.PDW_STATE = 1 → r.pdwEnd ≤ t →
      Goes (.pdwExpired t) s (((((d.wr Reg.PDW_STATE 2).bump 32 Reg.PDW_EXPIRIES).modRing fun x => { x with pdwOut := true }).log1 0x0609 0xFFFC
        (s.dev.rd Reg.SQ_CYCLE_INDEX)).moduleSafe 0)) ∧
    (s.dev.mode ≠ INIT → s.dev.drivers = [] → s.dev.moduleSafe 0 = (s.dev.wr Reg.DEV_STATE SAFE).pdwRun)

/-- R311 to R320: what a read of each word of the window answers and changes (a write-only word answers a free value), the frames of the
local port, and the commands that name one window word. -/
def Obligations.PortCommandsAct : Prop :=
  (∀ (d : Dev) (a k tick : Nat),
    let sh := ((d.slot k).shown.getD (0, 0))
    (k < 128 → d.portRead (0x100 + 4 * k) tick =
      ({ d with port := { d.port with shadow := some (k, sh.1, sh.2, tick), shadowSeq := d.port.seq } }, sh.1 % 65536)) ∧
    (∀ (j w x t0 : Nat), k < 128 → 1 ≤ j → j ≤ 3 → d.port.shadow = some (k, w, x, t0) → t0 ≤ tick → tick ≤ t0 + 50 →
      d.portRead (0x100 + 4 * k + j) tick = (d, if j = 1 then w / 65536 % 65536 else if j = 2 then x % 65536 else x / 65536 % 65536)) ∧
    (∀ (j i w x t0 : Nat), k < 128 → 1 ≤ j → j ≤ 3 → d.port.shadow = some (i, w, x, t0) → i ≠ k ∨ t0 + 50 < tick →
      d.portRead (0x100 + 4 * k + j) tick = ({ d with port := { d.port with sticky := setBit d.port.sticky 0 true } },
        if j = 1 then sh.1 / 65536 % 65536 else if j = 2 then sh.2 % 65536 else sh.2 / 65536 % 65536)) ∧
    (a < 16 → d.portRead (0x20 + a) tick = (d, d.port.req.getD a 0) ∧ d.portRead (0x30 + a) tick = (d, d.port.rsp.getD a 0)) ∧
    d.portRead 0 tick = (d, d.portStatus) ∧ d.portRead 1 tick = (d, d.port.seq) ∧ d.portRead 2 tick = (d, d.port.shadowSeq) ∧
    d.portRead 3 tick = (d, d.irqPend) ∧ d.portRead 4 tick = (d, d.port.mask) ∧ d.portRead 0x11 tick = (d, d.port.mbState) ∧
    d.portRead 5 tick = (d.took, d.freeNat 16) ∧ d.portRead 0x10 tick = (d.took, d.freeNat 16) ∧
    (5 < a ∧ a < 0x10 ∨ 0x11 < a ∧ a < 0x20 ∨ 0x40 ≤ a ∧ a < 0x100 ∨ 0x300 ≤ a →
      d.portRead a tick = ({ d with port := { d.port with sticky := setBit d.port.sticky 1 true } }, 0))) ∧
  (∀ (s : State) (t tick : Nat), s.dev.portOn = true →
    let d := s.dev.at t
    (∀ addr n, Goes (.spiRead addr n false tick t) s (d.readFrame addr n tick) ∧
      Goes (.spiRead addr n true tick t) s ((d.readFrame addr n tick).portError 3)) ∧
    (∀ a v, a < 16 → s.dev.port.mbState ≠ 1 → Goes (.spiWrite (0x20 + a) [v] false t) s
      { d with port := { s.dev.port with req := s.dev.port.req.set a (v % 65536) } }) ∧
    (∀ addr v, Goes (.spiWrite addr [v] true t) s { d with port := { s.dev.port with sticky := setBit s.dev.port.sticky 3 true } }) ∧
    (∀ h : SlotNo, Goes (.ptValueLoRead h tick t) s (d.readFrame (0x100 + 4 * h.val) 1 tick) ∧
      ∀ j : Fin 3, Goes (.ptValueHiRead h j tick t) s (d.readFrame (0x101 + 4 * h.val + j.val) 1 tick)) ∧
    (∀ addr, addr < 65536 → ∃ e : Dev, e = ((({ d with port := { s.dev.port with out := [] } } : Dev).portRead addr tick).1) ∧
      d.readFrame addr 1 tick = { e with port := { e.port with out := e.port.out ++
        [(({ d with port := { s.dev.port with out := [] } } : Dev).portRead addr tick).2] } }) ∧
    (∀ v, Goes (.ptStatusWrite v t) s { d with port := { s.dev.port with sticky := s.dev.port.sticky &&& (0xF ^^^ (v &&& 0xF)) } }) ∧
    (∀ v, Goes (.ptIrqAck v t) s { d with port := { s.dev.port with pend := s.dev.port.pend &&& (0x2E ^^^ (v &&& 0x2E)) } }) ∧
    (∀ v, v ≠ 1 ∨ s.dev.port.mbState = 1 →
      Goes (.ptMbCtrl v t) s { d with port := { s.dev.port with sticky := setBit s.dev.port.sticky 1 true } }) ∧
    (s.dev.port.mbState ≠ 1 →
      let m := mailRequest s.dev.port.req t
      s.dev.serves m.2.id m.2.seq → m.2.op = OP_ECHO → m.2.segment ≤ 15 → m.2.len ≤ 16 →
      ∃ u, exec (.ptMbCtrl 1 t) s = .next u ∧ Rest s u ∧ u.dev.port.mbState = 2 ∧ bitOf u.dev.port.pend 1 = true ∧
        u.dev.resp = s.dev.respond m.2 { len := m.2.len, data := m.2.data % 2 ^ (8 * m.2.len) } ∧ u.dev.port.rsp = mailWords m.1 u.dev.resp) ∧
    (s.dev.port.mbState ≠ 1 →
      let m := mailRequest s.dev.port.req t
      let e := d.request ⟨s.ps, s.worn⟩ m.2
      e.crownUp = true → Goes (.ptMbCtrl 1 t) s
        { e with port := { e.port with mbState := 2, rsp := mailWords m.1 e.resp, pend := setBit e.port.pend 1 true } }))

/-- R27, R58, R65, R87, R90, R124, R150, R184, R190, R192, R194, R196, R218, R220: the effect of each of the thirteen actions in its slot: the
words of START_CONV, URGENT_CONV and APPLY_OUTPUT leave 5 µs before it with its ring time. -/
def Obligations.StepsAct : Prop :=
  ∀ (s : State) (o : StepOp),
    let d := fun (a : Nat) => s.dev.stepped a o
    let ts := s.dev.slotTime o
    let k := o.hslot
    let n := s.dev.chanOf k
    (s.dev.onTime 0 o → Goes (.nop o) s (d 0)) ∧
    (s.dev.onTime 12 o → Goes (.waitCycle o) s { d 12 with seq := { (d 12).seq with ended := true } }) ∧
    (s.dev.onTime 11 o → Goes (.markTime o) s ((d 11).wr (Reg.SQ_MARK (o.param % 8)) ts)) ∧
    (s.dev.onTime 9 o → Goes (.syncFilters o) s ((d 9).syncGroups (o.param % 256) 1 ts)) ∧
    (s.dev.onTime 4 o →
      (s.dev.stepsQueue o.queue = true → o.param % 256 = 1 ∨ o.param % 256 = 2 →
        Goes (.openPacket o) s ((d 4).openResult o.queue (o.param % 256))) ∧
      (s.dev.stepsQueue o.queue = false ∨ (o.param % 256 ≠ 1 ∧ o.param % 256 ≠ 2) → Goes (.openPacket o) s ((d 4).stepRejected o 4))) ∧
    (s.dev.onTime 6 o →
      (s.dev.stepsQueue o.queue = true → Goes (.commitPacket o) s ((d 6).closeResult o.queue ts (bitOf o.param 0))) ∧
      (s.dev.stepsQueue o.queue = false → Goes (.commitPacket o) s ((d 6).stepRejected o 6))) ∧
    (s.dev.stepBound k = true →
      (s.dev.onTime 1 o →
        (s.dev.hears (n / 4) = true → Goes (.startConv o) s ((d 1).toBranch (n / 4) (.conv k 0 ts))) ∧
        (s.dev.hears (n / 4) = false → Goes (.startConv o) s (d 1))) ∧
      (s.dev.onTime 10 o →
        (s.dev.hears (n / 4) = true → Goes (.diagWindow o) s ((d 10).toBranch (n / 4) (.conv k 2 ts))) ∧
        (s.dev.hears (n / 4) = false → Goes (.diagWindow o) s (d 10))) ∧
      (s.dev.onTime 2 o →
        ((d 2).urgentOk k = true → s.dev.kind k ≠ 7 → s.dev.opsFree = true →
          Goes (.urgentConv o) s ((d 2).takeOp.urgentRequest k 256 0 ts)) ∧
        ((d 2).urgentOk k = true → s.dev.kind k ≠ 7 → s.dev.opsFree = false →
          Goes (.urgentConv o) s (((d 2).bump 32 Reg.OPS_BUSY_COUNT).breach 8)) ∧
        ((d 2).urgentOk k = false ∨ s.dev.kind k = 7 → Goes (.urgentConv o) s ((d 2).unbound o))) ∧
      (s.dev.onTime 3 o → Goes (.latchResult o) s ((d 3).latch k ts)) ∧
      (s.dev.onTime 5 o →
        (s.dev.stepsQueue o.queue = true → Goes (.pushResult o) s ((d 5).pushSet o.queue k (o.param % 128))) ∧
        (s.dev.stepsQueue o.queue = false → Goes (.pushResult o) s ((d 5).stepRejected o 5))) ∧
      (s.dev.onTime 7 o →
        (s.dev.applyHeld k = false → Goes (.applyOutput o) s ((d 7).toBranch (n / 4) (.apply n ts))) ∧
        (s.dev.applyHeld k = true → Goes (.applyOutput o) s (d 7))) ∧
      (s.dev.onTime 8 o →
        (s.dev.linked (n / 4) = true → s.dev.kind k = 4 →
          Goes (.sampleInputs o) s (((d 8).lvRecord k ts).1.pushStatus k ((d 8).lvRecord k ts).2)) ∧
        (s.dev.linked (n / 4) = true → s.dev.kind k ≠ 4 →
          Goes (.sampleInputs o) s (((d 8).senseSwitch s.worn k).pushStatus k (((d 8).senseSwitch s.worn k).swRecord s.worn k ts))) ∧
        (s.dev.linked (n / 4) = false → Goes (.sampleInputs o) s (d 8)))) ∧
    (s.dev.stepBound k = false →
      ∀ p ∈ [(1, Instr.startConv o), (2, .urgentConv o), (3, .latchResult o), (5, .pushResult o), (7, .applyOutput o), (8, .sampleInputs o),
        (10, .diagWindow o)], s.dev.onTime p.1 o → Goes p.2 s ((d p.1).unbound o))

/-- R24, R192 to R196, R335: a command that is not the next step of the active table in a running cycle has no effect, one whose word left
with the fixing of the cycle only passes; a step in the last 2 µs is skipped, a late one executes and counts as an overrun; a latch takes the
records up to its guard time and shows the newest. -/
def Obligations.StepsAreTimed : Prop :=
  (∀ (s : State) (o : StepOp),
    let cs := [(0, Instr.nop o), (1, .startConv o), (2, .urgentConv o), (3, .latchResult o), (4, .openPacket o), (5, .pushResult o),
      (6, .commitPacket o), (7, .applyOutput o), (8, .sampleInputs o), (9, .syncFilters o), (10, .diagWindow o), (11, .markTime o),
      (12, .waitCycle o)]
    let ts := s.dev.slotTime o
    let x := s.dev.seq
    let gone : Dev := { s.dev with seq := { x with doneTo := o.idx + 1 } }
    (∀ p ∈ cs, x.running = false ∨ x.ended = true ∨ o.idx ≠ x.doneTo ∨ s.dev.stepWord false o.idx ≠ stepCode p.1 o → Goes p.2 s s.dev) ∧
    (x.running = true → x.ended = false → o.idx = x.doneTo → ∀ p ∈ cs, s.dev.stepWord false o.idx = stepCode p.1 o →
      (x.ahead.contains o.idx = true → Goes p.2 s gone) ∧
      (x.ahead.contains o.idx = false → s.dev.rd Reg.SQ_CYCLE_NS ≤ o.slot * 10 + 2000 →
        Goes p.2 s ((({ gone with now := max s.dev.now ts } : Dev).bump 32 Reg.SQ_SKIPPED).stepDirty o.idx (2 ^ 31)))) ∧
    (x.running = true → x.ended = false → o.idx = x.doneTo → x.ahead.contains o.idx = false →
      o.slot * 10 + 2000 < s.dev.rd Reg.SQ_CYCLE_NS → ts < s.dev.now →
      let late := s.dev.now - ts
      let e := fun (a : Nat) => (((s.dev.stepped a o).bump 32 Reg.SQ_OVERRUN).wr Reg.SQ_MAX_LATE
        (max (s.dev.rd Reg.SQ_MAX_LATE) (min (2 ^ 32 - 1) late))).stepDirty o.idx (min 65535 (late / 10))
      (s.dev.stepWord false o.idx = stepCode 0 o → Goes (.nop o) s (e 0)) ∧
      (s.dev.stepWord false o.idx = stepCode 11 o → Goes (.markTime o) s ((e 11).wr (Reg.SQ_MARK (o.param % 8)) ts))) ∧
    (∀ (e : Dev) i det, (e.seq.dirty = true ∨ e.seq.wasDirty = true → e.stepDirty i det = { e with
        seq := { e.seq with dirty := true, breach := setBit e.seq.breach 0 true } }) ∧
      (e.seq.dirty = false → e.seq.wasDirty = false → e.stepDirty i det = ({ e with
        seq := { e.seq with dirty := true, breach := setBit e.seq.breach 0 true } } : Dev).log1 0x0290 i det))) ∧
  (∀ (d : Dev) (k t : Nat),
    let x := d.slot k
    let cut := t - d.rd Reg.SQ_LATCH_GUARD * 1000
    let set := x.pend.filter fun r => r.tOut ≤ cut
    (d.link (d.chanOf k / 4) ≠ 1 → d.latch k t = (d.setSlot k { x with latched := [] }).breach 4) ∧
    (d.link (d.chanOf k / 4) = 1 → d.hst k = STOPPED → d.latch k t = d.setSlot k { x with latched := [], cut := some cut }) ∧
    (d.link (d.chanOf k / 4) = 1 → d.hst k ≠ STOPPED →
      (set = [] → d.latch k t = d.setSlot k { x with latched := [], pend := x.pend.filter (fun r => cut < r.tOut), cut := some cut }) ∧
      (set ≠ [] → ∃ r ∈ x.pend, r.tOut ≤ cut ∧ ((d.latch k t).slot k).latched = set ∧
        ((d.latch k t).slot k).pend = x.pend.filter (fun r => cut < r.tOut) ∧ ((d.latch k t).slot k).shown = some (r.w, r.a) ∧
        set.getLast? = some r ∧ (d.latch k t).port.seq = (d.port.seq + 1) % 65536 ∧ bitOf (d.latch k t).port.pend 2 = true)))

/-- R191 to R193, R197, R200, R301: CYCLE_FIX fixes once the length, the source and the table of the next cycle, with the words of its first
5 µs; that cycle starts at a boundary that is a multiple of its length; a sync edge of the selected polarity acts. -/
def Obligations.CyclesAreFixed : Prop :=
  (∀ (s : State) (t : Nat),
    let d := s.dev.at t
    (s.dev.cyclesMayRun = true → s.dev.seq.fixed = false → s.dev.wantedNs ≠ 0 →
      let T := s.dev.wantedNs
      let stop := if s.dev.seq.running then s.dev.seq.start + s.dev.rd Reg.SQ_CYCLE_NS else t
      let next := (stop + T - 1) / T * T
      let e : Dev := { d with seq := { s.dev.seq with nextNs := T, nextSrc := s.dev.rd Reg.SQ_CYCLE_SRC, fixed := true, ahead := [] } }
      let swap := e.swapDue next
      let f : Dev := { e with seq := { e.seq with nextSwap := swap.isSome } }
      (next = stop ∨ s.dev.seq.running = false → Goes (.cycleFix t) s (f.issueAhead swap.isSome (swap.getD s.dev.seq.bound) T next)) ∧
      (next ≠ stop → s.dev.seq.running = true → Goes (.cycleFix t) s f) ∧
      (f.aheadSteps swap.isSome T = [] → f.issueAhead swap.isSome (swap.getD s.dev.seq.bound) T next = f) ∧
      (s.dev.rd Reg.SQ_SWAP_STATE = 1 → s.dev.seq.swapMode = 1 ∨ s.dev.rd Reg.SQ_SWAP_TIME ≤ next → swap = some s.dev.seq.bound2) ∧
      (s.dev.rd Reg.SQ_SWAP_STATE = 1 → s.dev.seq.swapMode ≠ 1 → next < s.dev.rd Reg.SQ_SWAP_TIME → swap = none) ∧
      (s.dev.rd Reg.SQ_SWAP_STATE ≠ 1 → (∀ x ∈ s.dev.txns, ∀ y ∈ x.entries, y.swapReq = false) → swap = none)) ∧
    (s.dev.cyclesMayRun = false ∨ s.dev.seq.fixed = true → Goes (.cycleFix t) s d) ∧
    (∀ rising, s.dev.crownUp = true → s.dev.rd Reg.SY_LAND_MODE = 0 →
      s.dev.rd Reg.FE_LAND_SYNC_EDGE = 2 ∨ (s.dev.rd Reg.FE_LAND_SYNC_EDGE = 0 ∧ rising = true) ∨
        (s.dev.rd Reg.FE_LAND_SYNC_EDGE = 1 ∧ rising = false) →
      Goes (.syncLandEdge rising t) s (d.syncGroups (s.dev.rd Reg.FE_LAND_SYNC_MASK) 2 t)) ∧
    (∀ rising, s.dev.rd Reg.SY_LAND_MODE ≠ 0 → Goes (.syncLandEdge rising t) s d)) ∧
  (∀ (d : Dev) (t : Nat), d.cyclesMayRun = true → d.seq.fixed = true → d.seq.nextNs ≠ 0 →
    let T := d.seq.nextNs
    let lock := if d.seq.nextSrc = 1 then 3 else if d.rd Reg.SQ_LOCK = 2 ∧ T = d.rd Reg.SQ_CYCLE_NS then 2 else 1
    let e := d.startCycle t
    e.rd Reg.SQ_LOCK = lock ∧ e.rd Reg.SQ_CYCLE_NS = T ∧
    (t % T = 0 → e.rd Reg.SQ_CYCLE_INDEX = t / T % 2 ^ 32 ∧ e.seq.running = true ∧ e.seq.start = t ∧ e.seq.doneTo = 0 ∧ e.seq.fixed = false ∧
      e.seq.ahead = d.seq.ahead ∧
      (d.seq.nextSwap = false → e.seq.ended = (d.waitIndex false).isNone ∧ ∀ i, i < 1024 → e.stepWord false i = d.stepWord false i)) ∧
    (t % T ≠ 0 → e.seq.running = false ∧ e.rd Reg.SQ_CYCLE_INDEX = d.rd Reg.SQ_CYCLE_INDEX))

/-- R52, R54, R116, R151, R191, R202, R206, R271: a boundary ends the running cycle, does the staged work in its order, and starts the next
cycle. -/
def Obligations.BoundariesAct : Prop :=
  ∀ (s : State) (t : Nat),
    let d := s.dev.at t
    (s.dev.crownUp = true → s.dev.mode ≠ INIT → s.dev.rd Reg.PL_RUNG = 0 →
      Goes (.cycleBoundary t) s
        ((((((d.cnCycleEnd.timeHoldover).journalBreach).endCycle.boundaryWork s.worn t).startCycle t).boundarySync t).boundaryCalendar s.worn
          s.dev.staged)) ∧
    (s.dev.crownUp = false ∨ s.dev.mode = INIT ∨ s.dev.rd Reg.PL_RUNG ≠ 0 → Goes (.cycleBoundary t) s d) ∧
    (∀ (e : Dev) (w : Worn),
      let due := e.txns.filter fun x => e.txnDue t x
      let trims := e.staged.filter fun x => x.isValue && isHandleIx x.ix
      let cmds := stagedOrder e.staged
      let all := cmds ++ due.flatMap (·.entries)
      let now := if e.coreUp then trims else []
      let a := ({ e with staged := if e.coreUp then [] else trims } : Dev).each (cmds.filter fun x => !e.actsLast all x)
        fun f x => f.stagedCommand w x
      let b := a.applyDue w t all now due
      let done := due.filter fun x => b.journal.any fun p => p.1 = x.num && p.2.2 = 3
      let c := b.each ((cmds ++ done.flatMap (·.entries)).filter fun x => e.actsLast all x) fun f x => f.stagedCommand w x
      e.stagedWork w t = c.each (e.staged.filter fun x => !x.isValue && 256 ≤ x.id) fun f x => f.stagedOutput w x) ∧
    (∀ (l : List Entry) (x : Entry), x ∈ stagedOrder l ↔ x ∈ l ∧ x.isValue = false ∧ x.id < 256) ∧
    (∀ (e : Dev) (l : List Entry) (x y : Entry), y ∈ l → y.moduleCmd = true → y.val = 3 → x.moduleCmd = true →
      (x.val ≠ 3 → e.actsLast l x = true) ∧ e.actsLast l y = false) ∧
    (∀ (e : Dev) (l : List Entry) (k i : Nat) (x y : Entry), k < 128 → y ∈ l → y.bankCmd = true → e.unitOf k = i →
      (y.ix - 0x5000) / 0x40 = i → x.ix = 0x2000 + 0x40 * k → x.sub = 4 → x.val = 2 → e.actsLast l x = true ∧ e.actsLast l y = false) ∧
    (∀ (e : Dev) (w : Worn) (l : List Entry) (x : Txn),
      (∀ g, Dev.checkAll w false e x.entries 1 = some g → e.applyTxn w l x = e.refuseTxn x g) ∧
      (∀ y, x.entries = [y] → Dev.checkAll w false e [y] 1 = none → e.actsLast l y = false →
        e.applyTxn w l x = (((e.txnEntry w x.bind y).journalPut x.num x.id 3).endTxn x.num 3 0 0).wr Reg.GU_ATOM_LAST_TXN x.num) ∧
      (x.entries = [] → e.applyTxn w l x = ((e.journalPut x.num x.id 3).endTxn x.num 3 0 0).wr Reg.GU_ATOM_LAST_TXN x.num)) ∧
    (∀ (e : Dev) (x : Txn), x.st = 2 → x.done = true → x.applyAt = none →
      (e.det = false ∨ e.atom = false ∨ e.seq.running = false → e.txnDue t x = true) ∧
      (e.det = true → e.atom = true → e.seq.running = true → (e.txnDue t x = true ↔ 2 ≤ e.boundariesSince x.cyc)))

/-- R199, R200: a table is exchanged at a boundary: the shadow table becomes the active one and the old one the shadow. -/
def Obligations.TablesExchange : Prop :=
  ∀ (d : Dev) (t i : Nat), i < 1024 → tabWf dfltOf d.obj = true →
    let e := d.exchange t
    e.stepWord false i = d.stepWord true i ∧ e.stepWord true i = d.stepWord false i ∧ e.seq.bound = d.seq.bound2 ∧
    e.rd Reg.SQ_SWAP_STATE = 0 ∧ tabWf dfltOf (exchangeObj d.obj) = true

/-- R215 to R217: a packet is opened, takes its bytes, and is committed or aborted in an unbroken queue. -/
def Obligations.PacketsForm : Prop :=
  ∀ (d : Dev) (q ty : Nat) (bs : List Nat), (d.queue q).broken = none →
    let x := d.queue q
    let lvl := x.p.dist x.p.w
    (lvl + 8 ≤ x.cap → d.openPacket q ty =
      (d.setQueue q { x.setPtrs { x.p with w := x.p.w + 8 } with opn := some { start := x.p.w, ty := ty } }, [])) ∧
    (x.cap < lvl + 8 → d.openPacket q ty = d.countAbort q 1) ∧
    (x.opn = none → d.appendBytes q bs = (d, []) ∧ d.commitPacket q = (d, [])) ∧
    (∀ o, x.opn = some o →
      (bs.length ≤ x.cap - lvl → o.bytes.length + bs.length ≤ d.pMax q → d.appendBytes q bs =
        (d.setQueue q { x.setPtrs { x.p with w := x.p.w + BitVec.ofNat 32 bs.length } with opn := some { o with bytes := o.bytes ++ bs } }, [])) ∧
      (x.cap - lvl < bs.length → x.cap - lvl ≤ d.pMax q - o.bytes.length → d.appendBytes q bs = d.abortPacket q 1) ∧
      (d.pMax q < o.bytes.length + bs.length → d.pMax q - o.bytes.length < x.cap - lvl → o.bytes.length ≤ d.pMax q →
        d.appendBytes q bs = d.abortPacket q 2) ∧
      (o.bytes = [] → d.commitPacket q = (d.setQueue q { x.setPtrs { x.p with w := o.start } with opn := none }, [])) ∧
      (o.bytes ≠ [] → o.bad = true → lvl + (8 - o.bytes.length % 8) % 8 ≤ x.cap → d.commitPacket q = d.abortPacket q 4) ∧
      (o.bytes ≠ [] → o.bad = false → lvl + (8 - o.bytes.length % 8) % 8 ≤ x.cap →
        let w := x.p.w + BitVec.ofNat 32 ((8 - o.bytes.length % 8) % 8)
        let y := { x.setPtrs { x.p with w := w, c := w } with
          opn := none, pseq := (x.pseq + 1) % 65536, pkts := x.pkts ++ [{ pos := o.start, ty := o.ty, pseq := x.pseq, bytes := o.bytes, tc := d.now }] }
        d.commitPacket q = ((d.setQueue q y).bump 32 (Reg.QU_COMMITTED q)).noteCommit q x.level y.level) ∧
      d.abortPacket q 3 = (d.setQueue q { x.setPtrs { x.p with w := o.start } with opn := none }).countAbort q 3)

/-- R223 to R228, R231: a read answers the next content word with its tag and moves on, MARK, REWIND, RELEASE, FLUSH and ACK move what they
name; the rows of a queue's consumer are requests that act at once outside a transaction, on a queue that no capture channel consumes. -/
def Obligations.QueuesAreRead : Prop :=
  (∀ (d : Dev) (q : Nat), (d.queue q).broken = none → d.queueOn q = true →
    let x := d.queue q
    (∀ k ∈ x.pkts, k.void = false) →
    (x.holding x.p.rd = none → (d.queueRead q).2 = (0, 0) ∧ (d.queueRead q).1 = d.setQueue q (x.setPtrs x.p)) ∧
    (∀ k, x.holding x.p.rd = some k →
      let rd := if x.p.rd = k.pos then x.p.rd + 8 else x.p.rd
      let i := x.p.dist rd - x.p.dist k.pos - 8
      let bs := (k.bytes.drop i).take 8
      (d.queueRead q).1 = d.setQueue q (x.setPtrs { x.p with rd := rd + 8 }) ∧ (d.queueRead q).2.1 = ofBytesLE bs ∧
        (d.queueRead q).2.2 = tagOf (decide (i = 0)) (decide (k.bytes.length ≤ i + 8)) (x.mark && decide (rd = x.content x.p.m)) bs.length) ∧
    d.queueCmd q 1 = (d.setQueue q { x.setPtrs { x.p with m := x.p.rd } with mark := true }, OK) ∧
    (x.mark = true → d.queueCmd q 2 = (d.setQueue q (x.setPtrs { x.p with rd := x.p.m }), OK)) ∧
    (x.mark = false → d.queueCmd q 2 = (d, MARK_LOST)) ∧
    (d.queueCmd q 4 = (logged (d.queueReset q 1), OK)) ∧
    (x.tCommit ≠ some d.now →
      d.queueCmd q 5 = (d.setQueue q { x with packets := 0, high := false, low := false, reset := false, cross := 0, reason := 0 }, OK)) ∧
    (x.tCommit = some d.now → d.queueCmd q 5 = (d.setQueue q { x with
      packets := x.nCommit, high := decide (x.nCross ≠ 0), low := false, reset := false, cross := x.nCross, reason := 0 }, OK)) ∧
    (∀ p, x.p.dist x.p.rd < x.p.dist p → d.releaseTo q p = (d, RANGE)) ∧
    (∀ p, x.p.dist p ≤ x.p.dist x.p.rd → (∀ k ∈ x.pkts, x.p.dist p < x.p.dist k.pos + k.size) →
      x.level < d.rd (Reg.QU_WM_LOW q) → d.releaseTo q p = (d.setQueue q (x.setPtrs x.p), OK)) ∧
    (∀ k rest, x.pkts = k :: rest → x.p.dist k.pos + k.size ≤ x.p.dist x.p.rd →
      (∀ j ∈ rest, x.p.dist x.p.rd < x.p.dist j.pos + j.size) → x.level < d.rd (Reg.QU_WM_LOW q) →
      let l := k.pos + BitVec.ofNat 32 k.size
      let y := { x.setPtrs { x.p with l := l } with pkts := rest, mark := x.mark && decide (x.p.dist l ≤ x.p.dist x.p.m) }
      d.queueCmd q 3 = (logged ((d.setQueue q y).noteRelease q x.level y.level), OK))) ∧
  (∀ (s : State) (r : Req) (q : QueueNo),
    s.dev.captured q = false → (s.dev.queue q).broken = none →
    (s.dev.grants (readReq r (Reg.QU_READ q)) → s.dev.waitsFill q = false →
      let e := (s.dev.at r.t).used (readReq r (Reg.QU_READ q))
      Obeys (.quRead r q) s (readReq r (Reg.QU_READ q))
        (segmentOf 0 9 (packLE [(8, (e.queueRead q).2.1), (1, (e.queueRead q).2.2)])) (e.queueRead q).1) ∧
    (s.dev.grants (readReq r (Reg.QU_READ3 q)) → s.dev.waitsFill q = false →
      let e := (s.dev.at r.t).used (readReq r (Reg.QU_READ3 q))
      ∃ t, exec (.quRead3 r q) s = .next t ∧ Rest s t ∧ t.dev.aside = (e.queueRead3 q 3).1.aside ∧ t.dev.resp.status = OK ∧
        t.dev.resp.detail = 27 ∧ t.dev.resp.len = 16) ∧
    (∀ c v, (c, v) ∈ [(Instr.mark r q, 1), (.rewind r q, 2), (.release r q, 3), (.flush r q, 4), (.ack r q, 5)] →
      s.dev.permits (writeReq r (Reg.QU_CMD q) 0 1 v) →
      let e := (s.dev.at r.t).used (writeReq r (Reg.QU_CMD q) 0 1 v)
      ((e.queueCmd q v).2 = OK → Obeys c s (writeReq r (Reg.QU_CMD q) 0 1 v) {} (e.queueCmd q v).1) ∧
      ((e.queueCmd q v).2 = MARK_LOST → Obeys c s (writeReq r (Reg.QU_CMD q) 0 1 v) { status := MARK_LOST } e)) ∧
    (∀ p, p < 2 ^ 32 → s.dev.permits (writeReq r (Reg.QU_RELEASE_AT q) 0 4 p) →
      let e := (s.dev.at r.t).used (writeReq r (Reg.QU_RELEASE_AT q) 0 4 p)
      (e.releaseTo q (BitVec.ofNat 32 p)).2 = OK →
      Obeys (.quReleaseAt r q p) s (writeReq r (Reg.QU_RELEASE_AT q) 0 4 p) {} (e.releaseTo q (BitVec.ofNat 32 p)).1))

/-- R213, R221, R260, R388: a queue is enabled empty and disabled with its content discarded; QU_WRITE and GR_HK_DATA of up to 16 bytes are one
request, longer ones their segments; QU_WRITE_END ends the packet. -/
def Obligations.HostPacketsForm : Prop :=
  (∀ (s : State) (r : Req) (q : QueueNo) (bytes : List Nat), (∀ b ∈ bytes, b < 256) →
    (s.dev.hostQueue q = true → (s.dev.queue q).broken = none → 1 ≤ bytes.length → bytes.length ≤ 16 →
      let w := writeReq r (Reg.QU_WRITE q) 0 bytes.length (ofBytesLE bytes)
      let e := (s.dev.at r.t).used w
      s.dev.permits w →
      ((e.hostWrite q bytes).2 = OK → Obeys (.quWrite r q bytes) s w {} (e.hostWrite q bytes).1) ∧
      ((e.hostWrite q bytes).2 = BUSY → Obeys (.quWrite r q bytes) s w { status := BUSY } ((e.hostWrite q bytes).1.bump 32 Reg.OPS_BUSY_COUNT))) ∧
    (let go := fun key => (writeBytes r key bytes).foldl (fun d x => d.request ⟨s.ps, s.worn⟩ x) (s.dev.at r.t);
      Goes (.quWrite r q bytes) s (go (Reg.QU_WRITE q)) ∧ Goes (.grHkData r bytes) s (go Reg.GR_HK_DATA)) ∧
    (∀ key, 16 < bytes.length → bytes.length ≤ 256 →
      ((writeBytes r key bytes).flatMap fun x => bytesLE x.len x.data) = bytes ∧
      ∀ x ∈ writeBytes r key bytes, x.op = OP_WRITE ∧ x.total = bytes.length ∧ x.len ≤ 16 ∧ x.seq = (r.seq + x.segment) % 65536) ∧
    (let w := writeReq r (Reg.QU_WRITE_END q) 0 1 1
      let e := (s.dev.at r.t).used w
      s.dev.permits w → s.dev.hostQueue q = true → (s.dev.queue q).broken = none → Obeys (.quWriteEndCommit r q) s w {} (e.hostEnd q 1)) ∧
    (let w := writeReq r (Reg.QU_WRITE_END q) 0 1 2
      let e := (s.dev.at r.t).used w
      s.dev.permits w → s.dev.hostQueue q = true → (s.dev.queue q).broken = none → Obeys (.quWriteEndAbort r q) s w {} (e.hostEnd q 2)) ∧
    (s.dev.permits (writeReq r Reg.GR_HK_DATA 0 bytes.length (ofBytesLE bytes)) → 1 ≤ bytes.length → bytes.length ≤ 16 → s.dev.opsInUse < 256 →
      let w := writeReq r Reg.GR_HK_DATA 0 bytes.length (ofBytesLE bytes)
      Obeys (.grHkData r bytes) s w { status := DEFERRED } (({ s.dev with
        deferred := s.dev.deferred ++ [(⟨w, s.dev.entryOf w⟩ : Deferred)] } : Dev).wr Reg.OPS_PEAK (max (s.dev.rd Reg.OPS_PEAK) (s.dev.opsInUse + 1))))) ∧
  (∀ (d : Dev) (q : Nat), q < 64 →
    (d.queueOn q = false → d.rd (Reg.QU_SPILL_CHAN q) = 0xFF →
      let e := d.quEnable q
      e.queue q = { cap := d.rd (Reg.QU_SEG_SIZE q), resets := (d.queue q).resets } ∧ e.rd (Reg.QU_STATE q) = 1 ∧ e.rd (Reg.QU_ENABLE q) = 1 ∧
        e.rd Reg.QM_SRAM_FREE = d.rd Reg.QM_SRAM_FREE - d.rd (Reg.QU_SEG_SIZE q) ∧ e.rd (Reg.QU_COMMITTED q) = 0 ∧
        e.rd (Reg.QU_ABORTED q) = 0 ∧ e.rd (Reg.QU_LAST_ABORT q) = 0 ∧ e.pMax q = min 16384 (d.rd (Reg.QU_SEG_SIZE q) / 4) ∧
        (∀ p, p ≠ q → e.queue p = d.queue p)) ∧
    (∀ c, d.queueOn q = false → d.rd (Reg.QU_SPILL_CHAN q) = c → c < 16 →
      (d.quEnable q).rd (Reg.DM_STATE c) = 1 ∧ ((d.quEnable q).queue q).cap = d.rd (Reg.QU_SEG_SIZE q) + d.rd (Reg.DM_SIZE c)) ∧
    (d.queueOn q = true → d.quEnable q = d) ∧
    (d.queueOn q = true → d.rd (Reg.QU_SPILL_CHAN q) = 0xFF →
      d.quDisable q = ((((d.wr (Reg.QU_STATE q) 0).wr (Reg.QU_ENABLE q) 0).wr Reg.QM_SRAM_FREE
        (d.rd Reg.QM_SRAM_FREE + d.rd (Reg.QU_SEG_SIZE q))).setQueue q { resets := (d.queue q).resets })) ∧
    (d.queueOn q = false → d.quDisable q = d.wr (Reg.QU_ENABLE q) 0))

/-- R232, R233: a spill moves the oldest packets outside the read window to the ring in PSRAM, a fill brings those of the window back; bytes
outside the ring are unchanged, and a transfer that is not due, or finds the operations table full, changes nothing. -/
def Obligations.SpillsAndFillsMovePackets : Prop :=
  ∀ (s : State) (c : DmaNo) (t : Nat),
    let d := ({ s.dev with hole := false } : Dev).at t
    let q := s.dev.rd (Reg.DM_QUEUE c)
    let base := s.dev.rd (Reg.DM_BASE c)
    let size := s.dev.rd (Reg.DM_SIZE c)
    let x := s.dev.queue q
    (x.broken = none → s.dev.spillRuns c = true → s.dev.opsFree = true → 0 < size → base + size ≤ s.dev.rd Reg.QM_PSRAM_USABLE →
      (∃ u, exec (.spillTransfer c t) s = .next u ∧ u.pending = s.pending ∧ u.worn = s.worn ∧
        (∀ a, a < base ∨ base + size ≤ a → Memory.byte u.ps a = Memory.byte s.ps a) ∧
        (∀ i, (u.dev.queue i).p = (s.dev.queue i).p ∧ (u.dev.queue i).pkts.map (·.bytes) = (s.dev.queue i).pkts.map (·.bytes)) ∧
        (∀ k, s.dev.rd (Reg.QU_SPILL_MARK q) < x.inSram → x.spillNext = some k →
          (∀ off, x.place size k.size = some off → ∀ j ∈ (u.dev.queue q).pkts, j.pos = k.pos → j.spill = some off) ∧
          (x.place size k.size = none → u.ps = s.ps ∧ (u.dev.queue q).pkts = x.pkts)) ∧
        (x.inSram ≤ s.dev.rd (Reg.QU_SPILL_MARK q) → u.ps = s.ps ∧ (u.dev.queue q).pkts = x.pkts)) ∧
      (∃ u, exec (.fillTransfer c t) s = .next u ∧ Rest s u ∧
        (∀ i, i ≠ q → u.dev.queue i = s.dev.queue i) ∧ (u.dev.queue q).p = x.p ∧
        (∀ j ∈ (u.dev.queue q).pkts, (∃ k ∈ x.pkts, k.pos = j.pos ∧ k.spill.isSome = true ∧ x.inWindow k = true) → j.spill = none) ∧
        ((∀ k ∈ x.pkts, k.spill = none ∨ x.inWindow k = false) → u.dev = d.passOp))) ∧
    (s.dev.spillRuns c = false → Goes (.spillTransfer c t) s d ∧ Goes (.fillTransfer c t) s d) ∧
    (x.broken = none → s.dev.opsFree = false → Goes (.spillTransfer c t) s d ∧ Goes (.fillTransfer c t) s d) ∧
    (∀ (b : QueueNo) held, (1000 < held → Goes (.writeBeatResume b held t) s ((s.dev.at t).bump 32 (Reg.QU_STALLS b))) ∧
      (held ≤ 1000 → Goes (.writeBeatResume b held t) s (s.dev.at t)))

/-- R234 to R237: the commands of a capture channel, a copy into its ring, and the read of a ring word; the word is a free value where the
region is not usable PSRAM (log entry 67). -/
def Obligations.CaptureChannelsAct : Prop :=
  ∀ (s : State) (r : Req) (c : DmaNo) (t : Nat),
    let base := s.dev.rd (Reg.DM_BASE c)
    let size := s.dev.rd (Reg.DM_SIZE c)
    let q := s.dev.rd (Reg.DM_QUEUE c)
    let d := ({ s.dev with hole := false } : Dev).at t
    (∀ i v, (i, v) ∈ [(Instr.dmStart r c, 1), (.dmStop r c, 2), (.dmTrigger r c, 3)] →
      let w := writeReq r (Reg.DM_CTRL c) 0 1 v
      s.dev.permits w → s.dev.dmCheck c v = OK → Obeys i s w {} (((s.dev.at r.t).used w).dmDo c v)) ∧
    (s.dev.rd (Reg.DM_STATE c) = 0 → s.dev.dmDo c 1 =
      ((((s.dev.wr (Reg.DM_STATE c) 1).wr (Reg.DM_WRITE_INDEX c) 0).wr (Reg.DM_OLDEST c) 0).wr (Reg.DM_WRAPS c) 0).setDma c {}) ∧
    (s.dev.dmDo c 2 = s.dev.wr (Reg.DM_STATE c) 0) ∧
    (s.dev.rd (Reg.DM_ROLE c) = 2 → s.dev.rd (Reg.DM_POLICY c) = 2 → s.dev.rd (Reg.DM_STATE c) = 1 →
      let x := s.dev.queue q
      let old := x.pkts.filter fun k => k.tc ≠ s.dev.now
      let go := fun st => ((s.dev.wr (Reg.DM_STATE c) st).wr (Reg.DM_TRIG_TIME c) s.dev.now).setDma c
        { s.dev.dma c with post := 0, skip := old.length, epoch := x.resets }
      (s.dev.rd (Reg.DM_POST c) ≠ 0 ∨ old ≠ [] → s.dev.dmDo c 3 = (go 3).log1 0x050B (0x40 + c.val) 0) ∧
      (s.dev.rd (Reg.DM_POST c) = 0 → old = [] → s.dev.dmDo c 3 = (go 4).logs [(0x050B, 0x40 + c.val, 0), (0x050C, 0x40 + c.val, 0)])) ∧
    (∀ k rest, s.dev.opsFree = true → s.dev.rd (Reg.DM_ROLE c) = 2 → s.dev.rd (Reg.DM_STATE c) = 1 → s.dev.queueOn q = true →
      (s.dev.queue q).pkts = k :: rest → k.void = false → 0 < size → base + size ≤ s.dev.rd Reg.QM_PSRAM_USABLE →
      (s.dev.rd (Reg.DM_POLICY c) ≠ 0 ∨ ((s.dev.dma c).ring.map (·.2)).sum + k.size ≤ size) →
      let e := d.passOp.captureWrite s.ps c q k
      exec (.captureCopy c t) s = .next { s with dev := e.1.takeOldest q k, ps := e.2 } ∧
        (∀ a, a < base ∨ base + size ≤ a → Memory.byte e.2 a = Memory.byte s.ps a) ∧
        e.1.rd (Reg.DM_WRITE_INDEX c) = (s.dev.rd (Reg.DM_WRITE_INDEX c) + (k.stored q).length) % size) ∧
    (∀ k rest, s.dev.opsFree = true → s.dev.rd (Reg.DM_ROLE c) = 2 → s.dev.rd (Reg.DM_STATE c) = 2 ∨ s.dev.rd (Reg.DM_STATE c) = 4 →
      s.dev.queueOn q = true → (s.dev.queue q).pkts = k :: rest →
      Goes (.captureCopy c t) s ((d.passOp.bump 32 (Reg.DM_DROPPED c)).takeOldest q k)) ∧
    (s.dev.opsFree = false → Goes (.captureCopy c t) s d) ∧
    (s.dev.grants (readReq r (Reg.DM_RD_DATA c)) →
      let w := readReq r (Reg.DM_RD_DATA c)
      let e := (s.dev.at r.t).used w
      let off := s.dev.rd (Reg.DM_RD_ADDR c)
      (s.dev.opsFree = true → 0 < size → (∀ a ∈ s.dev.psBad, a < base ∨ base + size ≤ a) →
        (base + size ≤ s.dev.rd Reg.QM_PSRAM_USABLE →
          Obeys (.dmRdData r c) s w (segmentOf 0 9 (packLE [(8, ofBytesLE (Memory.ring s.ps base size off 8)), (1, 0)]))
            (e.passOp.wr (Reg.DM_RD_ADDR c) ((off + 8) % size))) ∧
        (s.dev.rd Reg.QM_PSRAM_USABLE ≤ base →
          Obeys (.dmRdData r c) s w (segmentOf 0 9 (packLE [(8, s.dev.freeNat 64), (1, 0)]))
            (e.took.passOp.wr (Reg.DM_RD_ADDR c) ((off + 8) % size)))))

/-- R107 to R110, R239, R242 to R245: the coefficient RAM is written and read at its address, which then advances; and what errors of the
memories behind the queues and the filters do. -/
def Obligations.MemoriesAreKept : Prop :=
  (∀ (s : State) (t : Nat),
    let d := s.dev.at t
    (s.dev.rd Reg.QM_NOR_STATE = 1 → Goes (.xspiNoStrobe true t) s ((d.wr Reg.QM_NOR_STATE 2).log1 0x050D 0x53 1)) ∧
    (s.dev.rd Reg.QM_NOR_STATE ≠ 1 → Goes (.xspiNoStrobe true t) s d) ∧
    (s.dev.rd Reg.QM_PSRAM_STATE = 1 → Goes (.xspiNoStrobe false t) s (d.psramFault 1)) ∧
    (s.dev.rd Reg.QM_PSRAM_STATE = 1 → ((d.wr Reg.QM_PSRAM_STATE 2).log1 0x050D 0x52 1).enabledQueues = [] →
      (∀ c, c < 16 → ((d.wr Reg.QM_PSRAM_STATE 2).log1 0x050D 0x52 1).rd (Reg.DM_STATE c) = 0) →
      d.psramFault 1 = (d.wr Reg.QM_PSRAM_STATE 2).log1 0x050D 0x52 1) ∧
    (s.dev.rd Reg.QM_PSRAM_STATE ≠ 1 → Goes (.xspiNoStrobe false t) s d) ∧
    (∀ a, a < 65536 → a ∈ s.dev.coefBad →
      Goes (.coefRepair a true t) s ((d.setCoef a (tabGet (fun _ => 0) s.dev.coefNor a)).log1 0x0508 0x51 a) ∧
      Goes (.coefRepair a false t) s ((d.log1 0x0509 0x51 a).setMaint 4)) ∧
    (∀ a readable, a < 65536 → a ∉ s.dev.coefBad → Goes (.coefRepair a readable t) s d) ∧
    (∀ (m : Fin 3) r n (double : List Nat), s.dev.memoryOn = false → Goes (.scrub m r n double t) s d) ∧
    (∀ (m : Fin 3) r (double : List Nat), s.dev.memoryOn = true →
      (m.val ≠ 2 ∨ r = true → Goes (.scrub m r 0 double t) s (d.each double fun e a => e.eccHit m.val a)) ∧
      (m.val = 2 → r = false → s.dev.opsFree = false → Goes (.scrub m r 0 double t) s d) ∧
      (m.val = 2 → r = false → s.dev.opsFree = true →
        let e := d.passOp.each double fun e a => e.eccHit 2 a
        Goes (.scrub m r 0 double t) s (if e.rd Reg.QM_PSRAM_STATE = 1 then e.scrubOn else e))) ∧
    (∀ r n, 0 < n → s.dev.memoryOn = true →
      let v := d.wr Reg.QM_ECC_COEF_CORR ((s.dev.rd Reg.QM_ECC_COEF_CORR + n) % 2 ^ 32)
      let last := tabGet (fun _ => 0) s.dev.eccLast 1
      let cnt := tabGet (fun _ => 0) s.dev.eccCnt 1 + n
      (last = 0 ∨ last + 60000000000 ≤ t → Goes (.scrub 1 r n [] t) s (({ v with
        eccCnt := tabSet (fun _ => 0) s.dev.eccCnt 1 0, eccLast := tabSet (fun _ => 0) s.dev.eccLast 1 t } : Dev).log1 0x0505 0x51 cnt)) ∧
      (last ≠ 0 → t < last + 60000000000 → Goes (.scrub 1 r n [] t) s { v with eccCnt := tabSet (fun _ => 0) s.dev.eccCnt 1 cnt })) ∧
    (∀ (e : Dev), (e.scrubAt = none → e.scrubOn = { e with scrubAt := some e.now }) ∧
      (∀ t0, e.scrubAt = some t0 →
        (e.rd Reg.QM_PSRAM_USABLE * 1000000000 ≤ (e.now - t0) * e.rd Reg.QM_SCRUB_RATE →
          e.scrubOn.rd Reg.QM_SCRUB_PASS = (e.now - t0) / 1000000000 ∧ e.scrubOn.scrubAt = some e.now) ∧
        ((e.now - t0) * e.rd Reg.QM_SCRUB_RATE < e.rd Reg.QM_PSRAM_USABLE * 1000000000 → e.scrubOn = e))) ∧
    (∀ (e : Dev) a, a < 65536 → e.eccHit 1 a =
      ({ e.bump 32 Reg.QM_ECC_COEF_DOUBLE with coefBad := a :: e.coefBad.filter (· ≠ a) } : Dev).log1 0x0506 0x51 a) ∧
    (∀ (e : Dev) a, a < 0x40000 → e.sramOwner a = none → e.eccHit 0 a = e.bump 32 Reg.QM_ECC_SRAM_DOUBLE)) ∧
  (∀ (s : State) (r : Req),
    (∀ v, s.dev.permits (writeReq r Reg.CR_DATA 0 4 v) → ¬ (toInt 32 v < -0x800000 ∨ 0x7FFFFF < toInt 32 v) →
      s.dev.coefBusy (s.dev.rd Reg.CR_ADDR) = false →
      let q := writeReq r Reg.CR_DATA 0 4 v
      Obeys (.crDataWrite r v) s q {} ((s.dev.used q).coefWrite v)) ∧
    (∀ v, s.dev.permits (writeReq r Reg.CR_DATA 0 4 v) → ¬ (toInt 32 v < -0x800000 ∨ 0x7FFFFF < toInt 32 v) →
      s.dev.coefBusy (s.dev.rd Reg.CR_ADDR) = true →
      Obeys (.crDataWrite r v) s (writeReq r Reg.CR_DATA 0 4 v) { status := BANK_BUSY } (s.dev.used (writeReq r Reg.CR_DATA 0 4 v))) ∧
    (∀ v, s.dev.permits (writeReq r Reg.CR_DATA 0 4 v) → toInt 32 v < -0x800000 ∨ 0x7FFFFF < toInt 32 v →
      Obeys (.crDataWrite r v) s (writeReq r Reg.CR_DATA 0 4 v) { status := RANGE } (s.dev.used (writeReq r Reg.CR_DATA 0 4 v))) ∧
    (∀ (d : Dev) a, -0x800000 ≤ d.coefInt a ∧ d.coefInt a ≤ 0x7FFFFF) ∧
    (s.dev.grants (readReq r Reg.CR_DATA) →
      let q := readReq r Reg.CR_DATA
      let a := s.dev.rd Reg.CR_ADDR
      Obeys (.crDataRead r) s q (segmentOf 0 4 (ofInt 32 (s.dev.coefInt a))) ((s.dev.used q).wr Reg.CR_ADDR ((a + 1) % 65536))) ∧
    (∀ (d : Dev) v, d.rd Reg.CR_ADDR < 65536 → let e := d.coefWrite v
      e.coefAt (d.rd Reg.CR_ADDR) = v % 2 ^ 24 ∧ e.rd Reg.CR_ADDR = (d.rd Reg.CR_ADDR + 1) % 65536 ∧
        ∀ a, a < 65536 → a ≠ d.rd Reg.CR_ADDR → e.coefAt a = d.coefAt a))

/-- R65 to R70, R78 to R82, R88: the end of a grid window or of a block. A window ends once its last branch tick has passed. One of an
undisturbed pair that agrees sends P's value, its end residues start the next window, and the next window opens where it ended with the length
of its code; a vote of T that agrees with one converter alone retires the other. A block of which no bits came is passed over. -/
def Obligations.WindowsEnd : Prop :=
  (∀ (s : State) (h : SlotNo) (m : WinMeas) (t : Nat),
    let d := s.dev.at t
    let n := d.chanOf h
    let x := d.slot h
    let y := d.triple s.worn h m (Spans.all (d.windowTicks h))
    let q := x.blockMeas m
    let f : Dev := d.modChan n fun c => { c with resP := none, resC := none, resT := none }
    let z := f.triple s.worn h q.1 q.2
    let dist := fun (a b : Frac) => (((d.counts h a) - (d.counts h b)).natAbs : Int)
    let calm := (d.branch (n / 4)).cal = none ∧ (d.branch (n / 4)).driftDue = none
    let undisturbed := (d.kind h = 1 ∨ d.kind h = 3) ∧ x.settleNext = false ∧ x.testNow = false ∧ x.urgNeed = false ∧
      (d.branch (n / 4)).refinFault = false ∧ (d.branch (n / 4)).refEnd = false ∧ roleOf s.worn n = 0 ∧ d.graft.calSlot = none ∧
      d.graft.calDue = none ∧ calm
    let agrees := fun (e : Dev) => (e.modSlot h fun z => { z with cnt := 0 }).wr (Reg.CV_PLAUS_STATE h) AGREE
    let next := fun (e : Dev) (m : WinMeas) (block : Bool) => ((((e.carry n m (!block) false).loopFlags h m).modSlot h fun z =>
      { z with settleNext := false, urgNeed := z.urgRun }).openWindow h).nextTest h
    (d.windowRuns h = false ∨ d.fast h = true ∨ d.windowDue h t = false → Goes (.windowEnd h m t) s d) ∧
    (d.windowRuns h = false ∨ d.fast h = false ∨ d.kind h = 7 ∨ d.windowDue h t = false → Goes (.fastBlockEnd h m t) s d) ∧
    (d.windowRuns h = true → d.windowDue h t = true → d.fast h = false → d.kind h = 7 → (d.branch (n / 4)).linkUp = true → calm →
      Goes (.windowEnd h m t) s (((d.toCrown (n / 4) (.result .t {
        slot := h, num := (d.monitorValue h m.mon).1, den := (d.monitorValue h m.mon).2, settle := x.settleNext,
        degr := drifts s.worn (n / 4), clocks := d.windowTicks h, tEnd := d.windowStop h t })).modSlot h
          fun z => { z with settleNext := false }).openWindow h)) ∧
    (undisturbed → d.windowRuns h = true → d.windowDue h t = true → d.fast h = false → d.rd (Reg.CV_PLAUS_STATE h) ≠ VOTING →
      dist y.p (d.ratioOf h m.vf y.c) ≤ d.plausLimit h →
      let r : Meas := {
        slot := h, num := y.p.1, den := y.p.2, sat := m.ovP, wire := x.wire, degr := degradedChan s.worn n,
        limit := m.limiter || bitOf (d.lpSt h) 0, clocks := d.windowTicks h, vf := m.vf, tEnd := d.windowStop h t }
      ((d.branch (n / 4)).linkUp = true → Goes (.windowEnd h m t) s (next ((agrees d).toCrown (n / 4) (.result .p r)) m false)) ∧
      ((d.branch (n / 4)).linkUp = false → Goes (.windowEnd h m t) s (next (agrees d) m false))) ∧
    (undisturbed → d.windowRuns h = true → d.windowDue h t = true → d.fast h = true → q.2.p ≠ 0 → q.2.c ≠ 0 →
      d.rd (Reg.CV_PLAUS_STATE h) ≠ VOTING → dist z.p (d.ratioOf h m.vf z.c) ≤ d.plausLimit h →
      Goes (.fastBlockEnd h m t) s (next (agrees f) q.1 true)) ∧
    (undisturbed → d.windowRuns h = true → d.windowDue h t = true → d.fast h = true → q.2.p = 0 ∨ q.2.c = 0 →
      Goes (.fastBlockEnd h m t) s (d.openWindow h)) ∧
    (undisturbed → d.windowRuns h = true → d.windowDue h t = true → d.windowTicks h ≠ 0 → d.fast h = false →
      d.rd (Reg.CV_PLAUS_STATE h) = VOTING → d.plausLimit h < dist y.p (d.ratioOf h m.vf y.c) →
      let yc := d.ratioOf h m.vf y.c
      let yt := d.ratioOf h m.vf y.t
      ∀ which, (which = 1 ∧ dist y.p yt ≤ d.plausLimit h ∧ d.plausLimit h < dist yc yt) ∨
          (which = 0 ∧ dist yc yt ≤ d.plausLimit h ∧ d.plausLimit h < dist y.p yt) →
        ∃ u, exec (.windowEnd h m t) s = .next u ∧ u.pending = s.pending ∧ u.ps = s.ps ∧ u.worn = s.worn.retire n which ∧
          u.dev.rd (Reg.CV_PLAUS_STATE h) = AGREE ∧ u.dev.rd (Reg.BR_T_STATE (n / 4)) = 3 ∧ u.dev.rd (Reg.BR_T_CHANNEL (n / 4)) = n)) ∧
  (∀ (w : Worn) (e : Dev) (n which : Nat) (m : WinMeas) (p tt : Bool), n < 16 → which < 2 → roleOf (w.retire n which) n ≠ 0 ∧
    (e.carry n m p tt).chan n = { e.chan n with
      resP := if p then some m.rP else none, resC := some m.rC, resT := if tt then some m.rT else none,
      corrP := (e.chan n).nextP.getD (e.chan n).corrP, corrC := (e.chan n).nextC.getD (e.chan n).corrC, nextP := none, nextC := none }) ∧
  (∀ (e : Dev) (k : Nat),
    let x := e.slot k
    let z := (e.openWindow k).slot k
    let code := e.rd (Reg.CV_WINDOW k)
    let locked := e.rd (Reg.CV_MAINS_STATE k) = 2
    z.winTick = x.winEnd ∧
    (code = 0 ∨ (code = 2 ∧ ¬ locked) → z.winEnd = x.winEnd + 327680) ∧
    (code = 1 ∨ (code = 3 ∧ ¬ locked) → z.ideal = x.ideal + 256 * 16666667 ∧ z.winEnd = tickNear z.ideal) ∧
    ((code = 2 ∨ code = 3) ∧ locked → z.winEnd = x.winEnd + tickNear (256 * x.mPeriod)) ∧
    (code = 4 → z.winEnd = x.winEnd + 4096 * e.rd (Reg.CV_WINDOW_N k)) ∧
    (code = 5 → z.winEnd = x.winEnd + 65536))

/-- R69, R77, R78, R85, R86, R96: mains tracking lost, the references of a branch, and a calibration cycle: T measures the references for three
windows of 20 ms, a drift beyond 200 ppm is entered, at once or after a vote, else T turns to the converters. Where both references moved by the
same amount REF_A is named (log entry 63). -/
def Obligations.ReferencesAct : Prop :=
  ∀ (s : State) (b : BranchNo) (h : SlotNo) (mv t : Nat),
    let d := s.dev.at t
    let x := s.dev.branch b
    let tracks := usesPair (s.dev.kind h) = true ∧ (s.dev.rd (Reg.CV_WINDOW h) = 2 ∨ s.dev.rd (Reg.CV_WINDOW h) = 3)
    (tracks → s.dev.rd (Reg.CV_MAINS_STATE h) ≠ 3 → Goes (.mainsTimeout h t) s
      ((((d.modSlot h fun y => { y with mGood := 0 }).wr (Reg.CV_MAINS_STATE h) 3).log1 0x040B (s.dev.rd (Reg.HND_ID h))
        ((s.dev.slot h).mPeriod / 1000)).modSlot h fun y => { y with mLast := 0 })) ∧
    (tracks → s.dev.rd (Reg.CV_MAINS_STATE h) = 3 → Goes (.mainsTimeout h t) s (d.modSlot h fun y => { y with mGood := 0, mLast := 0 })) ∧
    (¬ tracks → Goes (.mainsTimeout h t) s d) ∧
    (x.valid = true → s.dev.rd (Reg.BR_REF_SEL b) ≠ 1 ∨ x.refinFault = false →
      Goes (.refReady b t) s (d.setBranch b { x with refReady := true })) ∧
    (s.dev.rd (Reg.BR_REF_SEL b) = 1 → x.refinFault = false →
      Goes (.refinFault b mv t) s ((d.setBranch b { x with refinFault := true }).report (4 * b) 0x0406 (0xFFF0 + b) (min 65535 mv))) ∧
    (s.dev.rd (Reg.BR_REF_SEL b) ≠ 1 → Goes (.refinFault b mv t) s d) ∧
    (x.refinFault = true → Goes (.refinRestored b mv t) s
      ((d.setBranch b { x with refinFault := false, refEnd := true }).report (4 * b) 0x0407 (0xFFF0 + b) (min 65535 mv))) ∧
    (x.refinFault = false → Goes (.refinRestored b mv t) s d) ∧
    (∀ devA devB zero, exec (.calibrationCycle b devA devB zero t) s = .next { s with
      worn := (d.calSettle s.worn b).2, dev := (d.calSettle s.worn b).1.calBegin b devA devB zero }) ∧
    (∀ (e : Dev) w, (e.branch b).driftDue = none →
      ((e.branch b).cal = none → e.calSettle w b = (e, w)) ∧
      (∀ c, (e.branch b).cal = some c → c.done = false →
        let f := (e.setBranch b { e.branch b with
          refMeasA := 2500000 * (10000000 + c.devA) / 10000000, refMeasB := 2500000 * (10000000 + c.devB) / 10000000,
          refT := c.start + 60000000, zeroT := c.zero }).wrI 32 (Reg.BR_REF_RATIO b) (c.devA - c.devB)
        (e.now < c.start + 60000000 → e.calSettle w b = (e, w)) ∧
        (c.start + 60000000 ≤ e.now → (c.devA - c.devB).natAbs ≤ 2000 → e.calSettle w b = (f.calTurn b 0 c, w)) ∧
        (c.start + 60000000 ≤ e.now → 2000 < (c.devA - c.devB).natAbs →
          let bDrifted := decide (c.devA.natAbs < c.devB.natAbs)
          e.calSettle w b = (((((((f.wr (Reg.BR_T_STATE b) 4).wr (Reg.BR_T_CHANNEL b) 0xFF).modBranch b fun x =>
              { x with cal := none, driftDue := none }).wrBit Reg.SPR_T_FREE b false).setMaint b).report (4 * b) 0x0408 (0xFFF0 + b)
                (nat01 bDrifted + ofInt 24 (c.devA - c.devB) * 256)),
            { w with
              drift := w.drift ||| BitVec.ofNat 4 (2 ^ b.val),
              driftB := if bDrifted then w.driftB ||| BitVec.ofNat 4 (2 ^ b.val) else w.driftB })))) ∧
    (∀ (e : Dev) devA devB zero,
      let y := e.branch b
      let period := e.rd (Reg.BR_CAL_PERIOD b)
      let due := y.calLast = none ∨ ∃ u, y.calLast = some u ∧ u + period * 1000000000 ≤ e.now
      (period = 0 ∨ y.refReady = false ∨ ¬ due → e.calBegin b devA devB zero = e) ∧
      (period ≠ 0 → y.refReady = true → due → e.rd (Reg.BR_T_STATE b) = 0 → y.cal = none → e.calBegin b devA devB zero =
        ((e.setBranch b { y with cal := some { start := e.now, devA := devA, devB := devB, zero := zero }, calLast := some e.now }).wr
          (Reg.BR_T_STATE b) 1).wr (Reg.BR_T_CHANNEL b) 0xFF) ∧
      (period ≠ 0 → y.refReady = true → due → e.rd (Reg.BR_T_STATE b) = 2 →
        ((devA - devB).natAbs ≤ 2000 → e.calBegin b devA devB zero = e) ∧
        (2000 < (devA - devB).natAbs → e.calBegin b devA devB zero = e.setBranch b { y with
          driftDue := some (devA - devB, decide (devA.natAbs < devB.natAbs)) }))) ∧
    (∀ (e : Dev) (j : Nat) (want : Int), j % 2 = 0 → (e.chan (4 * b + j / 2)).nextP = none →
      let now := (e.chan (4 * b + j / 2)).corrP
      let next := now + clampInt (-16) 16 (want - now)
      (next.natAbs ≤ 3355 → e.calStep1 b j want = e.modChan (4 * b + j / 2) fun c => { c with nextP := some next }) ∧
      (3355 < next.natAbs → e.calStep1 b j want = e.report (4 * b + j / 2) 0x040D (0xFFF0 + b) (j + ofInt 24 want * 256)))

/-- R90 to R94, R202: an urgent request is answered DEFERRED and asks its branch, at once or under DET at the next boundary; its result is
stored and ends the operation. -/
def Obligations.UrgentConversionsAct : Prop :=
  ∀ (s : State) (r : Req) (h : Nat),
    let k := h % 128
    let q := writeReq r (Reg.CV_URGENT_REQ k) h 1 1
    let e := (s.dev.at r.t).used q
    let f := ({ e with deferred := s.dev.deferred ++ [(⟨q, s.dev.entryOf q⟩ : Deferred)] } : Dev).wr Reg.OPS_PEAK
      (max (s.dev.rd Reg.OPS_PEAK) (s.dev.opsInUse + 1))
    (s.dev.permits q → measuring (s.dev.kind k) = true →
      (s.dev.urgentOk k = true → s.dev.opsInUse < 256 →
        (s.dev.det = true → Obeys (.cvUrgentReq r h) s q { status := DEFERRED } { f with staged := s.dev.staged ++ [s.dev.entryOf q] }) ∧
        (s.dev.det = false → (s.dev.slot (s.dev.master k)).urgRun = false → (s.dev.slot (s.dev.master k)).urgReqs = [] →
          let j := s.dev.master k
          Obeys (.cvUrgentReq r h) s q { status := DEFERRED }
            ((f.modSlot j fun x => { x with urgReqs := [(r.id, r.seq)] }).toBranch (s.dev.chanOf j / 4) (.conv j 1 r.t)))) ∧
      (s.dev.urgentOk k = false → Obeys (.cvUrgentReq r h) s q { status := BUSY } (s.dev.bump 32 Reg.OPS_BUSY_COUNT))) ∧
    (∀ (g : SlotNo) m t, (s.dev.slot g).urgRun = false ∨ s.dev.kind g = 7 ∨ s.dev.fast g = true ∨ s.dev.hears (s.dev.chanOf g / 4) = false →
      Goes (.urgentResult g m t) s (s.dev.at t)) ∧
    (∀ (g : SlotNo) m t, (s.dev.slot g).urgRun = true → s.dev.kind g ≠ 7 → s.dev.fast g = false → s.dev.hears (s.dev.chanOf g / 4) = true →
      s.dev.observers g = [] →
      let d := s.dev.at t
      let y := d.urgentValue s.worn g m
      Goes (.urgentResult g m t) s ((d.keepUrgent s.worn g y.1 y.2 m (s.dev.slot g).urgMid).urgentServed g false) ∧
      ∀ id seq, (s.dev.slot g).urgReqs = [(id, seq)] → (s.dev.slot g).urgNext = [] → ∃ u, exec (.urgentResult g m t) s = .next u ∧ Rest s u ∧
        (u.dev.slot g).urgRun = false ∧ (u.dev.slot g).urgReqs = []) ∧
    (∀ (g : SlotNo) mon t, (s.dev.slot g).urgRun = true → s.dev.kind g = 7 → s.dev.hears (s.dev.chanOf g / 4) = true →
      let d := s.dev.at t
      let c := codeOf (d.signedFmt g) (d.monitorValue g mon)
      Goes (.monitorUrgentDone g mon t) s
        ((d.storeUrgent g c.1 { sat := c.2, degr := drifts s.worn (d.chanOf g / 4) } (d.monitorTime g t)).urgentServed g true)) ∧
    (∀ (g : SlotNo) mon t, (s.dev.slot g).urgRun = false ∨ s.dev.kind g ≠ 7 → Goes (.monitorUrgentDone g mon t) s (s.dev.at t))

/-- R131, R132, R137, R138, R154, R405: the limiter, the transmitter supply and the compliance judgement of a loop channel; the branch holds
the status, which I:22 follows while the crown hears the branch. -/
def Obligations.LoopsAct : Prop :=
  ∀ (s : State) (h : SlotNo) (n : ChanNo) (t : Nat),
    let d := s.dev.at t
    let c := s.dev.chan n
    (∀ mv, s.dev.isDriver h = true → s.dev.kind h = 1 → bitOf (s.dev.rd (Reg.HND_BIND h)) 11 = false →
      Goes (.limiterAct h mv t) s ((d.setLp h (setBit (d.lpSt h) 0 true)).report (s.dev.chanOf h) 0x0384 (s.dev.rd (Reg.HND_ID h)) mv)) ∧
    (∀ mv, s.dev.isDriver h = false ∨ s.dev.kind h ≠ 1 ∨ bitOf (s.dev.rd (Reg.HND_BIND h)) 11 = true → Goes (.limiterAct h mv t) s d) ∧
    (∀ k, s.dev.drvP n = some k → s.dev.kind k = 1 →
      let lim := d.setChan n { c with txLim := true }
      let off := d.setChan n { c with txOff := true, txOn := false, txLim := false }
      let on := d.setChan n { c with txOff := false, txOn := decide (c.force.tx = 1) }
      (c.txOn = true → Goes (.txsupCurrentLimit n true t) s (lim.setLp k (setBit (lim.lpSt k) 1 true))) ∧
      (c.txOn = false → Goes (.txsupCurrentLimit n true t) s (d.setChan n { c with txLim := false })) ∧
      Goes (.txsupCurrentLimit n false t) s (d.setChan n { c with txLim := false }) ∧
      (c.txLim = true → Goes (.txsupLimitTimeout n t) s
        ((off.setLp k (setBit (off.lpSt k) 2 true)).report n 0x0385
          (s.dev.rd (Reg.HND_ID k)) (min 65535 (s.dev.branch (n.val / 4)).vf))) ∧
      (c.txLim = false → Goes (.txsupLimitTimeout n t) s d) ∧
      (c.txOff = true → Goes (.txsupOffEnd n t) s
        (on.setLp k (setBit (on.lpSt k) 2 false)))) ∧
    (c.txOff = false → Goes (.txsupOffEnd n t) s d) ∧
    (s.dev.drvP n = none → ∀ a, Goes (.txsupCurrentLimit n a t) s d ∧ Goes (.txsupLimitTimeout n t) s d) ∧
    (∀ satNs ever, s.dev.isDriver h = true → s.dev.kind h = 2 → (s.dev.branch (s.dev.chanOf h / 4)).parked = true →
      let m := s.dev.chanOf h
      let st := s.dev.lpSt h
      let amps := s.dev.rdI 32 (Reg.LP_OUT_ACTUAL h)
      (s.dev.chan m).subDue = false → (s.dev.chan m).ackDue = false →
      (satNs = 0 → bitOf st 3 = false → Goes (.watchComplianceJudgement h satNs ever t) s d) ∧
      (satNs = 0 → bitOf st 3 = true → s.dev.rd (Reg.LP_COMPLIANCE_POLICY h) = 0 → ever = false →
        Goes (.watchComplianceJudgement h satNs ever t) s ((d.setLp h (st &&& 0xFFC7)).report m 0x0387
          (s.dev.rd (Reg.HND_ID h)) (ofInt 32 amps))) ∧
      (1000000 ≤ satNs → bitOf st 3 = false → s.dev.rd (Reg.LP_COMPLIANCE_POLICY h) = 1 → (s.dev.chan m).subst = false →
        (s.dev.chan m).target < s.dev.rd (Reg.LP_ALARM_HIGH h) → (s.dev.chan m).safeOn = false → 500000 ≤ amps →
        Goes (.watchComplianceJudgement h satNs ever t) s (((d.report m 0x0386 (s.dev.rd (Reg.HND_ID h)) (ofInt 32 amps)).setLp h
          (setBit st 3 true)).modChan m fun y => { y with subDue := true }))) ∧
    (∀ satNs ever, s.dev.isDriver h = false ∨ s.dev.kind h ≠ 2 ∨ (s.dev.branch (s.dev.chanOf h / 4)).parked = false →
      Goes (.watchComplianceJudgement h satNs ever t) s d) ∧
    (∀ (e : Dev) k, (e.chan (e.chanOf k)).ackDue = true → e.complianceAct k =
      ((e.modChan (e.chanOf k) fun y => { y with subst := false, subDue := false, ackDue := false }).setLp k
        (e.lpSt k &&& 0xFF87)).aim k) ∧
    (∀ (e : Dev) k, (e.chan (e.chanOf k)).ackDue = false → (e.chan (e.chanOf k)).subDue = true → e.complianceAct k =
      ((e.modChan (e.chanOf k) fun y => { y with subst := true, subDue := false }).setLp k (setBit (e.lpSt k) 6 true)).aim k) ∧
    (∀ (e : Dev) k v, ((e.setLp k v).chan (e.chanOf k)).lpSt = v ∧
      (e.hears (e.chanOf k / 4) = true → (e.setLp k v).rd (Reg.LP_STATUS k) = v) ∧
      (e.hears (e.chanOf k / 4) = false → (e.setLp k v).obj = e.obj))

/-- R139 to R144, R151: TB_ENABLE opens the buttons, a press starts a capture or a step of the trim, both buttons lock them, and a trim
changes at a boundary within its limit. -/
def Obligations.ButtonsTrim : Prop :=
  ∀ (s : State) (r : Req) (span trd : Bool) (t : Nat),
    let d := s.dev.at t
    let lands := setBit (setBit (s.dev.rd Reg.TB_LANDS) (if span then 1 else 0) true) 2 trd
    let e := d.wr Reg.TB_LANDS lands
    let both := bitOf lands 0 = true ∧ bitOf lands 1 = true
    (s.dev.permits (writeReq r Reg.TB_ENABLE 0 1 1) → Obeys (.tbEnable r) s (writeReq r Reg.TB_ENABLE 0 1 1) {}
      { s.dev.wr Reg.TB_ENABLE 1 with buttons := { s.dev.buttons with last := r.t } }) ∧
    (both → Goes (.buttonPress span trd t) s { e with buttons := { s.dev.buttons with lock := true, held := none } }) ∧
    (¬ both → s.dev.rd Reg.TB_ENABLE ≠ 1 ∨ s.dev.buttons.lock = true ∨ s.dev.buttonSlot = none → Goes (.buttonPress span trd t) s e) ∧
    (∀ k, ¬ both → s.dev.rd Reg.TB_ENABLE = 1 → s.dev.buttons.lock = false → s.dev.buttonSlot = some k →
      (s.dev.kind k = 1 → s.dev.capturing = false → Goes (.buttonPress span trd t) s
        (({ e with buttons := { s.dev.buttons with last := t, capN := 0, capAll := 0, capSum := 0, capDen := 1, held := some span } } :
          Dev).wr Reg.TB_STATUS (if span then 2 else 1))) ∧
      (s.dev.kind k = 1 → s.dev.capturing = true → Goes (.buttonPress span trd t) s e) ∧
      (s.dev.kind k = 2 → Goes (.buttonPress span trd t) s
        ((({ e with buttons := { s.dev.buttons with last := t, held := some span } } : Dev).wr Reg.TB_LAST_DELTA 0).stageTrim k span
          (if trd then -100 else 100) 2))) ∧
    (∀ k, s.dev.buttons.held = some span → s.dev.buttonSlot = some k →
      (s.dev.kind k = 2 → s.dev.rd Reg.TB_ENABLE = 1 → s.dev.buttons.lock = false →
        Goes (.buttonRepeat trd t) s ((d.wrBit Reg.TB_LANDS 2 trd).stageTrim k span (if trd then -100 else 100) 2)) ∧
      (s.dev.kind k = 1 → Goes (.buttonRepeat trd t) s (d.wrBit Reg.TB_LANDS 2 trd))) ∧
    (s.dev.buttons.held = none → Goes (.buttonRepeat trd t) s (d.wrBit Reg.TB_LANDS 2 trd)) ∧
    (let step := fun (x : Entry) => x.aux = 2 && isHandleIx x.ix
      let n := s.dev.rd Reg.TX_NEXT
      let f : Dev := { d.wr Reg.TB_LANDS (s.dev.rd Reg.TB_LANDS &&& 4) with
        buttons := { s.dev.buttons with held := none, lock := false, undo := [] } };
      (s.dev.buttons.undo = [] → s.dev.staged.filter step = [] → Goes (.buttonRelease t) s f) ∧
      (s.dev.buttons.undo ≠ [] ∨ s.dev.staged.filter step ≠ [] → s.dev.mayWrite = true → Goes (.buttonRelease t) s
        ((({ f.wr Reg.TX_NEXT (if n = 2 ^ 32 - 1 then 1 else n + 1) with
          staged := s.dev.staged.filter fun x => !step x,
          txns := s.dev.txns ++ [{
            num := n, id := 0, st := 2, entries := s.dev.staged.filter step, last := t,
            cyc := (s.dev.rd Reg.SQ_CYCLE_INDEX + 2 ^ 32 - 1) % 2 ^ 32, done := true }] } : Dev).journalPut n 0 2).pruneTxns))) ∧
    (∀ (f : Dev) cause k v, k < 128 → f.crownUp = true → f.graft.calSlot = none → f.buttons.undo = [(trimKey k span, v)] → f.hst k ≠ 0 →
      (f.crownDown cause).rd (trimKey k span) = v) ∧
    (s.dev.buttons.last + 1800000000000 ≤ t → Goes (.tbEnableTimeout t) s (d.wr Reg.TB_ENABLE 0)) ∧
    (t < s.dev.buttons.last + 1800000000000 → Goes (.tbEnableTimeout t) s d) ∧
    (∀ (f : Dev) k v t0, k < 128 → trimFits span v = true →
      (f.applyTrim k span v 1 t0).rdI 32 (trimKey k span) = v ∧ (f.applyTrim k span v 1 t0).rd (Reg.LP_TRIM_TIME k) = t0) ∧
    (∀ (f : Dev) k v t0, k < 128 → trimFits span ((f.applyTrim k span v 2 t0).rdI 32 (trimKey k span)) = true) ∧
    (∀ (f : Dev) k o, f.capturing = true → f.rd Reg.TB_HANDLE = f.rd (Reg.HND_ID k) → f.kind k = 1 → o.flags.clean = false →
      f.buttons.capN ≠ 4 →
      (f.buttons.capAll + 1 ≠ 16 → f.captureRecord k o = { f with buttons := { f.buttons with capAll := f.buttons.capAll + 1 } }) ∧
      (f.buttons.capAll + 1 = 16 → f.captureRecord k o = (({ f with buttons := { f.buttons with capAll := 16 } } : Dev).wr Reg.TB_STATUS 5).log1
        0x038A (f.rd Reg.TB_HANDLE) 2))

/-- R146 to R150: debounce of a level input, its accepted edges and its line faults. -/
def Obligations.LevelsAct : Prop :=
  ∀ (s : State) (n : ChanNo) (t : Nat),
    let d := s.dev.at t
    let c := s.dev.chan n
    (∀ raw, s.dev.lvJudged n = false → Goes (.levelRawChange n raw t) s (d.setChan n { c with inp := raw, raw := raw != c.invert })) ∧
    (∀ raw, s.dev.lvJudged n = true → c.comp = false →
      ((raw != c.invert) = c.cand → Goes (.levelRawChange n raw t) s (d.setChan n { c with inp := raw, raw := raw != c.invert })) ∧
      ((raw != c.invert) ≠ c.cand → Goes (.levelRawChange n raw t) s
        (d.setChan n { c with inp := raw, raw := raw != c.invert, cand := raw != c.invert, tc := t }))) ∧
    (∀ raw, s.dev.lvJudged n = true → c.comp = true →
      Goes (.levelRawChange n raw t) s (d.setChan n { c with inp := raw, raw := raw != c.invert, cand := c.level })) ∧
    (let ready := s.dev.lvJudged n = true ∧ s.dev.ucSwitching (n.val / 4) = false ∧ c.comp = false ∧ c.fault = false ∧ c.cand ≠ c.level ∧ c.tc + c.debounce * 1000 ≤ t;
      (¬ ready → Goes (.levelEdgeAccepted n t) s d) ∧
      (ready → c.cand = false → Goes (.levelEdgeAccepted n t) s (d.setChan n { c with
        level := false, falls := (c.falls + 1) % 2 ^ 32, tFall := edgeStamp c.tc, newFall := c.newFall + 1 })) ∧
      (∀ k, ready → c.cand = true → s.dev.lvDriver n = some k → s.dev.trackers k = [] → Goes (.levelEdgeAccepted n t) s (d.setChan n { c with
        level := true, rises := (c.rises + 1) % 2 ^ 32, tRise := edgeStamp c.tc, newRise := c.newRise + 1 })) ∧
      (∀ k j, ready → c.cand = true → s.dev.lvDriver n = some k → s.dev.trackers k = [j] → ∃ u, exec (.levelEdgeAccepted n t) s = .next u ∧
        Rest s u ∧ (u.dev.chan n).level = true ∧ (u.dev.chan n).tRise = edgeStamp c.tc ∧ (u.dev.slot j).mLast = edgeStamp c.tc)) ∧
    (∀ k, s.dev.lvDriver n = some k →
      (s.dev.lvType k = 2 → bitOf c.detect 1 = true → Goes (.lineFaultComparator n true true t) s (d.setChan n
        { c with compShort := true, cand := c.level })) ∧
      (s.dev.lvType k = 2 → bitOf c.detect 0 = true → Goes (.lineFaultComparator n false true t) s (d.setChan n
        { c with compWire := true, cand := c.level })) ∧
      (s.dev.lvType k = 2 → bitOf c.detect 0 = true → c.compShort = false → c.raw = c.cand →
        Goes (.lineFaultComparator n false false t) s (d.setChan n { c with compWire := false })) ∧
      (s.dev.lvType k = 2 → c.detect = 0 → c.raw = c.cand → ∀ a, Goes (.lineFaultComparator n false a t) s
        (d.setChan n { c with compWire := a }) ∧ Goes (.lineFaultComparator n true a t) s (d.setChan n { c with compShort := a })) ∧
      (s.dev.lvType k ≠ 2 → ∀ a b, Goes (.lineFaultComparator n a b t) s d) ∧
      (∀ na, c.compWire = true → bitOf c.detect 0 = true → c.wireBrk = false → Goes (.lineFaultDeclared n false na t) s
        ((d.setChan n { c with wireBrk := true, na := na }).report n 0x0390 (s.dev.rd (Reg.HND_ID k)) na)) ∧
      (∀ na, c.compShort = true → bitOf c.detect 1 = true → c.short = false → Goes (.lineFaultDeclared n true na t) s
        ((d.setChan n { c with short := true, na := na }).report n 0x0391 (s.dev.rd (Reg.HND_ID k)) na)) ∧
      (∀ na, c.compWire = false ∨ bitOf c.detect 0 = false ∨ c.wireBrk = true → Goes (.lineFaultDeclared n false na t) s d) ∧
      (∀ na, c.wireBrk = true → c.compWire = false → c.short = false → Goes (.lineFaultEnd n na t) s
        ((d.setChan n { c with wireBrk := false, na := na }).report n 0x0392 (s.dev.rd (Reg.HND_ID k)) na))) ∧
    (∀ na, (c.wireBrk = true → c.compWire = true) → (c.short = true → c.compShort = true) → Goes (.lineFaultEnd n na t) s d) ∧
    (∀ (e : Dev) k tOut, (e.lvRecord k tOut).1 = e.modChan (e.chanOf k) fun y => { y with newRise := 0, newFall := 0 })

/-- R160, R162 to R166, R169, R185: an over-current trip, a short circuit and a thermal trip of a conducting channel or of an attempt. The
current of a cut-off, at or above the channel's threshold, is a free value (log entry 15). -/
def Obligations.SwitchesTrip : Prop :=
  ∀ (s : State) (n : ChanNo) (t : Nat),
    let d := s.dev.at t
    let m := s.dev.lead n
    let c := s.dev.chan m
    let on := c.state = swON ∨ c.state = swPWM
    let hit := d.setChan m { c with prev := c.state }
    (∀ ma, ma ≤ s.dev.iTrip s.worn m → Goes (.overcurrentTrip n ma t) s d) ∧
    (∀ ma, s.dev.iTrip s.worn m < ma →
      (¬ on → c.meetsOff t = false → Goes (.overcurrentTrip n ma t) s d) ∧
      (c.meetsOff t = true → c.set.lamp = false → Goes (.overcurrentTrip n ma t) s
        ((d.protect m 0x0300 (min 65535 (ma / 10) + c.prev * 2 ^ 24)).swLatch m swOC_LATCH 1)) ∧
      (c.meetsOff t = true → c.set.lamp = true → Goes (.overcurrentTrip n ma t) s
        (d.protect m 0x0300 (min 65535 (ma / 10) + c.prev * 2 ^ 24))) ∧
      (on → c.set.lamp = false → Goes (.overcurrentTrip n ma t) s
        ((hit.protect m 0x0300 (min 65535 (ma / 10) + c.state * 2 ^ 24)).swLatch m swOC_LATCH 1)) ∧
      (on → c.set.lamp = true → Goes (.overcurrentTrip n ma t) s
        (((hit.protect m 0x0300 (min 65535 (ma / 10) + c.state * 2 ^ 24)).swOff m swRETRYING).swSequence m true))) ∧
    (on → c.set.lamp = false → Goes (.shortCircuit n t) s ((hit.took.protect m 0x0301 (c.state * 2 ^ 24)).swLatch m swOC_LATCH 2)) ∧
    (on → c.set.lamp = true → Goes (.shortCircuit n t) s
      (((hit.took.protect m 0x0301 (c.state * 2 ^ 24)).swOff m swRETRYING).swSequence m true)) ∧
    (c.state = swOFF → c.meetsOff t = false → Goes (.shortCircuit n t) s d.took) ∧
    (c.state = swRETRYING → bitOf c.flags 7 = true → Goes (.shortCircuit n t) s
      ((d.took.protect m 0x0301 (c.state * 2 ^ 24)).swFail m (shortThreshold s.worn n + s.dev.freeNat 16))) ∧
    (∀ temp, on ∨ (c.state = swRETRYING ∧ bitOf c.flags 7 = true) →
      let p := (d.modChan n fun y => { y with temp := temp }).modChan m fun y => { y with prev := y.state }
      let trip := (p.modChan m fun y => { y with tTherm := some t }).protect m 0x0305
        (c.left % 256 + c.set.thermal * 256 + ofInt 16 (p.swTemp m) * 65536)
      (c.set.thermal = 1 → Goes (.thermalTrip n temp t) s (trip.swOff m swTHERMAL_HOLD)) ∧
      (c.set.thermal ≠ 1 → Goes (.thermalTrip n temp t) s (trip.swLatch m swTHERMAL_LATCH 4))) ∧
    (∀ temp, c.state = swOFF → Goes (.thermalTrip n temp t) s (d.modChan n fun y => { y with temp := temp })) ∧
    (∀ (e : Dev) st cause, (e.swLatch m st cause).chan m =
        { e.chan m with state := st, cause := cause, flags := setBit (e.chan m).flags 7 false, tOff := some e.now, inSeq := false } ∧
      (∀ j, j ≠ m → (e.swLatch m st cause).chan j = e.chan j) ∧
      (∀ k, e.drvP m = some k → e.hears (m / 4) = true → e.hst k = RUNNING ∨ e.hst k = STOPPED ∨ e.hst k = HSAFE →
        (e.swLatch m st cause).hst k = LATCHED) ∧
      (e.hears (m / 4) = false → (e.swLatch m st cause).obj = e.obj)) ∧
    (∀ (e : Dev) code det, e.hears (m / 4) = true → (e.branch (m / 4)).linkUp = true → e.protect m code det =
      e.toCrown (m / 4) (.prot { chan := m, code := code, det := det, state := (e.chan m).state, time := e.now })) ∧
    (∀ (e : Dev) code det, e.hears (m / 4) = false → (e.branch (m / 4)).buf.length < 32 → e.protect m code det =
      e.modBranch (m / 4) fun x => { x with
        buf := x.buf ++ [{ chan := m, code := code, det := det, state := (e.chan m).state, time := e.now }] })

/-- R160, R163, R167 to R170: attempts with the limits in force as they start, their success and failure, the gap, cooling, and the restored
count. -/
def Obligations.SwitchesRetry : Prop :=
  ∀ (s : State) (n : ChanNo) (t : Nat),
    let d := s.dev.at t
    let m := s.dev.lead n
    let c := s.dev.chan m
    let trying := c.state = swRETRYING ∧ bitOf c.flags 7 = true
    (trying → Goes (.attemptSuccess n t) s ((d.swConduct m).protect m 0x0303 (c.tries % 256 + c.left * 256))) ∧
    (¬ trying → Goes (.attemptSuccess n t) s d) ∧
    (∀ ma, t < c.tTry + c.timRun * 100000 → Goes (.tLimExpiry n ma t) s d) ∧
    (∀ ma, trying → c.tTry + c.timRun * 100000 ≤ t → 0 < c.left → Goes (.tLimExpiry n ma t) s ((d.setChan m { c with iFail := ma, prev := swRETRYING }).swOff m swRETRYING)) ∧
    (∀ ma, trying → c.tTry + c.timRun * 100000 ≤ t → c.left = 0 → Goes (.tLimExpiry n ma t) s
      (((d.setChan m { c with iFail := ma, prev := swRETRYING }).swLatch m swOC_LATCH 3).protect m 0x0304 (min 65535 (ma / 10)))) ∧
    (∀ ma, c.state = swON → Goes (.tLimExpiry n ma t) s d) ∧
    (c.state = swON ∨ c.state = swPWM → Goes (.retryRestore n t) s (d.setChan m { c with left := c.set.retryN })) ∧
    (c.state ≠ swON → c.state ≠ swPWM → Goes (.retryRestore n t) s (d.setChan m c)) ∧
    (∀ temp, let e := d.modChan n fun y => { y with temp := temp }
      let f := e.setChan m { e.chan m with
        left := c.left - 1, state := swRETRYING, flags := setBit c.flags 7 true, tries := c.tries + 1, limRun := c.set.iLim,
        timRun := c.set.tLim, tTry := t }
      let held := c.state = swTHERMAL_HOLD ∧ e.cool m = true ∧ c.force.cmd ≠ 0 ∧ gapPast c.gapRun t c.tTherm = true ∧
        e.mayConduct m = true ∧ halvesGone s.worn (e.pairChans m) = false
      (c.state = swRETRYING → bitOf c.flags 7 = false → e.cool m = true → c.force.cmd ≠ 0 → gapPast c.gapRun t c.tOff = true → 0 < c.left →
        Goes (.cool n temp t) s f ∧ Goes (.retryGapEnd n temp t) s f) ∧
      (held → c.set.lamp = false →
        Goes (.cool n temp t) s ((e.swConduct m).protect m 0x0306 (ofInt 16 (e.swTemp m) + c.left * 65536)) ∧
        Goes (.retryGapEnd n temp t) s ((e.swConduct m).protect m 0x0306 (ofInt 16 (e.swTemp m) + c.left * 65536))) ∧
      (held → c.set.lamp = true → c.inSeq = true → 0 < c.left →
        Goes (.cool n temp t) s (f.protect m 0x0306 (ofInt 16 (f.swTemp m) + (c.left - 1) * 65536)) ∧
        Goes (.retryGapEnd n temp t) s (f.protect m 0x0306 (ofInt 16 (f.swTemp m) + (c.left - 1) * 65536))) ∧
      (e.cool m = false ∨ c.force.cmd = 0 ∨ (c.state ≠ swTHERMAL_HOLD ∧ c.state ≠ swRETRYING) →
        Goes (.cool n temp t) s e ∧ Goes (.retryGapEnd n temp t) s e)) ∧
    (∀ (b : BranchNo) temp who, let x := s.dev.branch b
      (x.tempWarn = false → Goes (.tempWarn b true temp who t) s
        ((d.setBranch b { x with tempWarn := true }).report (4 * b) 0x0307 (0xFFF0 + b) (ofInt 16 temp + who % 256 * 65536))) ∧
      (x.tempWarn = true → Goes (.tempWarn b true temp who t) s (d.setBranch b x)) ∧
      Goes (.tempWarn b false temp who t) s (d.setBranch b { x with tempWarn := false })) ∧
    (∀ e : Dev, (e.swConduct m).chan m = { e.chan m with
      state := if (e.chan m).force.cmd = 2 then swPWM else swON, flags := setBit (e.chan m).flags 7 false,
      dAct := if (e.chan m).force.cmd = 2 then (e.chan m).dAct else 65536, inSeq := false })

/-- R161, R171, R173 to R176, R183: the duty of a PWM period, a clamp event, an off-state load test, whose result clears no flag before the
branch is adopted or configured, and the current-sense selection. -/
def Obligations.SwitchesJudgeLoads : Prop :=
  ∀ (s : State) (n : ChanNo) (t : Nat),
    let d := s.dev.at t
    let m := s.dev.lead n
    let c := s.dev.chan m
    let x := s.dev.chan n
    let pwm := fun (q : Frac) sat => d.setChan m { c with
      dAct := dutyShown q, onTicks := onTicks q c.force.freq, flags := setBit c.flags 6 sat }
    (∀ vf, c.state = swPWM → c.force.cmd = 1 → Goes (.pwmPeriodStart n vf t) s
      (d.setChan m { c with state := swON, dAct := 65536, flags := setBit c.flags 6 false })) ∧
    (∀ vf, c.state = swPWM → c.force.cmd ≠ 1 → c.set.lamp = false → Goes (.pwmPeriodStart n vf t) s
      (pwm (c.force.duty, 65536) false)) ∧
    (∀ vf, c.state = swPWM → c.force.cmd ≠ 1 → c.set.lamp = true → vf < (s.dev.branch (n.val / 4)).warnLvl →
      Goes (.pwmPeriodStart n vf t) s (pwm (1, 1) true)) ∧
    (∀ vf, c.state = swPWM → c.force.cmd ≠ 1 → c.set.lamp = true → (s.dev.branch (n.val / 4)).warnLvl ≤ vf →
      let q := compDuty c.force.duty c.set.compK c.set.vref vf
      ((q.2 : Int) ≤ q.1 → Goes (.pwmPeriodStart n vf t) s (pwm (1, 1) true)) ∧
      (q.1 < q.2 → Goes (.pwmPeriodStart n vf t) s (pwm q false))) ∧
    (∀ vf, c.state ≠ swPWM → Goes (.pwmPeriodStart n vf t) s (d.setChan m c)) ∧
    (∀ (q : Frac) freq, 2 * 984 ≤ (roundDiv 16384000 freq).toNat → 984 ≤ onTicks q freq) ∧
    (∀ energy tempStart tStart,
      let e := d.setChan n { x with clampLast := energy, clampEnd := some t, inc := { x.inc with clamp := x.inc.clamp + energy } }
      (energy * 1500 ≤ clampLimit c.set.clampS tempStart → energy ≤ c.set.clampR * 1000 →
        Goes (.clampEvent n energy tempStart tStart t) s e) ∧
      (clampLimit c.set.clampS tempStart < energy * 1500 ∨
          (c.set.clampR * 1000 < energy ∧ ∃ t0, x.clampEnd = some t0 ∧ tStart < t0 + 1000000000) →
        Goes (.clampEvent n energy tempStart tStart t) s ((e.modChan m fun y => { y with flags := setBit y.flags 3 true }).report m 0x030C
          (s.dev.chanSrc m) (min (2 ^ 32 - 1) energy)))) ∧
    (x.state = swOFF ∨ x.state = swPWM → m = n.val → s.dev.mayConduct n = true →
      (∀ vS vO, x.set.vOl < vS → x.short3 < 2 → Goes (.loadTest n vS vO t) s (d.setChan n { x with
        short3 := x.short3 + 1, open3 := 0, ok3 := 0 })) ∧
      (∀ vS vO, x.set.vOl < vS → 2 ≤ x.short3 → bitOf x.set.test 1 = true → bitOf x.flags 1 = false → Goes (.loadTest n vS vO t) s
        ((d.setChan n { x with short3 := 3, open3 := 0, ok3 := 0, flags := setBit x.flags 1 true }).report n 0x030A (s.dev.chanSrc n)
          (min 65535 vS))) ∧
      (∀ vS vO, vS ≤ x.set.vOl → x.set.vOl < vO → 2 ≤ x.open3 → bitOf x.set.test 0 = true → bitOf x.flags 0 = false →
        Goes (.loadTest n vS vO t) s ((d.setChan n { x with short3 := 0, open3 := 3, ok3 := 0, flags := setBit x.flags 0 true }).report n
          0x0309 (s.dev.chanSrc n) (min 65535 vO))) ∧
      (∀ vS vO, vS ≤ x.set.vOl → vO ≤ x.set.vOl → 2 ≤ x.ok3 → x.flags % 4 ≠ 0 → s.dev.mayClear n = false →
        Goes (.loadTest n vS vO t) s (d.setChan n { x with short3 := 0, open3 := 0, ok3 := 3 })) ∧
      (∀ vS vO, vS ≤ x.set.vOl → vO ≤ x.set.vOl → 2 ≤ x.ok3 → x.flags % 4 ≠ 0 → s.dev.mayClear n = true →
        Goes (.loadTest n vS vO t) s ((d.setChan n { x with
          short3 := 0, open3 := 0, ok3 := 3, flags := setBit (setBit x.flags 0 false) 1 false }).report n 0x030B (s.dev.chanSrc n)
            (x.flags % 4)))) ∧
    (∀ vS vO, x.state ≠ swOFF → x.state ≠ swPWM → Goes (.loadTest n vS vO t) s d) ∧
    (∀ (b : BranchNo) (sel : Fin 4), Goes (.iselChange b sel t) s (d.setBranch b { s.dev.branch b with isel := sel }))

/-- R165, R180 to R182: a half retired, which halves the threshold of that channel's short-circuit comparator alone, the last half lost, and a
switch that stays on. -/
def Obligations.SwitchHalvesFail : Prop :=
  ∀ (s : State) (n : ChanNo) (half : Bool) (t : Nat),
    let d := s.dev.at t
    let m := s.dev.lead n
    let c := s.dev.chan m
    (c.state = swON ∨ c.state = swPWM → halvesLeft s.worn n = 2 →
      exec (.halfRetired n half t) s = .next { s with
        dev := ((d.protect n 0x030D (nat01 half + n.val * 256)).wrBit Reg.SPR_HALVES n false).setMaint (n.val / 4),
        worn := { s.worn with halves := s.worn.halves ||| BitVec.ofNat 32 (2 ^ (2 * n.val + nat01 half)) } }) ∧
    (c.state ≠ swON ∧ c.state ≠ swPWM ∨ halvesLeft s.worn n < 2 → Goes (.halfRetired n half t) s d) ∧
    (let w : Worn := { s.worn with halves := s.worn.halves ||| BitVec.ofNat 32 (2 ^ (2 * n.val + nat01 half)) };
      shortThreshold w n = 6000 ∧ ∀ j, j < 16 → j ≠ n.val → shortThreshold w j = shortThreshold s.worn j) ∧
    (halvesGone s.worn (s.dev.pairChans m) = false →
      ∃ u, exec (.halvesLost n t) s = .next u ∧ u.pending = s.pending ∧ u.ps = s.ps ∧ u.worn = s.worn.loseHalves (s.dev.pairChans m) ∧
        (u.dev.chan m).state = swOFF ∧ (u.dev.chan m).cause = 6 ∧ (∀ j, j ≠ m → u.dev.chan j = s.dev.chan j) ∧
        ∀ j ∈ s.dev.pairChans m, bitOf (u.dev.rd Reg.SPR_HALVES) j = false) ∧
    (halvesGone s.worn (s.dev.pairChans m) = true → Goes (.halvesLost n t) s d) ∧
    (∀ w : Worn, ∀ ch : List Nat, (∀ j ∈ ch, j < 16) → halvesGone (w.loseHalves ch) ch = true) ∧
    (∀ ma, c.state ≠ swSTUCK_ON → 100 < ma → Goes (.stuckOn n half ma t) s
      (((((d.swLatch m swSTUCK_ON 5).protect n 0x030F (min 65535 ma + nat01 half * 65536)).wrBit Reg.SPR_HALVES n false).setMaint (n.val / 4)))) ∧
    (∀ ma, c.state = swSTUCK_ON ∨ ma ≤ 100 → Goes (.stuckOn n half ma t) s d) ∧
    (∀ (e : Dev) (w : Worn) (v : OutVal), halvesGone w (e.pairChans m) = true → (e.chan m).state = swOFF → v.cmd ≠ 0 →
      (e.swRequest w m v).chan m = { e.chan m with force := v, stayOff := false })

/-- R353, R357: at the end of a cycle a rank whose freshest beacon is two cycles old is lost, and sixteen offsets in a row beyond 1 000 ns
lose the module's time, sixteen within bring it back. -/
def Obligations.CanopyJudges : Prop :=
  ∀ d : Dev,
    (∀ (r : Nat) (b : Beacon), d.canopy.beacon r = some b → bitOf d.canopy.lost r = false →
      (later 32 d.canopy.cyc (b.cycle + 1) = false → d.cnLose r = d) ∧
      (later 32 d.canopy.cyc (b.cycle + 1) = true → d.cnJudges = false → r ≠ d.cnRank →
        d.cnLose r = (d.modCn fun c => { c with lost := setBit c.lost r true }).log1 0x0702 (0xFFE0 + r) b.cycle) ∧
      (later 32 d.canopy.cyc (b.cycle + 1) = true → d.cnJudges = true → r ≠ d.cnRank →
        let e := d.cnLose r
        bitOf e.canopy.lost r = true ∧ bitOf e.canopy.admitted r = false)) ∧
    (∀ c a : Nat, c < 2 ^ 32 → a < 2 ^ 32 → a + 2 ≤ c → c < a + 2 ^ 31 → later 32 c (a + 1) = true) ∧
    (∀ c a : Nat, c < 2 ^ 32 → a < 2 ^ 32 → c ≤ a + 1 → a < c + 2 ^ 31 → later 32 c (a + 1) = false) ∧
    (d.cnDelta = none → d.cnTime = d) ∧
    (∀ x : Int, d.cnDelta = some x → x.natAbs < 2 ^ 31 →
      let e := d.wrI 32 Reg.CN_DELTA x
      (1000 < x.natAbs →
        (d.canopy.timeLost = false → d.canopy.above = 15 → d.cnTime = (e.modCn fun c => { c with above := 16, below := 0, timeLost := true }).log1
          0x0707 (0xFFE0 + d.cnRank) (ofInt 32 x)) ∧
        (d.canopy.timeLost = true ∨ d.canopy.above < 15 →
          d.cnTime = e.modCn fun c => { c with above := min 16 (d.canopy.above + 1), below := 0 })) ∧
      (x.natAbs ≤ 1000 →
        (d.canopy.timeLost = true → d.canopy.below = 15 → d.cnTime = (e.modCn fun c => { c with above := 0, below := 16, timeLost := false }).log1
          0x0708 (0xFFE0 + d.cnRank) (ofInt 32 x)) ∧
        (d.canopy.timeLost = false ∨ d.canopy.below < 15 →
          d.cnTime = e.modCn fun c => { c with above := 0, below := min 16 (d.canopy.below + 1) })))

end
end

