-- ==== Sys2Proof/Laws/Tab.lean ====
section
/-! SUPPORT. Sparse tables: reading after writing, and the canonical form, which every operation over PSRAM keeps. -/
namespace Sys2Proof.Machine

variable {α : Type}

theorem tabGet_tabDrop (d : Nat → α) (m : Tab α) (k j : Nat) :
    tabGet d (tabDrop m k) j = if j = k then d j else tabGet d m j := by
  induction m with
  | nil => simp [tabDrop, tabGet]
  | cons p m ih =>
    obtain ⟨a, v⟩ := p
    by_cases h : a = k
    · subst h
      by_cases hj : j = a
      · simpa [tabDrop, hj] using ih
      · simpa [tabDrop, hj, tabGet, Ne.symm hj] using ih
    · by_cases hj : j = k
      · subst hj; simp [tabDrop, tabGet, h, ih]
      · simp [tabDrop, tabGet, h, ih, hj]

theorem tabGet_tabPut (d : Nat → α) (m : Tab α) (k j : Nat) (v : α) :
    tabGet d (tabPut (tabDrop m k) k v) j = if j = k then v else tabGet d m j := by
  have key : ∀ l : Tab α, (∀ p ∈ l, p.1 ≠ k) → tabGet d (tabPut l k v) j = if j = k then v else tabGet d l j := by
    intro l
    induction l with
    | nil => intro _; by_cases hj : k = j <;> simp [tabPut, tabGet, hj, eq_comm (a := j)]
    | cons p l ih =>
      obtain ⟨a, w⟩ := p
      intro hl
      have ha : a ≠ k := hl (a, w) (by simp)
      have ih := ih fun p hp => hl p (by simp [hp])
      by_cases hlt : k < a
      · rw [tabPut, if_pos hlt, tabGet]
        by_cases hj : k = j
        · simp [hj]
        · rw [if_neg hj, if_neg (Ne.symm hj)]
      · by_cases hj : j = k
        · subst hj; simp [tabPut, tabGet, hlt, ih, ha]
        · simp [tabPut, tabGet, hlt, ih, hj]
  have hdrop : ∀ p ∈ tabDrop m k, p.1 ≠ k := by
    induction m with
    | nil => simp [tabDrop]
    | cons p m ih =>
      obtain ⟨a, w⟩ := p
      by_cases h : a = k
      · simpa [tabDrop, h] using ih
      · intro q hq
        simp only [tabDrop, h, if_false, List.mem_cons] at hq
        obtain rfl | hq := hq
        · exact h
        · exact ih q hq
  rw [key _ hdrop, tabGet_tabDrop]
  by_cases hj : j = k <;> simp [hj]

/-- Reading after writing. -/
theorem tabGet_tabSet [DecidableEq α] (d : Nat → α) (m : Tab α) (k j : Nat) (v : α) :
    tabGet d (tabSet d m k v) j = if j = k then v else tabGet d m j := by
  unfold tabSet
  by_cases h : v = d k
  · simp only [h, if_true, tabGet_tabDrop]
    by_cases hj : j = k <;> simp [hj]
  · simp only [h, if_false, tabGet_tabPut]

theorem tabWfAbove_mono [DecidableEq α] (d : Nat → α) (m : Tab α) (n : Nat) (o : Option Nat)
    (ho : ∀ b, o = some b → b ≤ n) (h : tabWfAbove d (some n) m = true) : tabWfAbove d o m = true := by
  cases m with
  | nil => rfl
  | cons p m =>
    obtain ⟨a, v⟩ := p
    cases o with
    | none => simp only [tabWfAbove, Bool.and_eq_true, decide_eq_true_eq] at h ⊢; simp_all
    | some b =>
      have := ho b rfl
      simp only [tabWfAbove, Bool.and_eq_true, decide_eq_true_eq] at h ⊢
      exact ⟨⟨by omega, h.1.2⟩, h.2⟩

theorem tabWfAbove_tabDrop [DecidableEq α] (d : Nat → α) (m : Tab α) (k : Nat) :
    ∀ o, tabWfAbove d o m = true → tabWfAbove d o (tabDrop m k) = true := by
  induction m with
  | nil => intro o _; rfl
  | cons p m ih =>
    obtain ⟨a, v⟩ := p
    intro o h
    simp only [tabWfAbove, Bool.and_eq_true] at h
    by_cases hk : a = k
    · simp only [tabDrop, hk, if_true]
      refine ih o (tabWfAbove_mono d m k o ?_ (hk ▸ h.2))
      intro b hb
      subst hb
      have := h.1.1
      simp only [decide_eq_true_eq] at this
      omega
    · simp only [tabDrop, hk, if_false, tabWfAbove, Bool.and_eq_true]
      exact ⟨h.1, ih _ h.2⟩

theorem tabWfAbove_tabPut [DecidableEq α] (d : Nat → α) (k : Nat) (v : α) (hv : v ≠ d k) (m : Tab α) :
    ∀ o, (∀ b, o = some b → b < k) → (∀ p ∈ m, p.1 ≠ k) → tabWfAbove d o m = true → tabWfAbove d o (tabPut m k v) = true := by
  induction m with
  | nil =>
    intro o ho _ _
    cases o with
    | none => simp [tabPut, tabWfAbove, hv]
    | some b => simp [tabPut, tabWfAbove, hv, ho b rfl]
  | cons p m ih =>
    obtain ⟨a, w⟩ := p
    intro o ho hne h
    simp only [tabWfAbove, Bool.and_eq_true] at h
    have ha : a ≠ k := hne (a, w) (by simp)
    by_cases hk : k < a
    · simp only [tabPut, hk, if_true, tabWfAbove, Bool.and_eq_true, decide_eq_true_eq]
      refine ⟨⟨?_, hv⟩, ⟨trivial, by simpa using h.1.2⟩, h.2⟩
      cases o with
      | none => rfl
      | some b => simpa using ho b rfl
    · simp only [tabPut, hk, if_false, tabWfAbove, Bool.and_eq_true]
      refine ⟨h.1, ih (some a) ?_ (fun p hp => hne p (by simp [hp])) h.2⟩
      intro b hb
      cases hb
      omega

theorem tabDrop_ne (m : Tab α) (k : Nat) : ∀ p ∈ tabDrop m k, p.1 ≠ k := by
  induction m with
  | nil => simp [tabDrop]
  | cons p m ih =>
    obtain ⟨a, w⟩ := p
    by_cases h : a = k
    · simpa [tabDrop, h] using ih
    · intro q hq
      simp only [tabDrop, h, if_false, List.mem_cons] at hq
      obtain rfl | hq := hq
      · exact h
      · exact ih q hq

/-- Writing keeps the canonical form. -/
theorem tabWf_tabSet [DecidableEq α] (d : Nat → α) (m : Tab α) (k : Nat) (v : α) (h : tabWf d m = true) :
    tabWf d (tabSet d m k v) = true := by
  unfold tabSet
  by_cases hv : v = d k
  · rw [if_pos hv]
    exact tabWfAbove_tabDrop d m k none h
  · simp only [hv, if_false]
    exact tabWfAbove_tabPut d k v hv _ none (by simp) (tabDrop_ne m k) (tabWfAbove_tabDrop d m k none h)

theorem tabDrop_tabDrop (m : Tab α) (k : Nat) : tabDrop (tabDrop m k) k = tabDrop m k := by
  induction m with
  | nil => rfl
  | cons p m ih =>
    obtain ⟨a, w⟩ := p
    by_cases h : a = k <;> simp [tabDrop, h, ih]

theorem tabDrop_tabPut (m : Tab α) (k : Nat) (v : α) (h : ∀ p ∈ m, p.1 ≠ k) : tabDrop (tabPut m k v) k = m := by
  have hd : ∀ l : Tab α, (∀ p ∈ l, p.1 ≠ k) → tabDrop l k = l := by
    intro l
    induction l with
    | nil => intro _; rfl
    | cons p l ih =>
      obtain ⟨a, w⟩ := p
      intro hl
      rw [tabDrop, if_neg (hl (a, w) (by simp)), ih fun p hp => hl p (by simp [hp])]
  induction m with
  | nil => simp [tabPut, tabDrop]
  | cons p m ih =>
    obtain ⟨a, w⟩ := p
    have ha : a ≠ k := h (a, w) (by simp)
    by_cases hlt : k < a
    · rw [tabPut, if_pos hlt, tabDrop, if_pos rfl, hd _ h]
    · rw [tabPut, if_neg hlt, tabDrop, if_neg ha, ih fun p hp => h p (by simp [hp])]

/-- The last of two writes of one key stays. -/
theorem tabSet_tabSet [DecidableEq α] (d : Nat → α) (m : Tab α) (k : Nat) (v w : α) :
    tabSet d (tabSet d m k v) k w = tabSet d m k w := by
  have h : tabDrop (tabSet d m k v) k = tabDrop m k := by
    unfold tabSet
    by_cases hv : v = d k
    · rw [if_pos hv, tabDrop_tabDrop]
    · rw [if_neg hv, tabDrop_tabPut _ _ _ (tabDrop_ne m k)]
  unfold tabSet at h ⊢
  rw [h]

/-- A key outside a filter does not show through it. -/
theorem filter_tabSet [DecidableEq α] (d : Nat → α) (p : Nat × α → Bool) (m : Tab α) (k : Nat) (v : α)
    (hp : ∀ w, p (k, w) = false) : (tabSet d m k v).filter p = m.filter p := by
  have hd : (tabDrop m k).filter p = m.filter p := by
    induction m with
    | nil => rfl
    | cons q m ih =>
      obtain ⟨a, w⟩ := q
      by_cases h : a = k
      · subst h; simp [tabDrop, ih, hp]
      · simp [tabDrop, h, List.filter_cons, ih]
  have hput : ∀ l : Tab α, (tabPut l k v).filter p = l.filter p := by
    intro l
    induction l with
    | nil => simp [tabPut, hp]
    | cons q l ih =>
      obtain ⟨a, w⟩ := q
      by_cases h : k < a
      · simp [tabPut, h, List.filter_cons, hp]
      · simp [tabPut, h, List.filter_cons, ih]
  unfold tabSet
  by_cases h : v = d k
  · simp [h, hd]
  · simp [h, hput, hd]

/-! PSRAM (R242). -/

theorem Memory.byte_put (m : List Host.Cell) (a b : Nat) (v : BitVec 8) :
    Memory.byte (Memory.put m a v) b = if b = a then v else Memory.byte m b := tabGet_tabSet Memory.blank m a b v

theorem Memory.wf_put (m : List Host.Cell) (a : Nat) (v : BitVec 8) (h : Memory.wf m = true) : Memory.wf (Memory.put m a v) = true :=
  tabWf_tabSet Memory.blank m a v h

theorem Memory.wf_putRing (m : List Host.Cell) (base size off : Nat) (bs : List Nat) (h : Memory.wf m = true) :
    Memory.wf (Memory.putRing m base size off bs) = true := by
  induction bs generalizing m off with
  | nil => exact h
  | cons b bs ih => exact ih _ _ (Memory.wf_put m _ _ h)

/-- A byte outside the ring positions written stays. -/
theorem Memory.byte_putRing (m : List Host.Cell) (base size off a : Nat) (bs : List Nat)
    (h : a ∉ ringAddrs base size off bs.length) : Memory.byte (Memory.putRing m base size off bs) a = Memory.byte m a := by
  induction bs generalizing m off with
  | nil => rfl
  | cons b bs ih =>
    have hmem : ∀ i, i < bs.length + 1 → a ≠ base + (off + i) % size := by
      intro i hi he
      exact h (List.mem_map.mpr ⟨i, List.mem_range.mpr hi, he.symm⟩)
    rw [Memory.putRing, ih, Memory.byte_put, if_neg (by simpa using hmem 0 (by omega))]
    intro hin
    obtain ⟨i, hi, he⟩ := List.mem_map.mp hin
    exact hmem (i + 1) (by have := List.mem_range.mp hi; omega) (by rw [← he]; congr 2; omega)

end Sys2Proof.Machine
end

