-- ==== Sys2Proof/Laws/State.lean ====
section
/-! SUPPORT. What each update of the module leaves as it is, field by field, and what it writes. -/
namespace Sys2Proof.Machine

/-! wr. -/

@[simp] theorem Dev.wr_now (d : Dev) (k v : Nat) : (d.wr k v).now = d.now := rfl
@[simp] theorem Dev.wr_fresh (d : Dev) (k v : Nat) : (d.wr k v).fresh = d.fresh := rfl
@[simp] theorem Dev.wr_hole (d : Dev) (k v : Nat) : (d.wr k v).hole = d.hole := rfl
@[simp] theorem Dev.wr_resp (d : Dev) (k v : Nat) : (d.wr k v).resp = d.resp := rfl
@[simp] theorem Dev.wr_crownUp (d : Dev) (k v : Nat) : (d.wr k v).crownUp = d.crownUp := rfl
@[simp] theorem Dev.wr_coreUp (d : Dev) (k v : Nat) : (d.wr k v).coreUp = d.coreUp := rfl
@[simp] theorem Dev.wr_slots (d : Dev) (k v : Nat) : (d.wr k v).slots = d.slots := rfl
@[simp] theorem Dev.wr_insts (d : Dev) (k v : Nat) : (d.wr k v).insts = d.insts := rfl
@[simp] theorem Dev.wr_queues (d : Dev) (k v : Nat) : (d.wr k v).queues = d.queues := rfl
@[simp] theorem Dev.wr_dmas (d : Dev) (k v : Nat) : (d.wr k v).dmas = d.dmas := rfl
@[simp] theorem Dev.wr_chans (d : Dev) (k v : Nat) : (d.wr k v).chans = d.chans := rfl
@[simp] theorem Dev.wr_branches (d : Dev) (k v : Nat) : (d.wr k v).branches = d.branches := rfl
@[simp] theorem Dev.wr_coef (d : Dev) (k v : Nat) : (d.wr k v).coef = d.coef := rfl
@[simp] theorem Dev.wr_coefBad (d : Dev) (k v : Nat) : (d.wr k v).coefBad = d.coefBad := rfl
@[simp] theorem Dev.wr_coefNor (d : Dev) (k v : Nat) : (d.wr k v).coefNor = d.coefNor := rfl
@[simp] theorem Dev.wr_psBad (d : Dev) (k v : Nat) : (d.wr k v).psBad = d.psBad := rfl
@[simp] theorem Dev.wr_staged (d : Dev) (k v : Nat) : (d.wr k v).staged = d.staged := rfl
@[simp] theorem Dev.wr_txns (d : Dev) (k v : Nat) : (d.wr k v).txns = d.txns := rfl
@[simp] theorem Dev.wr_recover (d : Dev) (k v : Nat) : (d.wr k v).recover = d.recover := rfl
@[simp] theorem Dev.wr_journal (d : Dev) (k v : Nat) : (d.wr k v).journal = d.journal := rfl
@[simp] theorem Dev.wr_discarded (d : Dev) (k v : Nat) : (d.wr k v).discarded = d.discarded := rfl
@[simp] theorem Dev.wr_deferred (d : Dev) (k v : Nat) : (d.wr k v).deferred = d.deferred := rfl
@[simp] theorem Dev.wr_reqs (d : Dev) (k v : Nat) : (d.wr k v).reqs = d.reqs := rfl
@[simp] theorem Dev.wr_ops (d : Dev) (k v : Nat) : (d.wr k v).ops = d.ops := rfl
@[simp] theorem Dev.wr_log (d : Dev) (k v : Nat) : (d.wr k v).log = d.log := rfl
@[simp] theorem Dev.wr_staging (d : Dev) (k v : Nat) : (d.wr k v).staging = d.staging := rfl
@[simp] theorem Dev.wr_seq (d : Dev) (k v : Nat) : (d.wr k v).seq = d.seq := rfl
@[simp] theorem Dev.wr_ring (d : Dev) (k v : Nat) : (d.wr k v).ring = d.ring := rfl
@[simp] theorem Dev.wr_port (d : Dev) (k v : Nat) : (d.wr k v).port = d.port := rfl
@[simp] theorem Dev.wr_wd0 (d : Dev) (k v : Nat) : (d.wr k v).wd0 = d.wd0 := rfl
@[simp] theorem Dev.wr_wd1 (d : Dev) (k v : Nat) : (d.wr k v).wd1 = d.wd1 := rfl
@[simp] theorem Dev.wr_wdoLow (d : Dev) (k v : Nat) : (d.wr k v).wdoLow = d.wdoLow := rfl
@[simp] theorem Dev.wr_canopy (d : Dev) (k v : Nat) : (d.wr k v).canopy = d.canopy := rfl
@[simp] theorem Dev.wr_heart (d : Dev) (k v : Nat) : (d.wr k v).heart = d.heart := rfl
@[simp] theorem Dev.wr_graft (d : Dev) (k v : Nat) : (d.wr k v).graft = d.graft := rfl
@[simp] theorem Dev.wr_buttons (d : Dev) (k v : Nat) : (d.wr k v).buttons = d.buttons := rfl
@[simp] theorem Dev.wr_mapHnd (d : Dev) (k v : Nat) : (d.wr k v).mapHnd = d.mapHnd := rfl
@[simp] theorem Dev.wr_fails (d : Dev) (k v : Nat) : (d.wr k v).fails = d.fails := rfl
@[simp] theorem Dev.wr_syncClk (d : Dev) (k v : Nat) : (d.wr k v).syncClk = d.syncClk := rfl
@[simp] theorem Dev.wr_lockEnd (d : Dev) (k v : Nat) : (d.wr k v).lockEnd = d.lockEnd := rfl
@[simp] theorem Dev.wr_eccLast (d : Dev) (k v : Nat) : (d.wr k v).eccLast = d.eccLast := rfl
@[simp] theorem Dev.wr_eccCnt (d : Dev) (k v : Nat) : (d.wr k v).eccCnt = d.eccCnt := rfl
@[simp] theorem Dev.wr_psErrs (d : Dev) (k v : Nat) : (d.wr k v).psErrs = d.psErrs := rfl
@[simp] theorem Dev.wr_scrubAt (d : Dev) (k v : Nat) : (d.wr k v).scrubAt = d.scrubAt := rfl
@[simp] theorem Dev.wr_vinValid (d : Dev) (k v : Nat) : (d.wr k v).vinValid = d.vinValid := rfl
@[simp] theorem Dev.wr_vinAbsent (d : Dev) (k v : Nat) : (d.wr k v).vinAbsent = d.vinAbsent := rfl
@[simp] theorem Dev.wr_warn (d : Dev) (k v : Nat) : (d.wr k v).warn = d.warn := rfl
@[simp] theorem Dev.wr_tWarn (d : Dev) (k v : Nat) : (d.wr k v).tWarn = d.tWarn := rfl
@[simp] theorem Dev.wr_rungWas (d : Dev) (k v : Nat) : (d.wr k v).rungWas = d.rungWas := rfl
@[simp] theorem Dev.wr_cause (d : Dev) (k v : Nat) : (d.wr k v).cause = d.cause := rfl
@[simp] theorem Dev.wr_asleep (d : Dev) (k v : Nat) : (d.wr k v).asleep = d.asleep := rfl
@[simp] theorem Dev.wr_wakeD0 (d : Dev) (k v : Nat) : (d.wr k v).wakeD0 = d.wakeD0 := rfl
@[simp] theorem Dev.wr_maskD0 (d : Dev) (k v : Nat) : (d.wr k v).maskD0 = d.maskD0 := rfl
@[simp] theorem Dev.wr_timeD0 (d : Dev) (k v : Nat) : (d.wr k v).timeD0 = d.timeD0 := rfl
@[simp] theorem Dev.wr_dipsD0 (d : Dev) (k v : Nat) : (d.wr k v).dipsD0 = d.dipsD0 := rfl
@[simp] theorem Dev.wr_faultD0 (d : Dev) (k v : Nat) : (d.wr k v).faultD0 = d.faultD0 := rfl
@[simp] theorem Dev.wr_stuck (d : Dev) (k v : Nat) : (d.wr k v).stuck = d.stuck := rfl
@[simp] theorem Dev.wr_testHigh (d : Dev) (k v : Nat) : (d.wr k v).testHigh = d.testHigh := rfl
@[simp] theorem Dev.wr_slot (d : Dev) (k v : Nat) (j : Nat) : (d.wr k v).slot j = d.slot j := rfl
@[simp] theorem Dev.wr_inst (d : Dev) (k v : Nat) (j : Nat) : (d.wr k v).inst j = d.inst j := rfl
@[simp] theorem Dev.wr_queue (d : Dev) (k v : Nat) (j : Nat) : (d.wr k v).queue j = d.queue j := rfl
@[simp] theorem Dev.wr_dma (d : Dev) (k v : Nat) (j : Nat) : (d.wr k v).dma j = d.dma j := rfl
@[simp] theorem Dev.wr_chan (d : Dev) (k v : Nat) (j : Nat) : (d.wr k v).chan j = d.chan j := rfl
@[simp] theorem Dev.wr_branch (d : Dev) (k v : Nat) (j : Nat) : (d.wr k v).branch j = d.branch j := rfl

/-! setSlot. -/

@[simp] theorem Dev.setSlot_now (d : Dev) (k : Nat) (x : Slot) : (d.setSlot k x).now = d.now := rfl
@[simp] theorem Dev.setSlot_fresh (d : Dev) (k : Nat) (x : Slot) : (d.setSlot k x).fresh = d.fresh := rfl
@[simp] theorem Dev.setSlot_hole (d : Dev) (k : Nat) (x : Slot) : (d.setSlot k x).hole = d.hole := rfl
@[simp] theorem Dev.setSlot_resp (d : Dev) (k : Nat) (x : Slot) : (d.setSlot k x).resp = d.resp := rfl
@[simp] theorem Dev.setSlot_obj (d : Dev) (k : Nat) (x : Slot) : (d.setSlot k x).obj = d.obj := rfl
@[simp] theorem Dev.setSlot_crownUp (d : Dev) (k : Nat) (x : Slot) : (d.setSlot k x).crownUp = d.crownUp := rfl
@[simp] theorem Dev.setSlot_coreUp (d : Dev) (k : Nat) (x : Slot) : (d.setSlot k x).coreUp = d.coreUp := rfl
@[simp] theorem Dev.setSlot_insts (d : Dev) (k : Nat) (x : Slot) : (d.setSlot k x).insts = d.insts := rfl
@[simp] theorem Dev.setSlot_queues (d : Dev) (k : Nat) (x : Slot) : (d.setSlot k x).queues = d.queues := rfl
@[simp] theorem Dev.setSlot_dmas (d : Dev) (k : Nat) (x : Slot) : (d.setSlot k x).dmas = d.dmas := rfl
@[simp] theorem Dev.setSlot_chans (d : Dev) (k : Nat) (x : Slot) : (d.setSlot k x).chans = d.chans := rfl
@[simp] theorem Dev.setSlot_branches (d : Dev) (k : Nat) (x : Slot) : (d.setSlot k x).branches = d.branches := rfl
@[simp] theorem Dev.setSlot_coef (d : Dev) (k : Nat) (x : Slot) : (d.setSlot k x).coef = d.coef := rfl
@[simp] theorem Dev.setSlot_coefBad (d : Dev) (k : Nat) (x : Slot) : (d.setSlot k x).coefBad = d.coefBad := rfl
@[simp] theorem Dev.setSlot_coefNor (d : Dev) (k : Nat) (x : Slot) : (d.setSlot k x).coefNor = d.coefNor := rfl
@[simp] theorem Dev.setSlot_psBad (d : Dev) (k : Nat) (x : Slot) : (d.setSlot k x).psBad = d.psBad := rfl
@[simp] theorem Dev.setSlot_staged (d : Dev) (k : Nat) (x : Slot) : (d.setSlot k x).staged = d.staged := rfl
@[simp] theorem Dev.setSlot_txns (d : Dev) (k : Nat) (x : Slot) : (d.setSlot k x).txns = d.txns := rfl
@[simp] theorem Dev.setSlot_recover (d : Dev) (k : Nat) (x : Slot) : (d.setSlot k x).recover = d.recover := rfl
@[simp] theorem Dev.setSlot_journal (d : Dev) (k : Nat) (x : Slot) : (d.setSlot k x).journal = d.journal := rfl
@[simp] theorem Dev.setSlot_discarded (d : Dev) (k : Nat) (x : Slot) : (d.setSlot k x).discarded = d.discarded := rfl
@[simp] theorem Dev.setSlot_deferred (d : Dev) (k : Nat) (x : Slot) : (d.setSlot k x).deferred = d.deferred := rfl
@[simp] theorem Dev.setSlot_reqs (d : Dev) (k : Nat) (x : Slot) : (d.setSlot k x).reqs = d.reqs := rfl
@[simp] theorem Dev.setSlot_ops (d : Dev) (k : Nat) (x : Slot) : (d.setSlot k x).ops = d.ops := rfl
@[simp] theorem Dev.setSlot_log (d : Dev) (k : Nat) (x : Slot) : (d.setSlot k x).log = d.log := rfl
@[simp] theorem Dev.setSlot_staging (d : Dev) (k : Nat) (x : Slot) : (d.setSlot k x).staging = d.staging := rfl
@[simp] theorem Dev.setSlot_seq (d : Dev) (k : Nat) (x : Slot) : (d.setSlot k x).seq = d.seq := rfl
@[simp] theorem Dev.setSlot_ring (d : Dev) (k : Nat) (x : Slot) : (d.setSlot k x).ring = d.ring := rfl
@[simp] theorem Dev.setSlot_port (d : Dev) (k : Nat) (x : Slot) : (d.setSlot k x).port = d.port := rfl
@[simp] theorem Dev.setSlot_wd0 (d : Dev) (k : Nat) (x : Slot) : (d.setSlot k x).wd0 = d.wd0 := rfl
@[simp] theorem Dev.setSlot_wd1 (d : Dev) (k : Nat) (x : Slot) : (d.setSlot k x).wd1 = d.wd1 := rfl
@[simp] theorem Dev.setSlot_wdoLow (d : Dev) (k : Nat) (x : Slot) : (d.setSlot k x).wdoLow = d.wdoLow := rfl
@[simp] theorem Dev.setSlot_canopy (d : Dev) (k : Nat) (x : Slot) : (d.setSlot k x).canopy = d.canopy := rfl
@[simp] theorem Dev.setSlot_heart (d : Dev) (k : Nat) (x : Slot) : (d.setSlot k x).heart = d.heart := rfl
@[simp] theorem Dev.setSlot_graft (d : Dev) (k : Nat) (x : Slot) : (d.setSlot k x).graft = d.graft := rfl
@[simp] theorem Dev.setSlot_buttons (d : Dev) (k : Nat) (x : Slot) : (d.setSlot k x).buttons = d.buttons := rfl
@[simp] theorem Dev.setSlot_mapHnd (d : Dev) (k : Nat) (x : Slot) : (d.setSlot k x).mapHnd = d.mapHnd := rfl
@[simp] theorem Dev.setSlot_fails (d : Dev) (k : Nat) (x : Slot) : (d.setSlot k x).fails = d.fails := rfl
@[simp] theorem Dev.setSlot_syncClk (d : Dev) (k : Nat) (x : Slot) : (d.setSlot k x).syncClk = d.syncClk := rfl
@[simp] theorem Dev.setSlot_lockEnd (d : Dev) (k : Nat) (x : Slot) : (d.setSlot k x).lockEnd = d.lockEnd := rfl
@[simp] theorem Dev.setSlot_eccLast (d : Dev) (k : Nat) (x : Slot) : (d.setSlot k x).eccLast = d.eccLast := rfl
@[simp] theorem Dev.setSlot_eccCnt (d : Dev) (k : Nat) (x : Slot) : (d.setSlot k x).eccCnt = d.eccCnt := rfl
@[simp] theorem Dev.setSlot_psErrs (d : Dev) (k : Nat) (x : Slot) : (d.setSlot k x).psErrs = d.psErrs := rfl
@[simp] theorem Dev.setSlot_scrubAt (d : Dev) (k : Nat) (x : Slot) : (d.setSlot k x).scrubAt = d.scrubAt := rfl
@[simp] theorem Dev.setSlot_vinValid (d : Dev) (k : Nat) (x : Slot) : (d.setSlot k x).vinValid = d.vinValid := rfl
@[simp] theorem Dev.setSlot_vinAbsent (d : Dev) (k : Nat) (x : Slot) : (d.setSlot k x).vinAbsent = d.vinAbsent := rfl
@[simp] theorem Dev.setSlot_warn (d : Dev) (k : Nat) (x : Slot) : (d.setSlot k x).warn = d.warn := rfl
@[simp] theorem Dev.setSlot_tWarn (d : Dev) (k : Nat) (x : Slot) : (d.setSlot k x).tWarn = d.tWarn := rfl
@[simp] theorem Dev.setSlot_rungWas (d : Dev) (k : Nat) (x : Slot) : (d.setSlot k x).rungWas = d.rungWas := rfl
@[simp] theorem Dev.setSlot_cause (d : Dev) (k : Nat) (x : Slot) : (d.setSlot k x).cause = d.cause := rfl
@[simp] theorem Dev.setSlot_asleep (d : Dev) (k : Nat) (x : Slot) : (d.setSlot k x).asleep = d.asleep := rfl
@[simp] theorem Dev.setSlot_wakeD0 (d : Dev) (k : Nat) (x : Slot) : (d.setSlot k x).wakeD0 = d.wakeD0 := rfl
@[simp] theorem Dev.setSlot_maskD0 (d : Dev) (k : Nat) (x : Slot) : (d.setSlot k x).maskD0 = d.maskD0 := rfl
@[simp] theorem Dev.setSlot_timeD0 (d : Dev) (k : Nat) (x : Slot) : (d.setSlot k x).timeD0 = d.timeD0 := rfl
@[simp] theorem Dev.setSlot_dipsD0 (d : Dev) (k : Nat) (x : Slot) : (d.setSlot k x).dipsD0 = d.dipsD0 := rfl
@[simp] theorem Dev.setSlot_faultD0 (d : Dev) (k : Nat) (x : Slot) : (d.setSlot k x).faultD0 = d.faultD0 := rfl
@[simp] theorem Dev.setSlot_stuck (d : Dev) (k : Nat) (x : Slot) : (d.setSlot k x).stuck = d.stuck := rfl
@[simp] theorem Dev.setSlot_testHigh (d : Dev) (k : Nat) (x : Slot) : (d.setSlot k x).testHigh = d.testHigh := rfl
@[simp] theorem Dev.setSlot_rd (d : Dev) (k : Nat) (x : Slot) (j : Nat) : (d.setSlot k x).rd j = d.rd j := rfl
@[simp] theorem Dev.setSlot_inst (d : Dev) (k : Nat) (x : Slot) (j : Nat) : (d.setSlot k x).inst j = d.inst j := rfl
@[simp] theorem Dev.setSlot_queue (d : Dev) (k : Nat) (x : Slot) (j : Nat) : (d.setSlot k x).queue j = d.queue j := rfl
@[simp] theorem Dev.setSlot_dma (d : Dev) (k : Nat) (x : Slot) (j : Nat) : (d.setSlot k x).dma j = d.dma j := rfl
@[simp] theorem Dev.setSlot_chan (d : Dev) (k : Nat) (x : Slot) (j : Nat) : (d.setSlot k x).chan j = d.chan j := rfl
@[simp] theorem Dev.setSlot_branch (d : Dev) (k : Nat) (x : Slot) (j : Nat) : (d.setSlot k x).branch j = d.branch j := rfl

/-! setInst. -/

@[simp] theorem Dev.setInst_now (d : Dev) (i : Nat) (x : Inst) : (d.setInst i x).now = d.now := rfl
@[simp] theorem Dev.setInst_fresh (d : Dev) (i : Nat) (x : Inst) : (d.setInst i x).fresh = d.fresh := rfl
@[simp] theorem Dev.setInst_hole (d : Dev) (i : Nat) (x : Inst) : (d.setInst i x).hole = d.hole := rfl
@[simp] theorem Dev.setInst_resp (d : Dev) (i : Nat) (x : Inst) : (d.setInst i x).resp = d.resp := rfl
@[simp] theorem Dev.setInst_obj (d : Dev) (i : Nat) (x : Inst) : (d.setInst i x).obj = d.obj := rfl
@[simp] theorem Dev.setInst_crownUp (d : Dev) (i : Nat) (x : Inst) : (d.setInst i x).crownUp = d.crownUp := rfl
@[simp] theorem Dev.setInst_coreUp (d : Dev) (i : Nat) (x : Inst) : (d.setInst i x).coreUp = d.coreUp := rfl
@[simp] theorem Dev.setInst_slots (d : Dev) (i : Nat) (x : Inst) : (d.setInst i x).slots = d.slots := rfl
@[simp] theorem Dev.setInst_queues (d : Dev) (i : Nat) (x : Inst) : (d.setInst i x).queues = d.queues := rfl
@[simp] theorem Dev.setInst_dmas (d : Dev) (i : Nat) (x : Inst) : (d.setInst i x).dmas = d.dmas := rfl
@[simp] theorem Dev.setInst_chans (d : Dev) (i : Nat) (x : Inst) : (d.setInst i x).chans = d.chans := rfl
@[simp] theorem Dev.setInst_branches (d : Dev) (i : Nat) (x : Inst) : (d.setInst i x).branches = d.branches := rfl
@[simp] theorem Dev.setInst_coef (d : Dev) (i : Nat) (x : Inst) : (d.setInst i x).coef = d.coef := rfl
@[simp] theorem Dev.setInst_coefBad (d : Dev) (i : Nat) (x : Inst) : (d.setInst i x).coefBad = d.coefBad := rfl
@[simp] theorem Dev.setInst_coefNor (d : Dev) (i : Nat) (x : Inst) : (d.setInst i x).coefNor = d.coefNor := rfl
@[simp] theorem Dev.setInst_psBad (d : Dev) (i : Nat) (x : Inst) : (d.setInst i x).psBad = d.psBad := rfl
@[simp] theorem Dev.setInst_staged (d : Dev) (i : Nat) (x : Inst) : (d.setInst i x).staged = d.staged := rfl
@[simp] theorem Dev.setInst_txns (d : Dev) (i : Nat) (x : Inst) : (d.setInst i x).txns = d.txns := rfl
@[simp] theorem Dev.setInst_recover (d : Dev) (i : Nat) (x : Inst) : (d.setInst i x).recover = d.recover := rfl
@[simp] theorem Dev.setInst_journal (d : Dev) (i : Nat) (x : Inst) : (d.setInst i x).journal = d.journal := rfl
@[simp] theorem Dev.setInst_discarded (d : Dev) (i : Nat) (x : Inst) : (d.setInst i x).discarded = d.discarded := rfl
@[simp] theorem Dev.setInst_deferred (d : Dev) (i : Nat) (x : Inst) : (d.setInst i x).deferred = d.deferred := rfl
@[simp] theorem Dev.setInst_reqs (d : Dev) (i : Nat) (x : Inst) : (d.setInst i x).reqs = d.reqs := rfl
@[simp] theorem Dev.setInst_ops (d : Dev) (i : Nat) (x : Inst) : (d.setInst i x).ops = d.ops := rfl
@[simp] theorem Dev.setInst_log (d : Dev) (i : Nat) (x : Inst) : (d.setInst i x).log = d.log := rfl
@[simp] theorem Dev.setInst_staging (d : Dev) (i : Nat) (x : Inst) : (d.setInst i x).staging = d.staging := rfl
@[simp] theorem Dev.setInst_seq (d : Dev) (i : Nat) (x : Inst) : (d.setInst i x).seq = d.seq := rfl
@[simp] theorem Dev.setInst_ring (d : Dev) (i : Nat) (x : Inst) : (d.setInst i x).ring = d.ring := rfl
@[simp] theorem Dev.setInst_port (d : Dev) (i : Nat) (x : Inst) : (d.setInst i x).port = d.port := rfl
@[simp] theorem Dev.setInst_wd0 (d : Dev) (i : Nat) (x : Inst) : (d.setInst i x).wd0 = d.wd0 := rfl
@[simp] theorem Dev.setInst_wd1 (d : Dev) (i : Nat) (x : Inst) : (d.setInst i x).wd1 = d.wd1 := rfl
@[simp] theorem Dev.setInst_wdoLow (d : Dev) (i : Nat) (x : Inst) : (d.setInst i x).wdoLow = d.wdoLow := rfl
@[simp] theorem Dev.setInst_canopy (d : Dev) (i : Nat) (x : Inst) : (d.setInst i x).canopy = d.canopy := rfl
@[simp] theorem Dev.setInst_heart (d : Dev) (i : Nat) (x : Inst) : (d.setInst i x).heart = d.heart := rfl
@[simp] theorem Dev.setInst_graft (d : Dev) (i : Nat) (x : Inst) : (d.setInst i x).graft = d.graft := rfl
@[simp] theorem Dev.setInst_buttons (d : Dev) (i : Nat) (x : Inst) : (d.setInst i x).buttons = d.buttons := rfl
@[simp] theorem Dev.setInst_mapHnd (d : Dev) (i : Nat) (x : Inst) : (d.setInst i x).mapHnd = d.mapHnd := rfl
@[simp] theorem Dev.setInst_fails (d : Dev) (i : Nat) (x : Inst) : (d.setInst i x).fails = d.fails := rfl
@[simp] theorem Dev.setInst_syncClk (d : Dev) (i : Nat) (x : Inst) : (d.setInst i x).syncClk = d.syncClk := rfl
@[simp] theorem Dev.setInst_lockEnd (d : Dev) (i : Nat) (x : Inst) : (d.setInst i x).lockEnd = d.lockEnd := rfl
@[simp] theorem Dev.setInst_eccLast (d : Dev) (i : Nat) (x : Inst) : (d.setInst i x).eccLast = d.eccLast := rfl
@[simp] theorem Dev.setInst_eccCnt (d : Dev) (i : Nat) (x : Inst) : (d.setInst i x).eccCnt = d.eccCnt := rfl
@[simp] theorem Dev.setInst_psErrs (d : Dev) (i : Nat) (x : Inst) : (d.setInst i x).psErrs = d.psErrs := rfl
@[simp] theorem Dev.setInst_scrubAt (d : Dev) (i : Nat) (x : Inst) : (d.setInst i x).scrubAt = d.scrubAt := rfl
@[simp] theorem Dev.setInst_vinValid (d : Dev) (i : Nat) (x : Inst) : (d.setInst i x).vinValid = d.vinValid := rfl
@[simp] theorem Dev.setInst_vinAbsent (d : Dev) (i : Nat) (x : Inst) : (d.setInst i x).vinAbsent = d.vinAbsent := rfl
@[simp] theorem Dev.setInst_warn (d : Dev) (i : Nat) (x : Inst) : (d.setInst i x).warn = d.warn := rfl
@[simp] theorem Dev.setInst_tWarn (d : Dev) (i : Nat) (x : Inst) : (d.setInst i x).tWarn = d.tWarn := rfl
@[simp] theorem Dev.setInst_rungWas (d : Dev) (i : Nat) (x : Inst) : (d.setInst i x).rungWas = d.rungWas := rfl
@[simp] theorem Dev.setInst_cause (d : Dev) (i : Nat) (x : Inst) : (d.setInst i x).cause = d.cause := rfl
@[simp] theorem Dev.setInst_asleep (d : Dev) (i : Nat) (x : Inst) : (d.setInst i x).asleep = d.asleep := rfl
@[simp] theorem Dev.setInst_wakeD0 (d : Dev) (i : Nat) (x : Inst) : (d.setInst i x).wakeD0 = d.wakeD0 := rfl
@[simp] theorem Dev.setInst_maskD0 (d : Dev) (i : Nat) (x : Inst) : (d.setInst i x).maskD0 = d.maskD0 := rfl
@[simp] theorem Dev.setInst_timeD0 (d : Dev) (i : Nat) (x : Inst) : (d.setInst i x).timeD0 = d.timeD0 := rfl
@[simp] theorem Dev.setInst_dipsD0 (d : Dev) (i : Nat) (x : Inst) : (d.setInst i x).dipsD0 = d.dipsD0 := rfl
@[simp] theorem Dev.setInst_faultD0 (d : Dev) (i : Nat) (x : Inst) : (d.setInst i x).faultD0 = d.faultD0 := rfl
@[simp] theorem Dev.setInst_stuck (d : Dev) (i : Nat) (x : Inst) : (d.setInst i x).stuck = d.stuck := rfl
@[simp] theorem Dev.setInst_testHigh (d : Dev) (i : Nat) (x : Inst) : (d.setInst i x).testHigh = d.testHigh := rfl
@[simp] theorem Dev.setInst_rd (d : Dev) (i : Nat) (x : Inst) (j : Nat) : (d.setInst i x).rd j = d.rd j := rfl
@[simp] theorem Dev.setInst_slot (d : Dev) (i : Nat) (x : Inst) (j : Nat) : (d.setInst i x).slot j = d.slot j := rfl
@[simp] theorem Dev.setInst_queue (d : Dev) (i : Nat) (x : Inst) (j : Nat) : (d.setInst i x).queue j = d.queue j := rfl
@[simp] theorem Dev.setInst_dma (d : Dev) (i : Nat) (x : Inst) (j : Nat) : (d.setInst i x).dma j = d.dma j := rfl
@[simp] theorem Dev.setInst_chan (d : Dev) (i : Nat) (x : Inst) (j : Nat) : (d.setInst i x).chan j = d.chan j := rfl
@[simp] theorem Dev.setInst_branch (d : Dev) (i : Nat) (x : Inst) (j : Nat) : (d.setInst i x).branch j = d.branch j := rfl

/-! setQueue. -/

@[simp] theorem Dev.setQueue_now (d : Dev) (q : Nat) (x : Queue) : (d.setQueue q x).now = d.now := rfl
@[simp] theorem Dev.setQueue_fresh (d : Dev) (q : Nat) (x : Queue) : (d.setQueue q x).fresh = d.fresh := rfl
@[simp] theorem Dev.setQueue_hole (d : Dev) (q : Nat) (x : Queue) : (d.setQueue q x).hole = d.hole := rfl
@[simp] theorem Dev.setQueue_resp (d : Dev) (q : Nat) (x : Queue) : (d.setQueue q x).resp = d.resp := rfl
@[simp] theorem Dev.setQueue_obj (d : Dev) (q : Nat) (x : Queue) : (d.setQueue q x).obj = d.obj := rfl
@[simp] theorem Dev.setQueue_crownUp (d : Dev) (q : Nat) (x : Queue) : (d.setQueue q x).crownUp = d.crownUp := rfl
@[simp] theorem Dev.setQueue_coreUp (d : Dev) (q : Nat) (x : Queue) : (d.setQueue q x).coreUp = d.coreUp := rfl
@[simp] theorem Dev.setQueue_slots (d : Dev) (q : Nat) (x : Queue) : (d.setQueue q x).slots = d.slots := rfl
@[simp] theorem Dev.setQueue_insts (d : Dev) (q : Nat) (x : Queue) : (d.setQueue q x).insts = d.insts := rfl
@[simp] theorem Dev.setQueue_dmas (d : Dev) (q : Nat) (x : Queue) : (d.setQueue q x).dmas = d.dmas := rfl
@[simp] theorem Dev.setQueue_chans (d : Dev) (q : Nat) (x : Queue) : (d.setQueue q x).chans = d.chans := rfl
@[simp] theorem Dev.setQueue_branches (d : Dev) (q : Nat) (x : Queue) : (d.setQueue q x).branches = d.branches := rfl
@[simp] theorem Dev.setQueue_coef (d : Dev) (q : Nat) (x : Queue) : (d.setQueue q x).coef = d.coef := rfl
@[simp] theorem Dev.setQueue_coefBad (d : Dev) (q : Nat) (x : Queue) : (d.setQueue q x).coefBad = d.coefBad := rfl
@[simp] theorem Dev.setQueue_coefNor (d : Dev) (q : Nat) (x : Queue) : (d.setQueue q x).coefNor = d.coefNor := rfl
@[simp] theorem Dev.setQueue_psBad (d : Dev) (q : Nat) (x : Queue) : (d.setQueue q x).psBad = d.psBad := rfl
@[simp] theorem Dev.setQueue_staged (d : Dev) (q : Nat) (x : Queue) : (d.setQueue q x).staged = d.staged := rfl
@[simp] theorem Dev.setQueue_txns (d : Dev) (q : Nat) (x : Queue) : (d.setQueue q x).txns = d.txns := rfl
@[simp] theorem Dev.setQueue_recover (d : Dev) (q : Nat) (x : Queue) : (d.setQueue q x).recover = d.recover := rfl
@[simp] theorem Dev.setQueue_journal (d : Dev) (q : Nat) (x : Queue) : (d.setQueue q x).journal = d.journal := rfl
@[simp] theorem Dev.setQueue_discarded (d : Dev) (q : Nat) (x : Queue) : (d.setQueue q x).discarded = d.discarded := rfl
@[simp] theorem Dev.setQueue_deferred (d : Dev) (q : Nat) (x : Queue) : (d.setQueue q x).deferred = d.deferred := rfl
@[simp] theorem Dev.setQueue_reqs (d : Dev) (q : Nat) (x : Queue) : (d.setQueue q x).reqs = d.reqs := rfl
@[simp] theorem Dev.setQueue_ops (d : Dev) (q : Nat) (x : Queue) : (d.setQueue q x).ops = d.ops := rfl
@[simp] theorem Dev.setQueue_log (d : Dev) (q : Nat) (x : Queue) : (d.setQueue q x).log = d.log := rfl
@[simp] theorem Dev.setQueue_staging (d : Dev) (q : Nat) (x : Queue) : (d.setQueue q x).staging = d.staging := rfl
@[simp] theorem Dev.setQueue_seq (d : Dev) (q : Nat) (x : Queue) : (d.setQueue q x).seq = d.seq := rfl
@[simp] theorem Dev.setQueue_ring (d : Dev) (q : Nat) (x : Queue) : (d.setQueue q x).ring = d.ring := rfl
@[simp] theorem Dev.setQueue_port (d : Dev) (q : Nat) (x : Queue) : (d.setQueue q x).port = d.port := rfl
@[simp] theorem Dev.setQueue_wd0 (d : Dev) (q : Nat) (x : Queue) : (d.setQueue q x).wd0 = d.wd0 := rfl
@[simp] theorem Dev.setQueue_wd1 (d : Dev) (q : Nat) (x : Queue) : (d.setQueue q x).wd1 = d.wd1 := rfl
@[simp] theorem Dev.setQueue_wdoLow (d : Dev) (q : Nat) (x : Queue) : (d.setQueue q x).wdoLow = d.wdoLow := rfl
@[simp] theorem Dev.setQueue_canopy (d : Dev) (q : Nat) (x : Queue) : (d.setQueue q x).canopy = d.canopy := rfl
@[simp] theorem Dev.setQueue_heart (d : Dev) (q : Nat) (x : Queue) : (d.setQueue q x).heart = d.heart := rfl
@[simp] theorem Dev.setQueue_graft (d : Dev) (q : Nat) (x : Queue) : (d.setQueue q x).graft = d.graft := rfl
@[simp] theorem Dev.setQueue_buttons (d : Dev) (q : Nat) (x : Queue) : (d.setQueue q x).buttons = d.buttons := rfl
@[simp] theorem Dev.setQueue_mapHnd (d : Dev) (q : Nat) (x : Queue) : (d.setQueue q x).mapHnd = d.mapHnd := rfl
@[simp] theorem Dev.setQueue_fails (d : Dev) (q : Nat) (x : Queue) : (d.setQueue q x).fails = d.fails := rfl
@[simp] theorem Dev.setQueue_syncClk (d : Dev) (q : Nat) (x : Queue) : (d.setQueue q x).syncClk = d.syncClk := rfl
@[simp] theorem Dev.setQueue_lockEnd (d : Dev) (q : Nat) (x : Queue) : (d.setQueue q x).lockEnd = d.lockEnd := rfl
@[simp] theorem Dev.setQueue_eccLast (d : Dev) (q : Nat) (x : Queue) : (d.setQueue q x).eccLast = d.eccLast := rfl
@[simp] theorem Dev.setQueue_eccCnt (d : Dev) (q : Nat) (x : Queue) : (d.setQueue q x).eccCnt = d.eccCnt := rfl
@[simp] theorem Dev.setQueue_psErrs (d : Dev) (q : Nat) (x : Queue) : (d.setQueue q x).psErrs = d.psErrs := rfl
@[simp] theorem Dev.setQueue_scrubAt (d : Dev) (q : Nat) (x : Queue) : (d.setQueue q x).scrubAt = d.scrubAt := rfl
@[simp] theorem Dev.setQueue_vinValid (d : Dev) (q : Nat) (x : Queue) : (d.setQueue q x).vinValid = d.vinValid := rfl
@[simp] theorem Dev.setQueue_vinAbsent (d : Dev) (q : Nat) (x : Queue) : (d.setQueue q x).vinAbsent = d.vinAbsent := rfl
@[simp] theorem Dev.setQueue_warn (d : Dev) (q : Nat) (x : Queue) : (d.setQueue q x).warn = d.warn := rfl
@[simp] theorem Dev.setQueue_tWarn (d : Dev) (q : Nat) (x : Queue) : (d.setQueue q x).tWarn = d.tWarn := rfl
@[simp] theorem Dev.setQueue_rungWas (d : Dev) (q : Nat) (x : Queue) : (d.setQueue q x).rungWas = d.rungWas := rfl
@[simp] theorem Dev.setQueue_cause (d : Dev) (q : Nat) (x : Queue) : (d.setQueue q x).cause = d.cause := rfl
@[simp] theorem Dev.setQueue_asleep (d : Dev) (q : Nat) (x : Queue) : (d.setQueue q x).asleep = d.asleep := rfl
@[simp] theorem Dev.setQueue_wakeD0 (d : Dev) (q : Nat) (x : Queue) : (d.setQueue q x).wakeD0 = d.wakeD0 := rfl
@[simp] theorem Dev.setQueue_maskD0 (d : Dev) (q : Nat) (x : Queue) : (d.setQueue q x).maskD0 = d.maskD0 := rfl
@[simp] theorem Dev.setQueue_timeD0 (d : Dev) (q : Nat) (x : Queue) : (d.setQueue q x).timeD0 = d.timeD0 := rfl
@[simp] theorem Dev.setQueue_dipsD0 (d : Dev) (q : Nat) (x : Queue) : (d.setQueue q x).dipsD0 = d.dipsD0 := rfl
@[simp] theorem Dev.setQueue_faultD0 (d : Dev) (q : Nat) (x : Queue) : (d.setQueue q x).faultD0 = d.faultD0 := rfl
@[simp] theorem Dev.setQueue_stuck (d : Dev) (q : Nat) (x : Queue) : (d.setQueue q x).stuck = d.stuck := rfl
@[simp] theorem Dev.setQueue_testHigh (d : Dev) (q : Nat) (x : Queue) : (d.setQueue q x).testHigh = d.testHigh := rfl
@[simp] theorem Dev.setQueue_rd (d : Dev) (q : Nat) (x : Queue) (j : Nat) : (d.setQueue q x).rd j = d.rd j := rfl
@[simp] theorem Dev.setQueue_slot (d : Dev) (q : Nat) (x : Queue) (j : Nat) : (d.setQueue q x).slot j = d.slot j := rfl
@[simp] theorem Dev.setQueue_inst (d : Dev) (q : Nat) (x : Queue) (j : Nat) : (d.setQueue q x).inst j = d.inst j := rfl
@[simp] theorem Dev.setQueue_dma (d : Dev) (q : Nat) (x : Queue) (j : Nat) : (d.setQueue q x).dma j = d.dma j := rfl
@[simp] theorem Dev.setQueue_chan (d : Dev) (q : Nat) (x : Queue) (j : Nat) : (d.setQueue q x).chan j = d.chan j := rfl
@[simp] theorem Dev.setQueue_branch (d : Dev) (q : Nat) (x : Queue) (j : Nat) : (d.setQueue q x).branch j = d.branch j := rfl

/-! setDma. -/

@[simp] theorem Dev.setDma_now (d : Dev) (c : Nat) (x : Dma) : (d.setDma c x).now = d.now := rfl
@[simp] theorem Dev.setDma_fresh (d : Dev) (c : Nat) (x : Dma) : (d.setDma c x).fresh = d.fresh := rfl
@[simp] theorem Dev.setDma_hole (d : Dev) (c : Nat) (x : Dma) : (d.setDma c x).hole = d.hole := rfl
@[simp] theorem Dev.setDma_resp (d : Dev) (c : Nat) (x : Dma) : (d.setDma c x).resp = d.resp := rfl
@[simp] theorem Dev.setDma_obj (d : Dev) (c : Nat) (x : Dma) : (d.setDma c x).obj = d.obj := rfl
@[simp] theorem Dev.setDma_crownUp (d : Dev) (c : Nat) (x : Dma) : (d.setDma c x).crownUp = d.crownUp := rfl
@[simp] theorem Dev.setDma_coreUp (d : Dev) (c : Nat) (x : Dma) : (d.setDma c x).coreUp = d.coreUp := rfl
@[simp] theorem Dev.setDma_slots (d : Dev) (c : Nat) (x : Dma) : (d.setDma c x).slots = d.slots := rfl
@[simp] theorem Dev.setDma_insts (d : Dev) (c : Nat) (x : Dma) : (d.setDma c x).insts = d.insts := rfl
@[simp] theorem Dev.setDma_queues (d : Dev) (c : Nat) (x : Dma) : (d.setDma c x).queues = d.queues := rfl
@[simp] theorem Dev.setDma_chans (d : Dev) (c : Nat) (x : Dma) : (d.setDma c x).chans = d.chans := rfl
@[simp] theorem Dev.setDma_branches (d : Dev) (c : Nat) (x : Dma) : (d.setDma c x).branches = d.branches := rfl
@[simp] theorem Dev.setDma_coef (d : Dev) (c : Nat) (x : Dma) : (d.setDma c x).coef = d.coef := rfl
@[simp] theorem Dev.setDma_coefBad (d : Dev) (c : Nat) (x : Dma) : (d.setDma c x).coefBad = d.coefBad := rfl
@[simp] theorem Dev.setDma_coefNor (d : Dev) (c : Nat) (x : Dma) : (d.setDma c x).coefNor = d.coefNor := rfl
@[simp] theorem Dev.setDma_psBad (d : Dev) (c : Nat) (x : Dma) : (d.setDma c x).psBad = d.psBad := rfl
@[simp] theorem Dev.setDma_staged (d : Dev) (c : Nat) (x : Dma) : (d.setDma c x).staged = d.staged := rfl
@[simp] theorem Dev.setDma_txns (d : Dev) (c : Nat) (x : Dma) : (d.setDma c x).txns = d.txns := rfl
@[simp] theorem Dev.setDma_recover (d : Dev) (c : Nat) (x : Dma) : (d.setDma c x).recover = d.recover := rfl
@[simp] theorem Dev.setDma_journal (d : Dev) (c : Nat) (x : Dma) : (d.setDma c x).journal = d.journal := rfl
@[simp] theorem Dev.setDma_discarded (d : Dev) (c : Nat) (x : Dma) : (d.setDma c x).discarded = d.discarded := rfl
@[simp] theorem Dev.setDma_deferred (d : Dev) (c : Nat) (x : Dma) : (d.setDma c x).deferred = d.deferred := rfl
@[simp] theorem Dev.setDma_reqs (d : Dev) (c : Nat) (x : Dma) : (d.setDma c x).reqs = d.reqs := rfl
@[simp] theorem Dev.setDma_ops (d : Dev) (c : Nat) (x : Dma) : (d.setDma c x).ops = d.ops := rfl
@[simp] theorem Dev.setDma_log (d : Dev) (c : Nat) (x : Dma) : (d.setDma c x).log = d.log := rfl
@[simp] theorem Dev.setDma_staging (d : Dev) (c : Nat) (x : Dma) : (d.setDma c x).staging = d.staging := rfl
@[simp] theorem Dev.setDma_seq (d : Dev) (c : Nat) (x : Dma) : (d.setDma c x).seq = d.seq := rfl
@[simp] theorem Dev.setDma_ring (d : Dev) (c : Nat) (x : Dma) : (d.setDma c x).ring = d.ring := rfl
@[simp] theorem Dev.setDma_port (d : Dev) (c : Nat) (x : Dma) : (d.setDma c x).port = d.port := rfl
@[simp] theorem Dev.setDma_wd0 (d : Dev) (c : Nat) (x : Dma) : (d.setDma c x).wd0 = d.wd0 := rfl
@[simp] theorem Dev.setDma_wd1 (d : Dev) (c : Nat) (x : Dma) : (d.setDma c x).wd1 = d.wd1 := rfl
@[simp] theorem Dev.setDma_wdoLow (d : Dev) (c : Nat) (x : Dma) : (d.setDma c x).wdoLow = d.wdoLow := rfl
@[simp] theorem Dev.setDma_canopy (d : Dev) (c : Nat) (x : Dma) : (d.setDma c x).canopy = d.canopy := rfl
@[simp] theorem Dev.setDma_heart (d : Dev) (c : Nat) (x : Dma) : (d.setDma c x).heart = d.heart := rfl
@[simp] theorem Dev.setDma_graft (d : Dev) (c : Nat) (x : Dma) : (d.setDma c x).graft = d.graft := rfl
@[simp] theorem Dev.setDma_buttons (d : Dev) (c : Nat) (x : Dma) : (d.setDma c x).buttons = d.buttons := rfl
@[simp] theorem Dev.setDma_mapHnd (d : Dev) (c : Nat) (x : Dma) : (d.setDma c x).mapHnd = d.mapHnd := rfl
@[simp] theorem Dev.setDma_fails (d : Dev) (c : Nat) (x : Dma) : (d.setDma c x).fails = d.fails := rfl
@[simp] theorem Dev.setDma_syncClk (d : Dev) (c : Nat) (x : Dma) : (d.setDma c x).syncClk = d.syncClk := rfl
@[simp] theorem Dev.setDma_lockEnd (d : Dev) (c : Nat) (x : Dma) : (d.setDma c x).lockEnd = d.lockEnd := rfl
@[simp] theorem Dev.setDma_eccLast (d : Dev) (c : Nat) (x : Dma) : (d.setDma c x).eccLast = d.eccLast := rfl
@[simp] theorem Dev.setDma_eccCnt (d : Dev) (c : Nat) (x : Dma) : (d.setDma c x).eccCnt = d.eccCnt := rfl
@[simp] theorem Dev.setDma_psErrs (d : Dev) (c : Nat) (x : Dma) : (d.setDma c x).psErrs = d.psErrs := rfl
@[simp] theorem Dev.setDma_scrubAt (d : Dev) (c : Nat) (x : Dma) : (d.setDma c x).scrubAt = d.scrubAt := rfl
@[simp] theorem Dev.setDma_vinValid (d : Dev) (c : Nat) (x : Dma) : (d.setDma c x).vinValid = d.vinValid := rfl
@[simp] theorem Dev.setDma_vinAbsent (d : Dev) (c : Nat) (x : Dma) : (d.setDma c x).vinAbsent = d.vinAbsent := rfl
@[simp] theorem Dev.setDma_warn (d : Dev) (c : Nat) (x : Dma) : (d.setDma c x).warn = d.warn := rfl
@[simp] theorem Dev.setDma_tWarn (d : Dev) (c : Nat) (x : Dma) : (d.setDma c x).tWarn = d.tWarn := rfl
@[simp] theorem Dev.setDma_rungWas (d : Dev) (c : Nat) (x : Dma) : (d.setDma c x).rungWas = d.rungWas := rfl
@[simp] theorem Dev.setDma_cause (d : Dev) (c : Nat) (x : Dma) : (d.setDma c x).cause = d.cause := rfl
@[simp] theorem Dev.setDma_asleep (d : Dev) (c : Nat) (x : Dma) : (d.setDma c x).asleep = d.asleep := rfl
@[simp] theorem Dev.setDma_wakeD0 (d : Dev) (c : Nat) (x : Dma) : (d.setDma c x).wakeD0 = d.wakeD0 := rfl
@[simp] theorem Dev.setDma_maskD0 (d : Dev) (c : Nat) (x : Dma) : (d.setDma c x).maskD0 = d.maskD0 := rfl
@[simp] theorem Dev.setDma_timeD0 (d : Dev) (c : Nat) (x : Dma) : (d.setDma c x).timeD0 = d.timeD0 := rfl
@[simp] theorem Dev.setDma_dipsD0 (d : Dev) (c : Nat) (x : Dma) : (d.setDma c x).dipsD0 = d.dipsD0 := rfl
@[simp] theorem Dev.setDma_faultD0 (d : Dev) (c : Nat) (x : Dma) : (d.setDma c x).faultD0 = d.faultD0 := rfl
@[simp] theorem Dev.setDma_stuck (d : Dev) (c : Nat) (x : Dma) : (d.setDma c x).stuck = d.stuck := rfl
@[simp] theorem Dev.setDma_testHigh (d : Dev) (c : Nat) (x : Dma) : (d.setDma c x).testHigh = d.testHigh := rfl
@[simp] theorem Dev.setDma_rd (d : Dev) (c : Nat) (x : Dma) (j : Nat) : (d.setDma c x).rd j = d.rd j := rfl
@[simp] theorem Dev.setDma_slot (d : Dev) (c : Nat) (x : Dma) (j : Nat) : (d.setDma c x).slot j = d.slot j := rfl
@[simp] theorem Dev.setDma_inst (d : Dev) (c : Nat) (x : Dma) (j : Nat) : (d.setDma c x).inst j = d.inst j := rfl
@[simp] theorem Dev.setDma_queue (d : Dev) (c : Nat) (x : Dma) (j : Nat) : (d.setDma c x).queue j = d.queue j := rfl
@[simp] theorem Dev.setDma_chan (d : Dev) (c : Nat) (x : Dma) (j : Nat) : (d.setDma c x).chan j = d.chan j := rfl
@[simp] theorem Dev.setDma_branch (d : Dev) (c : Nat) (x : Dma) (j : Nat) : (d.setDma c x).branch j = d.branch j := rfl

/-! setChan. -/

@[simp] theorem Dev.setChan_now (d : Dev) (n : Nat) (x : Chan) : (d.setChan n x).now = d.now := rfl
@[simp] theorem Dev.setChan_fresh (d : Dev) (n : Nat) (x : Chan) : (d.setChan n x).fresh = d.fresh := rfl
@[simp] theorem Dev.setChan_hole (d : Dev) (n : Nat) (x : Chan) : (d.setChan n x).hole = d.hole := rfl
@[simp] theorem Dev.setChan_resp (d : Dev) (n : Nat) (x : Chan) : (d.setChan n x).resp = d.resp := rfl
@[simp] theorem Dev.setChan_obj (d : Dev) (n : Nat) (x : Chan) : (d.setChan n x).obj = d.obj := rfl
@[simp] theorem Dev.setChan_crownUp (d : Dev) (n : Nat) (x : Chan) : (d.setChan n x).crownUp = d.crownUp := rfl
@[simp] theorem Dev.setChan_coreUp (d : Dev) (n : Nat) (x : Chan) : (d.setChan n x).coreUp = d.coreUp := rfl
@[simp] theorem Dev.setChan_slots (d : Dev) (n : Nat) (x : Chan) : (d.setChan n x).slots = d.slots := rfl
@[simp] theorem Dev.setChan_insts (d : Dev) (n : Nat) (x : Chan) : (d.setChan n x).insts = d.insts := rfl
@[simp] theorem Dev.setChan_queues (d : Dev) (n : Nat) (x : Chan) : (d.setChan n x).queues = d.queues := rfl
@[simp] theorem Dev.setChan_dmas (d : Dev) (n : Nat) (x : Chan) : (d.setChan n x).dmas = d.dmas := rfl
@[simp] theorem Dev.setChan_branches (d : Dev) (n : Nat) (x : Chan) : (d.setChan n x).branches = d.branches := rfl
@[simp] theorem Dev.setChan_coef (d : Dev) (n : Nat) (x : Chan) : (d.setChan n x).coef = d.coef := rfl
@[simp] theorem Dev.setChan_coefBad (d : Dev) (n : Nat) (x : Chan) : (d.setChan n x).coefBad = d.coefBad := rfl
@[simp] theorem Dev.setChan_coefNor (d : Dev) (n : Nat) (x : Chan) : (d.setChan n x).coefNor = d.coefNor := rfl
@[simp] theorem Dev.setChan_psBad (d : Dev) (n : Nat) (x : Chan) : (d.setChan n x).psBad = d.psBad := rfl
@[simp] theorem Dev.setChan_staged (d : Dev) (n : Nat) (x : Chan) : (d.setChan n x).staged = d.staged := rfl
@[simp] theorem Dev.setChan_txns (d : Dev) (n : Nat) (x : Chan) : (d.setChan n x).txns = d.txns := rfl
@[simp] theorem Dev.setChan_recover (d : Dev) (n : Nat) (x : Chan) : (d.setChan n x).recover = d.recover := rfl
@[simp] theorem Dev.setChan_journal (d : Dev) (n : Nat) (x : Chan) : (d.setChan n x).journal = d.journal := rfl
@[simp] theorem Dev.setChan_discarded (d : Dev) (n : Nat) (x : Chan) : (d.setChan n x).discarded = d.discarded := rfl
@[simp] theorem Dev.setChan_deferred (d : Dev) (n : Nat) (x : Chan) : (d.setChan n x).deferred = d.deferred := rfl
@[simp] theorem Dev.setChan_reqs (d : Dev) (n : Nat) (x : Chan) : (d.setChan n x).reqs = d.reqs := rfl
@[simp] theorem Dev.setChan_ops (d : Dev) (n : Nat) (x : Chan) : (d.setChan n x).ops = d.ops := rfl
@[simp] theorem Dev.setChan_log (d : Dev) (n : Nat) (x : Chan) : (d.setChan n x).log = d.log := rfl
@[simp] theorem Dev.setChan_staging (d : Dev) (n : Nat) (x : Chan) : (d.setChan n x).staging = d.staging := rfl
@[simp] theorem Dev.setChan_seq (d : Dev) (n : Nat) (x : Chan) : (d.setChan n x).seq = d.seq := rfl
@[simp] theorem Dev.setChan_ring (d : Dev) (n : Nat) (x : Chan) : (d.setChan n x).ring = d.ring := rfl
@[simp] theorem Dev.setChan_port (d : Dev) (n : Nat) (x : Chan) : (d.setChan n x).port = d.port := rfl
@[simp] theorem Dev.setChan_wd0 (d : Dev) (n : Nat) (x : Chan) : (d.setChan n x).wd0 = d.wd0 := rfl
@[simp] theorem Dev.setChan_wd1 (d : Dev) (n : Nat) (x : Chan) : (d.setChan n x).wd1 = d.wd1 := rfl
@[simp] theorem Dev.setChan_wdoLow (d : Dev) (n : Nat) (x : Chan) : (d.setChan n x).wdoLow = d.wdoLow := rfl
@[simp] theorem Dev.setChan_canopy (d : Dev) (n : Nat) (x : Chan) : (d.setChan n x).canopy = d.canopy := rfl
@[simp] theorem Dev.setChan_heart (d : Dev) (n : Nat) (x : Chan) : (d.setChan n x).heart = d.heart := rfl
@[simp] theorem Dev.setChan_graft (d : Dev) (n : Nat) (x : Chan) : (d.setChan n x).graft = d.graft := rfl
@[simp] theorem Dev.setChan_buttons (d : Dev) (n : Nat) (x : Chan) : (d.setChan n x).buttons = d.buttons := rfl
@[simp] theorem Dev.setChan_mapHnd (d : Dev) (n : Nat) (x : Chan) : (d.setChan n x).mapHnd = d.mapHnd := rfl
@[simp] theorem Dev.setChan_fails (d : Dev) (n : Nat) (x : Chan) : (d.setChan n x).fails = d.fails := rfl
@[simp] theorem Dev.setChan_syncClk (d : Dev) (n : Nat) (x : Chan) : (d.setChan n x).syncClk = d.syncClk := rfl
@[simp] theorem Dev.setChan_lockEnd (d : Dev) (n : Nat) (x : Chan) : (d.setChan n x).lockEnd = d.lockEnd := rfl
@[simp] theorem Dev.setChan_eccLast (d : Dev) (n : Nat) (x : Chan) : (d.setChan n x).eccLast = d.eccLast := rfl
@[simp] theorem Dev.setChan_eccCnt (d : Dev) (n : Nat) (x : Chan) : (d.setChan n x).eccCnt = d.eccCnt := rfl
@[simp] theorem Dev.setChan_psErrs (d : Dev) (n : Nat) (x : Chan) : (d.setChan n x).psErrs = d.psErrs := rfl
@[simp] theorem Dev.setChan_scrubAt (d : Dev) (n : Nat) (x : Chan) : (d.setChan n x).scrubAt = d.scrubAt := rfl
@[simp] theorem Dev.setChan_vinValid (d : Dev) (n : Nat) (x : Chan) : (d.setChan n x).vinValid = d.vinValid := rfl
@[simp] theorem Dev.setChan_vinAbsent (d : Dev) (n : Nat) (x : Chan) : (d.setChan n x).vinAbsent = d.vinAbsent := rfl
@[simp] theorem Dev.setChan_warn (d : Dev) (n : Nat) (x : Chan) : (d.setChan n x).warn = d.warn := rfl
@[simp] theorem Dev.setChan_tWarn (d : Dev) (n : Nat) (x : Chan) : (d.setChan n x).tWarn = d.tWarn := rfl
@[simp] theorem Dev.setChan_rungWas (d : Dev) (n : Nat) (x : Chan) : (d.setChan n x).rungWas = d.rungWas := rfl
@[simp] theorem Dev.setChan_cause (d : Dev) (n : Nat) (x : Chan) : (d.setChan n x).cause = d.cause := rfl
@[simp] theorem Dev.setChan_asleep (d : Dev) (n : Nat) (x : Chan) : (d.setChan n x).asleep = d.asleep := rfl
@[simp] theorem Dev.setChan_wakeD0 (d : Dev) (n : Nat) (x : Chan) : (d.setChan n x).wakeD0 = d.wakeD0 := rfl
@[simp] theorem Dev.setChan_maskD0 (d : Dev) (n : Nat) (x : Chan) : (d.setChan n x).maskD0 = d.maskD0 := rfl
@[simp] theorem Dev.setChan_timeD0 (d : Dev) (n : Nat) (x : Chan) : (d.setChan n x).timeD0 = d.timeD0 := rfl
@[simp] theorem Dev.setChan_dipsD0 (d : Dev) (n : Nat) (x : Chan) : (d.setChan n x).dipsD0 = d.dipsD0 := rfl
@[simp] theorem Dev.setChan_faultD0 (d : Dev) (n : Nat) (x : Chan) : (d.setChan n x).faultD0 = d.faultD0 := rfl
@[simp] theorem Dev.setChan_stuck (d : Dev) (n : Nat) (x : Chan) : (d.setChan n x).stuck = d.stuck := rfl
@[simp] theorem Dev.setChan_testHigh (d : Dev) (n : Nat) (x : Chan) : (d.setChan n x).testHigh = d.testHigh := rfl
@[simp] theorem Dev.setChan_rd (d : Dev) (n : Nat) (x : Chan) (j : Nat) : (d.setChan n x).rd j = d.rd j := rfl
@[simp] theorem Dev.setChan_slot (d : Dev) (n : Nat) (x : Chan) (j : Nat) : (d.setChan n x).slot j = d.slot j := rfl
@[simp] theorem Dev.setChan_inst (d : Dev) (n : Nat) (x : Chan) (j : Nat) : (d.setChan n x).inst j = d.inst j := rfl
@[simp] theorem Dev.setChan_queue (d : Dev) (n : Nat) (x : Chan) (j : Nat) : (d.setChan n x).queue j = d.queue j := rfl
@[simp] theorem Dev.setChan_dma (d : Dev) (n : Nat) (x : Chan) (j : Nat) : (d.setChan n x).dma j = d.dma j := rfl
@[simp] theorem Dev.setChan_branch (d : Dev) (n : Nat) (x : Chan) (j : Nat) : (d.setChan n x).branch j = d.branch j := rfl

/-! setBranch. -/

@[simp] theorem Dev.setBranch_now (d : Dev) (b : Nat) (x : Branch) : (d.setBranch b x).now = d.now := rfl
@[simp] theorem Dev.setBranch_fresh (d : Dev) (b : Nat) (x : Branch) : (d.setBranch b x).fresh = d.fresh := rfl
@[simp] theorem Dev.setBranch_hole (d : Dev) (b : Nat) (x : Branch) : (d.setBranch b x).hole = d.hole := rfl
@[simp] theorem Dev.setBranch_resp (d : Dev) (b : Nat) (x : Branch) : (d.setBranch b x).resp = d.resp := rfl
@[simp] theorem Dev.setBranch_obj (d : Dev) (b : Nat) (x : Branch) : (d.setBranch b x).obj = d.obj := rfl
@[simp] theorem Dev.setBranch_crownUp (d : Dev) (b : Nat) (x : Branch) : (d.setBranch b x).crownUp = d.crownUp := rfl
@[simp] theorem Dev.setBranch_coreUp (d : Dev) (b : Nat) (x : Branch) : (d.setBranch b x).coreUp = d.coreUp := rfl
@[simp] theorem Dev.setBranch_slots (d : Dev) (b : Nat) (x : Branch) : (d.setBranch b x).slots = d.slots := rfl
@[simp] theorem Dev.setBranch_insts (d : Dev) (b : Nat) (x : Branch) : (d.setBranch b x).insts = d.insts := rfl
@[simp] theorem Dev.setBranch_queues (d : Dev) (b : Nat) (x : Branch) : (d.setBranch b x).queues = d.queues := rfl
@[simp] theorem Dev.setBranch_dmas (d : Dev) (b : Nat) (x : Branch) : (d.setBranch b x).dmas = d.dmas := rfl
@[simp] theorem Dev.setBranch_chans (d : Dev) (b : Nat) (x : Branch) : (d.setBranch b x).chans = d.chans := rfl
@[simp] theorem Dev.setBranch_coef (d : Dev) (b : Nat) (x : Branch) : (d.setBranch b x).coef = d.coef := rfl
@[simp] theorem Dev.setBranch_coefBad (d : Dev) (b : Nat) (x : Branch) : (d.setBranch b x).coefBad = d.coefBad := rfl
@[simp] theorem Dev.setBranch_coefNor (d : Dev) (b : Nat) (x : Branch) : (d.setBranch b x).coefNor = d.coefNor := rfl
@[simp] theorem Dev.setBranch_psBad (d : Dev) (b : Nat) (x : Branch) : (d.setBranch b x).psBad = d.psBad := rfl
@[simp] theorem Dev.setBranch_staged (d : Dev) (b : Nat) (x : Branch) : (d.setBranch b x).staged = d.staged := rfl
@[simp] theorem Dev.setBranch_txns (d : Dev) (b : Nat) (x : Branch) : (d.setBranch b x).txns = d.txns := rfl
@[simp] theorem Dev.setBranch_recover (d : Dev) (b : Nat) (x : Branch) : (d.setBranch b x).recover = d.recover := rfl
@[simp] theorem Dev.setBranch_journal (d : Dev) (b : Nat) (x : Branch) : (d.setBranch b x).journal = d.journal := rfl
@[simp] theorem Dev.setBranch_discarded (d : Dev) (b : Nat) (x : Branch) : (d.setBranch b x).discarded = d.discarded := rfl
@[simp] theorem Dev.setBranch_deferred (d : Dev) (b : Nat) (x : Branch) : (d.setBranch b x).deferred = d.deferred := rfl
@[simp] theorem Dev.setBranch_reqs (d : Dev) (b : Nat) (x : Branch) : (d.setBranch b x).reqs = d.reqs := rfl
@[simp] theorem Dev.setBranch_ops (d : Dev) (b : Nat) (x : Branch) : (d.setBranch b x).ops = d.ops := rfl
@[simp] theorem Dev.setBranch_log (d : Dev) (b : Nat) (x : Branch) : (d.setBranch b x).log = d.log := rfl
@[simp] theorem Dev.setBranch_staging (d : Dev) (b : Nat) (x : Branch) : (d.setBranch b x).staging = d.staging := rfl
@[simp] theorem Dev.setBranch_seq (d : Dev) (b : Nat) (x : Branch) : (d.setBranch b x).seq = d.seq := rfl
@[simp] theorem Dev.setBranch_ring (d : Dev) (b : Nat) (x : Branch) : (d.setBranch b x).ring = d.ring := rfl
@[simp] theorem Dev.setBranch_port (d : Dev) (b : Nat) (x : Branch) : (d.setBranch b x).port = d.port := rfl
@[simp] theorem Dev.setBranch_wd0 (d : Dev) (b : Nat) (x : Branch) : (d.setBranch b x).wd0 = d.wd0 := rfl
@[simp] theorem Dev.setBranch_wd1 (d : Dev) (b : Nat) (x : Branch) : (d.setBranch b x).wd1 = d.wd1 := rfl
@[simp] theorem Dev.setBranch_wdoLow (d : Dev) (b : Nat) (x : Branch) : (d.setBranch b x).wdoLow = d.wdoLow := rfl
@[simp] theorem Dev.setBranch_canopy (d : Dev) (b : Nat) (x : Branch) : (d.setBranch b x).canopy = d.canopy := rfl
@[simp] theorem Dev.setBranch_heart (d : Dev) (b : Nat) (x : Branch) : (d.setBranch b x).heart = d.heart := rfl
@[simp] theorem Dev.setBranch_graft (d : Dev) (b : Nat) (x : Branch) : (d.setBranch b x).graft = d.graft := rfl
@[simp] theorem Dev.setBranch_buttons (d : Dev) (b : Nat) (x : Branch) : (d.setBranch b x).buttons = d.buttons := rfl
@[simp] theorem Dev.setBranch_mapHnd (d : Dev) (b : Nat) (x : Branch) : (d.setBranch b x).mapHnd = d.mapHnd := rfl
@[simp] theorem Dev.setBranch_fails (d : Dev) (b : Nat) (x : Branch) : (d.setBranch b x).fails = d.fails := rfl
@[simp] theorem Dev.setBranch_syncClk (d : Dev) (b : Nat) (x : Branch) : (d.setBranch b x).syncClk = d.syncClk := rfl
@[simp] theorem Dev.setBranch_lockEnd (d : Dev) (b : Nat) (x : Branch) : (d.setBranch b x).lockEnd = d.lockEnd := rfl
@[simp] theorem Dev.setBranch_eccLast (d : Dev) (b : Nat) (x : Branch) : (d.setBranch b x).eccLast = d.eccLast := rfl
@[simp] theorem Dev.setBranch_eccCnt (d : Dev) (b : Nat) (x : Branch) : (d.setBranch b x).eccCnt = d.eccCnt := rfl
@[simp] theorem Dev.setBranch_psErrs (d : Dev) (b : Nat) (x : Branch) : (d.setBranch b x).psErrs = d.psErrs := rfl
@[simp] theorem Dev.setBranch_scrubAt (d : Dev) (b : Nat) (x : Branch) : (d.setBranch b x).scrubAt = d.scrubAt := rfl
@[simp] theorem Dev.setBranch_vinValid (d : Dev) (b : Nat) (x : Branch) : (d.setBranch b x).vinValid = d.vinValid := rfl
@[simp] theorem Dev.setBranch_vinAbsent (d : Dev) (b : Nat) (x : Branch) : (d.setBranch b x).vinAbsent = d.vinAbsent := rfl
@[simp] theorem Dev.setBranch_warn (d : Dev) (b : Nat) (x : Branch) : (d.setBranch b x).warn = d.warn := rfl
@[simp] theorem Dev.setBranch_tWarn (d : Dev) (b : Nat) (x : Branch) : (d.setBranch b x).tWarn = d.tWarn := rfl
@[simp] theorem Dev.setBranch_rungWas (d : Dev) (b : Nat) (x : Branch) : (d.setBranch b x).rungWas = d.rungWas := rfl
@[simp] theorem Dev.setBranch_cause (d : Dev) (b : Nat) (x : Branch) : (d.setBranch b x).cause = d.cause := rfl
@[simp] theorem Dev.setBranch_asleep (d : Dev) (b : Nat) (x : Branch) : (d.setBranch b x).asleep = d.asleep := rfl
@[simp] theorem Dev.setBranch_wakeD0 (d : Dev) (b : Nat) (x : Branch) : (d.setBranch b x).wakeD0 = d.wakeD0 := rfl
@[simp] theorem Dev.setBranch_maskD0 (d : Dev) (b : Nat) (x : Branch) : (d.setBranch b x).maskD0 = d.maskD0 := rfl
@[simp] theorem Dev.setBranch_timeD0 (d : Dev) (b : Nat) (x : Branch) : (d.setBranch b x).timeD0 = d.timeD0 := rfl
@[simp] theorem Dev.setBranch_dipsD0 (d : Dev) (b : Nat) (x : Branch) : (d.setBranch b x).dipsD0 = d.dipsD0 := rfl
@[simp] theorem Dev.setBranch_faultD0 (d : Dev) (b : Nat) (x : Branch) : (d.setBranch b x).faultD0 = d.faultD0 := rfl
@[simp] theorem Dev.setBranch_stuck (d : Dev) (b : Nat) (x : Branch) : (d.setBranch b x).stuck = d.stuck := rfl
@[simp] theorem Dev.setBranch_testHigh (d : Dev) (b : Nat) (x : Branch) : (d.setBranch b x).testHigh = d.testHigh := rfl
@[simp] theorem Dev.setBranch_rd (d : Dev) (b : Nat) (x : Branch) (j : Nat) : (d.setBranch b x).rd j = d.rd j := rfl
@[simp] theorem Dev.setBranch_slot (d : Dev) (b : Nat) (x : Branch) (j : Nat) : (d.setBranch b x).slot j = d.slot j := rfl
@[simp] theorem Dev.setBranch_inst (d : Dev) (b : Nat) (x : Branch) (j : Nat) : (d.setBranch b x).inst j = d.inst j := rfl
@[simp] theorem Dev.setBranch_queue (d : Dev) (b : Nat) (x : Branch) (j : Nat) : (d.setBranch b x).queue j = d.queue j := rfl
@[simp] theorem Dev.setBranch_dma (d : Dev) (b : Nat) (x : Branch) (j : Nat) : (d.setBranch b x).dma j = d.dma j := rfl
@[simp] theorem Dev.setBranch_chan (d : Dev) (b : Nat) (x : Branch) (j : Nat) : (d.setBranch b x).chan j = d.chan j := rfl

/-! at. -/

@[simp] theorem Dev.at_fresh (d : Dev) (t : Nat) : (d.at t).fresh = d.fresh := rfl
@[simp] theorem Dev.at_hole (d : Dev) (t : Nat) : (d.at t).hole = d.hole := rfl
@[simp] theorem Dev.at_resp (d : Dev) (t : Nat) : (d.at t).resp = d.resp := rfl
@[simp] theorem Dev.at_obj (d : Dev) (t : Nat) : (d.at t).obj = d.obj := rfl
@[simp] theorem Dev.at_crownUp (d : Dev) (t : Nat) : (d.at t).crownUp = d.crownUp := rfl
@[simp] theorem Dev.at_coreUp (d : Dev) (t : Nat) : (d.at t).coreUp = d.coreUp := rfl
@[simp] theorem Dev.at_slots (d : Dev) (t : Nat) : (d.at t).slots = d.slots := rfl
@[simp] theorem Dev.at_insts (d : Dev) (t : Nat) : (d.at t).insts = d.insts := rfl
@[simp] theorem Dev.at_queues (d : Dev) (t : Nat) : (d.at t).queues = d.queues := rfl
@[simp] theorem Dev.at_dmas (d : Dev) (t : Nat) : (d.at t).dmas = d.dmas := rfl
@[simp] theorem Dev.at_chans (d : Dev) (t : Nat) : (d.at t).chans = d.chans := rfl
@[simp] theorem Dev.at_branches (d : Dev) (t : Nat) : (d.at t).branches = d.branches := rfl
@[simp] theorem Dev.at_coef (d : Dev) (t : Nat) : (d.at t).coef = d.coef := rfl
@[simp] theorem Dev.at_coefBad (d : Dev) (t : Nat) : (d.at t).coefBad = d.coefBad := rfl
@[simp] theorem Dev.at_coefNor (d : Dev) (t : Nat) : (d.at t).coefNor = d.coefNor := rfl
@[simp] theorem Dev.at_psBad (d : Dev) (t : Nat) : (d.at t).psBad = d.psBad := rfl
@[simp] theorem Dev.at_staged (d : Dev) (t : Nat) : (d.at t).staged = d.staged := rfl
@[simp] theorem Dev.at_txns (d : Dev) (t : Nat) : (d.at t).txns = d.txns := rfl
@[simp] theorem Dev.at_recover (d : Dev) (t : Nat) : (d.at t).recover = d.recover := rfl
@[simp] theorem Dev.at_journal (d : Dev) (t : Nat) : (d.at t).journal = d.journal := rfl
@[simp] theorem Dev.at_discarded (d : Dev) (t : Nat) : (d.at t).discarded = d.discarded := rfl
@[simp] theorem Dev.at_deferred (d : Dev) (t : Nat) : (d.at t).deferred = d.deferred := rfl
@[simp] theorem Dev.at_reqs (d : Dev) (t : Nat) : (d.at t).reqs = d.reqs := rfl
@[simp] theorem Dev.at_ops (d : Dev) (t : Nat) : (d.at t).ops = d.ops := rfl
@[simp] theorem Dev.at_log (d : Dev) (t : Nat) : (d.at t).log = d.log := rfl
@[simp] theorem Dev.at_staging (d : Dev) (t : Nat) : (d.at t).staging = d.staging := rfl
@[simp] theorem Dev.at_seq (d : Dev) (t : Nat) : (d.at t).seq = d.seq := rfl
@[simp] theorem Dev.at_ring (d : Dev) (t : Nat) : (d.at t).ring = d.ring := rfl
@[simp] theorem Dev.at_port (d : Dev) (t : Nat) : (d.at t).port = d.port := rfl
@[simp] theorem Dev.at_wd0 (d : Dev) (t : Nat) : (d.at t).wd0 = d.wd0 := rfl
@[simp] theorem Dev.at_wd1 (d : Dev) (t : Nat) : (d.at t).wd1 = d.wd1 := rfl
@[simp] theorem Dev.at_wdoLow (d : Dev) (t : Nat) : (d.at t).wdoLow = d.wdoLow := rfl
@[simp] theorem Dev.at_canopy (d : Dev) (t : Nat) : (d.at t).canopy = d.canopy := rfl
@[simp] theorem Dev.at_heart (d : Dev) (t : Nat) : (d.at t).heart = d.heart := rfl
@[simp] theorem Dev.at_graft (d : Dev) (t : Nat) : (d.at t).graft = d.graft := rfl
@[simp] theorem Dev.at_buttons (d : Dev) (t : Nat) : (d.at t).buttons = d.buttons := rfl
@[simp] theorem Dev.at_mapHnd (d : Dev) (t : Nat) : (d.at t).mapHnd = d.mapHnd := rfl
@[simp] theorem Dev.at_fails (d : Dev) (t : Nat) : (d.at t).fails = d.fails := rfl
@[simp] theorem Dev.at_syncClk (d : Dev) (t : Nat) : (d.at t).syncClk = d.syncClk := rfl
@[simp] theorem Dev.at_lockEnd (d : Dev) (t : Nat) : (d.at t).lockEnd = d.lockEnd := rfl
@[simp] theorem Dev.at_eccLast (d : Dev) (t : Nat) : (d.at t).eccLast = d.eccLast := rfl
@[simp] theorem Dev.at_eccCnt (d : Dev) (t : Nat) : (d.at t).eccCnt = d.eccCnt := rfl
@[simp] theorem Dev.at_psErrs (d : Dev) (t : Nat) : (d.at t).psErrs = d.psErrs := rfl
@[simp] theorem Dev.at_scrubAt (d : Dev) (t : Nat) : (d.at t).scrubAt = d.scrubAt := rfl
@[simp] theorem Dev.at_vinValid (d : Dev) (t : Nat) : (d.at t).vinValid = d.vinValid := rfl
@[simp] theorem Dev.at_vinAbsent (d : Dev) (t : Nat) : (d.at t).vinAbsent = d.vinAbsent := rfl
@[simp] theorem Dev.at_warn (d : Dev) (t : Nat) : (d.at t).warn = d.warn := rfl
@[simp] theorem Dev.at_tWarn (d : Dev) (t : Nat) : (d.at t).tWarn = d.tWarn := rfl
@[simp] theorem Dev.at_rungWas (d : Dev) (t : Nat) : (d.at t).rungWas = d.rungWas := rfl
@[simp] theorem Dev.at_cause (d : Dev) (t : Nat) : (d.at t).cause = d.cause := rfl
@[simp] theorem Dev.at_asleep (d : Dev) (t : Nat) : (d.at t).asleep = d.asleep := rfl
@[simp] theorem Dev.at_wakeD0 (d : Dev) (t : Nat) : (d.at t).wakeD0 = d.wakeD0 := rfl
@[simp] theorem Dev.at_maskD0 (d : Dev) (t : Nat) : (d.at t).maskD0 = d.maskD0 := rfl
@[simp] theorem Dev.at_timeD0 (d : Dev) (t : Nat) : (d.at t).timeD0 = d.timeD0 := rfl
@[simp] theorem Dev.at_dipsD0 (d : Dev) (t : Nat) : (d.at t).dipsD0 = d.dipsD0 := rfl
@[simp] theorem Dev.at_faultD0 (d : Dev) (t : Nat) : (d.at t).faultD0 = d.faultD0 := rfl
@[simp] theorem Dev.at_stuck (d : Dev) (t : Nat) : (d.at t).stuck = d.stuck := rfl
@[simp] theorem Dev.at_testHigh (d : Dev) (t : Nat) : (d.at t).testHigh = d.testHigh := rfl
@[simp] theorem Dev.at_rd (d : Dev) (t : Nat) (j : Nat) : (d.at t).rd j = d.rd j := rfl
@[simp] theorem Dev.at_slot (d : Dev) (t : Nat) (j : Nat) : (d.at t).slot j = d.slot j := rfl
@[simp] theorem Dev.at_inst (d : Dev) (t : Nat) (j : Nat) : (d.at t).inst j = d.inst j := rfl
@[simp] theorem Dev.at_queue (d : Dev) (t : Nat) (j : Nat) : (d.at t).queue j = d.queue j := rfl
@[simp] theorem Dev.at_dma (d : Dev) (t : Nat) (j : Nat) : (d.at t).dma j = d.dma j := rfl
@[simp] theorem Dev.at_chan (d : Dev) (t : Nat) (j : Nat) : (d.at t).chan j = d.chan j := rfl
@[simp] theorem Dev.at_branch (d : Dev) (t : Nat) (j : Nat) : (d.at t).branch j = d.branch j := rfl

/-! took. -/

@[simp] theorem Dev.took_now (d : Dev) : (d.took).now = d.now := rfl
@[simp] theorem Dev.took_hole (d : Dev) : (d.took).hole = d.hole := rfl
@[simp] theorem Dev.took_resp (d : Dev) : (d.took).resp = d.resp := rfl
@[simp] theorem Dev.took_obj (d : Dev) : (d.took).obj = d.obj := rfl
@[simp] theorem Dev.took_crownUp (d : Dev) : (d.took).crownUp = d.crownUp := rfl
@[simp] theorem Dev.took_coreUp (d : Dev) : (d.took).coreUp = d.coreUp := rfl
@[simp] theorem Dev.took_slots (d : Dev) : (d.took).slots = d.slots := rfl
@[simp] theorem Dev.took_insts (d : Dev) : (d.took).insts = d.insts := rfl
@[simp] theorem Dev.took_queues (d : Dev) : (d.took).queues = d.queues := rfl
@[simp] theorem Dev.took_dmas (d : Dev) : (d.took).dmas = d.dmas := rfl
@[simp] theorem Dev.took_chans (d : Dev) : (d.took).chans = d.chans := rfl
@[simp] theorem Dev.took_branches (d : Dev) : (d.took).branches = d.branches := rfl
@[simp] theorem Dev.took_coef (d : Dev) : (d.took).coef = d.coef := rfl
@[simp] theorem Dev.took_coefBad (d : Dev) : (d.took).coefBad = d.coefBad := rfl
@[simp] theorem Dev.took_coefNor (d : Dev) : (d.took).coefNor = d.coefNor := rfl
@[simp] theorem Dev.took_psBad (d : Dev) : (d.took).psBad = d.psBad := rfl
@[simp] theorem Dev.took_staged (d : Dev) : (d.took).staged = d.staged := rfl
@[simp] theorem Dev.took_txns (d : Dev) : (d.took).txns = d.txns := rfl
@[simp] theorem Dev.took_recover (d : Dev) : (d.took).recover = d.recover := rfl
@[simp] theorem Dev.took_journal (d : Dev) : (d.took).journal = d.journal := rfl
@[simp] theorem Dev.took_discarded (d : Dev) : (d.took).discarded = d.discarded := rfl
@[simp] theorem Dev.took_deferred (d : Dev) : (d.took).deferred = d.deferred := rfl
@[simp] theorem Dev.took_reqs (d : Dev) : (d.took).reqs = d.reqs := rfl
@[simp] theorem Dev.took_ops (d : Dev) : (d.took).ops = d.ops := rfl
@[simp] theorem Dev.took_log (d : Dev) : (d.took).log = d.log := rfl
@[simp] theorem Dev.took_staging (d : Dev) : (d.took).staging = d.staging := rfl
@[simp] theorem Dev.took_seq (d : Dev) : (d.took).seq = d.seq := rfl
@[simp] theorem Dev.took_ring (d : Dev) : (d.took).ring = d.ring := rfl
@[simp] theorem Dev.took_port (d : Dev) : (d.took).port = d.port := rfl
@[simp] theorem Dev.took_wd0 (d : Dev) : (d.took).wd0 = d.wd0 := rfl
@[simp] theorem Dev.took_wd1 (d : Dev) : (d.took).wd1 = d.wd1 := rfl
@[simp] theorem Dev.took_wdoLow (d : Dev) : (d.took).wdoLow = d.wdoLow := rfl
@[simp] theorem Dev.took_canopy (d : Dev) : (d.took).canopy = d.canopy := rfl
@[simp] theorem Dev.took_heart (d : Dev) : (d.took).heart = d.heart := rfl
@[simp] theorem Dev.took_graft (d : Dev) : (d.took).graft = d.graft := rfl
@[simp] theorem Dev.took_buttons (d : Dev) : (d.took).buttons = d.buttons := rfl
@[simp] theorem Dev.took_mapHnd (d : Dev) : (d.took).mapHnd = d.mapHnd := rfl
@[simp] theorem Dev.took_fails (d : Dev) : (d.took).fails = d.fails := rfl
@[simp] theorem Dev.took_syncClk (d : Dev) : (d.took).syncClk = d.syncClk := rfl
@[simp] theorem Dev.took_lockEnd (d : Dev) : (d.took).lockEnd = d.lockEnd := rfl
@[simp] theorem Dev.took_eccLast (d : Dev) : (d.took).eccLast = d.eccLast := rfl
@[simp] theorem Dev.took_eccCnt (d : Dev) : (d.took).eccCnt = d.eccCnt := rfl
@[simp] theorem Dev.took_psErrs (d : Dev) : (d.took).psErrs = d.psErrs := rfl
@[simp] theorem Dev.took_scrubAt (d : Dev) : (d.took).scrubAt = d.scrubAt := rfl
@[simp] theorem Dev.took_vinValid (d : Dev) : (d.took).vinValid = d.vinValid := rfl
@[simp] theorem Dev.took_vinAbsent (d : Dev) : (d.took).vinAbsent = d.vinAbsent := rfl
@[simp] theorem Dev.took_warn (d : Dev) : (d.took).warn = d.warn := rfl
@[simp] theorem Dev.took_tWarn (d : Dev) : (d.took).tWarn = d.tWarn := rfl
@[simp] theorem Dev.took_rungWas (d : Dev) : (d.took).rungWas = d.rungWas := rfl
@[simp] theorem Dev.took_cause (d : Dev) : (d.took).cause = d.cause := rfl
@[simp] theorem Dev.took_asleep (d : Dev) : (d.took).asleep = d.asleep := rfl
@[simp] theorem Dev.took_wakeD0 (d : Dev) : (d.took).wakeD0 = d.wakeD0 := rfl
@[simp] theorem Dev.took_maskD0 (d : Dev) : (d.took).maskD0 = d.maskD0 := rfl
@[simp] theorem Dev.took_timeD0 (d : Dev) : (d.took).timeD0 = d.timeD0 := rfl
@[simp] theorem Dev.took_dipsD0 (d : Dev) : (d.took).dipsD0 = d.dipsD0 := rfl
@[simp] theorem Dev.took_faultD0 (d : Dev) : (d.took).faultD0 = d.faultD0 := rfl
@[simp] theorem Dev.took_stuck (d : Dev) : (d.took).stuck = d.stuck := rfl
@[simp] theorem Dev.took_testHigh (d : Dev) : (d.took).testHigh = d.testHigh := rfl
@[simp] theorem Dev.took_rd (d : Dev) (j : Nat) : (d.took).rd j = d.rd j := rfl
@[simp] theorem Dev.took_slot (d : Dev) (j : Nat) : (d.took).slot j = d.slot j := rfl
@[simp] theorem Dev.took_inst (d : Dev) (j : Nat) : (d.took).inst j = d.inst j := rfl
@[simp] theorem Dev.took_queue (d : Dev) (j : Nat) : (d.took).queue j = d.queue j := rfl
@[simp] theorem Dev.took_dma (d : Dev) (j : Nat) : (d.took).dma j = d.dma j := rfl
@[simp] theorem Dev.took_chan (d : Dev) (j : Nat) : (d.took).chan j = d.chan j := rfl
@[simp] theorem Dev.took_branch (d : Dev) (j : Nat) : (d.took).branch j = d.branch j := rfl

@[simp] theorem Dev.at_now (d : Dev) (t : Nat) : (d.at t).now = t := rfl
@[simp] theorem Dev.took_fresh (d : Dev) : d.took.fresh = d.fresh + 1 := rfl

/-- Reading back what wr wrote. -/
@[simp] theorem Dev.wr_rd (d : Dev) (k v : Nat) (j : Nat) :
    (d.wr k v).rd j = if j = k then v else d.rd j := tabGet_tabSet _ _ _ _ _

/-- Reading back what setSlot wrote. -/
@[simp] theorem Dev.setSlot_slot (d : Dev) (k : Nat) (x : Slot) (j : Nat) :
    (d.setSlot k x).slot j = if j = k then x else d.slot j := tabGet_tabSet _ _ _ _ _

/-- Reading back what setInst wrote. -/
@[simp] theorem Dev.setInst_inst (d : Dev) (i : Nat) (x : Inst) (j : Nat) :
    (d.setInst i x).inst j = if j = i then x else d.inst j := tabGet_tabSet _ _ _ _ _

/-- Reading back what setQueue wrote. -/
@[simp] theorem Dev.setQueue_queue (d : Dev) (q : Nat) (x : Queue) (j : Nat) :
    (d.setQueue q x).queue j = if j = q then x else d.queue j := tabGet_tabSet _ _ _ _ _

/-- Reading back what setDma wrote. -/
@[simp] theorem Dev.setDma_dma (d : Dev) (c : Nat) (x : Dma) (j : Nat) :
    (d.setDma c x).dma j = if j = c then x else d.dma j := tabGet_tabSet _ _ _ _ _

/-- Reading back what setChan wrote. -/
@[simp] theorem Dev.setChan_chan (d : Dev) (n : Nat) (x : Chan) (j : Nat) :
    (d.setChan n x).chan j = if j = n then x else d.chan j := tabGet_tabSet _ _ _ _ _

/-- Reading back what setBranch wrote. -/
@[simp] theorem Dev.setBranch_branch (d : Dev) (b : Nat) (x : Branch) (j : Nat) :
    (d.setBranch b x).branch j = if j = b then x else d.branch j := tabGet_tabSet _ _ _ _ _

/-! The last of two writes of one place stays. -/

@[simp] theorem Dev.wr_wr (d : Dev) (k : Nat) (x y : Nat) : (d.wr k x).wr k y = d.wr k y := by
  simp [Dev.wr, tabSet_tabSet]
@[simp] theorem Dev.setSlot_setSlot (d : Dev) (k : Nat) (x y : Slot) : (d.setSlot k x).setSlot k y = d.setSlot k y := by
  simp [Dev.setSlot, tabSet_tabSet]
@[simp] theorem Dev.setInst_setInst (d : Dev) (k : Nat) (x y : Inst) : (d.setInst k x).setInst k y = d.setInst k y := by
  simp [Dev.setInst, tabSet_tabSet]
@[simp] theorem Dev.setQueue_setQueue (d : Dev) (k : Nat) (x y : Queue) : (d.setQueue k x).setQueue k y = d.setQueue k y := by
  simp [Dev.setQueue, tabSet_tabSet]
@[simp] theorem Dev.setDma_setDma (d : Dev) (k : Nat) (x y : Dma) : (d.setDma k x).setDma k y = d.setDma k y := by
  simp [Dev.setDma, tabSet_tabSet]
@[simp] theorem Dev.setChan_setChan (d : Dev) (k : Nat) (x y : Chan) : (d.setChan k x).setChan k y = d.setChan k y := by
  simp [Dev.setChan, tabSet_tabSet]
@[simp] theorem Dev.setBranch_setBranch (d : Dev) (k : Nat) (x y : Branch) : (d.setBranch k x).setBranch k y = d.setBranch k y := by
  simp [Dev.setBranch, tabSet_tabSet]

/-! The derived updates are the ones above. -/

@[simp] theorem Dev.wrI_eq (d : Dev) (n k : Nat) (v : Int) : d.wrI n k v = d.wr k (ofInt n v) := rfl
@[simp] theorem Dev.bump_eq (d : Dev) (n k : Nat) : d.bump n k = d.wr k ((d.rd k + 1) % 2 ^ n) := rfl
@[simp] theorem Dev.wrBit_eq (d : Dev) (k i : Nat) (b : Bool) : d.wrBit k i b = d.wr k (setBit (d.rd k) i b) := rfl
@[simp] theorem Dev.modSlot_eq (d : Dev) (k : Nat) (f : Slot → Slot) : d.modSlot k f = d.setSlot k (f (d.slot k)) := rfl
@[simp] theorem Dev.modChan_eq (d : Dev) (n : Nat) (f : Chan → Chan) : d.modChan n f = d.setChan n (f (d.chan n)) := rfl
@[simp] theorem Dev.modBranch_eq (d : Dev) (b : Nat) (f : Branch → Branch) : d.modBranch b f = d.setBranch b (f (d.branch b)) := rfl
@[simp] theorem Dev.modQueue_eq (d : Dev) (q : Nat) (f : Queue → Queue) : d.modQueue q f = d.setQueue q (f (d.queue q)) := rfl
@[simp] theorem Dev.modInst_eq (d : Dev) (i : Nat) (f : Inst → Inst) : d.modInst i f = d.setInst i (f (d.inst i)) := rfl
@[simp] theorem Dev.when_true (d : Dev) (f : Dev → Dev) : d.when true f = f d := rfl
@[simp] theorem Dev.when_false (d : Dev) (f : Dev → Dev) : d.when false f = d := rfl
@[simp] theorem Dev.each_nil {α : Type} (d : Dev) (f : Dev → α → Dev) : d.each [] f = d := rfl
@[simp] theorem Dev.each_cons {α : Type} (d : Dev) (a : α) (l : List α) (f : Dev → α → Dev) : d.each (a :: l) f = (f d a).each l f := rfl

end Sys2Proof.Machine
end

