-- ==== Sys2Proof/Laws/Logs.lean ====
section
/-!
SUPPORT. What logging an event can touch, said once (R30, R216, R222, R236, R381), and the WRITE that a command stands for.
-/
namespace Sys2Proof.Machine

/-- The objects that logging may write: the two event counts, the peak of the operations table, and the objects of queues and capture
channels. -/
def logKey (k : Nat) : Prop := k = Reg.OPS_EVT_LOST ∨ k = Reg.EV_TOTAL ∨ k = Reg.OPS_PEAK ∨ (0x400000 ≤ k ∧ k < 0x442000)

/-- From d to t only what logging touches may have changed. -/
def Quiet (d t : Dev) : Prop :=
  t = { d with
    obj := t.obj, staging := t.staging, log := t.log, queues := t.queues, dmas := t.dmas,
    port := { d.port with pend := t.port.pend }, heart := { d.heart with writes := t.heart.writes },
    seq := { d.seq with breach := t.seq.breach } } ∧
  ∀ k, ¬ logKey k → t.rd k = d.rd k

theorem Quiet.refl (d : Dev) : Quiet d d := ⟨rfl, fun _ _ => rfl⟩

theorem Quiet.trans {d t u : Dev} (h : Quiet d t) (g : Quiet t u) : Quiet d u := by
  obtain ⟨h1, h2⟩ := h
  obtain ⟨g1, g2⟩ := g
  refine ⟨?_, fun k hk => (g2 k hk).trans (h2 k hk)⟩
  rw [g1, h1]

theorem Quiet.wr (d : Dev) (k v : Nat) (hk : logKey k) : Quiet d (d.wr k v) :=
  ⟨rfl, fun j hj => (tabGet_tabSet dfltOf d.obj k j v).trans (if_neg fun (e : j = k) => hj (e ▸ hk))⟩

theorem Quiet.setQueue (d : Dev) (q : Nat) (x : Queue) : Quiet d (d.setQueue q x) := ⟨rfl, fun _ _ => rfl⟩

theorem Quiet.setDma (d : Dev) (c : Nat) (x : Dma) : Quiet d (d.setDma c x) := ⟨rfl, fun _ _ => rfl⟩

theorem Quiet.breach (d : Dev) (b : Nat) : Quiet d (d.breach b) := ⟨rfl, fun _ _ => rfl⟩

theorem Quiet.when (d : Dev) (b : Bool) (f : Dev → Dev) (h : Quiet d (f d)) : Quiet d (d.when b f) := by
  cases b
  · exact .refl d
  · exact h

theorem Quiet.wrote (d : Dev) (l : List Nat) : Quiet d (d.wrote l) := by
  unfold Dev.wrote
  cases decide (l ≠ [])
  · exact ⟨rfl, fun _ _ => rfl⟩
  · exact .trans (.wr d _ _ (.inr (.inr (.inl rfl)))) ⟨rfl, fun _ _ => rfl⟩

theorem logKey_queue (q i : Nat) (hq : q < 64) (hi : i < 256) : logKey ((0x4000 + 0x10 * q) * 256 + i) := by
  unfold logKey; omega

theorem logKey_dma (c i : Nat) (hc : c < 16) (hi : i < 256) : logKey ((0x4410 + c) * 256 + i) := by
  unfold logKey; omega

theorem logKey_total : logKey Reg.EV_TOTAL := .inr (.inl rfl)

theorem Quiet.countAbort (d : Dev) (q r : Nat) (hq : q < 64) : Quiet d (d.countAbort q r).1 := by
  have h1 : Quiet d ((d.bump 32 (Reg.QU_ABORTED q)).wr (Reg.QU_LAST_ABORT q) r) :=
    .trans (.wr d _ _ (logKey_queue q _ hq (by omega))) (.wr _ _ _ (logKey_queue q _ hq (by omega)))
  unfold Dev.countAbort
  extract_lets d1 d2 x n due
  have h2 : Quiet d d2 := h1.trans (.when _ _ _ (.breach _ _))
  split
  · exact h2.trans (.setQueue _ _ _)
  · exact h2.trans (.setQueue _ _ _)

theorem Quiet.queueReset (d : Dev) (q r : Nat) (hq : q < 64) : Quiet d (d.queueReset q r).1 := by
  unfold Dev.queueReset
  have h := Quiet.countAbort d q 5 hq
  generalize hc : d.countAbort q 5 = c at h
  obtain ⟨c1, c2⟩ := c
  by_cases ho : (d.queue q).opn.isSome = true
  · simp only [ho, if_true]
    exact h.trans (.setQueue _ _ _)
  · simp only [ho]
    exact .setQueue _ _ _

theorem Quiet.guardQueue (d : Dev) (q : Nat) (hq : q < 64) : Quiet d (d.guardQueue q).1 := by
  unfold Dev.guardQueue
  split
  · exact .refl d
  · exact .queueReset d q 2 hq

theorem Quiet.abortPacket (d : Dev) (q r : Nat) (hq : q < 64) : Quiet d (d.abortPacket q r).1 := by
  have g := Quiet.guardQueue d q hq
  unfold Dev.abortPacket
  dsimp only
  split
  · exact g
  · exact g.trans ((Quiet.setQueue _ _ _).trans (.countAbort _ q r hq))

theorem Quiet.openPacket (d : Dev) (q ty : Nat) (hq : q < 64) : Quiet d (d.openPacket q ty).1 := by
  have g := Quiet.guardQueue d q hq
  unfold Dev.openPacket
  dsimp only
  split
  · exact g.trans (.countAbort _ q 1 hq)
  · exact g.trans (.setQueue _ _ _)

theorem Quiet.appendBytes (d : Dev) (q : Nat) (bs : List Nat) (hq : q < 64) : Quiet d (d.appendBytes q bs).1 := by
  have g := Quiet.guardQueue d q hq
  unfold Dev.appendBytes
  dsimp only
  split
  · exact g
  · split
    · exact g.trans (.setQueue _ _ _)
    · exact g.trans (.abortPacket _ q _ hq)

theorem Quiet.noteCommit (d : Dev) (q b a : Nat) : Quiet d (d.noteCommit q b a).1 := by
  unfold Dev.noteCommit
  dsimp only
  split <;> exact .setQueue _ _ _

theorem Quiet.commitPacket (d : Dev) (q : Nat) (hq : q < 64) : Quiet d (d.commitPacket q).1 := by
  have g := Quiet.guardQueue d q hq
  unfold Dev.commitPacket
  dsimp only
  split
  · exact g
  · split
    · exact g.trans (.setQueue _ _ _)
    · split
      · exact g.trans (.abortPacket _ q _ hq)
      · split
        · exact g.trans (.abortPacket _ q _ hq)
        · exact g.trans ((Quiet.setQueue _ _ _).trans ((Quiet.wr _ _ _ (logKey_queue q _ hq (by omega))).trans (.noteCommit _ q _ _)))

theorem mem_enabledQueues {d : Dev} {q : Nat} (h : q ∈ d.enabledQueues) : q < 64 := by
  obtain ⟨p, -, h⟩ := List.mem_filterMap.1 h
  split at h
  · have := Option.some.inj h; omega
  · cases h

theorem mem_armedBy {d : Dev} {code c : Nat} (h : c ∈ d.armedBy code) : c < 16 := by
  obtain ⟨p, -, h⟩ := List.mem_filterMap.1 h
  split at h
  · have := Option.some.inj h; omega
  · cases h

theorem Quiet.eventPacket (d : Dev) (r : EvRec) : Quiet d (d.eventPacket r).1 := by
  unfold Dev.eventPacket
  split
  · exact .refl d
  · rename_i q h
    have hq := mem_enabledQueues (List.mem_of_find?_eq_some h)
    have h1 := Quiet.openPacket d q 0x10 hq
    generalize d.openPacket q 0x10 = a at h1
    have h2 := Quiet.appendBytes a.1 q r.bytes hq
    dsimp only
    generalize a.1.appendBytes q r.bytes = b at h2
    have h3 := Quiet.commitPacket b.1 q hq
    generalize b.1.commitPacket q = c at h3
    exact (h1.trans h2).trans h3

theorem Quiet.trigger (d : Dev) (c code : Nat) (hc : c < 16) : Quiet d (d.trigger c code).1 := by
  unfold Dev.trigger
  split
  · exact ((Quiet.wr d (Reg.DM_STATE c) _ (logKey_dma c 0x9 hc (by omega))).trans
      (Quiet.wr _ (Reg.DM_TRIG_TIME c) d.now (logKey_dma c 0x10 hc (by omega)))).trans (.setDma _ _ _)
  · exact .refl d

theorem Quiet.stored (d : Dev) (ls : List Nat) (x y : List EvRec) : Quiet d { d.wrote ls with log := x, staging := y } :=
  .trans (.wrote d ls) ⟨rfl, fun _ _ => rfl⟩

theorem Quiet.drain (d : Dev) : Quiet d d.drain := by
  unfold Dev.drain
  split
  · exact .stored d _ _ _
  · exact .refl d

theorem Quiet.triggers (cs : List Nat) (hc : ∀ c ∈ cs, c < 16) (code : Nat) (p : Dev × Evs) :
    Quiet p.1 (cs.foldl (fun p c => let r := p.1.trigger c code; (r.1, p.2 ++ r.2)) p).1 := by
  induction cs generalizing p with
  | nil => exact .refl _
  | cons c cs ih =>
    have h := Quiet.trigger p.1 c code (hc c List.mem_cons_self)
    simp only [List.foldl_cons]
    generalize p.1.trigger c code = t at h
    exact h.trans (ih (fun x hx => hc x (List.mem_cons_of_mem _ hx)) (t.1, p.2 ++ t.2))

/-- The device with one event numbered and staged, before what the event causes. -/
def Dev.numbered (d : Dev) (e : Nat × Nat × Nat) : Dev :=
  { d.bump 32 Reg.EV_TOTAL with
    staging := d.staging ++ [⟨d.rd Reg.EV_TOTAL, d.now, e.1, e.2.1, e.2.2 % 2 ^ 32⟩],
    port := { d.port with pend := setBit d.port.pend 3 true } }

theorem Quiet.numbered (d : Dev) (e : Nat × Nat × Nat) : Quiet (d.wr Reg.EV_TOTAL ((d.rd Reg.EV_TOTAL + 1) % 2 ^ 32)) (d.numbered e) :=
  ⟨rfl, fun _ _ => rfl⟩

theorem Quiet.logOne (d : Dev) (e : Nat × Nat × Nat) : Quiet d (d.logOne e).1 := by
  unfold Dev.logOne
  have h0 := Quiet.drain d
  generalize d.drain = d at h0
  refine h0.trans ?_
  dsimp only
  split
  · exact .wr d _ _ (.inl rfl)
  · have h1 := (Quiet.wr d Reg.EV_TOTAL ((d.rd Reg.EV_TOTAL + 1) % 2 ^ 32) logKey_total).trans (Quiet.numbered d e)
    have h2 := h1.trans (.triggers ((d.numbered e).armedBy e.1) (fun c hc => mem_armedBy hc) e.1 (d.numbered e, []))
    unfold Dev.numbered at h2
    generalize List.foldl _ _ _ = a at h2 ⊢
    have h3 := h2.trans (Quiet.eventPacket a.1 ⟨d.rd Reg.EV_TOTAL, d.now, e.1, e.2.1, e.2.2 % 2 ^ 32⟩)
    generalize Dev.eventPacket _ _ = b at h3 ⊢
    exact h3.trans (.drain _)

theorem Quiet.logAll (n : Nat) (d : Dev) (es : Evs) : Quiet d (Dev.logAll n d es) := by
  induction n generalizing d es with
  | zero => exact .refl d
  | succ n ih =>
    unfold Dev.logAll
    induction es generalizing d with
    | nil => exact .refl d
    | cons e es ihe =>
      have h := Quiet.logOne d e
      simp only [List.foldl_cons]
      generalize d.logOne e = a at h
      exact (h.trans (ih a.1 a.2)).trans (ihe _)

/-- Logging touches the event log and its staging, the two event counts, queues and capture channels, the write counts, the pending
bit 3 of the port and a breach mark, and nothing else; the peak of the operations table may rise. -/
theorem logs_quiet (d : Dev) (es : Evs) : Quiet d (d.logs es) := .logAll 8 d es

theorem log1_quiet (d : Dev) (code src det : Nat) : Quiet d (d.log1 code src det) := logs_quiet d _

/-- Every object that logging does not write keeps its value. -/
theorem logs_rd (d : Dev) (es : Evs) (k : Nat) (h : ¬ logKey k) : (d.logs es).rd k = d.rd k := (logs_quiet d es).2 k h

theorem log1_rd (d : Dev) (code src det k : Nat) (h : ¬ logKey k) : (d.log1 code src det).rd k = d.rd k := logs_rd d _ k h

/-- A command that stands for a WRITE does what that request does. -/
theorem exec_writeOf (s : State) (c : Instr) (q : Request) (h : writeOf c = some q) : exec c s = s.ask q := by
  unfold writeOf at h
  split at h <;> first | (cases h; rfl) | (exact absurd h (by simp))

end Sys2Proof.Machine
end

