-- ==== Sys2Proof/WellFormed.lean ====
section
/-!
DEFINITION. Well-formed commands: every operand within the width that the spec gives its field.
-/
namespace Sys2Proof

/-- A signed 16-bit quantity. -/
def fits16 (x : Int) : Bool := -(2 ^ 15) ≤ x && x < 2 ^ 15

/-- A signed 24-bit quantity. -/
def fits24 (x : Int) : Bool := -(2 ^ 23) ≤ x && x < 2 ^ 23

/-- A signed 32-bit quantity. -/
def fits32 (x : Int) : Bool := -(2 ^ 31) ≤ x && x < 2 ^ 31

/-- A list of bytes. -/
def isBytes (l : List Nat) : Bool := l.all fun b => b < 256

/-- A list of 16-bit words. -/
def isWords (l : List Nat) : Bool := l.all fun b => b < 65536

/-- A request's sender (R256). -/
def Req.wf (r : Req) : Bool := r.id < 256 && r.seq < 65536 && r.t < 2 ^ 64

/-- A request record (R256). -/
def Request.wf (q : Request) : Bool :=
  q.id < 256 && q.seq < 65536 && q.op < 256 && q.len < 256 && q.ix < 65536 && q.sub < 256 && q.segment < 256 && q.hnd < 65536 &&
    q.total < 65536 && q.data < 2 ^ 128 && q.t < 2 ^ 64

/-- The operand fields of a step (R189). -/
def StepOp.wf (o : StepOp) : Bool := o.idx < 1024 && o.slot < 2 ^ 24 && o.hslot < 128 && o.queue < 64 && o.param < 2 ^ 19

/-- What a window measured: counts and residues within their widths (R64, R67). -/
def WinMeas.wf (m : WinMeas) : Bool :=
  m.nP < 2 ^ 32 && m.sP < 1024 && m.rP < 1024 && m.nC < 2 ^ 32 && m.sC < 1024 && m.rC < 1024 && m.nT < 2 ^ 32 &&
    m.sT < 1024 && m.rT < 1024 && m.satNs < 2 ^ 32 && m.vf < 65536 && fits24 m.track

/-- A beacon (R349). -/
def Beacon.wf (b : Beacon) : Bool :=
  b.rank < 16 && b.state < 8 && b.verMinor < 16 && b.verMajor < 16 && b.cstate < 8 && b.node < 256 && b.cycle < 2 ^ 32 &&
    b.serial < 2 ^ 64 && fits16 b.offset && b.admitted < 256 && b.grant < 16 && b.grantKind < 4 && b.viewSeq < 256 && b.term < 256 &&
    b.digestTag < 2 ^ 80

/-- A transfer record (R360). -/
def Transfer.wf (x : Transfer) : Bool :=
  x.sender < 16 && x.kind < 4 && x.target < 16 && x.pos < 65536 && x.total < 65536 && x.vseq < 256 && x.payload.length = 24 && isBytes x.payload

/-- A cycle frame (R288, R289). -/
def Frame.wf (f : Frame) : Bool :=
  f.verMajor < 16 && f.ftype < 256 && f.hops < 256 && f.cycleIndex < 2 ^ 32 && f.ringTime < 2 ^ 64 && f.cycleNs < 2 ^ 32 &&
    f.pdLen < 65536 && f.acycGroups < 256 && f.sealCount < 256 && f.pdEpoch < 2 ^ 32 && f.served < 65536 && isBytes f.outputs &&
    (f.requests.all fun r => r.node < 256 && r.req.wf) && f.beacons.all Beacon.wf && f.tArr < 2 ^ 64 && f.tEnd < 2 ^ 64 &&
    (match f.transfer with | none => true | some x => x.wf)

/-- The increments of one channel (R374). -/
def LifeInc.wf (x : LifeInc) : Bool :=
  x.onTime < 2 ^ 32 && x.cycles < 2 ^ 48 && x.energy < 2 ^ 48 && fits16 x.peakTemp && x.tcycles < 2 ^ 32

/-- A well-formed command. -/
def Instr.wf : Instr → Bool
  | .apply _ _ t => t < 2 ^ 64
  | .posture _ _ t => t < 2 ^ 64
  | .stage _ _ t => t < 2 ^ 64
  | .conv _ _ t => t < 2 ^ 64
  | .config _ _ t => t < 2 ^ 64
  | .heartbeat _ _ _ t => t < 2 ^ 64
  | .protEvent _ _ t => t < 2 ^ 64
  | .status _ _ vf die t0 t1 t2 t3 t => vf < 65536 && fits16 die && fits16 t0 && fits16 t1 && fits16 t2 && fits16 t3 && t < 2 ^ 64
  | .resultWord _ _ _ t => t < 2 ^ 64
  | .bitstream _ _ _ t => t < 2 ^ 64
  | .branchLinkLost _ t => t < 2 ^ 64
  | .crownLinkLost _ t => t < 2 ^ 64
  | .holdEnd _ t => t < 2 ^ 64
  | .crownHoldEnd _ t => t < 2 ^ 64
  | .linkUp _ t => t < 2 ^ 64
  | .branchConfigured _ t => t < 2 ^ 64
  | .brRelease r mask => r.wf && mask < 16
  | .hmCreate r rcd => r.wf && rcd < 2 ^ 32
  | .createComplete t => t < 2 ^ 64
  | .hmDestroy r h => r.wf && h < 65536
  | .destroyComplete t => t < 2 ^ 64
  | .arm r h => r.wf && h < 65536
  | .start r h => r.wf && h < 65536
  | .stop r h => r.wf && h < 65536
  | .safe r h => r.wf && h < 65536
  | .resume r h => r.wf && h < 65536
  | .clear r h => r.wf && h < 65536
  | .goPreop r => r.wf
  | .goOperate r => r.wf
  | .devSafe r => r.wf
  | .devResume r => r.wf
  | .hold r => r.wf
  | .enterService r => r.wf
  | .leaveService r => r.wf
  | .pupCodeWrite r _ _ v => r.wf && v < 2 ^ 32
  | .pupWriteDone t => t < 2 ^ 64
  | .restoreComplete t => t < 2 ^ 64
  | .windowEnd _ m t => m.wf && t < 2 ^ 64
  | .fastBlockEnd _ m t => m.wf && t < 2 ^ 64
  | .mainsTimeout _ t => t < 2 ^ 64
  | .refReady _ t => t < 2 ^ 64
  | .refinFault _ mv t => mv < 65536 && t < 2 ^ 64
  | .refinRestored _ mv t => mv < 65536 && t < 2 ^ 64
  | .calibrationCycle _ devA devB zero t => fits24 devA && fits24 devB && fits24 zero && t < 2 ^ 64
  | .cvUrgentReq r h => r.wf && h < 65536
  | .urgentResult _ m t => m.wf && t < 2 ^ 64
  | .monitorUrgentDone _ mon t => fits32 mon && t < 2 ^ 64
  | .crDataWrite r v => r.wf && v < 2 ^ 32
  | .crDataRead r => r.wf
  | .bankDescriptorWrite r _ _ sub v => r.wf && 1 ≤ sub && sub ≤ 7 && v < 2 ^ 16
  | .bkLoad r _ _ => r.wf
  | .bkLoadComplete t => t < 2 ^ 64
  | .fiBankReq r _ v => r.wf && v < 2 ^ 8
  | .syncLandEdge _ t => t < 2 ^ 64
  | .limiterAct _ mv t => mv < 65536 && t < 2 ^ 64
  | .txsupLimitTimeout _ t => t < 2 ^ 64
  | .txsupOffEnd _ t => t < 2 ^ 64
  | .lpComplianceAck r h => r.wf && h < 65536
  | .trimWrite r h _ v => r.wf && h < 65536 && v < 2 ^ 32
  | .tbEnable r => r.wf
  | .tbEnableTimeout t => t < 2 ^ 64
  | .buttonPress _ _ t => t < 2 ^ 64
  | .buttonRepeat _ t => t < 2 ^ 64
  | .buttonRelease t => t < 2 ^ 64
  | .levelRawChange _ _ t => t < 2 ^ 64
  | .levelEdgeAccepted _ t => t < 2 ^ 64
  | .lineFaultDeclared _ _ na t => na < 2 ^ 32 && t < 2 ^ 64
  | .lineFaultEnd _ na t => na < 2 ^ 32 && t < 2 ^ 64
  | .lvCountClear r h => r.wf && h < 65536
  | .pwmPeriodStart _ vf t => vf < 65536 && t < 2 ^ 64
  | .overcurrentTrip _ ma t => ma < 65536 && t < 2 ^ 64
  | .shortCircuit _ t => t < 2 ^ 64
  | .thermalTrip _ temp t => fits16 temp && t < 2 ^ 64
  | .cool _ temp t => fits16 temp && t < 2 ^ 64
  | .tempWarn _ _ temp who t => fits16 temp && (who < 16 || who = 255) && t < 2 ^ 64
  | .attemptSuccess _ t => t < 2 ^ 64
  | .tLimExpiry _ ma t => ma < 65536 && t < 2 ^ 64
  | .retryGapEnd _ temp t => fits16 temp && t < 2 ^ 64
  | .retryRestore _ t => t < 2 ^ 64
  | .clampEvent _ energy tempStart tStart t => energy < 2 ^ 32 && fits16 tempStart && tStart < 2 ^ 64 && t < 2 ^ 64
  | .swClampAck r h => r.wf && h < 65536
  | .loadTest _ vS vO t => vS < 65536 && vO < 65536 && t < 2 ^ 64
  | .iselChange _ _ t => t < 2 ^ 64
  | .halfRetired _ _ t => t < 2 ^ 64
  | .halvesLost _ t => t < 2 ^ 64
  | .stuckOn _ _ ma t => ma < 65536 && t < 2 ^ 64
  | .cycleFix t => t < 2 ^ 64
  | .cycleBoundary t => t < 2 ^ 64
  | .nop o => o.wf
  | .startConv o => o.wf
  | .urgentConv o => o.wf
  | .latchResult o => o.wf
  | .openPacket o => o.wf
  | .pushResult o => o.wf
  | .commitPacket o => o.wf
  | .applyOutput o => o.wf
  | .sampleInputs o => o.wf
  | .syncFilters o => o.wf
  | .diagWindow o => o.wf
  | .markTime o => o.wf
  | .waitCycle o => o.wf
  | .sqSwap r v => r.wf && v < 2 ^ 8
  | .sqSwapCheckDone t => t < 2 ^ 64
  | .guDetAck r v => r.wf && v < 2 ^ 8
  | .quEnable r _ => r.wf
  | .quDisable r _ => r.wf
  | .quRead r _ => r.wf
  | .quRead3 r _ => r.wf
  | .mark r _ => r.wf
  | .rewind r _ => r.wf
  | .release r _ => r.wf
  | .flush r _ => r.wf
  | .ack r _ => r.wf
  | .quReleaseAt r _ p => r.wf && p < 2 ^ 32
  | .quWrite r _ bytes => r.wf && isBytes bytes && bytes.length ≤ 24
  | .quWriteEndCommit r _ => r.wf
  | .quWriteEndAbort r _ => r.wf
  | .spillTransfer _ t => t < 2 ^ 64
  | .fillTransfer _ t => t < 2 ^ 64
  | .writeBeatResume _ held t => held < 2 ^ 32 && t < 2 ^ 64
  | .dmStart r _ => r.wf
  | .dmStop r _ => r.wf
  | .dmTrigger r _ => r.wf
  | .captureCopy _ t => t < 2 ^ 64
  | .dmRdData r _ => r.wf
  | .xspiNoStrobe _ t => t < 2 ^ 64
  | .coefRepair addr _ t => addr < 65536 && t < 2 ^ 64
  | .scrub _ _ corrected double t => corrected < 2 ^ 32 && (double.all fun a => a < 2 ^ 32) && t < 2 ^ 64
  | .registerWrite q => q.wf
  | .echo q => q.wf
  | .segmentedRead q => q.wf
  | .segmentedWrite q => q.wf
  | .deferredComplete t => t < 2 ^ 64
  | .txOpen r v => r.wf && v < 2 ^ 8
  | .txCommit r n => r.wf && n < 2 ^ 32
  | .txCommitDone t => t < 2 ^ 64
  | .txAbort r n => r.wf && n < 2 ^ 32
  | .txTimeout n t => n < 2 ^ 32 && t < 2 ^ 64
  | .pvUnlock r code => r.wf && code < 65536
  | .pvLock r v => r.wf && v < 2 ^ 8
  | .pvServiceCode r code => r.wf && code < 65536
  | .pvTimeout id t => id < 256 && t < 2 ^ 64
  | .pvLockoutEnd t => t < 2 ^ 64
  | .cycleFrame f => f.wf
  | .delayFrame _ _ num t => num < 2 ^ 32 && t < 2 ^ 64
  | .foreignFrame _ _ _ t => t < 2 ^ 64
  | .portLinkLost _ t => t < 2 ^ 64
  | .portLinkUp _ t => t < 2 ^ 64
  | .loopReopen _ t => t < 2 ^ 64
  | .pdwExpired t => t < 2 ^ 64
  | .spiRead addr words _ tick t => addr < 65536 && words < 65536 && tick < 2 ^ 64 && t < 2 ^ 64
  | .spiWrite addr data _ t => addr < 65536 && isWords data && t < 2 ^ 64
  | .ptValueLoRead _ tick t => tick < 2 ^ 64 && t < 2 ^ 64
  | .ptValueHiRead _ _ tick t => tick < 2 ^ 64 && t < 2 ^ 64
  | .ptStatusWrite v t => v < 2 ^ 16 && t < 2 ^ 64
  | .ptIrqAck v t => v < 2 ^ 16 && t < 2 ^ 64
  | .ptMbCtrl v t => v < 2 ^ 16 && t < 2 ^ 64
  | .wdCheckin _ r id => r.wf && id < 256
  | .wdKey1 _ r tick => r.wf && tick < 2 ^ 64
  | .wdKey2 _ r tick => r.wf && tick < 2 ^ 64
  | .wdWindowClose _ t => t < 2 ^ 64
  | .wdStage2 _ t => t < 2 ^ 64
  | .wd1Enable r => r.wf
  | .wd1Disable r => r.wf
  | .wdoPulseEnd t => t < 2 ^ 64
  | .cnAdopt r => r.wf
  | .fold t => t < 2 ^ 64
  | .lifeFlush t => t < 2 ^ 64
  | .hwFlush r => r.wf
  | .counterReport _ incs t => incs.all LifeInc.wf && t < 2 ^ 64
  | .ringRecord year _ t => year < 65536 && t < 2 ^ 64
  | .evRead r => r.wf
  | .calCompare cal t => cal < 2 ^ 64 && t < 2 ^ 64
  | .calFree t => t < 2 ^ 64
  | .calTimeWrite r v => r.wf && v < 2 ^ 64
  | .erase r => r.wf
  | .grHkData r bytes => r.wf && isBytes bytes && bytes.length ≤ 256
  | .verify r => r.wf
  | .swap r => r.wf
  | .confirm r => r.wf
  | .cancel r => r.wf
  | .hkSwapReady ms t => ms < 2 ^ 32 && t < 2 ^ 64
  | .hkSwapTimeout t => t < 2 ^ 64
  | .hkWaitTimeout t => t < 2 ^ 64
  | .hkConfirmTimeout t => t < 2 ^ 64
  | .calStart r => r.wf
  | .calLow r => r.wf
  | .calHigh r => r.wf
  | .calApply r => r.wf
  | .calAbort r => r.wf
  | .calRestore r => r.wf
  | .calGraftTimeout t => t < 2 ^ 64
  | .grUcStart r _ => r.wf
  | .ucSwitched _ version ms t => version < 2 ^ 32 && ms < 2 ^ 32 && t < 2 ^ 64
  | .ucReverted _ ms t => ms < 2 ^ 32 && t < 2 ^ 64
  | .ucAbandoned _ t => t < 2 ^ 64
  | .vinValid t => t < 2 ^ 64
  | .pwrWarnSet t => t < 2 ^ 64
  | .pwrWarnCleared minMv us t => minMv < 65536 && us < 2 ^ 32 && t < 2 ^ 64
  | .brownOut t => t < 2 ^ 64
  | .vinAbsent t => t < 2 ^ 64
  | .vbakMeasure mv t => mv < 65536 && t < 2 ^ 64
  | .rstn t => t < 2 ^ 64
  | .clockLoss t => t < 2 ^ 64
  | .pwrResetCmd r v => r.wf && v < 2 ^ 16
  | .crownStart vio vbak nor _ psram _ _ failed t =>
    vio < 65536 && vbak < 65536 && psram < 2 ^ 32 && nor.getD 0 < 2 ^ 32 && (failed.all fun l => l < 8192) && t < 2 ^ 64
  | .branchStart _ t => t < 2 ^ 64
  | .vfbValid _ t => t < 2 ^ 64
  | .underVoltageLock _ vf t => vf < 65536 && t < 2 ^ 64
  | .lockReleased _ ms t => ms < 2 ^ 32 && t < 2 ^ 64
  | .branchOff _ t => t < 2 ^ 64
  | .vfWarn _ _ vf t => vf < 65536 && t < 2 ^ 64
  | .vfHigh _ _ vf t => vf < 65536 && t < 2 ^ 64
  | .descent t => t < 2 ^ 64
  | .wake source t => source < 10 && t < 2 ^ 64
  | .txsupCurrentLimit _ _ t => t < 2 ^ 64
  | .lineFaultComparator _ _ _ t => t < 2 ^ 64
  | .watchComplianceJudgement _ satNs _ t => satNs < 2 ^ 32 && t < 2 ^ 64
  | .housekeepingCoreResetEnd t => t < 2 ^ 64
  | .vbakLost t => t < 2 ^ 64

/-- The instant a command carries, for the commands whose instant the cycle does not fix. -/
def Instr.time : Instr → Option Nat
  | .apply _ _ t => some t
  | .posture _ _ t => some t
  | .stage _ _ t => some t
  | .conv _ _ t => some t
  | .config _ _ t => some t
  | .heartbeat _ _ _ t => some t
  | .protEvent _ _ t => some t
  | .status _ _ _ _ _ _ _ _ t => some t
  | .resultWord _ _ _ t => some t
  | .bitstream _ _ _ t => some t
  | .branchLinkLost _ t => some t
  | .crownLinkLost _ t => some t
  | .holdEnd _ t => some t
  | .crownHoldEnd _ t => some t
  | .linkUp _ t => some t
  | .branchConfigured _ t => some t
  | .brRelease r _ => some r.t
  | .hmCreate r _ => some r.t
  | .createComplete t => some t
  | .hmDestroy r _ => some r.t
  | .destroyComplete t => some t
  | .arm r _ => some r.t
  | .start r _ => some r.t
  | .stop r _ => some r.t
  | .safe r _ => some r.t
  | .resume r _ => some r.t
  | .clear r _ => some r.t
  | .goPreop r => some r.t
  | .goOperate r => some r.t
  | .devSafe r => some r.t
  | .devResume r => some r.t
  | .hold r => some r.t
  | .enterService r => some r.t
  | .leaveService r => some r.t
  | .pupCodeWrite r _ _ _ => some r.t
  | .pupWriteDone t => some t
  | .restoreComplete t => some t
  | .windowEnd _ _ t => some t
  | .fastBlockEnd _ _ t => some t
  | .mainsTimeout _ t => some t
  | .refReady _ t => some t
  | .refinFault _ _ t => some t
  | .refinRestored _ _ t => some t
  | .calibrationCycle _ _ _ _ t => some t
  | .cvUrgentReq r _ => some r.t
  | .urgentResult _ _ t => some t
  | .monitorUrgentDone _ _ t => some t
  | .crDataWrite r _ => some r.t
  | .crDataRead r => some r.t
  | .bankDescriptorWrite r _ _ _ _ => some r.t
  | .bkLoad r _ _ => some r.t
  | .bkLoadComplete t => some t
  | .fiBankReq r _ _ => some r.t
  | .syncLandEdge _ t => some t
  | .limiterAct _ _ t => some t
  | .txsupLimitTimeout _ t => some t
  | .txsupOffEnd _ t => some t
  | .lpComplianceAck r _ => some r.t
  | .trimWrite r _ _ _ => some r.t
  | .tbEnable r => some r.t
  | .tbEnableTimeout t => some t
  | .buttonPress _ _ t => some t
  | .buttonRepeat _ t => some t
  | .buttonRelease t => some t
  | .levelRawChange _ _ t => some t
  | .levelEdgeAccepted _ t => some t
  | .lineFaultDeclared _ _ _ t => some t
  | .lineFaultEnd _ _ t => some t
  | .lvCountClear r _ => some r.t
  | .pwmPeriodStart _ _ t => some t
  | .overcurrentTrip _ _ t => some t
  | .shortCircuit _ t => some t
  | .thermalTrip _ _ t => some t
  | .cool _ _ t => some t
  | .tempWarn _ _ _ _ t => some t
  | .attemptSuccess _ t => some t
  | .tLimExpiry _ _ t => some t
  | .retryGapEnd _ _ t => some t
  | .retryRestore _ t => some t
  | .clampEvent _ _ _ _ t => some t
  | .swClampAck r _ => some r.t
  | .loadTest _ _ _ t => some t
  | .iselChange _ _ t => some t
  | .halfRetired _ _ t => some t
  | .halvesLost _ t => some t
  | .stuckOn _ _ _ t => some t
  | .cycleFix t => some t
  | .cycleBoundary t => some t
  | .nop _ => none
  | .startConv _ => none
  | .urgentConv _ => none
  | .latchResult _ => none
  | .openPacket _ => none
  | .pushResult _ => none
  | .commitPacket _ => none
  | .applyOutput _ => none
  | .sampleInputs _ => none
  | .syncFilters _ => none
  | .diagWindow _ => none
  | .markTime _ => none
  | .waitCycle _ => none
  | .sqSwap r _ => some r.t
  | .sqSwapCheckDone t => some t
  | .guDetAck r _ => some r.t
  | .quEnable r _ => some r.t
  | .quDisable r _ => some r.t
  | .quRead r _ => some r.t
  | .quRead3 r _ => some r.t
  | .mark r _ => some r.t
  | .rewind r _ => some r.t
  | .release r _ => some r.t
  | .flush r _ => some r.t
  | .ack r _ => some r.t
  | .quReleaseAt r _ _ => some r.t
  | .quWrite r _ _ => some r.t
  | .quWriteEndCommit r _ => some r.t
  | .quWriteEndAbort r _ => some r.t
  | .spillTransfer _ t => some t
  | .fillTransfer _ t => some t
  | .writeBeatResume _ _ t => some t
  | .dmStart r _ => some r.t
  | .dmStop r _ => some r.t
  | .dmTrigger r _ => some r.t
  | .captureCopy _ t => some t
  | .dmRdData r _ => some r.t
  | .xspiNoStrobe _ t => some t
  | .coefRepair _ _ t => some t
  | .scrub _ _ _ _ t => some t
  | .registerWrite q => some q.t
  | .echo q => some q.t
  | .segmentedRead q => some q.t
  | .segmentedWrite q => some q.t
  | .deferredComplete t => some t
  | .txOpen r _ => some r.t
  | .txCommit r _ => some r.t
  | .txCommitDone t => some t
  | .txAbort r _ => some r.t
  | .txTimeout _ t => some t
  | .pvUnlock r _ => some r.t
  | .pvLock r _ => some r.t
  | .pvServiceCode r _ => some r.t
  | .pvTimeout _ t => some t
  | .pvLockoutEnd t => some t
  | .cycleFrame f => some f.tEnd
  | .delayFrame _ _ _ t => some t
  | .foreignFrame _ _ _ t => some t
  | .portLinkLost _ t => some t
  | .portLinkUp _ t => some t
  | .loopReopen _ t => some t
  | .pdwExpired t => some t
  | .spiRead _ _ _ _ t => some t
  | .spiWrite _ _ _ t => some t
  | .ptValueLoRead _ _ t => some t
  | .ptValueHiRead _ _ _ t => some t
  | .ptStatusWrite _ t => some t
  | .ptIrqAck _ t => some t
  | .ptMbCtrl _ t => some t
  | .wdCheckin _ r _ => some r.t
  | .wdKey1 _ r _ => some r.t
  | .wdKey2 _ r _ => some r.t
  | .wdWindowClose _ t => some t
  | .wdStage2 _ t => some t
  | .wd1Enable r => some r.t
  | .wd1Disable r => some r.t
  | .wdoPulseEnd t => some t
  | .cnAdopt r => some r.t
  | .fold t => some t
  | .lifeFlush t => some t
  | .hwFlush r => some r.t
  | .counterReport _ _ t => some t
  | .ringRecord _ _ t => some t
  | .evRead r => some r.t
  | .calCompare _ t => some t
  | .calFree t => some t
  | .calTimeWrite r _ => some r.t
  | .erase r => some r.t
  | .grHkData r _ => some r.t
  | .verify r => some r.t
  | .swap r => some r.t
  | .confirm r => some r.t
  | .cancel r => some r.t
  | .hkSwapReady _ t => some t
  | .hkSwapTimeout t => some t
  | .hkWaitTimeout t => some t
  | .hkConfirmTimeout t => some t
  | .calStart r => some r.t
  | .calLow r => some r.t
  | .calHigh r => some r.t
  | .calApply r => some r.t
  | .calAbort r => some r.t
  | .calRestore r => some r.t
  | .calGraftTimeout t => some t
  | .grUcStart r _ => some r.t
  | .ucSwitched _ _ _ t => some t
  | .ucReverted _ _ t => some t
  | .ucAbandoned _ t => some t
  | .vinValid t => some t
  | .pwrWarnSet t => some t
  | .pwrWarnCleared _ _ t => some t
  | .brownOut t => some t
  | .vinAbsent t => some t
  | .vbakMeasure _ t => some t
  | .rstn t => some t
  | .clockLoss t => some t
  | .pwrResetCmd r _ => some r.t
  | .crownStart _ _ _ _ _ _ _ _ t => some t
  | .branchStart _ t => some t
  | .vfbValid _ t => some t
  | .underVoltageLock _ _ t => some t
  | .lockReleased _ _ t => some t
  | .branchOff _ t => some t
  | .vfWarn _ _ _ t => some t
  | .vfHigh _ _ _ t => some t
  | .descent t => some t
  | .wake _ t => some t
  | .txsupCurrentLimit _ _ t => some t
  | .lineFaultComparator _ _ _ t => some t
  | .watchComplianceJudgement _ _ _ t => some t
  | .housekeepingCoreResetEnd t => some t
  | .vbakLost t => some t

end Sys2Proof
end

