-- ==== Sys2Proof/Laws/PerInstr.lean ====
section
/-!
SUPPORT. The statement family Operands: what a well-formed command keeps within its widths, proved command by command.
-/
namespace Sys2Proof.Laws.Operands
set_option Elab.async false

/-- A well-formed command's instant is a 64-bit number of ns (R5), and the request that a command stands for is a well-formed record
(R256). -/
def Statement (i : Instr) : Prop :=
  i.wf = true → (∀ t, i.time = some t → t < 2 ^ 64) ∧ ∀ q, Machine.writeOf i = some q → q.wf = true

/-- A command that stands for no request is within its widths where its instant is. -/
theorem of_time {i : Instr} {t : Nat} (ht : i.time = some t) (hw : Machine.writeOf i = none) (h : i.wf = true → t < 2 ^ 64) : Statement i :=
  fun hi => ⟨fun _ e => Option.some.inj (ht.symm.trans e) ▸ h hi, fun _ e => by rw [hw] at e; cases e⟩

/-- A command without an instant that stands for no request. -/
theorem of_none {i : Instr} (ht : i.time = none) (hw : Machine.writeOf i = none) : Statement i :=
  fun _ => ⟨fun _ e => (by rw [ht] at e; cases e), fun _ e => by rw [hw] at e; cases e⟩

/-- The instant of a well-formed sender. -/
theorem req_time {r : Req} (h : r.wf = true) : r.t < 2 ^ 64 := of_decide_eq_true (Bool.and_elim_right h)

/-- A WRITE of a well-formed sender with its fields in their widths is a well-formed record. -/
theorem writeReq_wf {r : Req} {key hnd len v : Nat} (h : r.wf = true) (hk : key < 2 ^ 24) (hh : hnd < 65536) (hl : len < 256) (hv : v < 2 ^ 128) :
    (Machine.writeReq r key hnd len v).wf = true := by
  simp only [Req.wf, Bool.and_eq_true, decide_eq_true_eq] at h
  simp only [Request.wf, Machine.writeReq, Bool.and_eq_true]
  and_intros <;> refine decide_eq_true ?_ <;> first | omega | decide

/-- A command that stands for a WRITE. -/
theorem of_write {i : Instr} {r : Req} {key hnd len v : Nat} (ht : i.time = some r.t) (hw : Machine.writeOf i = some (Machine.writeReq r key hnd len v))
    (h : i.wf = true → r.wf = true ∧ key < 2 ^ 24 ∧ hnd < 65536 ∧ len < 256 ∧ v < 2 ^ 128) : Statement i :=
  fun hi => ⟨fun _ e => Option.some.inj (ht.symm.trans e) ▸ req_time (h hi).1,
    fun _ e => by
      rw [hw] at e
      obtain rfl := Option.some.inj e
      obtain ⟨h1, h2, h3, h4, h5⟩ := h hi
      exact writeReq_wf h1 h2 h3 h4 h5⟩

/-- Of a well-formed record the WRITE with the same fields is one. -/
theorem opWrite_wf {q : Request} (h : q.wf = true) : ({ q with op := Machine.OP_WRITE } : Request).wf = true := by
  simp only [Request.wf, Machine.OP_WRITE, Bool.and_eq_true, decide_eq_true_eq] at *
  omega

theorem apply : ∀ b w t, Statement (.apply b w t) := fun _ _ _ => of_time rfl rfl fun h => of_decide_eq_true h
theorem posture : ∀ b w t, Statement (.posture b w t) := fun _ _ _ => of_time rfl rfl fun h => of_decide_eq_true h
theorem stage : ∀ b w t, Statement (.stage b w t) := fun _ _ _ => of_time rfl rfl fun h => of_decide_eq_true h
theorem conv : ∀ b w t, Statement (.conv b w t) := fun _ _ _ => of_time rfl rfl fun h => of_decide_eq_true h
theorem config : ∀ b w t, Statement (.config b w t) := fun _ _ _ => of_time rfl rfl fun h => of_decide_eq_true h
theorem heartbeat : ∀ b d w t, Statement (.heartbeat b d w t) := fun _ _ _ _ => of_time rfl rfl fun h => of_decide_eq_true h
theorem protEvent : ∀ b w t, Statement (.protEvent b w t) := fun _ _ _ => of_time rfl rfl fun h => of_decide_eq_true h
theorem status : ∀ b w vf die t0 t1 t2 t3 t, Statement (.status b w vf die t0 t1 t2 t3 t) := fun _ _ _ _ _ _ _ _ _ => of_time rfl rfl fun h => of_decide_eq_true (Bool.and_elim_right h)
theorem resultWord : ∀ b w r t, Statement (.resultWord b w r t) := fun _ _ _ _ => of_time rfl rfl fun h => of_decide_eq_true h
theorem bitstream : ∀ b w x t, Statement (.bitstream b w x t) := fun _ _ _ _ => of_time rfl rfl fun h => of_decide_eq_true h
theorem branchLinkLost : ∀ b t, Statement (.branchLinkLost b t) := fun _ _ => of_time rfl rfl fun h => of_decide_eq_true h
theorem crownLinkLost : ∀ b t, Statement (.crownLinkLost b t) := fun _ _ => of_time rfl rfl fun h => of_decide_eq_true h
theorem holdEnd : ∀ b t, Statement (.holdEnd b t) := fun _ _ => of_time rfl rfl fun h => of_decide_eq_true h
theorem crownHoldEnd : ∀ b t, Statement (.crownHoldEnd b t) := fun _ _ => of_time rfl rfl fun h => of_decide_eq_true h
theorem linkUp : ∀ b t, Statement (.linkUp b t) := fun _ _ => of_time rfl rfl fun h => of_decide_eq_true h
theorem branchConfigured : ∀ b t, Statement (.branchConfigured b t) := fun _ _ => of_time rfl rfl fun h => of_decide_eq_true h
theorem brRelease : ∀ r mask, Statement (.brRelease r mask) := by
  intro r mask
  exact of_write rfl rfl fun e => by
    have w : (r.wf && mask < 16 : Bool) = true := e
    simp only [Bool.and_eq_true, decide_eq_true_eq] at w
    refine ⟨(Bool.and_elim_left e), ?_, ?_, ?_, ?_⟩ <;> (try simp only [Machine.Reg.BR_RELEASE]) <;> omega
theorem hmCreate : ∀ r rcd, Statement (.hmCreate r rcd) := by
  intro r rcd
  exact of_write rfl rfl fun e => by
    have w : (r.wf && rcd < 2 ^ 32 : Bool) = true := e
    simp only [Bool.and_eq_true, decide_eq_true_eq] at w
    refine ⟨(Bool.and_elim_left e), ?_, ?_, ?_, ?_⟩ <;> (try simp only [Machine.Reg.HM_CREATE]) <;> omega
theorem createComplete : ∀ t, Statement (.createComplete t) := fun _ => of_time rfl rfl fun h => of_decide_eq_true h
theorem hmDestroy : ∀ r h, Statement (.hmDestroy r h) := by
  intro r h
  exact of_write rfl rfl fun e => by
    have w : (r.wf && h < 65536 : Bool) = true := e
    simp only [Bool.and_eq_true, decide_eq_true_eq] at w
    refine ⟨(Bool.and_elim_left e), ?_, ?_, ?_, ?_⟩ <;> (try simp only [Machine.Reg.HM_DESTROY]) <;> omega
theorem destroyComplete : ∀ t, Statement (.destroyComplete t) := fun _ => of_time rfl rfl fun h => of_decide_eq_true h
theorem arm : ∀ r h, Statement (.arm r h) := by
  intro r h
  exact of_write rfl rfl fun e => by
    have w : (r.wf && h < 65536 : Bool) = true := e
    simp only [Bool.and_eq_true, decide_eq_true_eq] at w
    refine ⟨(Bool.and_elim_left e), ?_, ?_, ?_, ?_⟩ <;> (try simp only [Machine.Reg.HND_CMD]) <;> omega
theorem start : ∀ r h, Statement (.start r h) := by
  intro r h
  exact of_write rfl rfl fun e => by
    have w : (r.wf && h < 65536 : Bool) = true := e
    simp only [Bool.and_eq_true, decide_eq_true_eq] at w
    refine ⟨(Bool.and_elim_left e), ?_, ?_, ?_, ?_⟩ <;> (try simp only [Machine.Reg.HND_CMD]) <;> omega
theorem stop : ∀ r h, Statement (.stop r h) := by
  intro r h
  exact of_write rfl rfl fun e => by
    have w : (r.wf && h < 65536 : Bool) = true := e
    simp only [Bool.and_eq_true, decide_eq_true_eq] at w
    refine ⟨(Bool.and_elim_left e), ?_, ?_, ?_, ?_⟩ <;> (try simp only [Machine.Reg.HND_CMD]) <;> omega
theorem safe : ∀ r h, Statement (.safe r h) := by
  intro r h
  exact of_write rfl rfl fun e => by
    have w : (r.wf && h < 65536 : Bool) = true := e
    simp only [Bool.and_eq_true, decide_eq_true_eq] at w
    refine ⟨(Bool.and_elim_left e), ?_, ?_, ?_, ?_⟩ <;> (try simp only [Machine.Reg.HND_CMD]) <;> omega
theorem resume : ∀ r h, Statement (.resume r h) := by
  intro r h
  exact of_write rfl rfl fun e => by
    have w : (r.wf && h < 65536 : Bool) = true := e
    simp only [Bool.and_eq_true, decide_eq_true_eq] at w
    refine ⟨(Bool.and_elim_left e), ?_, ?_, ?_, ?_⟩ <;> (try simp only [Machine.Reg.HND_CMD]) <;> omega
theorem clear : ∀ r h, Statement (.clear r h) := by
  intro r h
  exact of_write rfl rfl fun e => by
    have w : (r.wf && h < 65536 : Bool) = true := e
    simp only [Bool.and_eq_true, decide_eq_true_eq] at w
    refine ⟨(Bool.and_elim_left e), ?_, ?_, ?_, ?_⟩ <;> (try simp only [Machine.Reg.HND_CMD]) <;> omega
theorem goPreop : ∀ r, Statement (.goPreop r) := by
  intro r
  exact of_write rfl rfl fun e => by
    refine ⟨e, ?_, ?_, ?_, ?_⟩ <;> (try simp only [Machine.Reg.DEV_CMD]) <;> omega
theorem goOperate : ∀ r, Statement (.goOperate r) := by
  intro r
  exact of_write rfl rfl fun e => by
    refine ⟨e, ?_, ?_, ?_, ?_⟩ <;> (try simp only [Machine.Reg.DEV_CMD]) <;> omega
theorem devSafe : ∀ r, Statement (.devSafe r) := by
  intro r
  exact of_write rfl rfl fun e => by
    refine ⟨e, ?_, ?_, ?_, ?_⟩ <;> (try simp only [Machine.Reg.DEV_CMD]) <;> omega
theorem devResume : ∀ r, Statement (.devResume r) := by
  intro r
  exact of_write rfl rfl fun e => by
    refine ⟨e, ?_, ?_, ?_, ?_⟩ <;> (try simp only [Machine.Reg.DEV_CMD]) <;> omega
theorem hold : ∀ r, Statement (.hold r) := by
  intro r
  exact of_write rfl rfl fun e => by
    refine ⟨e, ?_, ?_, ?_, ?_⟩ <;> (try simp only [Machine.Reg.DEV_CMD]) <;> omega
theorem enterService : ∀ r, Statement (.enterService r) := by
  intro r
  exact of_write rfl rfl fun e => by
    refine ⟨e, ?_, ?_, ?_, ?_⟩ <;> (try simp only [Machine.Reg.DEV_CMD]) <;> omega
theorem leaveService : ∀ r, Statement (.leaveService r) := by
  intro r
  exact of_write rfl rfl fun e => by
    refine ⟨e, ?_, ?_, ?_, ?_⟩ <;> (try simp only [Machine.Reg.DEV_CMD]) <;> omega
theorem pupCodeWrite : ∀ r isValue n v, Statement (.pupCodeWrite r isValue n v) := by
  intro r isValue n v
  cases isValue
  · exact of_write rfl rfl fun e => by
      have w : (r.wf && v < 2 ^ 32 : Bool) = true := e
      simp only [Bool.and_eq_true, decide_eq_true_eq] at w
      have := n.isLt
      refine ⟨(Bool.and_elim_left e), ?_, ?_, ?_, ?_⟩ <;> (try simp only [Machine.Reg.PUP_CODE, Machine.Reg.PUP_VALUE]) <;> omega
  · exact of_write rfl rfl fun e => by
      have w : (r.wf && v < 2 ^ 32 : Bool) = true := e
      simp only [Bool.and_eq_true, decide_eq_true_eq] at w
      have := n.isLt
      refine ⟨(Bool.and_elim_left e), ?_, ?_, ?_, ?_⟩ <;> (try simp only [Machine.Reg.PUP_CODE, Machine.Reg.PUP_VALUE]) <;> omega
theorem pupWriteDone : ∀ t, Statement (.pupWriteDone t) := fun _ => of_time rfl rfl fun h => of_decide_eq_true h
theorem restoreComplete : ∀ t, Statement (.restoreComplete t) := fun _ => of_time rfl rfl fun h => of_decide_eq_true h
theorem windowEnd : ∀ h m t, Statement (.windowEnd h m t) := fun _ _ _ => of_time rfl rfl fun h => of_decide_eq_true (Bool.and_elim_right h)
theorem fastBlockEnd : ∀ h m t, Statement (.fastBlockEnd h m t) := fun _ _ _ => of_time rfl rfl fun h => of_decide_eq_true (Bool.and_elim_right h)
theorem mainsTimeout : ∀ h t, Statement (.mainsTimeout h t) := fun _ _ => of_time rfl rfl fun h => of_decide_eq_true h
theorem refReady : ∀ b t, Statement (.refReady b t) := fun _ _ => of_time rfl rfl fun h => of_decide_eq_true h
theorem refinFault : ∀ b mv t, Statement (.refinFault b mv t) := fun _ _ _ => of_time rfl rfl fun h => of_decide_eq_true (Bool.and_elim_right h)
theorem refinRestored : ∀ b mv t, Statement (.refinRestored b mv t) := fun _ _ _ => of_time rfl rfl fun h => of_decide_eq_true (Bool.and_elim_right h)
theorem calibrationCycle : ∀ b devA devB zero t, Statement (.calibrationCycle b devA devB zero t) := fun _ _ _ _ _ => of_time rfl rfl fun h => of_decide_eq_true (Bool.and_elim_right h)
theorem cvUrgentReq : ∀ r h, Statement (.cvUrgentReq r h) := by
  intro r h
  exact of_write rfl rfl fun e => by
    have w : (r.wf && h < 65536 : Bool) = true := e
    simp only [Bool.and_eq_true, decide_eq_true_eq] at w
    refine ⟨(Bool.and_elim_left e), ?_, ?_, ?_, ?_⟩ <;> (try simp only [Machine.Reg.CV_URGENT_REQ]) <;> omega
theorem urgentResult : ∀ h m t, Statement (.urgentResult h m t) := fun _ _ _ => of_time rfl rfl fun h => of_decide_eq_true (Bool.and_elim_right h)
theorem monitorUrgentDone : ∀ h mon t, Statement (.monitorUrgentDone h mon t) := fun _ _ _ => of_time rfl rfl fun h => of_decide_eq_true (Bool.and_elim_right h)
theorem crDataWrite : ∀ r v, Statement (.crDataWrite r v) := by
  intro r v
  exact of_write rfl rfl fun e => by
    have w : (r.wf && v < 2 ^ 32 : Bool) = true := e
    simp only [Bool.and_eq_true, decide_eq_true_eq] at w
    refine ⟨(Bool.and_elim_left e), ?_, ?_, ?_, ?_⟩ <;> (try simp only [Machine.Reg.CR_DATA]) <;> omega
theorem crDataRead : ∀ r, Statement (.crDataRead r) := fun _ => of_time rfl rfl fun h => req_time h
theorem bankDescriptorWrite : ∀ r i k sub v, Statement (.bankDescriptorWrite r i k sub v) := by
  intro r i k sub v
  exact of_write rfl rfl fun e => by
    have w : (r.wf && 1 ≤ sub && sub ≤ 7 && v < 2 ^ 16 : Bool) = true := e
    simp only [Bool.and_eq_true, decide_eq_true_eq] at w
    have := i.isLt
    have := k.isLt
    refine ⟨(Bool.and_elim_left (Bool.and_elim_left (Bool.and_elim_left e))), ?_, ?_, ?_, ?_⟩ <;> (try simp only []) <;> (try split) <;> omega
theorem bkLoad : ∀ r i k, Statement (.bkLoad r i k) := by
  intro r i k
  exact of_write rfl rfl fun e => by
    have := i.isLt
    have := k.isLt
    refine ⟨e, ?_, ?_, ?_, ?_⟩ <;> (try simp only [Machine.Reg.BK_LOAD]) <;> omega
theorem bkLoadComplete : ∀ t, Statement (.bkLoadComplete t) := fun _ => of_time rfl rfl fun h => of_decide_eq_true h
theorem fiBankReq : ∀ r i v, Statement (.fiBankReq r i v) := by
  intro r i v
  exact of_write rfl rfl fun e => by
    have w : (r.wf && v < 2 ^ 8 : Bool) = true := e
    simp only [Bool.and_eq_true, decide_eq_true_eq] at w
    have := i.isLt
    refine ⟨(Bool.and_elim_left e), ?_, ?_, ?_, ?_⟩ <;> (try simp only [Machine.Reg.FI_BANK_REQ]) <;> omega
theorem syncLandEdge : ∀ rising t, Statement (.syncLandEdge rising t) := fun _ _ => of_time rfl rfl fun h => of_decide_eq_true h
theorem limiterAct : ∀ h mv t, Statement (.limiterAct h mv t) := fun _ _ _ => of_time rfl rfl fun h => of_decide_eq_true (Bool.and_elim_right h)
theorem txsupLimitTimeout : ∀ n t, Statement (.txsupLimitTimeout n t) := fun _ _ => of_time rfl rfl fun h => of_decide_eq_true h
theorem txsupOffEnd : ∀ n t, Statement (.txsupOffEnd n t) := fun _ _ => of_time rfl rfl fun h => of_decide_eq_true h
theorem lpComplianceAck : ∀ r h, Statement (.lpComplianceAck r h) := by
  intro r h
  exact of_write rfl rfl fun e => by
    have w : (r.wf && h < 65536 : Bool) = true := e
    simp only [Bool.and_eq_true, decide_eq_true_eq] at w
    refine ⟨(Bool.and_elim_left e), ?_, ?_, ?_, ?_⟩ <;> (try simp only [Machine.Reg.LP_COMPLIANCE_ACK]) <;> omega
theorem trimWrite : ∀ r h span v, Statement (.trimWrite r h span v) := by
  intro r h span v
  cases span
  · exact of_write rfl rfl fun e => by
      have w : (r.wf && h < 65536 && v < 2 ^ 32 : Bool) = true := e
      simp only [Bool.and_eq_true, decide_eq_true_eq] at w
      refine ⟨(Bool.and_elim_left (Bool.and_elim_left e)), ?_, ?_, ?_, ?_⟩ <;> (try simp only [Machine.Reg.LP_TRIM_SPAN, Machine.Reg.LP_TRIM_ZERO]) <;> omega
  · exact of_write rfl rfl fun e => by
      have w : (r.wf && h < 65536 && v < 2 ^ 32 : Bool) = true := e
      simp only [Bool.and_eq_true, decide_eq_true_eq] at w
      refine ⟨(Bool.and_elim_left (Bool.and_elim_left e)), ?_, ?_, ?_, ?_⟩ <;> (try simp only [Machine.Reg.LP_TRIM_SPAN, Machine.Reg.LP_TRIM_ZERO]) <;> omega
theorem tbEnable : ∀ r, Statement (.tbEnable r) := by
  intro r
  exact of_write rfl rfl fun e => by
    refine ⟨e, ?_, ?_, ?_, ?_⟩ <;> (try simp only [Machine.Reg.TB_ENABLE]) <;> omega
theorem tbEnableTimeout : ∀ t, Statement (.tbEnableTimeout t) := fun _ => of_time rfl rfl fun h => of_decide_eq_true h
theorem buttonPress : ∀ span trd t, Statement (.buttonPress span trd t) := fun _ _ _ => of_time rfl rfl fun h => of_decide_eq_true h
theorem buttonRepeat : ∀ trd t, Statement (.buttonRepeat trd t) := fun _ _ => of_time rfl rfl fun h => of_decide_eq_true h
theorem buttonRelease : ∀ t, Statement (.buttonRelease t) := fun _ => of_time rfl rfl fun h => of_decide_eq_true h
theorem levelRawChange : ∀ n raw t, Statement (.levelRawChange n raw t) := fun _ _ _ => of_time rfl rfl fun h => of_decide_eq_true h
theorem levelEdgeAccepted : ∀ n t, Statement (.levelEdgeAccepted n t) := fun _ _ => of_time rfl rfl fun h => of_decide_eq_true h
theorem lineFaultDeclared : ∀ n short na t, Statement (.lineFaultDeclared n short na t) := fun _ _ _ _ => of_time rfl rfl fun h => of_decide_eq_true (Bool.and_elim_right h)
theorem lineFaultEnd : ∀ n na t, Statement (.lineFaultEnd n na t) := fun _ _ _ => of_time rfl rfl fun h => of_decide_eq_true (Bool.and_elim_right h)
theorem lvCountClear : ∀ r h, Statement (.lvCountClear r h) := by
  intro r h
  exact of_write rfl rfl fun e => by
    have w : (r.wf && h < 65536 : Bool) = true := e
    simp only [Bool.and_eq_true, decide_eq_true_eq] at w
    refine ⟨(Bool.and_elim_left e), ?_, ?_, ?_, ?_⟩ <;> (try simp only [Machine.Reg.LV_COUNT_CLEAR]) <;> omega
theorem pwmPeriodStart : ∀ n vf t, Statement (.pwmPeriodStart n vf t) := fun _ _ _ => of_time rfl rfl fun h => of_decide_eq_true (Bool.and_elim_right h)
theorem overcurrentTrip : ∀ n ma t, Statement (.overcurrentTrip n ma t) := fun _ _ _ => of_time rfl rfl fun h => of_decide_eq_true (Bool.and_elim_right h)
theorem shortCircuit : ∀ n t, Statement (.shortCircuit n t) := fun _ _ => of_time rfl rfl fun h => of_decide_eq_true h
theorem thermalTrip : ∀ n temp t, Statement (.thermalTrip n temp t) := fun _ _ _ => of_time rfl rfl fun h => of_decide_eq_true (Bool.and_elim_right h)
theorem cool : ∀ n temp t, Statement (.cool n temp t) := fun _ _ _ => of_time rfl rfl fun h => of_decide_eq_true (Bool.and_elim_right h)
theorem tempWarn : ∀ b set temp who t, Statement (.tempWarn b set temp who t) := fun _ _ _ _ _ => of_time rfl rfl fun h => of_decide_eq_true (Bool.and_elim_right h)
theorem attemptSuccess : ∀ n t, Statement (.attemptSuccess n t) := fun _ _ => of_time rfl rfl fun h => of_decide_eq_true h
theorem tLimExpiry : ∀ n ma t, Statement (.tLimExpiry n ma t) := fun _ _ _ => of_time rfl rfl fun h => of_decide_eq_true (Bool.and_elim_right h)
theorem retryGapEnd : ∀ n temp t, Statement (.retryGapEnd n temp t) := fun _ _ _ => of_time rfl rfl fun h => of_decide_eq_true (Bool.and_elim_right h)
theorem retryRestore : ∀ n t, Statement (.retryRestore n t) := fun _ _ => of_time rfl rfl fun h => of_decide_eq_true h
theorem clampEvent : ∀ n energy tempStart tStart t, Statement (.clampEvent n energy tempStart tStart t) := fun _ _ _ _ _ => of_time rfl rfl fun h => of_decide_eq_true (Bool.and_elim_right h)
theorem swClampAck : ∀ r h, Statement (.swClampAck r h) := by
  intro r h
  exact of_write rfl rfl fun e => by
    have w : (r.wf && h < 65536 : Bool) = true := e
    simp only [Bool.and_eq_true, decide_eq_true_eq] at w
    refine ⟨(Bool.and_elim_left e), ?_, ?_, ?_, ?_⟩ <;> (try simp only [Machine.Reg.SW_CLAMP_ACK]) <;> omega
theorem loadTest : ∀ n vS vO t, Statement (.loadTest n vS vO t) := fun _ _ _ _ => of_time rfl rfl fun h => of_decide_eq_true (Bool.and_elim_right h)
theorem iselChange : ∀ b sel t, Statement (.iselChange b sel t) := fun _ _ _ => of_time rfl rfl fun h => of_decide_eq_true h
theorem halfRetired : ∀ n half t, Statement (.halfRetired n half t) := fun _ _ _ => of_time rfl rfl fun h => of_decide_eq_true h
theorem halvesLost : ∀ n t, Statement (.halvesLost n t) := fun _ _ => of_time rfl rfl fun h => of_decide_eq_true h
theorem stuckOn : ∀ n half ma t, Statement (.stuckOn n half ma t) := fun _ _ _ _ => of_time rfl rfl fun h => of_decide_eq_true (Bool.and_elim_right h)
theorem cycleFix : ∀ t, Statement (.cycleFix t) := fun _ => of_time rfl rfl fun h => of_decide_eq_true h
theorem cycleBoundary : ∀ t, Statement (.cycleBoundary t) := fun _ => of_time rfl rfl fun h => of_decide_eq_true h
theorem nop : ∀ o, Statement (.nop o) := fun _ => of_none rfl rfl
theorem startConv : ∀ o, Statement (.startConv o) := fun _ => of_none rfl rfl
theorem urgentConv : ∀ o, Statement (.urgentConv o) := fun _ => of_none rfl rfl
theorem latchResult : ∀ o, Statement (.latchResult o) := fun _ => of_none rfl rfl
theorem openPacket : ∀ o, Statement (.openPacket o) := fun _ => of_none rfl rfl
theorem pushResult : ∀ o, Statement (.pushResult o) := fun _ => of_none rfl rfl
theorem commitPacket : ∀ o, Statement (.commitPacket o) := fun _ => of_none rfl rfl
theorem applyOutput : ∀ o, Statement (.applyOutput o) := fun _ => of_none rfl rfl
theorem sampleInputs : ∀ o, Statement (.sampleInputs o) := fun _ => of_none rfl rfl
theorem syncFilters : ∀ o, Statement (.syncFilters o) := fun _ => of_none rfl rfl
theorem diagWindow : ∀ o, Statement (.diagWindow o) := fun _ => of_none rfl rfl
theorem markTime : ∀ o, Statement (.markTime o) := fun _ => of_none rfl rfl
theorem waitCycle : ∀ o, Statement (.waitCycle o) := fun _ => of_none rfl rfl
theorem sqSwap : ∀ r v, Statement (.sqSwap r v) := by
  intro r v
  exact of_write rfl rfl fun e => by
    have w : (r.wf && v < 2 ^ 8 : Bool) = true := e
    simp only [Bool.and_eq_true, decide_eq_true_eq] at w
    refine ⟨(Bool.and_elim_left e), ?_, ?_, ?_, ?_⟩ <;> (try simp only [Machine.Reg.SQ_SWAP]) <;> omega
theorem sqSwapCheckDone : ∀ t, Statement (.sqSwapCheckDone t) := fun _ => of_time rfl rfl fun h => of_decide_eq_true h
theorem guDetAck : ∀ r v, Statement (.guDetAck r v) := by
  intro r v
  exact of_write rfl rfl fun e => by
    have w : (r.wf && v < 2 ^ 8 : Bool) = true := e
    simp only [Bool.and_eq_true, decide_eq_true_eq] at w
    refine ⟨(Bool.and_elim_left e), ?_, ?_, ?_, ?_⟩ <;> (try simp only [Machine.Reg.GU_DET_ACK]) <;> omega
theorem quEnable : ∀ r q, Statement (.quEnable r q) := by
  intro r q
  exact of_write rfl rfl fun e => by
    have := q.isLt
    refine ⟨e, ?_, ?_, ?_, ?_⟩ <;> (try simp only [Machine.Reg.QU_ENABLE]) <;> omega
theorem quDisable : ∀ r q, Statement (.quDisable r q) := by
  intro r q
  exact of_write rfl rfl fun e => by
    have := q.isLt
    refine ⟨e, ?_, ?_, ?_, ?_⟩ <;> (try simp only [Machine.Reg.QU_ENABLE]) <;> omega
theorem quRead : ∀ r q, Statement (.quRead r q) := fun _ _ => of_time rfl rfl fun h => req_time h
theorem quRead3 : ∀ r q, Statement (.quRead3 r q) := fun _ _ => of_time rfl rfl fun h => req_time h
theorem mark : ∀ r q, Statement (.mark r q) := by
  intro r q
  exact of_write rfl rfl fun e => by
    have := q.isLt
    refine ⟨e, ?_, ?_, ?_, ?_⟩ <;> (try simp only [Machine.Reg.QU_CMD]) <;> omega
theorem rewind : ∀ r q, Statement (.rewind r q) := by
  intro r q
  exact of_write rfl rfl fun e => by
    have := q.isLt
    refine ⟨e, ?_, ?_, ?_, ?_⟩ <;> (try simp only [Machine.Reg.QU_CMD]) <;> omega
theorem release : ∀ r q, Statement (.release r q) := by
  intro r q
  exact of_write rfl rfl fun e => by
    have := q.isLt
    refine ⟨e, ?_, ?_, ?_, ?_⟩ <;> (try simp only [Machine.Reg.QU_CMD]) <;> omega
theorem flush : ∀ r q, Statement (.flush r q) := by
  intro r q
  exact of_write rfl rfl fun e => by
    have := q.isLt
    refine ⟨e, ?_, ?_, ?_, ?_⟩ <;> (try simp only [Machine.Reg.QU_CMD]) <;> omega
theorem ack : ∀ r q, Statement (.ack r q) := by
  intro r q
  exact of_write rfl rfl fun e => by
    have := q.isLt
    refine ⟨e, ?_, ?_, ?_, ?_⟩ <;> (try simp only [Machine.Reg.QU_CMD]) <;> omega
theorem quReleaseAt : ∀ r q p, Statement (.quReleaseAt r q p) := by
  intro r q p
  exact of_write rfl rfl fun e => by
    have w : (r.wf && p < 2 ^ 32 : Bool) = true := e
    simp only [Bool.and_eq_true, decide_eq_true_eq] at w
    have := q.isLt
    refine ⟨(Bool.and_elim_left e), ?_, ?_, ?_, ?_⟩ <;> (try simp only [Machine.Reg.QU_RELEASE_AT]) <;> omega
theorem quWrite : ∀ r q bytes, Statement (.quWrite r q bytes) := fun _ _ _ => of_time rfl rfl fun h => req_time (Bool.and_elim_left (Bool.and_elim_left h))
theorem quWriteEndCommit : ∀ r q, Statement (.quWriteEndCommit r q) := by
  intro r q
  exact of_write rfl rfl fun e => by
    have := q.isLt
    refine ⟨e, ?_, ?_, ?_, ?_⟩ <;> (try simp only [Machine.Reg.QU_WRITE_END]) <;> omega
theorem quWriteEndAbort : ∀ r q, Statement (.quWriteEndAbort r q) := by
  intro r q
  exact of_write rfl rfl fun e => by
    have := q.isLt
    refine ⟨e, ?_, ?_, ?_, ?_⟩ <;> (try simp only [Machine.Reg.QU_WRITE_END]) <;> omega
theorem spillTransfer : ∀ c t, Statement (.spillTransfer c t) := fun _ _ => of_time rfl rfl fun h => of_decide_eq_true h
theorem fillTransfer : ∀ c t, Statement (.fillTransfer c t) := fun _ _ => of_time rfl rfl fun h => of_decide_eq_true h
theorem writeBeatResume : ∀ q held t, Statement (.writeBeatResume q held t) := fun _ _ _ => of_time rfl rfl fun h => of_decide_eq_true (Bool.and_elim_right h)
theorem dmStart : ∀ r c, Statement (.dmStart r c) := by
  intro r c
  exact of_write rfl rfl fun e => by
    have := c.isLt
    refine ⟨e, ?_, ?_, ?_, ?_⟩ <;> (try simp only [Machine.Reg.DM_CTRL]) <;> omega
theorem dmStop : ∀ r c, Statement (.dmStop r c) := by
  intro r c
  exact of_write rfl rfl fun e => by
    have := c.isLt
    refine ⟨e, ?_, ?_, ?_, ?_⟩ <;> (try simp only [Machine.Reg.DM_CTRL]) <;> omega
theorem dmTrigger : ∀ r c, Statement (.dmTrigger r c) := by
  intro r c
  exact of_write rfl rfl fun e => by
    have := c.isLt
    refine ⟨e, ?_, ?_, ?_, ?_⟩ <;> (try simp only [Machine.Reg.DM_CTRL]) <;> omega
theorem captureCopy : ∀ c t, Statement (.captureCopy c t) := fun _ _ => of_time rfl rfl fun h => of_decide_eq_true h
theorem dmRdData : ∀ r c, Statement (.dmRdData r c) := fun _ _ => of_time rfl rfl fun h => req_time h
theorem xspiNoStrobe : ∀ nor t, Statement (.xspiNoStrobe nor t) := fun _ _ => of_time rfl rfl fun h => of_decide_eq_true h
theorem coefRepair : ∀ addr readable t, Statement (.coefRepair addr readable t) := fun _ _ _ => of_time rfl rfl fun h => of_decide_eq_true (Bool.and_elim_right h)
theorem scrub : ∀ mem reading corrected double t, Statement (.scrub mem reading corrected double t) := fun _ _ _ _ _ => of_time rfl rfl fun h => of_decide_eq_true (Bool.and_elim_right h)
theorem registerWrite : ∀ q, Statement (.registerWrite q) :=
  fun _ h => ⟨fun _ e => Option.some.inj e ▸ of_decide_eq_true (Bool.and_elim_right h), fun _ e => Option.some.inj e ▸ opWrite_wf h⟩
theorem echo : ∀ q, Statement (.echo q) := fun _ => of_time rfl rfl fun h => of_decide_eq_true (Bool.and_elim_right h)
theorem segmentedRead : ∀ q, Statement (.segmentedRead q) := fun _ => of_time rfl rfl fun h => of_decide_eq_true (Bool.and_elim_right h)
theorem segmentedWrite : ∀ q, Statement (.segmentedWrite q) :=
  fun _ h => ⟨fun _ e => Option.some.inj e ▸ of_decide_eq_true (Bool.and_elim_right h), fun _ e => Option.some.inj e ▸ opWrite_wf h⟩
theorem deferredComplete : ∀ t, Statement (.deferredComplete t) := fun _ => of_time rfl rfl fun h => of_decide_eq_true h
theorem txOpen : ∀ r v, Statement (.txOpen r v) := by
  intro r v
  exact of_write rfl rfl fun e => by
    have w : (r.wf && v < 2 ^ 8 : Bool) = true := e
    simp only [Bool.and_eq_true, decide_eq_true_eq] at w
    refine ⟨(Bool.and_elim_left e), ?_, ?_, ?_, ?_⟩ <;> (try simp only [Machine.Reg.TX_OPEN]) <;> omega
theorem txCommit : ∀ r n, Statement (.txCommit r n) := by
  intro r n
  exact of_write rfl rfl fun e => by
    have w : (r.wf && n < 2 ^ 32 : Bool) = true := e
    simp only [Bool.and_eq_true, decide_eq_true_eq] at w
    refine ⟨(Bool.and_elim_left e), ?_, ?_, ?_, ?_⟩ <;> (try simp only [Machine.Reg.TX_COMMIT]) <;> omega
theorem txCommitDone : ∀ t, Statement (.txCommitDone t) := fun _ => of_time rfl rfl fun h => of_decide_eq_true h
theorem txAbort : ∀ r n, Statement (.txAbort r n) := by
  intro r n
  exact of_write rfl rfl fun e => by
    have w : (r.wf && n < 2 ^ 32 : Bool) = true := e
    simp only [Bool.and_eq_true, decide_eq_true_eq] at w
    refine ⟨(Bool.and_elim_left e), ?_, ?_, ?_, ?_⟩ <;> (try simp only [Machine.Reg.TX_ABORT]) <;> omega
theorem txTimeout : ∀ n t, Statement (.txTimeout n t) := fun _ _ => of_time rfl rfl fun h => of_decide_eq_true (Bool.and_elim_right h)
theorem pvUnlock : ∀ r code, Statement (.pvUnlock r code) := by
  intro r code
  exact of_write rfl rfl fun e => by
    have w : (r.wf && code < 65536 : Bool) = true := e
    simp only [Bool.and_eq_true, decide_eq_true_eq] at w
    refine ⟨(Bool.and_elim_left e), ?_, ?_, ?_, ?_⟩ <;> (try simp only [Machine.Reg.PV_UNLOCK]) <;> omega
theorem pvLock : ∀ r v, Statement (.pvLock r v) := by
  intro r v
  exact of_write rfl rfl fun e => by
    have w : (r.wf && v < 2 ^ 8 : Bool) = true := e
    simp only [Bool.and_eq_true, decide_eq_true_eq] at w
    refine ⟨(Bool.and_elim_left e), ?_, ?_, ?_, ?_⟩ <;> (try simp only [Machine.Reg.PV_LOCK]) <;> omega
theorem pvServiceCode : ∀ r code, Statement (.pvServiceCode r code) := by
  intro r code
  exact of_write rfl rfl fun e => by
    have w : (r.wf && code < 65536 : Bool) = true := e
    simp only [Bool.and_eq_true, decide_eq_true_eq] at w
    refine ⟨(Bool.and_elim_left e), ?_, ?_, ?_, ?_⟩ <;> (try simp only [Machine.Reg.PV_SERVICE_CODE]) <;> omega
theorem pvTimeout : ∀ id t, Statement (.pvTimeout id t) := fun _ _ => of_time rfl rfl fun h => of_decide_eq_true (Bool.and_elim_right h)
theorem pvLockoutEnd : ∀ t, Statement (.pvLockoutEnd t) := fun _ => of_time rfl rfl fun h => of_decide_eq_true h
theorem cycleFrame : ∀ f, Statement (.cycleFrame f) := fun f => of_time rfl rfl fun h => by
  have w : f.wf = true := h
  simp only [Frame.wf, Bool.and_eq_true, decide_eq_true_eq] at w
  exact w.1.2
theorem delayFrame : ∀ portB copy num t, Statement (.delayFrame portB copy num t) := fun _ _ _ _ => of_time rfl rfl fun h => of_decide_eq_true (Bool.and_elim_right h)
theorem foreignFrame : ∀ portB fcsOk upstream t, Statement (.foreignFrame portB fcsOk upstream t) := fun _ _ _ _ => of_time rfl rfl fun h => of_decide_eq_true h
theorem portLinkLost : ∀ portB t, Statement (.portLinkLost portB t) := fun _ _ => of_time rfl rfl fun h => of_decide_eq_true h
theorem portLinkUp : ∀ portB t, Statement (.portLinkUp portB t) := fun _ _ => of_time rfl rfl fun h => of_decide_eq_true h
theorem loopReopen : ∀ portB t, Statement (.loopReopen portB t) := fun _ _ => of_time rfl rfl fun h => of_decide_eq_true h
theorem pdwExpired : ∀ t, Statement (.pdwExpired t) := fun _ => of_time rfl rfl fun h => of_decide_eq_true h
theorem spiRead : ∀ addr words cutShort tick t, Statement (.spiRead addr words cutShort tick t) := fun _ _ _ _ _ => of_time rfl rfl fun h => of_decide_eq_true (Bool.and_elim_right h)
theorem spiWrite : ∀ addr data cutShort t, Statement (.spiWrite addr data cutShort t) := fun _ _ _ _ => of_time rfl rfl fun h => of_decide_eq_true (Bool.and_elim_right h)
theorem ptValueLoRead : ∀ h tick t, Statement (.ptValueLoRead h tick t) := fun _ _ _ => of_time rfl rfl fun h => of_decide_eq_true (Bool.and_elim_right h)
theorem ptValueHiRead : ∀ h j tick t, Statement (.ptValueHiRead h j tick t) := fun _ _ _ _ => of_time rfl rfl fun h => of_decide_eq_true (Bool.and_elim_right h)
theorem ptStatusWrite : ∀ v t, Statement (.ptStatusWrite v t) := fun _ _ => of_time rfl rfl fun h => of_decide_eq_true (Bool.and_elim_right h)
theorem ptIrqAck : ∀ v t, Statement (.ptIrqAck v t) := fun _ _ => of_time rfl rfl fun h => of_decide_eq_true (Bool.and_elim_right h)
theorem ptMbCtrl : ∀ v t, Statement (.ptMbCtrl v t) := fun _ _ => of_time rfl rfl fun h => of_decide_eq_true (Bool.and_elim_right h)
theorem wdCheckin : ∀ w1 r id, Statement (.wdCheckin w1 r id) := by
  intro w1 r id
  cases w1
  · exact of_time rfl rfl fun e => req_time (Bool.and_elim_left e)
  · exact of_write rfl rfl fun e => by
      have w : (r.wf && id < 256 : Bool) = true := e
      simp only [Bool.and_eq_true, decide_eq_true_eq] at w
      refine ⟨(Bool.and_elim_left e), ?_, ?_, ?_, ?_⟩ <;> (try simp only [Machine.Reg.WD1_CHECKIN]) <;> omega
theorem wdKey1 : ∀ w1 r tick, Statement (.wdKey1 w1 r tick) := fun _ _ _ => of_time rfl rfl fun h => req_time (Bool.and_elim_left h)
theorem wdKey2 : ∀ w1 r tick, Statement (.wdKey2 w1 r tick) := fun _ _ _ => of_time rfl rfl fun h => req_time (Bool.and_elim_left h)
theorem wdWindowClose : ∀ w1 t, Statement (.wdWindowClose w1 t) := fun _ _ => of_time rfl rfl fun h => of_decide_eq_true h
theorem wdStage2 : ∀ w1 t, Statement (.wdStage2 w1 t) := fun _ _ => of_time rfl rfl fun h => of_decide_eq_true h
theorem wd1Enable : ∀ r, Statement (.wd1Enable r) := by
  intro r
  exact of_write rfl rfl fun e => by
    refine ⟨e, ?_, ?_, ?_, ?_⟩ <;> (try simp only [Machine.Reg.WD1_ENABLE]) <;> omega
theorem wd1Disable : ∀ r, Statement (.wd1Disable r) := by
  intro r
  exact of_write rfl rfl fun e => by
    refine ⟨e, ?_, ?_, ?_, ?_⟩ <;> (try simp only [Machine.Reg.WD1_ENABLE]) <;> omega
theorem wdoPulseEnd : ∀ t, Statement (.wdoPulseEnd t) := fun _ => of_time rfl rfl fun h => of_decide_eq_true h
theorem cnAdopt : ∀ r, Statement (.cnAdopt r) := by
  intro r
  exact of_write rfl rfl fun e => by
    refine ⟨e, ?_, ?_, ?_, ?_⟩ <;> (try simp only [Machine.Reg.CN_ADOPT]) <;> omega
theorem fold : ∀ t, Statement (.fold t) := fun _ => of_time rfl rfl fun h => of_decide_eq_true h
theorem lifeFlush : ∀ t, Statement (.lifeFlush t) := fun _ => of_time rfl rfl fun h => of_decide_eq_true h
theorem hwFlush : ∀ r, Statement (.hwFlush r) := by
  intro r
  exact of_write rfl rfl fun e => by
    refine ⟨e, ?_, ?_, ?_, ?_⟩ <;> (try simp only [Machine.Reg.HW_FLUSH]) <;> omega
theorem counterReport : ∀ b incs t, Statement (.counterReport b incs t) := fun _ _ _ => of_time rfl rfl fun h => of_decide_eq_true (Bool.and_elim_right h)
theorem ringRecord : ∀ year late t, Statement (.ringRecord year late t) := fun _ _ _ => of_time rfl rfl fun h => of_decide_eq_true (Bool.and_elim_right h)
theorem evRead : ∀ r, Statement (.evRead r) := fun _ => of_time rfl rfl fun h => req_time h
theorem calCompare : ∀ cal t, Statement (.calCompare cal t) := fun _ _ => of_time rfl rfl fun h => of_decide_eq_true (Bool.and_elim_right h)
theorem calFree : ∀ t, Statement (.calFree t) := fun _ => of_time rfl rfl fun h => of_decide_eq_true h
theorem calTimeWrite : ∀ r v, Statement (.calTimeWrite r v) := by
  intro r v
  exact of_write rfl rfl fun e => by
    have w : (r.wf && v < 2 ^ 64 : Bool) = true := e
    simp only [Bool.and_eq_true, decide_eq_true_eq] at w
    refine ⟨(Bool.and_elim_left e), ?_, ?_, ?_, ?_⟩ <;> (try simp only [Machine.Reg.CAL_TIME]) <;> omega
theorem erase : ∀ r, Statement (.erase r) := by
  intro r
  exact of_write rfl rfl fun e => by
    refine ⟨e, ?_, ?_, ?_, ?_⟩ <;> (try simp only [Machine.Reg.GR_HK_CMD]) <;> omega
theorem grHkData : ∀ r bytes, Statement (.grHkData r bytes) := fun _ _ => of_time rfl rfl fun h => req_time (Bool.and_elim_left (Bool.and_elim_left h))
theorem verify : ∀ r, Statement (.verify r) := by
  intro r
  exact of_write rfl rfl fun e => by
    refine ⟨e, ?_, ?_, ?_, ?_⟩ <;> (try simp only [Machine.Reg.GR_HK_CMD]) <;> omega
theorem swap : ∀ r, Statement (.swap r) := by
  intro r
  exact of_write rfl rfl fun e => by
    refine ⟨e, ?_, ?_, ?_, ?_⟩ <;> (try simp only [Machine.Reg.GR_HK_CMD]) <;> omega
theorem confirm : ∀ r, Statement (.confirm r) := by
  intro r
  exact of_write rfl rfl fun e => by
    refine ⟨e, ?_, ?_, ?_, ?_⟩ <;> (try simp only [Machine.Reg.GR_HK_CMD]) <;> omega
theorem cancel : ∀ r, Statement (.cancel r) := by
  intro r
  exact of_write rfl rfl fun e => by
    refine ⟨e, ?_, ?_, ?_, ?_⟩ <;> (try simp only [Machine.Reg.GR_HK_CMD]) <;> omega
theorem hkSwapReady : ∀ ms t, Statement (.hkSwapReady ms t) := fun _ _ => of_time rfl rfl fun h => of_decide_eq_true (Bool.and_elim_right h)
theorem hkSwapTimeout : ∀ t, Statement (.hkSwapTimeout t) := fun _ => of_time rfl rfl fun h => of_decide_eq_true h
theorem hkWaitTimeout : ∀ t, Statement (.hkWaitTimeout t) := fun _ => of_time rfl rfl fun h => of_decide_eq_true h
theorem hkConfirmTimeout : ∀ t, Statement (.hkConfirmTimeout t) := fun _ => of_time rfl rfl fun h => of_decide_eq_true h
theorem calStart : ∀ r, Statement (.calStart r) := by
  intro r
  exact of_write rfl rfl fun e => by
    refine ⟨e, ?_, ?_, ?_, ?_⟩ <;> (try simp only [Machine.Reg.GR_CAL_CMD]) <;> omega
theorem calLow : ∀ r, Statement (.calLow r) := by
  intro r
  exact of_write rfl rfl fun e => by
    refine ⟨e, ?_, ?_, ?_, ?_⟩ <;> (try simp only [Machine.Reg.GR_CAL_CMD]) <;> omega
theorem calHigh : ∀ r, Statement (.calHigh r) := by
  intro r
  exact of_write rfl rfl fun e => by
    refine ⟨e, ?_, ?_, ?_, ?_⟩ <;> (try simp only [Machine.Reg.GR_CAL_CMD]) <;> omega
theorem calApply : ∀ r, Statement (.calApply r) := by
  intro r
  exact of_write rfl rfl fun e => by
    refine ⟨e, ?_, ?_, ?_, ?_⟩ <;> (try simp only [Machine.Reg.GR_CAL_CMD]) <;> omega
theorem calAbort : ∀ r, Statement (.calAbort r) := by
  intro r
  exact of_write rfl rfl fun e => by
    refine ⟨e, ?_, ?_, ?_, ?_⟩ <;> (try simp only [Machine.Reg.GR_CAL_CMD]) <;> omega
theorem calRestore : ∀ r, Statement (.calRestore r) := by
  intro r
  exact of_write rfl rfl fun e => by
    refine ⟨e, ?_, ?_, ?_, ?_⟩ <;> (try simp only [Machine.Reg.GR_CAL_CMD]) <;> omega
theorem calGraftTimeout : ∀ t, Statement (.calGraftTimeout t) := fun _ => of_time rfl rfl fun h => of_decide_eq_true h
theorem grUcStart : ∀ r b, Statement (.grUcStart r b) := by
  intro r b
  exact of_write rfl rfl fun e => by
    have := b.isLt
    refine ⟨e, ?_, ?_, ?_, ?_⟩ <;> (try simp only [Machine.Reg.GR_UC_START]) <;> omega
theorem ucSwitched : ∀ b version ms t, Statement (.ucSwitched b version ms t) := fun _ _ _ _ => of_time rfl rfl fun h => of_decide_eq_true (Bool.and_elim_right h)
theorem ucReverted : ∀ b ms t, Statement (.ucReverted b ms t) := fun _ _ _ => of_time rfl rfl fun h => of_decide_eq_true (Bool.and_elim_right h)
theorem ucAbandoned : ∀ b t, Statement (.ucAbandoned b t) := fun _ _ => of_time rfl rfl fun h => of_decide_eq_true h
theorem vinValid : ∀ t, Statement (.vinValid t) := fun _ => of_time rfl rfl fun h => of_decide_eq_true h
theorem pwrWarnSet : ∀ t, Statement (.pwrWarnSet t) := fun _ => of_time rfl rfl fun h => of_decide_eq_true h
theorem pwrWarnCleared : ∀ minMv us t, Statement (.pwrWarnCleared minMv us t) := fun _ _ _ => of_time rfl rfl fun h => of_decide_eq_true (Bool.and_elim_right h)
theorem brownOut : ∀ t, Statement (.brownOut t) := fun _ => of_time rfl rfl fun h => of_decide_eq_true h
theorem vinAbsent : ∀ t, Statement (.vinAbsent t) := fun _ => of_time rfl rfl fun h => of_decide_eq_true h
theorem vbakMeasure : ∀ mv t, Statement (.vbakMeasure mv t) := fun _ _ => of_time rfl rfl fun h => of_decide_eq_true (Bool.and_elim_right h)
theorem rstn : ∀ t, Statement (.rstn t) := fun _ => of_time rfl rfl fun h => of_decide_eq_true h
theorem clockLoss : ∀ t, Statement (.clockLoss t) := fun _ => of_time rfl rfl fun h => of_decide_eq_true h
theorem pwrResetCmd : ∀ r v, Statement (.pwrResetCmd r v) := by
  intro r v
  exact of_write rfl rfl fun e => by
    have w : (r.wf && v < 2 ^ 16 : Bool) = true := e
    simp only [Bool.and_eq_true, decide_eq_true_eq] at w
    refine ⟨(Bool.and_elim_left e), ?_, ?_, ?_, ?_⟩ <;> (try simp only [Machine.Reg.PWR_RESET_CMD]) <;> omega
theorem crownStart : ∀ vio vbak nor testHigh psram bank0 bank1 failed t,
    Statement (.crownStart vio vbak nor testHigh psram bank0 bank1 failed t) := fun _ _ _ _ _ _ _ _ _ => of_time rfl rfl fun h => of_decide_eq_true (Bool.and_elim_right h)
theorem branchStart : ∀ b t, Statement (.branchStart b t) := fun _ _ => of_time rfl rfl fun h => of_decide_eq_true h
theorem vfbValid : ∀ b t, Statement (.vfbValid b t) := fun _ _ => of_time rfl rfl fun h => of_decide_eq_true h
theorem underVoltageLock : ∀ b vf t, Statement (.underVoltageLock b vf t) := fun _ _ _ => of_time rfl rfl fun h => of_decide_eq_true (Bool.and_elim_right h)
theorem lockReleased : ∀ b ms t, Statement (.lockReleased b ms t) := fun _ _ _ => of_time rfl rfl fun h => of_decide_eq_true (Bool.and_elim_right h)
theorem branchOff : ∀ b t, Statement (.branchOff b t) := fun _ _ => of_time rfl rfl fun h => of_decide_eq_true h
theorem vfWarn : ∀ b set vf t, Statement (.vfWarn b set vf t) := fun _ _ _ _ => of_time rfl rfl fun h => of_decide_eq_true (Bool.and_elim_right h)
theorem vfHigh : ∀ b set vf t, Statement (.vfHigh b set vf t) := fun _ _ _ _ => of_time rfl rfl fun h => of_decide_eq_true (Bool.and_elim_right h)
theorem descent : ∀ t, Statement (.descent t) := fun _ => of_time rfl rfl fun h => of_decide_eq_true h
theorem wake : ∀ source t, Statement (.wake source t) := fun _ _ => of_time rfl rfl fun h => of_decide_eq_true (Bool.and_elim_right h)
theorem txsupCurrentLimit : ∀ n active t, Statement (.txsupCurrentLimit n active t) := fun _ _ _ => of_time rfl rfl fun h => of_decide_eq_true h
theorem lineFaultComparator : ∀ n short active t, Statement (.lineFaultComparator n short active t) := fun _ _ _ _ => of_time rfl rfl fun h => of_decide_eq_true h
theorem watchComplianceJudgement : ∀ h satNs satEver t, Statement (.watchComplianceJudgement h satNs satEver t) := fun _ _ _ _ => of_time rfl rfl fun h => of_decide_eq_true (Bool.and_elim_right h)
theorem housekeepingCoreResetEnd : ∀ t, Statement (.housekeepingCoreResetEnd t) := fun _ => of_time rfl rfl fun h => of_decide_eq_true h
theorem vbakLost : ∀ t, Statement (.vbakLost t) := fun _ => of_time rfl rfl fun h => of_decide_eq_true h

end Sys2Proof.Laws.Operands
end

