-- ==== Sys2Proof/Laws/Requests.lean ====
section
/-!
SUPPORT. A served request once and for all (R256 to R268): what the engine's own bookkeeping does around the effect of a WRITE outside a
transaction.
-/
namespace Sys2Proof.Machine

theorem find_map_keep {α : Type} (l : List α) (p : α → Bool) (g : α → α) (h : ∀ a, p (g a) = p a) :
    (l.map g).find? p = (l.find? p).map g := by
  induction l with
  | nil => rfl
  | cons a l ih => simp only [List.map_cons, List.find?_cons, h]; cases p a <;> simp [ih]

/-- A requester's record after a change of one record. -/
theorem requester_modReq (d : Dev) (id : Nat) (f : Requester → Requester) (hf : ∀ r, (f r).id = r.id) (j : Nat) :
    (d.modReq id f).requester j = (d.requester j).map fun r => if r.id = id then f r else r :=
  find_map_keep d.reqs _ _ fun r => by by_cases h : r.id = id <;> simp [h, hf]

theorem requester_id {d : Dev} {id : Nat} {r : Requester} (h : d.requester id = some r) : r.id = id := by
  simpa using List.find?_some h

theorem requester_modReq_self (d : Dev) (id : Nat) (f : Requester → Requester) (hf : ∀ r, (f r).id = r.id) :
    (d.modReq id f).requester id = (d.requester id).map f := by
  rw [requester_modReq d id f hf]
  cases h : d.requester id with
  | none => rfl
  | some r => simp [requester_id h]

theorem requester_modReq_other (d : Dev) (id : Nat) (f : Requester → Requester) (hf : ∀ r, (f r).id = r.id) (j : Nat) (hj : j ≠ id) :
    (d.modReq id f).requester j = d.requester j := by
  rw [requester_modReq d id f hf]
  cases h : d.requester j with
  | none => rfl
  | some r => simp [requester_id h, hj]

/-- The record of a WRITE of a named requester passes checks 1 and 2. -/
theorem malformed_writeReq (r : Req) (key hnd len v : Nat) (hid : r.id ≠ 0) (hlen : len ≤ 16) :
    malformed (writeReq r key hnd len v) = none := by
  simp [malformed, writeReq, OP_WRITE, hid]; omega

/-- The device at the instant of a request, its answer cleared. -/
def Dev.asked (d : Dev) (q : Request) : Dev := { d with now := q.t, resp := {} }

theorem asked_rd (d : Dev) (q : Request) (k : Nat) : (d.asked q).rd k = d.rd k := rfl
theorem asked_crownUp (d : Dev) (q : Request) : (d.asked q).crownUp = d.crownUp := rfl

/-- The device that the requester's record and the idle times are brought up to date in. -/
def Dev.listed (d : Dev) (q : Request) : Dev :=
  let d := (d.asked q).touch q.id
  match d.requester q.id with
  | some _ => d
  | none => d.enroll q.id

theorem listed_cases (d : Dev) (q : Request) :
    d.listed q = (d.asked q).touch q.id ∨ d.listed q = ((d.asked q).touch q.id).enroll q.id := by
  unfold Dev.listed
  generalize (d.asked q).touch q.id = D
  simp only
  cases D.requester q.id
  · exact .inr rfl
  · exact .inl rfl

/-- A requester's record once a request ends its other transfers (R260). -/
def requestEnds (q : Request) (r : Requester) : Requester :=
  let same := fun (p : Nat × Nat) => p.1 = q.ix && p.2 = q.sub
  { r with
    snap := if q.op = OP_READ ∧ 0 < q.segment then r.snap.filter fun s => same (s.1, s.2.1) else none,
    collect := if q.op = OP_ECHO then r.collect else r.collect.filter fun c => same (c.1, c.2.1) }

theorem endTransfers_eq (d : Dev) (q : Request) : d.endTransfers q = d.modReq q.id (requestEnds q) := rfl

/-- The device that the checks of a new request find. -/
def Dev.arrived (d : Dev) (q : Request) : Dev := (d.listed q).endTransfers q

theorem touch_requester (d : Dev) (q : Request) :
    ((d.asked q).touch q.id).requester q.id = (d.requester q.id).map fun r => { r with last := q.t } :=
  requester_modReq_self (d.asked q) q.id (fun r => { r with last := q.t }) fun _ => rfl

/-- A request at its instant, the engine's parts named. -/
theorem request_eq (d : Dev) (e : Env) (q : Request) : (d.at q.t).request e q =
    (if !(d.asked q).crownUp ∨ (d.asked q).rd Reg.PL_RUNG ≠ 0 ∨ q.op = 0 then d.asked q
    else
      let d := (d.asked q).touch q.id
      match malformed q with
      | some a => (d.when (q.op = OP_WRITE && q.total ≠ 0) (·.dropCollect q.id)).reply q a
      | none =>
        if q.id = 0 then (d.answered e q).1
        else match d.requester q.id with
          | some r => d.tracked e q r
          | none =>
            if d.reqs.length < 16 then (d.enroll q.id).runNew e q
            else match d.evictable with
              | none => d.reply q { status := BUSY, detail := 2 }
              | some id => ((d.evict id).enroll q.id).runNew e q) := rfl

/-- A new request is carried out on the arrived device. -/
theorem request_new (d : Dev) (e : Env) (q : Request) (h : d.serves q.id q.seq) (hm : malformed q = none) (hop : q.op ≠ 0) :
    (d.at q.t).request e q = (d.listed q).runNew e q := by
  obtain ⟨h1, h2, h3, h4, h5⟩ := h
  have ht := touch_requester d q
  rw [request_eq, if_neg (by simp [asked_crownUp, asked_rd, h1, h2, hop])]
  simp only [hm]
  rw [if_neg h4]
  unfold Dev.listed
  generalize hD : (d.asked q).touch q.id = D at *
  have hlen : D.reqs.length = d.reqs.length := by
    rw [← hD]; simp [Dev.touch, Dev.modReq, Dev.asked]
  simp only [ht]
  cases hr : d.requester q.id with
  | none =>
    simp only [Dev.isNew, hr] at h5
    simp only [Option.map_none]
    rw [if_pos (by omega)]
  | some r =>
    simp only [Dev.isNew, hr] at h5
    simp only [Option.map_some, Dev.tracked, h5.1]
    cases hn : r.newest with
    | none => simp
    | some n =>
      have := h5.2
      simp only [hn] at this
      simp [this]

theorem enroll_requester (d : Dev) (id j : Nat) :
    (d.enroll id).requester j = (d.requester j).or (if id = j then some { id := id, last := d.now } else none) := by
  unfold Dev.requester Dev.enroll
  rw [List.find?_append]
  by_cases h : id = j <;> simp [h]

theorem listed_requester (d : Dev) (q : Request) :
    ∃ r, (d.listed q).requester q.id = some r ∧ r.last = q.t ∧ r.service = d.serviceOf q.id := by
  have ht := touch_requester d q
  have hn : ((d.asked q).touch q.id).now = q.t := rfl
  unfold Dev.listed Dev.serviceOf
  generalize (d.asked q).touch q.id = D at *
  cases hr : d.requester q.id with
  | none =>
    rw [hr] at ht
    exact ⟨{ id := q.id, last := D.now }, by simp [ht, enroll_requester], hn, rfl⟩
  | some r =>
    rw [hr] at ht
    exact ⟨{ r with last := q.t }, by simp [ht], rfl, rfl⟩

theorem listed_other (d : Dev) (q : Request) (j : Nat) (hj : j ≠ q.id) : (d.listed q).requester j = d.requester j := by
  have ht : ((d.asked q).touch q.id).requester j = d.requester j :=
    requester_modReq_other (d.asked q) q.id (fun r => { r with last := q.t }) (fun _ => rfl) j hj
  unfold Dev.listed
  generalize (d.asked q).touch q.id = D at *
  cases hr : D.requester q.id with
  | some _ => simpa [hr] using ht
  | none => simp [hr, enroll_requester, ht, Ne.symm hj]

theorem arrived_requester (d : Dev) (q : Request) :
    ∃ r, (d.arrived q).requester q.id = some r ∧ r.last = q.t ∧ r.service = d.serviceOf q.id := by
  obtain ⟨r, h, hl, hs⟩ := listed_requester d q
  refine ⟨requestEnds q r, ?_, hl, hs⟩
  unfold Dev.arrived
  rw [endTransfers_eq, requester_modReq_self _ _ (requestEnds q) fun _ => rfl, h]
  rfl

theorem arrived_other (d : Dev) (q : Request) (j : Nat) (hj : j ≠ q.id) : (d.arrived q).requester j = d.requester j := by
  unfold Dev.arrived
  rw [endTransfers_eq, requester_modReq_other _ _ (requestEnds q) (fun _ => rfl) j hj, listed_other d q j hj]

/-- Arriving changes the bookkeeping alone. -/
theorem arrived_eq (d : Dev) (q : Request) : ∃ rs,
    d.arrived q = { d with now := q.t, resp := {}, reqs := rs, txns := (d.used q).txns } := by
  unfold Dev.arrived
  rw [endTransfers_eq]
  rcases listed_cases d q with h | h <;> rw [h] <;> exact ⟨_, rfl⟩

theorem arrived_openTxn (d : Dev) (q : Request) (h : d.openTxn q.id = none) : (d.arrived q).openTxn q.id = none := by
  obtain ⟨rs, he⟩ := arrived_eq d q
  rw [he]
  unfold Dev.openTxn at *
  simp only [Dev.used, List.find?_map, Option.map_eq_none_iff, List.find?_eq_none] at *
  intro x hx
  have := h x hx
  simp only [Function.comp]
  split <;> simpa using this

theorem arrived_service (d : Dev) (q : Request) : (d.arrived q).serviceOf q.id = d.serviceOf q.id := by
  obtain ⟨r, h, _, hs⟩ := arrived_requester d q
  rw [← hs]
  simp [Dev.serviceOf, h]

/-- A requester's record with one more response held (R265). -/
def Requester.kept (q : Request) (p : Resp) (r : Requester) : Requester :=
  let held := r.held ++ [(q.seq, p)]
  { r with
    held := held.drop (held.length - 32),
    newest := match r.newest with
      | none => some q.seq
      | some n => some (if (q.seq + 65536 - n) % 65536 ≤ 32767 then q.seq else n) }

theorem hold_eq (d : Dev) (q : Request) : d.hold q = d.modReq q.id (Requester.kept q d.resp) := rfl

theorem kept_mem (q : Request) (p : Resp) (r : Requester) : (q.seq, p) ∈ (r.kept q p).held := by
  simp only [Requester.kept, List.length_append, List.length_singleton]
  rw [List.drop_append_of_le_length (by omega)]
  simp

/-- A served WRITE that is not turned away for want of room: what its effect on the arrived device says, the command does. -/
theorem obeys_write {c : Instr} {s : State} {q : Request} {a : Answer} {x D : Dev}
    (hc : exec c s = s.ask q) (hs : s.dev.serves q.id q.seq) (hm : malformed q = none) (hop : q.op = OP_WRITE) (htot : q.total = 0)
    (hw : (s.dev.arrived q).writeValue s.worn q q.len (q.data % 2 ^ (8 * q.len)) = (x, a))
    (ha : a.status ≠ BUSY) (hx : x.aside = D.aside) (hreq : x.reqs = (s.dev.arrived q).reqs) (hnow : x.now = q.t)
    (hep : x.rd Reg.DR_EPOCH = s.dev.rd Reg.DR_EPOCH) : Obeys c s q a D := by
  have hop' : q.op ≠ 0 := by rw [hop]; decide
  have hmode : (s.dev.arrived q).mode ≠ INIT := by
    obtain ⟨rs, he⟩ := arrived_eq s.dev q
    rw [he]; exact hs.2.2.1
  have hcarry : (s.dev.listed q).carryOut ⟨s.ps, s.worn⟩ q = (x, a) := by
    simp only [Dev.carryOut]
    rw [if_neg (by rw [hop]; decide)]
    rw [if_neg (by
      have : ¬ ((s.dev.listed q).endTransfers q).mode = INIT := hmode
      simp [this])]
    rw [if_neg (by rw [hop]; decide), if_pos htot]
    exact hw
  have hrun : (s.dev.at q.t).request ⟨s.ps, s.worn⟩ q = (x.reply q a).hold q := by
    rw [request_new s.dev _ q hs hm hop', Dev.runNew, Dev.answered, hcarry]
    simp [ha]
  refine ⟨{ s with dev := (x.reply q a).hold q }, ?_, ⟨rfl, rfl, rfl⟩, ⟨?_, ?_, ?_, ?_⟩, ?_⟩
  · rw [hc, State.ask, State.run, hrun]
  · simpa [Dev.hold, Dev.modReq, Dev.reply, ha, Dev.when] using hnow
  · simp [Dev.hold, Dev.modReq, Dev.reply, ha, Dev.when, Dev.respond, hep]
  · have hfind : (x.reply q a).requester q.id = (s.dev.arrived q).requester q.id := by
      simp [Dev.requester, Dev.reply, ha, Dev.when, hreq]
    obtain ⟨r, hr, hl, _⟩ := arrived_requester s.dev q
    rw [hold_eq, requester_modReq_self _ _ (Requester.kept q _) fun _ => rfl, hfind, hr]
    exact ⟨_, rfl, kept_mem _ _ _, hl⟩
  · intro id hid
    rw [hold_eq, requester_modReq_other _ _ (Requester.kept q _) (fun _ => rfl) id hid]
    have : (x.reply q a).requester id = (s.dev.arrived q).requester id := by
      simp [Dev.requester, Dev.reply, ha, Dev.when, hreq]
    rw [this, arrived_other s.dev q id hid]
  · rw [← hx]
    simp [Dev.aside, Dev.hold, Dev.modReq, Dev.reply, ha, Dev.when]

end Sys2Proof.Machine
end

