-- ==== Sys2Proof/Tests/Slice0.lean ====
section
/-!
SUPPORT. Tests: an ill-formed term for each check of WellFormed, states that meet the hypotheses of each obligation, and steps whose results
the spec's tables and formulas give.
-/
namespace Sys2Proof.Tests
set_option Elab.async false
open Sys2Proof.Machine

def okReq : Req := ⟨1, 0, 0⟩
def okRequest : Request := { id := 1, seq := 0, op := 2, len := 1, ix := 0x0200, sub := 2 }
def okStep : StepOp := { idx := 0, slot := 0 }
def badRequest : Request := { okRequest with len := 256 }
def badStep : StepOp := { okStep with idx := 1024 }
def badMeas : WinMeas := { nP := 2 ^ 32 }
def badFrame : Frame := { hops := 256 }
def badInc : LifeInc := { chan := 0, onTime := 2 ^ 32 }

/-- Well-formed terms, one of every constructor. -/
def good0 : List Instr :=
  [.apply 0 0 0, .posture 0 0 0, .stage 0 0 0, .conv 0 0 0, .config 0 0 0, .heartbeat 0 .toCrown 0 0, .protEvent 0 0 0, .status 0 0 0 0 0 0 0 0 0,
   .resultWord 0 0 .p 0, .bitstream 0 0 ⟨.p, false⟩ 0, .branchLinkLost 0 0, .crownLinkLost 0 0, .holdEnd 0 0, .crownHoldEnd 0 0, .linkUp 0 0,
   .branchConfigured 0 0, .brRelease okReq 0, .hmCreate okReq 0, .createComplete 0, .hmDestroy okReq 0, .destroyComplete 0, .arm okReq 0,
   .start okReq 0, .stop okReq 0, .safe okReq 0, .resume okReq 0, .clear okReq 0, .goPreop okReq, .goOperate okReq, .devSafe okReq,
   .devResume okReq, .hold okReq, .enterService okReq, .leaveService okReq, .pupCodeWrite okReq false 0 0, .pupWriteDone 0, .restoreComplete 0,
   .windowEnd 0 {} 0, .fastBlockEnd 0 {} 0, .mainsTimeout 0 0]

/-- Well-formed terms, one of every constructor. -/
def good1 : List Instr :=
  [.refReady 0 0, .refinFault 0 0 0, .refinRestored 0 0 0, .calibrationCycle 0 0 0 0 0, .cvUrgentReq okReq 0,
   .urgentResult 0 {} 0, .monitorUrgentDone 0 0 0, .crDataWrite okReq 0, .crDataRead okReq, .bankDescriptorWrite okReq 0 0 1 0, .bkLoad okReq 0 0,
   .bkLoadComplete 0, .fiBankReq okReq 0 0, .syncLandEdge false 0, .limiterAct 0 0 0, .txsupLimitTimeout 0 0, .txsupOffEnd 0 0,
   .lpComplianceAck okReq 0, .trimWrite okReq 0 false 0, .tbEnable okReq, .tbEnableTimeout 0, .buttonPress false false 0, .buttonRepeat false 0,
   .buttonRelease 0, .levelRawChange 0 false 0, .levelEdgeAccepted 0 0, .lineFaultDeclared 0 false 0 0, .lineFaultEnd 0 0 0,
   .lvCountClear okReq 0, .pwmPeriodStart 0 0 0, .overcurrentTrip 0 0 0, .shortCircuit 0 0, .thermalTrip 0 0 0, .cool 0 0 0,
   .tempWarn 0 false 0 0 0, .attemptSuccess 0 0, .tLimExpiry 0 0 0, .retryGapEnd 0 0 0, .retryRestore 0 0, .clampEvent 0 0 0 0 0]

/-- Well-formed terms, one of every constructor. -/
def good2 : List Instr :=
  [.swClampAck okReq 0, .loadTest 0 0 0 0, .iselChange 0 0 0, .halfRetired 0 false 0, .halvesLost 0 0, .stuckOn 0 false 0 0, .cycleFix 0,
   .cycleBoundary 0, .nop okStep, .startConv okStep, .urgentConv okStep, .latchResult okStep, .openPacket okStep, .pushResult okStep,
   .commitPacket okStep, .applyOutput okStep, .sampleInputs okStep, .syncFilters okStep, .diagWindow okStep, .markTime okStep, .waitCycle okStep,
   .sqSwap okReq 0, .sqSwapCheckDone 0, .guDetAck okReq 0, .quEnable okReq 0, .quDisable okReq 0, .quRead okReq 0, .quRead3 okReq 0,
   .mark okReq 0, .rewind okReq 0, .release okReq 0, .flush okReq 0, .ack okReq 0, .quReleaseAt okReq 0 0, .quWrite okReq 0 [],
   .quWriteEndCommit okReq 0, .quWriteEndAbort okReq 0, .spillTransfer 0 0, .fillTransfer 0 0, .writeBeatResume 0 0 0]

/-- Well-formed terms, one of every constructor. -/
def good3 : List Instr :=
  [.dmStart okReq 0, .dmStop okReq 0, .dmTrigger okReq 0, .captureCopy 0 0, .dmRdData okReq 0, .xspiNoStrobe false 0, .coefRepair 0 false 0,
   .scrub 0 false 0 [] 0, .registerWrite okRequest, .echo okRequest, .segmentedRead okRequest, .segmentedWrite okRequest, .deferredComplete 0,
   .txOpen okReq 0, .txCommit okReq 0, .txCommitDone 0, .txAbort okReq 0, .txTimeout 0 0, .pvUnlock okReq 0, .pvLock okReq 0,
   .pvServiceCode okReq 0, .pvTimeout 0 0, .pvLockoutEnd 0, .cycleFrame {}, .delayFrame false false 0 0, .foreignFrame false false false 0,
   .portLinkLost false 0, .portLinkUp false 0, .loopReopen false 0, .pdwExpired 0, .spiRead 0 0 false 0 0, .spiWrite 0 [] false 0,
   .ptValueLoRead 0 0 0, .ptValueHiRead 0 0 0 0, .ptStatusWrite 0 0, .ptIrqAck 0 0, .ptMbCtrl 0 0, .wdCheckin false okReq 0,
   .wdKey1 false okReq 0, .wdKey2 false okReq 0]

/-- Well-formed terms, one of every constructor. -/
def good4 : List Instr :=
  [.wdWindowClose false 0, .wdStage2 false 0, .wd1Enable okReq, .wd1Disable okReq, .wdoPulseEnd 0, .cnAdopt okReq, .fold 0, .lifeFlush 0,
   .hwFlush okReq, .counterReport 0 [] 0, .ringRecord 0 false 0, .evRead okReq, .calCompare 0 0, .calFree 0, .calTimeWrite okReq 0, .erase okReq,
   .grHkData okReq [], .verify okReq, .swap okReq, .confirm okReq, .cancel okReq, .hkSwapReady 0 0, .hkSwapTimeout 0, .hkWaitTimeout 0,
   .hkConfirmTimeout 0, .calStart okReq, .calLow okReq, .calHigh okReq, .calApply okReq, .calAbort okReq, .calRestore okReq, .calGraftTimeout 0,
   .grUcStart okReq 0, .ucSwitched 0 0 0 0, .ucReverted 0 0 0, .ucAbandoned 0 0, .vinValid 0, .pwrWarnSet 0, .pwrWarnCleared 0 0 0, .brownOut 0]

/-- Well-formed terms, one of every constructor. -/
def good5 : List Instr :=
  [.vinAbsent 0, .vbakMeasure 0 0, .rstn 0, .clockLoss 0, .pwrResetCmd okReq 0, .crownStart 0 0 none false 0 false false [] 0, .branchStart 0 0,
   .vfbValid 0 0, .underVoltageLock 0 0 0, .lockReleased 0 0 0, .branchOff 0 0, .vfWarn 0 false 0 0, .vfHigh 0 false 0 0, .descent 0, .wake 0 0,
   .txsupCurrentLimit 0 false 0, .lineFaultComparator 0 false false 0, .watchComplianceJudgement 0 0 false 0, .housekeepingCoreResetEnd 0,
   .vbakLost 0]

/-- For every check of every constructor a term that fails it alone. -/
def bad0 : List Instr :=
  [.apply 0 0 (2 ^ 64), .posture 0 0 (2 ^ 64), .stage 0 0 (2 ^ 64), .conv 0 0 (2 ^ 64), .config 0 0 (2 ^ 64), .heartbeat 0 .toCrown 0 (2 ^ 64),
   .protEvent 0 0 (2 ^ 64), .status 0 0 65536 0 0 0 0 0 0, .status 0 0 0 (2 ^ 15) 0 0 0 0 0, .status 0 0 0 0 (2 ^ 15) 0 0 0 0,
   .status 0 0 0 0 0 (2 ^ 15) 0 0 0, .status 0 0 0 0 0 0 (2 ^ 15) 0 0, .status 0 0 0 0 0 0 0 (2 ^ 15) 0, .status 0 0 0 0 0 0 0 0 (2 ^ 64),
   .resultWord 0 0 .p (2 ^ 64), .bitstream 0 0 ⟨.p, false⟩ (2 ^ 64), .branchLinkLost 0 (2 ^ 64), .crownLinkLost 0 (2 ^ 64), .holdEnd 0 (2 ^ 64),
   .crownHoldEnd 0 (2 ^ 64), .linkUp 0 (2 ^ 64), .branchConfigured 0 (2 ^ 64), .brRelease ⟨256, 0, 0⟩ 0, .brRelease okReq 16,
   .hmCreate ⟨256, 0, 0⟩ 0, .hmCreate okReq (2 ^ 32), .createComplete (2 ^ 64), .hmDestroy ⟨256, 0, 0⟩ 0, .hmDestroy okReq 65536,
   .destroyComplete (2 ^ 64), .arm ⟨256, 0, 0⟩ 0, .arm okReq 65536, .start ⟨256, 0, 0⟩ 0, .start okReq 65536, .stop ⟨256, 0, 0⟩ 0,
   .stop okReq 65536, .safe ⟨256, 0, 0⟩ 0, .safe okReq 65536, .resume ⟨256, 0, 0⟩ 0, .resume okReq 65536]

/-- For every check of every constructor a term that fails it alone. -/
def bad1 : List Instr :=
  [.clear ⟨256, 0, 0⟩ 0, .clear okReq 65536, .goPreop ⟨256, 0, 0⟩, .goOperate ⟨256, 0, 0⟩, .devSafe ⟨256, 0, 0⟩, .devResume ⟨256, 0, 0⟩,
   .hold ⟨256, 0, 0⟩, .enterService ⟨256, 0, 0⟩, .leaveService ⟨256, 0, 0⟩, .pupCodeWrite ⟨256, 0, 0⟩ false 0 0,
   .pupCodeWrite okReq false 0 (2 ^ 32), .pupWriteDone (2 ^ 64), .restoreComplete (2 ^ 64), .windowEnd 0 badMeas 0, .windowEnd 0 {} (2 ^ 64),
   .fastBlockEnd 0 badMeas 0, .fastBlockEnd 0 {} (2 ^ 64), .mainsTimeout 0 (2 ^ 64), .refReady 0 (2 ^ 64), .refinFault 0 65536 0,
   .refinFault 0 0 (2 ^ 64), .refinRestored 0 65536 0, .refinRestored 0 0 (2 ^ 64), .calibrationCycle 0 (2 ^ 23) 0 0 0,
   .calibrationCycle 0 0 (2 ^ 23) 0 0, .calibrationCycle 0 0 0 (2 ^ 23) 0, .calibrationCycle 0 0 0 0 (2 ^ 64), .cvUrgentReq ⟨256, 0, 0⟩ 0, .cvUrgentReq okReq 65536, .urgentResult 0 badMeas 0,
   .urgentResult 0 {} (2 ^ 64), .monitorUrgentDone 0 (2 ^ 31) 0, .monitorUrgentDone 0 0 (2 ^ 64), .crDataWrite ⟨256, 0, 0⟩ 0,
   .crDataWrite okReq (2 ^ 32), .crDataRead ⟨256, 0, 0⟩, .bankDescriptorWrite ⟨256, 0, 0⟩ 0 0 1 0, .bankDescriptorWrite okReq 0 0 0 0,
   .bankDescriptorWrite okReq 0 0 8 0, .bankDescriptorWrite okReq 0 0 1 (2 ^ 16)]

/-- For every check of every constructor a term that fails it alone. -/
def bad2 : List Instr :=
  [.bkLoad ⟨256, 0, 0⟩ 0 0, .bkLoadComplete (2 ^ 64), .fiBankReq ⟨256, 0, 0⟩ 0 0, .fiBankReq okReq 0 (2 ^ 8), .syncLandEdge false (2 ^ 64),
   .limiterAct 0 65536 0, .limiterAct 0 0 (2 ^ 64), .txsupLimitTimeout 0 (2 ^ 64), .txsupOffEnd 0 (2 ^ 64), .lpComplianceAck ⟨256, 0, 0⟩ 0,
   .lpComplianceAck okReq 65536, .trimWrite ⟨256, 0, 0⟩ 0 false 0, .trimWrite okReq 65536 false 0, .trimWrite okReq 0 false (2 ^ 32),
   .tbEnable ⟨256, 0, 0⟩, .tbEnableTimeout (2 ^ 64), .buttonPress false false (2 ^ 64), .buttonRepeat false (2 ^ 64), .buttonRelease (2 ^ 64),
   .levelRawChange 0 false (2 ^ 64), .levelEdgeAccepted 0 (2 ^ 64), .lineFaultDeclared 0 false (2 ^ 32) 0, .lineFaultDeclared 0 false 0 (2 ^ 64),
   .lineFaultEnd 0 (2 ^ 32) 0, .lineFaultEnd 0 0 (2 ^ 64), .lvCountClear ⟨256, 0, 0⟩ 0, .lvCountClear okReq 65536, .pwmPeriodStart 0 65536 0,
   .pwmPeriodStart 0 0 (2 ^ 64), .overcurrentTrip 0 65536 0, .overcurrentTrip 0 0 (2 ^ 64), .shortCircuit 0 (2 ^ 64), .thermalTrip 0 (2 ^ 15) 0,
   .thermalTrip 0 0 (2 ^ 64), .cool 0 (2 ^ 15) 0, .cool 0 0 (2 ^ 64), .tempWarn 0 false (2 ^ 15) 0 0, .tempWarn 0 false 0 16 0,
   .tempWarn 0 false 0 0 (2 ^ 64), .attemptSuccess 0 (2 ^ 64)]

/-- For every check of every constructor a term that fails it alone. -/
def bad3 : List Instr :=
  [.tLimExpiry 0 65536 0, .tLimExpiry 0 0 (2 ^ 64), .retryGapEnd 0 (2 ^ 15) 0, .retryGapEnd 0 0 (2 ^ 64), .retryRestore 0 (2 ^ 64),
   .clampEvent 0 (2 ^ 32) 0 0 0, .clampEvent 0 0 (2 ^ 15) 0 0, .clampEvent 0 0 0 (2 ^ 64) 0, .clampEvent 0 0 0 0 (2 ^ 64),
   .swClampAck ⟨256, 0, 0⟩ 0, .swClampAck okReq 65536, .loadTest 0 65536 0 0, .loadTest 0 0 65536 0, .loadTest 0 0 0 (2 ^ 64),
   .iselChange 0 0 (2 ^ 64), .halfRetired 0 false (2 ^ 64), .halvesLost 0 (2 ^ 64), .stuckOn 0 false 65536 0, .stuckOn 0 false 0 (2 ^ 64),
   .cycleFix (2 ^ 64), .cycleBoundary (2 ^ 64), .nop badStep, .startConv badStep, .urgentConv badStep, .latchResult badStep, .openPacket badStep,
   .pushResult badStep, .commitPacket badStep, .applyOutput badStep, .sampleInputs badStep, .syncFilters badStep, .diagWindow badStep,
   .markTime badStep, .waitCycle badStep, .sqSwap ⟨256, 0, 0⟩ 0, .sqSwap okReq (2 ^ 8), .sqSwapCheckDone (2 ^ 64), .guDetAck ⟨256, 0, 0⟩ 0,
   .guDetAck okReq (2 ^ 8), .quEnable ⟨256, 0, 0⟩ 0]

/-- For every check of every constructor a term that fails it alone. -/
def bad4 : List Instr :=
  [.quDisable ⟨256, 0, 0⟩ 0, .quRead ⟨256, 0, 0⟩ 0, .quRead3 ⟨256, 0, 0⟩ 0, .mark ⟨256, 0, 0⟩ 0, .rewind ⟨256, 0, 0⟩ 0, .release ⟨256, 0, 0⟩ 0,
   .flush ⟨256, 0, 0⟩ 0, .ack ⟨256, 0, 0⟩ 0, .quReleaseAt ⟨256, 0, 0⟩ 0 0, .quReleaseAt okReq 0 (2 ^ 32), .quWrite ⟨256, 0, 0⟩ 0 [],
   .quWrite okReq 0 [256], .quWrite okReq 0 (List.replicate 25 0), .quWriteEndCommit ⟨256, 0, 0⟩ 0, .quWriteEndAbort ⟨256, 0, 0⟩ 0,
   .spillTransfer 0 (2 ^ 64), .fillTransfer 0 (2 ^ 64), .writeBeatResume 0 (2 ^ 32) 0, .writeBeatResume 0 0 (2 ^ 64), .dmStart ⟨256, 0, 0⟩ 0,
   .dmStop ⟨256, 0, 0⟩ 0, .dmTrigger ⟨256, 0, 0⟩ 0, .captureCopy 0 (2 ^ 64), .dmRdData ⟨256, 0, 0⟩ 0, .xspiNoStrobe false (2 ^ 64),
   .coefRepair 65536 false 0, .coefRepair 0 false (2 ^ 64), .scrub 0 false (2 ^ 32) [] 0, .scrub 0 false 0 [2 ^ 32] 0,
   .scrub 0 false 0 [] (2 ^ 64), .registerWrite badRequest, .echo badRequest, .segmentedRead badRequest, .segmentedWrite badRequest,
   .deferredComplete (2 ^ 64), .txOpen ⟨256, 0, 0⟩ 0, .txOpen okReq (2 ^ 8), .txCommit ⟨256, 0, 0⟩ 0, .txCommit okReq (2 ^ 32)]

/-- For every check of every constructor a term that fails it alone. -/
def bad5 : List Instr :=
  [.txCommitDone (2 ^ 64), .txAbort ⟨256, 0, 0⟩ 0, .txAbort okReq (2 ^ 32), .txTimeout (2 ^ 32) 0, .txTimeout 0 (2 ^ 64), .pvUnlock ⟨256, 0, 0⟩ 0,
   .pvUnlock okReq 65536, .pvLock ⟨256, 0, 0⟩ 0, .pvLock okReq (2 ^ 8), .pvServiceCode ⟨256, 0, 0⟩ 0, .pvServiceCode okReq 65536,
   .pvTimeout 256 0, .pvTimeout 0 (2 ^ 64), .pvLockoutEnd (2 ^ 64), .cycleFrame badFrame, .delayFrame false false (2 ^ 32) 0,
   .delayFrame false false 0 (2 ^ 64), .foreignFrame false false false (2 ^ 64), .portLinkLost false (2 ^ 64), .portLinkUp false (2 ^ 64),
   .loopReopen false (2 ^ 64), .pdwExpired (2 ^ 64), .spiRead 65536 0 false 0 0, .spiRead 0 65536 false 0 0, .spiRead 0 0 false (2 ^ 64) 0,
   .spiRead 0 0 false 0 (2 ^ 64), .spiWrite 65536 [] false 0, .spiWrite 0 [65536] false 0, .spiWrite 0 [] false (2 ^ 64),
   .ptValueLoRead 0 (2 ^ 64) 0, .ptValueLoRead 0 0 (2 ^ 64), .ptValueHiRead 0 0 (2 ^ 64) 0, .ptValueHiRead 0 0 0 (2 ^ 64),
   .ptStatusWrite (2 ^ 16) 0, .ptStatusWrite 0 (2 ^ 64), .ptIrqAck (2 ^ 16) 0, .ptIrqAck 0 (2 ^ 64), .ptMbCtrl (2 ^ 16) 0, .ptMbCtrl 0 (2 ^ 64),
   .wdCheckin false ⟨256, 0, 0⟩ 0]

/-- For every check of every constructor a term that fails it alone. -/
def bad6 : List Instr :=
  [.wdCheckin false okReq 256, .wdKey1 false ⟨256, 0, 0⟩ 0, .wdKey1 false okReq (2 ^ 64), .wdKey2 false ⟨256, 0, 0⟩ 0,
   .wdKey2 false okReq (2 ^ 64), .wdWindowClose false (2 ^ 64), .wdStage2 false (2 ^ 64), .wd1Enable ⟨256, 0, 0⟩, .wd1Disable ⟨256, 0, 0⟩,
   .wdoPulseEnd (2 ^ 64), .cnAdopt ⟨256, 0, 0⟩, .fold (2 ^ 64), .lifeFlush (2 ^ 64), .hwFlush ⟨256, 0, 0⟩, .counterReport 0 [badInc] 0,
   .counterReport 0 [] (2 ^ 64), .ringRecord 65536 false 0, .ringRecord 0 false (2 ^ 64), .evRead ⟨256, 0, 0⟩, .calCompare (2 ^ 64) 0,
   .calCompare 0 (2 ^ 64), .calFree (2 ^ 64), .calTimeWrite ⟨256, 0, 0⟩ 0, .calTimeWrite okReq (2 ^ 64), .erase ⟨256, 0, 0⟩,
   .grHkData ⟨256, 0, 0⟩ [], .grHkData okReq [256], .grHkData okReq (List.replicate 257 0), .verify ⟨256, 0, 0⟩, .swap ⟨256, 0, 0⟩,
   .confirm ⟨256, 0, 0⟩, .cancel ⟨256, 0, 0⟩, .hkSwapReady (2 ^ 32) 0, .hkSwapReady 0 (2 ^ 64), .hkSwapTimeout (2 ^ 64), .hkWaitTimeout (2 ^ 64),
   .hkConfirmTimeout (2 ^ 64), .calStart ⟨256, 0, 0⟩, .calLow ⟨256, 0, 0⟩, .calHigh ⟨256, 0, 0⟩]

/-- For every check of every constructor a term that fails it alone. -/
def bad7 : List Instr :=
  [.calApply ⟨256, 0, 0⟩, .calAbort ⟨256, 0, 0⟩, .calRestore ⟨256, 0, 0⟩, .calGraftTimeout (2 ^ 64), .grUcStart ⟨256, 0, 0⟩ 0,
   .ucSwitched 0 (2 ^ 32) 0 0, .ucSwitched 0 0 (2 ^ 32) 0, .ucSwitched 0 0 0 (2 ^ 64), .ucReverted 0 (2 ^ 32) 0, .ucReverted 0 0 (2 ^ 64),
   .ucAbandoned 0 (2 ^ 64), .vinValid (2 ^ 64), .pwrWarnSet (2 ^ 64), .pwrWarnCleared 65536 0 0, .pwrWarnCleared 0 (2 ^ 32) 0,
   .pwrWarnCleared 0 0 (2 ^ 64), .brownOut (2 ^ 64), .vinAbsent (2 ^ 64), .vbakMeasure 65536 0, .vbakMeasure 0 (2 ^ 64), .rstn (2 ^ 64),
   .clockLoss (2 ^ 64), .pwrResetCmd ⟨256, 0, 0⟩ 0, .pwrResetCmd okReq (2 ^ 16), .crownStart 65536 0 none false 0 false false [] 0,
   .crownStart 0 65536 none false 0 false false [] 0, .crownStart 0 0 none false (2 ^ 32) false false [] 0,
   .crownStart 0 0 (some (2 ^ 32)) false 0 false false [] 0, .crownStart 0 0 none false 0 false false [8192] 0,
   .crownStart 0 0 none false 0 false false [] (2 ^ 64), .branchStart 0 (2 ^ 64),
   .vfbValid 0 (2 ^ 64), .underVoltageLock 0 65536 0, .underVoltageLock 0 0 (2 ^ 64), .lockReleased 0 (2 ^ 32) 0, .lockReleased 0 0 (2 ^ 64),
   .branchOff 0 (2 ^ 64), .vfWarn 0 false 65536 0, .vfWarn 0 false 0 (2 ^ 64), .vfHigh 0 false 65536 0, .vfHigh 0 false 0 (2 ^ 64)]

/-- For every check of every constructor a term that fails it alone. -/
def bad8 : List Instr :=
  [.descent (2 ^ 64), .wake 10 0, .wake 0 (2 ^ 64), .txsupCurrentLimit 0 false (2 ^ 64), .lineFaultComparator 0 false false (2 ^ 64),
   .watchComplianceJudgement 0 (2 ^ 32) false 0, .watchComplianceJudgement 0 0 false (2 ^ 64), .housekeepingCoreResetEnd (2 ^ 64),
   .vbakLost (2 ^ 64)]

def wellFormed : List Instr := good0 ++ good1 ++ good2 ++ good3 ++ good4 ++ good5
def illFormed : List Instr := bad0 ++ bad1 ++ bad2 ++ bad3 ++ bad4 ++ bad5 ++ bad6 ++ bad7 ++ bad8

theorem test_wf_accepts : wellFormed.all Instr.wf = true := by decide +kernel
theorem test_wf_count : wellFormed.length = 220 := by decide +kernel
theorem test_wf_refuses : illFormed.all (fun c => !c.wf) = true := by decide +kernel
theorem test_wf_req :
  ([⟨256, 0, 0⟩, ⟨1, 65536, 0⟩, ⟨1, 0, 2 ^ 64⟩] : List Req).all (fun x => !x.wf) = true := by decide +kernel
theorem test_wf_request :
  ([{ okRequest with id := 256 }, { okRequest with seq := 65536 }, { okRequest with op := 256 }, { okRequest with len := 256 },
    { okRequest with ix := 65536 }, { okRequest with sub := 256 }, { okRequest with segment := 256 }, { okRequest with hnd := 65536 },
    { okRequest with total := 65536 }, { okRequest with data := 2 ^ 128 }, { okRequest with t := 2 ^ 64 }] : List Request).all (fun x => !x.wf) = true := by decide +kernel
theorem test_wf_step :
  ([{ okStep with idx := 1024 }, { okStep with slot := 2 ^ 24 }, { okStep with hslot := 128 }, { okStep with queue := 64 },
    { okStep with param := 2 ^ 19 }] : List StepOp).all (fun x => !x.wf) = true := by decide +kernel
theorem test_wf_window :
  ([{ nP := 2 ^ 32 }, { sP := 1024 }, { rP := 1024 }, { nC := 2 ^ 32 }, { sC := 1024 }, { rC := 1024 }, { nT := 2 ^ 32 },
    { sT := 1024 }, { rT := 1024 }, { satNs := 2 ^ 32 }, { vf := 65536 }, { track := 2 ^ 23 }] : List WinMeas).all (fun x => !x.wf) = true := by decide +kernel
theorem test_wf_beacon :
  ([{ rank := 16 }, { state := 8 }, { verMinor := 16 }, { verMajor := 16 }, { cstate := 8 }, { node := 256 }, { cycle := 2 ^ 32 },
    { serial := 2 ^ 64 }, { offset := 2 ^ 15 }, { admitted := 256 }, { grant := 16 }, { grantKind := 4 }, { viewSeq := 256 }, { term := 256 },
    { digestTag := 2 ^ 80 }] : List Beacon).all (fun x => !x.wf) = true := by decide +kernel
def okTransfer : Transfer := { payload := List.replicate 24 0 }
theorem test_wf_transfer :
  ([{ okTransfer with sender := 16 }, { okTransfer with kind := 4 }, { okTransfer with target := 16 }, { okTransfer with pos := 65536 },
    { okTransfer with total := 65536 }, { okTransfer with vseq := 256 }, { okTransfer with payload := List.replicate 23 0 },
    { okTransfer with payload := 256 :: List.replicate 23 0 }] : List Transfer).all (fun x => !x.wf) = true := by decide +kernel
theorem test_wf_frame :
  ([{ verMajor := 16 }, { ftype := 256 }, { hops := 256 }, { cycleIndex := 2 ^ 32 }, { ringTime := 2 ^ 64 }, { cycleNs := 2 ^ 32 },
    { pdLen := 65536 }, { acycGroups := 256 }, { sealCount := 256 }, { pdEpoch := 2 ^ 32 }, { served := 65536 }, { outputs := [256] },
    { requests := [⟨256, okRequest⟩] }, { requests := [⟨0, badRequest⟩] }, { beacons := [{ rank := 16 }] }, { tArr := 2 ^ 64 },
    { tEnd := 2 ^ 64 }, { transfer := some {} }] : List Frame).all (fun x => !x.wf) = true := by decide +kernel
theorem test_wf_inc :
  ([{ chan := 0, onTime := 2 ^ 32 }, { chan := 0, cycles := 2 ^ 48 }, { chan := 0, energy := 2 ^ 48 }, { chan := 0, peakTemp := 2 ^ 15 },
    { chan := 0, tcycles := 2 ^ 32 }] : List LifeInc).all (fun x => !x.wf) = true := by decide +kernel
theorem test_wf_parts : okRequest.wf = true ∧ okStep.wf = true ∧ ({} : WinMeas).wf = true ∧ ({} : Beacon).wf = true ∧ okTransfer.wf = true ∧
    ({} : Frame).wf = true ∧ ({ chan := 0 } : LifeInc).wf = true := by decide +kernel

/-! States for the witnesses: a running module in PREOP with the given objects, and small changes of it. -/

/-- A module whose crown runs in PREOP, with the listed objects written. -/
def up (l : List (Nat × Nat)) : Dev :=
  ((Reg.DEV_STATE, PREOP) :: l).foldl (fun d p => d.wr p.1 p.2) { crownUp := true, coreUp := true, warn := false, vinValid := true, vinAbsent := false }

/-- The objects of a handle of the first generation in slot k: create record rcd, state st, filter unit i. -/
def handle (k rcd st i : Nat) : List (Nat × Nat) :=
  [(Reg.HND_ID k, 128 + k), (Reg.HND_KIND k, rcd % 16), (Reg.HND_STATE k, st), (Reg.HND_BIND k, rcd), (Reg.HND_FILTER k, i)]

/-- The same module with branch b connected and the given field state. -/
def joined (d : Dev) (b : Nat) (x : Branch) : Dev :=
  (d.wr (Reg.LINK_STATE b) 1).setBranch b { x with power := 1, valid := true, linkUp := true, configured := true, refReady := true }

def st (d : Dev) : State := { dev := d }

def r1 : Req := ⟨1, 0, 1000⟩

/-- The link word with the given 40 bits and their CRC-8, and the same with a wrong one. -/
def word (p : Nat) : LinkBits := BitVec.ofNat 48 (p + crc8 (bytesLE 5 p) * 2 ^ 40)
def badWord : LinkBits := word 0 ^^^ 1

/-- A requester that is not tracked yet is new where one of the 16 places is free. -/
theorem new_of {d : Dev} {id seq : Nat} (h : (d.requester id).isNone = true ∧ d.reqs.length < 16) : d.isNew id seq := by
  obtain ⟨h1, h2⟩ := h
  rw [Option.isNone_iff_eq_none] at h1
  simp [Dev.isNew, h1, h2]

/-- A tracked requester without held responses is new. -/
theorem new_known {d : Dev} {id seq : Nat} (h : ((d.requester id).any fun r => r.held = [] && r.newest = none) = true) : d.isNew id seq := by
  cases g : d.requester id with
  | none => simp [g] at h
  | some r => simp [g] at h; simp [Dev.isNew, g, h.1, h.2]

/-- The module with the tests' requester tracked and holding SERVICE privilege. -/
def svc (d : Dev) : Dev := { d with reqs := [{ id := 1, service := true }] }

/-- The checks of permits for a requester that holds no response yet. -/
def permitsB (d : Dev) (q : Request) : Bool :=
  d.crownUp && d.rd Reg.PL_RUNG = 0 && d.mode ≠ INIT && q.id ≠ 0 && ((d.requester q.id).any fun r => r.held = [] && r.newest = none) &&
    (d.openTxn q.id).isNone && q.data < 2 ^ (8 * q.len) && d.writeAccess (d.serviceOf q.id) false q.ix q.sub q.hnd q.len q.data = OK

theorem permits_of {d : Dev} {q : Request} (h : permitsB d q = true) : d.permits q := by
  simp only [permitsB, Bool.and_eq_true, decide_eq_true_eq, Option.isNone_iff_eq_none] at h
  obtain ⟨⟨⟨⟨⟨⟨⟨h1, h2⟩, h3⟩, h4⟩, h5⟩, h6⟩, h7⟩, h8⟩ := h
  exact ⟨⟨h1, h2, h3, h4, new_known h5⟩, h6, h7, h8⟩

/-- Branch 0 with the words queued for it, channel 1 as given and the objects given. -/
def down (l : List (Nat × Nat)) (q : List LWord) (c : Chan := {}) : Dev := (joined (up l) 0 { toBranch := q }).setChan 1 c
/-- The crown with the words queued for it. -/
def above (l : List (Nat × Nat)) (q : List LWord) (c : Chan := {}) : Dev := (joined (up l) 0 { toCrown := q }).setChan 1 c

/-- Channel 1 of branch 0, in the place R15 gives the channel. -/
def w1 : LinkBits := word (1 * 2 ^ 38)

/-- A low-side switch, a voltage input, a loop output and a loop input of channel 1, each in slot 0. -/
def sw (state : Nat) : List (Nat × Nat) := handle 0 0x15 state 255
def vi (state : Nat) : List (Nat × Nat) := handle 0 0x13 state 0
def lo (state : Nat) : List (Nat × Nat) := handle 0 0x12 state 0
def li (state : Nat) : List (Nat × Nat) := handle 0 0x11 state 0
def lv (state : Nat) : List (Nat × Nat) := handle 0 0x14 state 255
def monitor (state : Nat) : List (Nat × Nat) := handle 0 0x17 state 0

theorem witness_BranchWordsAct :
    linkGood w1 = true ∧ linkGood (word 0) = true ∧ (down [] []).linked 0 = true ∧ 4 * 0 + linkChan w1 = 1 ∧
    (∀ y ∈ [LWord.apply 1 1000, .postureNow 1, .postureSet 1 3 9, .stage 1 {}, .conv 0 0 7, .conv 0 1 7, .conv 0 2 7, .config 1],
      (down (vi RUNNING) [y]).linked 0 = true ∧ sent ((down (vi RUNNING) [y]).branch 0).toBranch = some (y, []) ∧
      (down (vi RUNNING) [y]).chanOf 0 = 1) ∧
    (let d := down (sw RUNNING) [.apply 1 1000]; (d.chan 1).pup = false ∧ (d.chan 1).safeOn = false ∧ d.drvP 1 = some 0 ∧
      isSwitch (d.kind 0) = true ∧ d.ucSwitching (1 / 4) = false) ∧
    (let d := down (lo RUNNING) [.apply 1 1000]; (d.chan 1).pup = false ∧ d.drvP 1 = some 0 ∧ isSwitch (d.kind 0) = false ∧
      (d.chan 1).ackDue = false ∧ (d.chan 1).subDue = false) ∧
    ((down [] [.postureNow 1] { pup := true }).chan 1).pup = true ∧ ((down [] [.apply 1 1000] { safeOn := true }).chan 1).safeOn = true ∧
    ({ down [(Reg.GR_UC_STATE, 3)] [.apply 1 1000] with graft := { ucBranch := some 0 } } : Dev).ucSwitching (1 / 4) = true ∧
    (let d := down (sw HSAFE) [.postureNow 1] { post := 1 }; d.drvP 1 = some 0 ∧ isSwitch (d.kind 0) = true ∧ (d.chan 1).post ≤ 1 ∧
      (d.chan 1).pup = false) ∧
    ((down [] [.postureNow 1] { post := 2 }).chan 1).post = 2 ∧ ((down [] [.postureSet 1 3 9]).chan 1).safeOn = false ∧
    (let d := (down (vi RUNNING) [.conv 0 0 7]).setSlot 0 { await := true }; (d.slot 0).await = true ∧ (d.branch 0).refReady = true ∧
      sent (d.branch 0).toBranch = some (.conv 0 0 7, [])) ∧ ((down (vi RUNNING) [.conv 0 0 7]).slot 0).await = false ∧
    (∀ p ∈ [false, true], let d := (joined (up []) 0 { toBranch := [.config 1], postured := p }).wr (Reg.ADOPT_RESULT 0) 1;
      d.linked 0 = true ∧ sent (d.branch 0).toBranch = some (.config 1, []) ∧ (d.branch 0).postured = p ∧ d.rd (Reg.ADOPT_RESULT 0) = 1 ∧
      d.branchDrivers 0 = [] ∧ ∀ i, i < 4 → (d.chan (4 * 0 + i)).pup = false ∧ (d.chan (4 * 0 + i)).due = false) ∧
    (let d := down [] [.stage 2 {}]; sent (d.branch 0).toBranch = some (.stage 2 {}, []) ∧ d.downChan (.stage 2 {}) = some 2 ∧ 2 ≠ 1) ∧
    ((down [] []).branch 0).toBranch = [] ∧ ((down [] [.config 1]).branch 0).toBranch ≠ [] := by and_intros <;> decide +kernel

theorem witness_CrownWordsAct :
    linkGood w1 = true ∧ 4 * 0 + linkChan w1 = 1 ∧
    (let e : ProtEv := { chan := 1, code := 0x0301 };
      let d := above [] [.prot e]; d.linked 0 = true ∧ sent (d.branch 0).toCrown = some (.prot e, []) ∧ e.chan = 1 ∧ d.pairChans 1 = [1] ∧
      d.pairDriver 1 = none) ∧
    (let e : ProtEv := { chan := 1, code := 0x0384 };
      let d := above (vi RUNNING) [.prot e];
      let f := (((d.at 5).setBranch 0 { d.branch 0 with toCrown := [] }).modChan 1 fun c => { c with life := c.life.count e.code }).logAt
        e.time e.code (d.protSrc e) e.det
      d.pairChans 1 = [1] ∧ f.pairDriver 1 = some 0 ∧ f.urgentOk 0 = true ∧ f.opsFree = true ∧ e.code / 256 ≠ 1 ∧
        (({ f with ops := 256 } : Dev).urgentOk 0 = true ∧ ({ f with ops := 256 } : Dev).opsFree = false)) ∧
    (let m : Meas := { slot := 0 };
      let d := above (lo RUNNING) [.result .c m]; sent (d.branch 0).toCrown = some (.result .c m, []) ∧ d.chanOf m.slot = 1 ∧
        d.rd Reg.PL_RUNG = 0 ∧ d.kind 0 = 2) ∧
    (∀ r ∈ [Role.p, .t], let m : Meas := { slot := 0 };
      let d := above (vi RUNNING ++ [(Reg.FI_STATE 0, 2)]) [.result r m]; sent (d.branch 0).toCrown = some (.result r m, []) ∧
        d.chanOf m.slot = 1 ∧ d.rd Reg.PL_RUNG = 0 ∧ d.takers m.slot = [m.slot] ∧ d.rd (Reg.FI_STATE (d.unitOf 0)) = 2) ∧
    (let d := above (vi RUNNING ++ [(Reg.PL_RUNG, 1)]) [.result .p {}]; sent (d.branch 0).toCrown = some (.result .p {}, []) ∧
      d.chanOf 0 = 1 ∧ d.rd Reg.PL_RUNG ≠ 0 ∧ d.linked 0 = true) ∧
    (let d := above [] [.prot { chan := 2 }]; sent (d.branch 0).toCrown = some (.prot { chan := 2 }, []) ∧
      d.upChan (.prot { chan := 2 }) ≠ some 1 ∧ d.upChan (.prot { chan := 2 }) ≠ none) ∧
    (∀ n ∈ [2, 3, 4], noneAbove n ((above [] []).branch 0).toCrown = true) ∧
    (∀ n ∈ [2, 4], noneAbove n ((above [] [.prot { chan := 2 }]).branch 0).toCrown = false) ∧
    (let d := above (vi RUNNING ++ [(Reg.FI_STATE 0, 2), (Reg.CV_WINDOW 0, 5)]) [];
      let x := d.branch 0;
      let bits := (List.range 32).map fun i => bitOf (linkPayload w1) i;
      let e := ((d.at 5).setBranch 0 { x with nackUp := 0 }).modSlot 0 fun y => y.sumBits .p (bits.map nat01).sum;
      d.pairDriver 1 = some 0 ∧ d.rd Reg.PL_RUNG = 0 ∧ d.fast 0 = true ∧ Role.p = e.feeder {} 0 (x.refinFault || x.refEnd) ∧
        Role.c ≠ e.feeder {} 0 (x.refinFault || x.refEnd) ∧ e.takers 0 = [0] ∧ e.rd (Reg.FI_STATE (e.unitOf 0)) = 2) := by
  and_intros <;> decide +kernel

theorem witness_BadWordsAreDiscarded :
    linkGood badWord = false ∧ (joined (up []) 0 {}).linked 0 = true ∧ ((joined (up []) 0 { nackDown := 2 }).branch 0).nackDown < 3 ∧
    3 ≤ ((joined (up []) 0 { nackDown := 3 }).branch 0).nackDown ∧ ((joined (up []) 0 { nackUp := 2 }).branch 0).nackUp < 3 ∧
    3 ≤ ((joined (up []) 0 { nackUp := 3 }).branch 0).nackUp := by and_intros <;> decide +kernel

theorem witness_LinkLossHolds :
    (let x := (joined (up []) 0 {}).branch 0; x.power ≠ 0 ∧ x.parked = false ∧ x.linkUp = true ∧ x.tHold ≠ 0) ∧
    ((joined (up []) 0 {}).hears 0 = true ∧ (joined (up []) 0 {}).graft.ucBranch ≠ some 0) ∧
    (let x := (joined (up []) 0 { holding := true }).branch 0; x.holding = true ∧ x.postured = false) ∧
    (let d := (joined (up []) 0 { crownLost := some 5 }).wr (Reg.LINK_STATE 0) 2;
      d.crownUp = true ∧ d.link 0 = 2 ∧ (d.branch 0).crownLost.isSome = true ∧ (d.branch 0).crownHeld = false) := by
  and_intros <;> decide +kernel

theorem witness_BranchesAreAdopted :
    (let d := (up []).setBranch 3 { power := 1 }; d.crownUp = true ∧ d.rd Reg.PL_RUNG < 2 ∧ (d.branch 3).power ≠ 0 ∧ d.link 3 ≠ 1 ∧ d.mode ≠ INIT ∧
      d.branchHandles 3 = [] ∧ (d.branch 3).buf = [] ∧ (d.branch 3).offS = none ∧ (d.branch 3).holding = false ∧
      (d.branch 3).crownLost = none ∧ (d.branch 3).parked = false ∧ (d.branch 3).gone = [] ∧ ∀ i, i < 4 → swLatched (d.chan (4 * 3 + i)).state = false) ∧
    ((up []).wr Reg.DEV_STATE INIT).mode = INIT ∧ ((up []).wr Reg.DEV_STATE INIT).rd Reg.PL_RUNG < 2 ∧
    (let d := joined (up (sw CREATED)) 0 { mismatch := true };
      d.linked 0 = true ∧ (d.branch 0).mismatch = true ∧ (∀ k ∈ d.branchDrivers 0, ¬ ARMED ≤ d.hst k) ∧
        ∀ i, i < 4 → swLatched (d.chan (4 * 0 + i)).state = false) ∧ (up []).linked 0 = false ∧
    ((joined (up []) 0 {}).branch 0).mismatch = false := by and_intros <;> decide +kernel

/-- The configuration of a tracked voltage input that reserves nothing. -/
def two (st0 st1 : Nat) : List (Nat × Nat) := handle 0 0x15 st0 255 ++ handle 1 0x25 st1 255

theorem witness_HandleCommandsAreStaged :
    (let q := writeReq r1 (Reg.HND_CMD (128 % 128)) 128 1 1; (up (sw CREATED)).permits q ∧ (up (sw CREATED)).handleCheck 0 1 = OK) ∧
    (up (sw RUNNING)).permits (writeReq r1 (Reg.HND_CMD (128 % 128)) 128 1 2) ∧ (up (sw RUNNING)).handleCheck 0 2 = OK ∧
    (up (sw STOPPED)).permits (writeReq r1 (Reg.HND_CMD (128 % 128)) 128 1 3) ∧ (up (sw STOPPED)).handleCheck 0 3 = OK ∧
    (up (sw CREATED)).permits (writeReq r1 (Reg.HND_CMD (128 % 128)) 128 1 2) ∧ (up (sw CREATED)).handleCheck 0 2 = RANGE ∧
    (up (sw ARMED)).permits (writeReq r1 (Reg.HND_CMD (128 % 128)) 128 1 4) ∧ (up (sw ARMED)).handleCheck 0 4 = OK ∧
    (let d := up (sw HSAFE ++ [(Reg.HND_SAFE_CAUSE 0, 0x40)]);
      d.permits (writeReq r1 (Reg.HND_CMD (128 % 128)) 128 1 5) ∧ d.handleCheck 0 5 = OK) ∧
    (let d := joined (up (sw LATCHED)) 0 {};
      d.permits (writeReq r1 (Reg.HND_CMD (128 % 128)) 128 1 6) ∧ d.handleCheck 0 6 = OK) ∧
    (up (sw LATCHED)).permits (writeReq r1 (Reg.HND_CMD (128 % 128)) 128 1 6) ∧ (up (sw LATCHED)).handleCheck 0 6 = BUSY := by
  and_intros <;> first | decide +kernel | (refine new_of ?_; decide +kernel)

theorem witness_HandleCommandsAct :
    (128 < 65536 ∧ (up (sw CREATED)).isLive 128 = true ∧ 128 % 128 = 0 ∧ (up (sw CREATED)).handleCheck 0 2 ≠ OK) ∧
    (up (sw ARMED)).hst 0 = ARMED ∧ (up (sw ARMED)).isLive 128 = true ∧
    (let d := up (handle 0 0x115 CREATED 255); d.handleCheck 0 1 = OK ∧ d.hst 0 = CREATED ∧ measuring (d.kind 0) = false ∧ d.isObserver 0 = true) ∧
    (let d := joined (up (sw CREATED)) 0 {}; d.handleCheck 0 1 = OK ∧ d.hst 0 = CREATED ∧ isSwitch (d.kind 0) = true ∧ d.isObserver 0 = false ∧
      d.hears (d.chanOf 0 / 4) = true) ∧
    (let d := up (handle 0 0x113 CREATED 0); d.handleCheck 0 1 = OK ∧ d.hst 0 = CREATED ∧ measuring (d.kind 0) = true ∧ d.isObserver 0 = true) ∧
    ((up (sw RUNNING)).hst 0 = RUNNING ∧ (up (sw STOPPED)).hst 0 = STOPPED ∧ measuring ((up (sw STOPPED)).kind 0) = false) ∧
    (let d := up (vi ARMED); d.hst 0 = ARMED ∧ measuring (d.kind 0) = true ∧ d.isObserver 0 = false ∧ d.rd (Reg.FI_CLASS (d.unitOf 0)) = 0) ∧
    (let d := up (handle 0 0x113 STOPPED 0); d.hst 0 = STOPPED ∧ measuring (d.kind 0) = true ∧ d.isObserver 0 = true ∧
      d.rd (Reg.FI_CLASS (d.unitOf 0)) = 0) ∧
    (let d := up (sw RUNNING); d.hst 0 = RUNNING ∧ d.rd Reg.TB_HANDLE ≠ d.rd (Reg.HND_ID 0)) ∧
    (∀ st ∈ [ARMED, RUNNING, STOPPED, LATCHED, HSAFE], (up (sw st)).isDriver 0 = true ∧ (up (sw st)).hst 0 = st) ∧
    (∀ p ∈ [RUNNING, STOPPED], let d := (up (sw HSAFE ++ [(Reg.HND_SAFE_CAUSE 0, 0x40)])).setSlot 0 { prior := p };
      d.hst 0 = HSAFE ∧ d.rd (Reg.HND_SAFE_CAUSE 0) = 0x40 ∧ (d.slot 0).prior = p) ∧
    (let d := joined (up (sw HSAFE ++ [(Reg.HND_SAFE_CAUSE 0, 0x42)])) 0 {};
      d.rd (Reg.HND_SAFE_CAUSE 0) = 0x42 ∧ (d.branch (d.chanOf 0 / 4)).configured = true) ∧
    (let d := (joined (up (sw LATCHED)) 0 {}).setChan 1 { state := swOC_LATCH };
      let c := d.chan 1;
      let e := (d.setChan 1 { c with left := c.set.retryN, state := swOFF, tries := 0 }).log1 0x0308 (d.chanSrc 1) c.state;
      d.handleCheck 0 6 = OK ∧ c.state = swOC_LATCH ∧ c.force.cmd = 0 ∧ (e.chan 1).force.cmd = 0 ∧
      (d.swClear {} 1).rd (Reg.HND_SAFE_CAUSE 0) = 0) ∧
    (let d := (joined (up (sw LATCHED ++ [(Reg.HND_SAFE_CAUSE 0, 0x40)])) 0 {}).setChan 1 { state := swTHERMAL_LATCH };
      d.handleCheck 0 6 = OK ∧ (d.chan 1).state = swTHERMAL_LATCH ∧ (d.swClear {} 1).rd (Reg.HND_SAFE_CAUSE 0) ≠ 0) := by
  and_intros <;> decide +kernel

/-- A module in another state. -/
def inMode (m : Nat) (l : List (Nat × Nat)) : Dev := (up l).wr Reg.DEV_STATE m

theorem witness_ModuleCommandsAct :
    (∀ v ∈ [1, 2, 3, 6], (up []).moduleCheck v = OK) ∧ (inMode SAFE []).moduleCheck 4 = OK ∧ (inMode OPERATE []).moduleCheck 5 = OK ∧
    (inMode SERVICE []).moduleCheck 7 = OK ∧ (up []).moduleCheck 4 = RANGE ∧ (up [(Reg.CN_ENABLE, 1)]).moduleCheck 2 = BUSY ∧
    (up []).serves 1 0 ∧ (inMode SAFE []).serves 1 0 ∧ (up []).openTxn 1 = none ∧ (up []).atom = false ∧ (up []).serviceOf 1 = false ∧
    ({ up [] with reqs := [{ id := 1, service := true }] } : Dev).serviceOf 1 = true ∧ (inMode HOLD []).mode = HOLD ∧
    (inMode OPERATE []).mode = OPERATE ∧ (up []).rd Reg.CN_ENABLE = 0 ∧
    (let d := up [(Reg.CN_ENABLE, 1)]; d.mode = PREOP ∧ d.rd Reg.CN_ENABLE = 1 ∧ d.rd Reg.CN_STATE = 0) ∧
    (inMode SAFE []).modulePersists = false ∧ ((inMode SAFE [(Reg.WD1_STATE, 3)]).modulePersists = true ∧ (inMode SAFE [(Reg.WD1_STATE, 3)]).mode = SAFE) ∧
    (inMode SERVICE []).mode = SERVICE := by
  and_intros <;> first | decide +kernel | (refine new_of ?_; decide +kernel)

theorem witness_StagedObjectsAct :
    (up (lo RUNNING)).permits (writeReq r1 (Reg.LP_COMPLIANCE_ACK (128 % 128)) 128 1 1) ∧ (up (lo RUNNING)).kind 0 = 2 ∧
    (up (lv RUNNING)).permits (writeReq r1 (Reg.LV_COUNT_CLEAR (128 % 128)) 128 1 1) ∧ (up (lv RUNNING)).kind 0 = 4 ∧
    (up (sw RUNNING)).permits (writeReq r1 (Reg.SW_CLAMP_ACK (128 % 128)) 128 1 1) ∧ isSwitch ((up (sw RUNNING)).kind 0) = true ∧
    (let d := up (vi ARMED ++ [(Reg.FI_STATE 0, 1), (Reg.BK_STATE 0 1, 1), (Reg.FI_CLASS 0, 0)]);
      d.permits (writeReq r1 (Reg.FI_BANK_REQ 0) 0 1 1) ∧ d.unitCheck 0 0x0B 1 = OK ∧ d.rd (Reg.FI_STATE 0) = 1 ∧ d.rd (Reg.FI_CLASS 0) = 0 ∧
        d.bank 0 1 = 1 ∧ 1 ≠ d.active 0) ∧
    (up []).permits (writeReq r1 Reg.GU_DET_ACK 0 1 1) ∧
    (let d := joined (up []) 0 {}; d.permits (writeReq r1 Reg.BR_RELEASE 0 1 1) ∧ d.releasable 1 = (List.range 4).filter fun b => bitOf 1 b) ∧
    (let d := up []; d.permits (writeReq r1 Reg.BR_RELEASE 0 1 15) ∧ (d.releasable 15).length < ((List.range 4).filter fun b => bitOf 15 b).length) ∧
    (up (lo RUNNING)).isLive 128 = true ∧ (up (lv RUNNING)).isLive 128 = true ∧ (up (sw RUNNING)).isLive 128 = true ∧
    (joined (up (sw RUNNING)) 0 {}).mayClear 1 = true ∧ (joined (up (sw RUNNING)) 0 { mismatch := true }).mayClear 1 = false ∧
    0x0420 * 256 + 0x0D = Reg.BR_RELEASE := by
  and_intros <;> first | decide +kernel | (refine new_of ?_; decide +kernel)

/-- A deferred write of one object, in progress. -/
def waiting (d : Dev) (key v : Nat) (hnd : Nat := 0) : Dev :=
  let q := writeReq r1 key hnd 1 v;
  { d with deferred := [⟨q, d.entryOf q⟩] }
def deferredOf (d : Dev) (key v : Nat) (hnd : Nat := 0) : Deferred := ⟨writeReq r1 key hnd 1 v, d.entryOf (writeReq r1 key hnd 1 v)⟩

theorem witness_CreatesAndDestroysComplete :
    (let d := waiting (up []) Reg.HM_CREATE 0x15; let f := deferredOf (up []) Reg.HM_CREATE 0x15;
      d.coreWorks = true ∧ d.mayWrite = true ∧ d.nextDeferred = some f ∧ f.q.op = OP_WRITE ∧ f.e.key = Reg.HM_CREATE ∧ d.createCheck f.e.val = 0 ∧
        d.freeSlot = some 0) ∧
    (let d := waiting (inMode SAFE []) Reg.HM_CREATE 0x15; let f := deferredOf (inMode SAFE []) Reg.HM_CREATE 0x15;
      d.coreWorks = true ∧ d.mayWrite = true ∧ d.nextDeferred = some f ∧ f.q.op = OP_WRITE ∧ d.createCheck f.e.val ≠ 0) ∧
    (let d := waiting (up (sw RUNNING)) Reg.HM_DESTROY 128; let f := deferredOf (up (sw RUNNING)) Reg.HM_DESTROY 128;
      d.nextDeferred = some f ∧ f.e.key = Reg.HM_DESTROY ∧ f.e.ix = 0x1000 ∧ f.e.sub = 2 ∧ d.isLive f.e.val = true ∧ d.rd Reg.CN_SELF = 0 ∧
        d.hst (f.e.val % 128) = RUNNING) ∧
    (let d := waiting (up (sw STOPPED)) Reg.HM_DESTROY 128; let f := deferredOf (up (sw STOPPED)) Reg.HM_DESTROY 128;
      d.nextDeferred = some f ∧ f.e.ix = 0x1000 ∧ f.e.sub = 2 ∧ d.isLive f.e.val = true ∧ d.hst (f.e.val % 128) ≠ RUNNING ∧ d.hst (f.e.val % 128) ≠ HSAFE) ∧
    (let d := waiting (up (handle 0 0x115 STOPPED 255)) Reg.HM_DESTROY 128; d.isLive 128 = true ∧ d.isDriver 0 = false) := by
  and_intros <;> decide +kernel

/-- The requester that the tests use, tracked, with one held response. -/
def known (newest : Nat) : Requester := { id := 1, held := [(newest, { id := 1, seq := newest })], newest := some newest }
/-- Sixteen tracked requesters, none the tests' own. -/
def full : List Requester := (List.range 16).map fun i => { id := 16 + i, last := i }

theorem witness_RequestsAreJudged :
    (up []).serves 1 0 ∧ (malformed (writeReq r1 Reg.HM_CREATE 0 17 0)).isSome = true ∧
    (let q := writeReq r1 0x0FFF00 0 1 0; malformed q = none ∧ (up []).openTxn q.id = none ∧
      (up []).writeAccess ((up []).serviceOf q.id) false q.ix q.sub q.hnd q.len (q.data % 2 ^ (8 * q.len)) ≠ OK ∧ q.total = 0) ∧
    (let d : Dev := { up [] with reqs := [known 0] }; d.crownUp = true ∧ d.rd Reg.PL_RUNG = 0 ∧ d.requester 1 = some (known 0) ∧
      (known 0).held.find? (fun p => p.1 = 0) = some (0, { id := 1, seq := 0 })) ∧
    (let d : Dev := { up [] with reqs := [known 33] }; d.requester 1 = some (known 33) ∧ (known 33).held.find? (fun p => p.1 = 0) = none ∧
      (known 33).newest = some 33 ∧ 33 ≤ (33 + 65536 - 0) % 65536 ∧ (33 + 65536 - 0) % 65536 ≤ 32767) ∧
    (let d : Dev := { up [] with
        reqs := full, deferred := full.map fun r => { q := writeReq ⟨r.id, 0, 0⟩ Reg.HM_CREATE 0 4 0, e := {} } };
      d.requester 1 = none ∧ 16 ≤ d.reqs.length ∧ (∀ r ∈ d.reqs, (d.deferred.find? fun f => f.q.id = r.id).isSome = true)) ∧
    (let d : Dev := { inMode INIT [] with reqs := full }; d.requester 1 = none ∧ 16 ≤ d.reqs.length ∧ d.evictable = some 16 ∧ d.mode = INIT ∧
      inInit 0x1000 1 = false) := by and_intros <;> first | decide +kernel | (refine new_of ?_; decide +kernel)

theorem witness_DeferredRowsAreAccepted :
    (∀ p ∈ [(Reg.HM_CREATE, 4, 0x15), (Reg.HM_DESTROY, 2, 128), (Reg.PUP_VALUE 15, 4, 0), (Reg.PUP_CODE 15, 1, 0), (Reg.BK_LOAD 31 2, 1, 1),
        (Reg.SQ_SWAP, 1, 1), (Reg.HW_FLUSH, 1, 1), (Reg.CAL_TIME, 8, 7), (Reg.GR_HK_CMD, 1, 1), (Reg.GR_HK_CMD, 1, 5), (Reg.GR_CAL_CMD, 1, 1),
        (Reg.GR_CAL_CMD, 1, 6), (Reg.GR_UC_START, 1, 3)], permitsB (svc (up [])) (writeReq r1 p.1 0 p.2.1 p.2.2) = true) ∧
    permitsB (svc (up [])) (writeReq r1 Reg.CN_ADOPT 0 1 1) = true ∧
    (up []).permits (writeReq r1 Reg.HM_CREATE 0 4 0x15) ∧ (up []).opsInUse < 256 ∧
    ({ up [] with ops := 256 } : Dev).permits (writeReq r1 Reg.HM_CREATE 0 4 0x15) ∧ 256 ≤ ({ up [] with ops := 256 } : Dev).opsInUse ∧
    (let q := writeReq r1 Reg.EV_READ_NUM 0 4 5; (up []).permits q ∧ q.total = 0 ∧ malformed q = none ∧ (up []).isDeferred q.ix q.sub true = true ∧
      isHandleIx q.ix = false ∧ q.ix ≠ 0x0220 ∧ actsAtOnce q.ix q.sub = false) := by
  and_intros <;> first | decide +kernel | (refine new_of ?_; decide +kernel)

/-- A deferred write in progress in a module. -/
def busy (d : Dev) (key len v : Nat) : Dev := { d with deferred := [⟨writeReq r1 key 0 len v, d.entryOf (writeReq r1 key 0 len v)⟩] }
def first (d : Dev) (key len v : Nat) : Deferred := ⟨writeReq r1 key 0 len v, d.entryOf (writeReq r1 key 0 len v)⟩
def general (d : Dev) (f : Deferred) : Prop :=
  d.coreWorks = true ∧ d.mayWrite = true ∧ d.nextDeferred = some f ∧ f.q.op = OP_WRITE ∧ d.rd Reg.CN_SELF ≠ 2 ∧ f.e.key ≠ Reg.CN_APPLY_AT ∧
    f.e.key ≠ Reg.TX_COMMIT ∧ f.e.key ≠ Reg.HM_CREATE ∧ f.e.key ≠ Reg.SQ_SWAP ∧ (f.e.ix < 0x5810 ∨ 0x5870 ≤ f.e.ix) ∧ f.e.ix ≠ 0x1010 ∧
    f.e.ix ≠ 0x1011

theorem witness_DeferredRequestsComplete :
    (let d := up []; general (busy d Reg.GR_HK_CMD 1 2) (first d Reg.GR_HK_CMD 1 2) ∧
      ((busy d Reg.GR_HK_CMD 1 2).at 9).entryCheck {} (first d Reg.GR_HK_CMD 1 2).e ≠ OK) ∧
    (let d := up []; general (busy d Reg.HW_FLUSH 1 1) (first d Reg.HW_FLUSH 1 1) ∧
      ((busy d Reg.HW_FLUSH 1 1).at 9).entryCheck {} (first d Reg.HW_FLUSH 1 1).e = OK ∧ (first d Reg.HW_FLUSH 1 1).e.ix = 0x8000) ∧
    (let d := up [(Reg.CN_ENABLE, 1)]; let f := first d Reg.CN_ADOPT 1 1;
      general (busy d Reg.CN_ADOPT 1 1) f ∧ f.e.ix = 0x7000 ∧ f.e.sub = 0x0A) ∧
    (let d := up []; let f := first d Reg.CAL_TIME 8 77; general (busy d Reg.CAL_TIME 8 77) f ∧
      ((busy d Reg.CAL_TIME 8 77).at 9).entryCheck {} f.e = OK ∧ f.e.ix = 0x8020 ∧ f.e.sub = 1 ∧ f.e.aux = 0) ∧
    (let d := joined (up []) 3 {}; let f := first d (Reg.PUP_CODE 15) 1 0; (busy d (Reg.PUP_CODE 15) 1 0).nextDeferred = some f ∧
      f.e.ix = 0x1010 ∧ f.e.sub = 15 + 1 ∧ ((busy d (Reg.PUP_CODE 15) 1 0).at 9).pupCheck 15 f.e.val = OK ∧
      ((busy d (Reg.PUP_CODE 15) 1 0).at 9).linked (15 / 4) = true ∧ ((busy (up []) (Reg.PUP_CODE 15) 1 0).at 9).linked (15 / 4) = false ∧ d.rd Reg.CN_SELF ≠ 2) ∧
    (let d := up []; let f := first d (Reg.BK_LOAD 31 2) 1 1; (busy d (Reg.BK_LOAD 31 2) 1 1).nextDeferred = some f ∧
      f.e.ix = 0x5810 + 3 * 31 + 2 ∧ f.e.sub = 8 ∧ ((busy d (Reg.BK_LOAD 31 2) 1 1).at 9).bank 31 2 < 2) ∧
    (let d := up []; let f := first d Reg.SQ_SWAP 1 1; f.e.ix = 0x0210 ∧ f.e.sub = 1 ∧ f.e.aux = 0 ∧ (busy d Reg.SQ_SWAP 1 1).nextDeferred = some f ∧
      ((busy d Reg.SQ_SWAP 1 1).at 9).swapCheck f.e.val = OK) := by and_intros <;> decide +kernel

theorem witness_KeptWritesFormTransactions :
    (let q := writeReq r1 (Reg.QU_ENABLE 63) 0 1 0; let d := up []; d.permits q ∧ d.waiting = [] ∧ d.rd Reg.CN_SELF ≠ 2 ∧ d.mayWrite = true ∧
      q.ix * 256 + q.sub ≠ Reg.CN_APPLY_AT ∧ d.entryCheck {} (d.entryOf q) = OK) ∧
    (let q := writeReq r1 (Reg.LP_TRIM_ZERO 0) 128 4 0; let d := svc (up (lo RUNNING));
      permitsB d q = true ∧ d.kind 0 = 2 ∧ d.entryCheck {} (d.entryOf q) = OK) ∧
    (let q := writeReq r1 (0x581000 + 7) 0 1 0; (up []).permits q ∧ (up []).entryCheck {} ((up []).entryOf q) = OK) ∧
    (let q := writeReq r1 (0x581000 + 7) 0 1 0; let d := up [(Reg.BK_STATE 0 0, 2)];
      permitsB (svc d) q = true ∧ d.entryCheck {} (d.entryOf q) ≠ OK ∧ d.entryCheck {} (d.entryOf q) ≠ BUSY) ∧
    (let q := writeReq r1 Reg.SY_PULSE_NS 0 4 2000; (up []).permits q ∧ q.total = 0 ∧ malformed q = none ∧
      ((up []).info q.ix q.sub).any (fun f => f.persist = .kept) = true ∧ (up []).isDeferred q.ix q.sub true = false ∧
      (up []).isStagedCommand q.ix q.sub = false ∧ actsAtOnce q.ix q.sub = false ∧ isHandleIx q.ix = false) := by
  and_intros <;> first | decide +kernel | (refine new_of ?_; decide +kernel)

/-- A module with an open transaction of the tests' requester. -/
def opened (d : Dev) (n : Nat) (es : List Entry := []) : Dev := { d with txns := [{ num := n, id := 1, entries := es }] }

theorem witness_TransactionsStageAndCommit :
    (up []).permits (writeReq r1 Reg.TX_OPEN 0 1 1) ∧ ((up []).txns.filter fun x => x.st = 1).length < 8 ∧
    (opened (up []) 5).serves 1 0 ∧ (opened (up []) 5).openTxn 1 = some { num := 5, id := 1 } ∧
    ({ opened (up []) 5 with journal := [(4, 1, 3)] } : Dev).journalHas 4 = true ∧ (opened (up []) 5).journalHas 4 = false ∧
    ((opened (up []) 5).txns.find? fun y => y.num = 5 && y.st = 1) = some { num := 5, id := 1 } ∧
    0 + (opened (up []) 5).rd Reg.TX_TIMEOUT * 1000000000 ≤ (opened (up []) 5).rd Reg.TX_TIMEOUT * 1000000000 ∧
    1000 < 0 + (opened (up []) 5).rd Reg.TX_TIMEOUT * 1000000000 ∧
    ({ opened (up []) 5 with reqs := [{ id := 1, service := true }] } : Dev).serviceOf 1 = true ∧
    (∀ p ∈ [(Reg.SY_PULSE_NS, 4, 2000), (Reg.PL_QUIET_MS, 2, 1000)],
      let q := writeReq r1 p.1 0 p.2.1 p.2.2;
      (opened (up []) 5).writeAccess ((opened (up []) 5).serviceOf q.id) true q.ix q.sub 0 q.len p.2.2 = OK ∧ p.2.2 < 2 ^ (8 * q.len)) ∧
    (opened (up []) 5).opsInUse < 256 ∧
    (let d := busy (opened (up []) 5) Reg.TX_COMMIT 4 5; let f := first (opened (up []) 5) Reg.TX_COMMIT 4 5;
      d.coreWorks = true ∧ d.mayWrite = true ∧ d.nextDeferred = some f ∧ f.q.op = OP_WRITE ∧ f.e.key = Reg.TX_COMMIT ∧ f.e.ix = 0x0220 ∧
        f.e.id = 1 ∧ f.e.val = 5 ∧ Dev.checkAll {} true ((d.at 9).layOver {} (d.at 9).waiting) [] 1 = none ∧ d.rd Reg.CN_SELF ≠ 2) ∧
    (Dev.checkAll {} true ((up []).layOver {} (up []).waiting) [{ ix := 0x0200, sub := 2, val := 4 }] 1).isSome = true := by
  and_intros <;> first | decide +kernel | (refine new_of ?_; decide +kernel)

theorem witness_PrivilegeIsGuarded :
    (up []).serves 1 0 ∧ (up []).lockEnd = none ∧ 0x1624 = (up []).rd Reg.PV_SERVICE_CODE ∧ 0 ≠ (up []).rd Reg.PV_SERVICE_CODE ∧
    ((up []).fails.filter fun t => 1000 < t + 60000000000).length < 2 ∧
    2 ≤ (({ up [] with fails := [0, 5] } : Dev).fails.filter fun t => 1000 < t + 60000000000).length ∧
    (let d : Dev := { up [] with lockEnd := some 1001 }; d.serves 1 0 ∧ 1000 < 1001) ∧
    ({ up [] with reqs := [{ id := 1, service := true }] } : Dev).requester 1 = some { id := 1, service := true } ∧
    ({ up [] with lockEnd := some 1000 } : Dev).lockEnd = some 1000 := by
  and_intros <;> first | decide +kernel | (refine new_of ?_; decide +kernel)

/-- An enabled queue q of 4 096 bytes with the given state. -/
def queued (q : Nat) (l : List (Nat × Nat)) (x : Queue) : Dev :=
  (up ([(Reg.QU_STATE q, 1), (Reg.QU_ENABLE q, 1), (Reg.QU_SEG_SIZE q, 4096)] ++ l)).setQueue q { x with cap := 4096 }

/-- A queue that holds one packet of eight bytes, its reader at the start. -/
def onePkt : Queue := ({ pkts := [{ pos := 0, ty := 1, pseq := 0, bytes := List.replicate 8 7 }] } : Queue).setPtrs { w := 16, c := 16 }

theorem witness_SegmentsCarryValues :
    (up []).serves 1 0 ∧ (15 ≤ 15 ∧ 16 ≤ 16 ∧ 0 < 2 ^ (8 * 16)) ∧
    (up []).readAccess 0x0210 1 0 = WRITE_ONLY ∧
    (∀ k ∈ [0x021002, 0x580001, 0x084001, 0x02F201], (up []).readAccess (k / 256) (k % 256) 0 = OK ∧
      (up []).isDeferred (k / 256) (k % 256) false = false ∧ ((up []).info (k / 256) (k % 256)).isSome = true) ∧
    (let d : Dev := { up [] with reqs := [{ id := 1, snap := some (0x5800, 1, 2, 7) }] };
      d.crownUp = true ∧ d.requester 1 = some { id := 1, snap := some (0x5800, 1, 2, 7) }) ∧
    (let d : Dev := { up [] with reqs := [{ id := 1, collect := some (0x0800, 1, 64, List.replicate 16 0) }] };
      (d.requester 1).bind (·.collect) = some (0x0800, 1, 64, List.replicate 16 0) ∧ (List.replicate 16 0).length = 16 * 1 ∧
        16 = min 16 (64 - 16) ∧ 16 + 16 < 64) ∧
    (∀ p ∈ [(Reg.SY_PULSE_NS, 0), (Reg.QU_READ 63, 0)], let d : Dev := { (queued 63 [] onePkt) with reqs := [{ id := 1 }] };
      d.readAccess (p.1 / 256) (p.1 % 256) p.2 = OK ∧ d.isDeferred (p.1 / 256) (p.1 % 256) false = false ∧
      (d.info (p.1 / 256) (p.1 % 256)).isSome = true ∧ d.requester 1 = some { id := 1 } ∧ d.opsFree = true) ∧
    (let d : Dev := { (queued 63 [(Reg.QU_PRODUCER 63, 1)] {}) with
        reqs := [{ id := 1, collect := some (0x43F0, 0x11, 17, List.replicate 16 5) }] };
      let r := ((d.at 1000).used okRequest).hostWrite 63 (List.replicate 16 5 ++ bytesLE 1 6);
      (d.requester 1).bind (·.collect) = some (0x43F0, 0x11, 17, List.replicate 16 5) ∧ 0x43F0 = 0x4000 + 0x10 * 63 ∧
        1 = min 16 (17 - 16) ∧ d.openTxn 1 = none ∧ d.hostQueue 63 = true ∧ (d.queue 63).broken = none ∧ r.2 = OK ∧
        d.writeAccess (d.serviceOf 1) false 0x43F0 0x11 0 17 (ofBytesLE (List.replicate 16 5 ++ bytesLE 1 6)) = OK) := by and_intros <;> first | decide +kernel | (refine new_of ?_; decide +kernel)

theorem witness_SupplyEventsAct :
    (State.reset.dev.vinValid = false ∧ State.reset.dev.vinAbsent = true) ∧ ({ State.reset.dev with vinAbsent := false } : Dev).vinAbsent = false ∧
    (let d : Dev := { State.reset.dev with vinValid := true, warn := false }; d.vinValid = true ∧ d.warn = false ∧ d.crownUp = false) ∧
    ((up []).vinValid = true ∧ (up []).warn = false ∧ (up []).crownUp = true ∧ (up []).coreUp = true ∧ (up []).rd Reg.PL_RUNG = 0) ∧
    (let d : Dev := { up [] with warn := true, tWarn := some 3 }; d.vinValid = true ∧ d.warn = true ∧ d.tWarn = some 3) ∧
    ((up []).rd Reg.PL_RUNG ≤ 1 ∧ 2200 < 65536 ∧ 2199 < 2200 ∧ bitOf ((up []).rd Reg.PWR_FLAGS) 3 = false) := by and_intros <;> decide +kernel

theorem witness_CrownResetForgets :
    ((up []).crownUp = true ∧ (up []).graft.calSlot = none ∧ (up []).heart.kept ++ (up []).buttons.undo = []) ∧
    permitsB (svc (up [])) (writeReq r1 Reg.PWR_RESET_CMD 0 2 23100) = true := by and_intros <;> decide +kernel

theorem witness_CrownStartsAndRestores :
    (let d : Dev := { State.reset.dev with vinValid := true }; d.crownUp = false ∧ d.vinValid = true ∧ d.asleep = false ∧ d.graft.active = 0) ∧
    (let d := inMode INIT []; d.crownUp = true ∧ d.mode = INIT ∧ d.coreUp = true ∧ d.stuck = false ∧ d.liveSlots = []) ∧
    (let d : Dev := { up [] with coreUp := false }; d.crownUp = true ∧ d.coreUp = false ∧ d.rd Reg.GR_HK_STATE ≠ 5 ∧ d.stuck = false) := by
  and_intros <;> decide +kernel

theorem witness_BranchSuppliesAct :
    (State.reset.dev.branch 3).power = 0 ∧
    (let x := ((up []).setBranch 3 { power := 1, startLock := true }).branch 3; x.power ≠ 0 ∧ x.startLock = true) ∧
    (let d := up [(Reg.PUP_CODE 15, 4)]; (d.drvP 15).isNone = true ∧ (d.chan 15).state = swOFF ∧ d.rd (Reg.PUP_CODE 15) ∉ [1, 6]) ∧
    (let x := (joined (up []) 0 {}).branch 0; x.power ≠ 0 ∧ x.startLock = false ∧ x.uvlo = false ∧ x.warn = false ∧ 899 < x.warnLvl ∧ x.high = false) ∧
    (let x := (joined (up []) 0 { uvlo := true }).branch 0; x.power ≠ 0 ∧ x.uvlo = true ∧ x.uvPol = 0) ∧
    ((joined (up []) 0 { uvlo := true, uvPol := 1 }).branch 0).uvPol ≠ 0 ∧
    (let x := (joined (up []) 0 { warn := true, high := true }).branch 0; x.warn = true ∧ x.warnLvl + 50 ≤ 950 ∧ x.high = true ∧ 5999 < 6000) ∧
    (joined (up []) 0 {}).hears 0 = true ∧ (up []).hears 0 = false := by and_intros <;> decide +kernel

theorem witness_LadderDescendsAndWakes :
    (let d : Dev := ({ up [(Reg.PL_TARGET, 1), (Reg.PL_QUIET_MS, 1000)] with ring := { tFrame := 0 } } : Dev).at 1000000000;
      d.crownUp = true ∧ d.mode ≠ INIT ∧ d.rd Reg.PL_RUNG = 0 ∧ d.ladderBlock = 0 ∧ d.rd Reg.PL_TARGET = 1) ∧
    (let d := up [(Reg.PL_TARGET, 5)]; d.rd Reg.PL_TARGET = 5 ∧ d.crownUp = true ∧ d.graft.calSlot = none) ∧
    (let d : Dev := { up [] with asleep := true, crownUp := false }; (d.at 9).wakes 0 = true ∧ (d.at 9).wakes 9 = true ∧ d.asleep = true) ∧
    (let d := up [(Reg.PL_RUNG, 1)]; (d.at 9).wakes 1 = true ∧ d.asleep = false ∧ d.crownUp = true ∧ d.rd Reg.PL_RUNG ≠ 0 ∧ d.rd Reg.PL_RUNG = 1 ∧
      d.dipsD0 = []) := by and_intros <;> decide +kernel

theorem witness_WatchdogsJudge :
    ((up []).wdRuns false = true ∧ bitOf (up []).wd0.seen 15 = false ∧ (up []).wd0.armed = false ∧ 15 < 16) ∧
    (State.reset.dev.wdRuns false = false ∧ (up []).wdRuns true = false) ∧
    (let d := up [(Reg.WD1_STATE, 1), (Reg.WD1_POLICY, 2)]; d.wdRuns true = true ∧ bitOf (d.rd Reg.WD1_POLICY) 1 = true ∧ bitOf d.wd1.seen 15 = false ∧
      d.wd1.armed = false) ∧ (let d := up [(Reg.WD1_STATE, 1), (Reg.WD1_POLICY, 0)]; bitOf (d.rd Reg.WD1_POLICY) 1 = false) ∧
    (bitOf (({ up [] with wd1 := { seen := 1 } } : Dev).wd true).seen 0 = true ∧ (({ up [] with wd1 := { armed := true } } : Dev).wd true).armed = true) ∧
    bitOf ({ up [] with wd0 := { seen := 0x8000 } } : Dev).wd0.seen 15 = true ∧ ({ up [] with wd0 := { armed := true } } : Dev).wd0.armed = true ∧
    (let d := up [(Reg.WD1_STATE, 1), (Reg.WD1_REQUIRED, 0)]; d.wdRuns true = true ∧ d.rd (wdState true) = 1 ∧ d.wdMissing true = 0) ∧
    (let d := up [(Reg.WD1_STATE, 1), (Reg.WD1_REQUIRED, 4)]; d.wdRuns true = true ∧ d.wdMissing true ≠ 0) ∧
    (up [(Reg.WD0_STATE, 2)]).rd Reg.WD0_STATE = 2 ∧ (up [(Reg.WD0_STATE, 1)]).rd Reg.WD0_STATE = 1 ∧
    (let d := up [(Reg.WD1_STATE, 2), (Reg.WD1_POLICY, 1)]; d.wdRuns true = true ∧ d.rd Reg.WD1_STATE = 2 ∧
      bitOf ((((d.wr Reg.WD1_STATE 3).log1 0x0206 0xFFF5 (d.wdDetail true)).bump 32 Reg.WD1_STAGE2).wdoPulse.rd Reg.WD1_POLICY) 0 = true) ∧
    (let d := up [(Reg.WD1_STATE, 2), (Reg.WD1_POLICY, 0)];
      bitOf ((((d.wr Reg.WD1_STATE 3).log1 0x0206 0xFFF5 (d.wdDetail true)).bump 32 Reg.WD1_STAGE2).wdoPulse.rd Reg.WD1_POLICY) 0 = false) ∧
    (up []).wdoLow = false ∧ (up []).rd (wdState true) ≠ 1 ∧
    (let d := up [(Reg.WD1_STATE, 1), (Reg.WD1_REQUIRED, 0), (Reg.WD1_T_OPEN, 100)]; d.wdMissing true = 0 ∧ 99 < d.wdOpen true ∧ d.wdOpen true ≤ 100) ∧
    (let d := up [(Reg.WD1_STATE, 3), (Reg.WD1_REQUIRED, 0)]; d.wdMissing true = 0 ∧ d.rd (wdState true) = 3) ∧
    (let d := svc (up [(Reg.WD1_STATE, 1), (Reg.WD1_REQUIRED, 0), (Reg.WD1_T_OPEN, 100)]);
      permitsB d (writeReq r1 Reg.WD1_CHECKIN 0 1 15) = true ∧ permitsB d (writeReq r1 Reg.WD1_KEY 0 2 0x3C5A) = true ∧
        permitsB d (writeReq r1 Reg.WD1_KEY 0 2 0xA5C3) = true ∧ permitsB d (writeReq r1 Reg.WD1_ENABLE 0 1 0) = true ∧ d.wd1.armed = false) ∧
    (let d := svc (up []); permitsB d (writeReq r1 Reg.WD1_ENABLE 0 1 1) = true ∧ d.rd Reg.WD1_STATE = 0) ∧ (16 ≤ 16 ∧ 255 < 256) ∧
    (up []).serves 1 0 := by and_intros <;> first | decide +kernel | (refine new_of ?_; decide +kernel)

theorem witness_HeartwoodKeeps :
    (let d := up []; d.crownUp = true ∧ d.coreUp = true ∧ d.mayWrite = true ∧ d.heart.bank0 = true ∧ d.heart.bank1 = true) ∧
    (joined (up []) 3 {}).linked 3 = true ∧ (let x : LifeInc := { chan := 15 }; x.chan.val / 4 = 3) ∧
    (∀ i, i < 4 → ((joined (up []) 3 {}).chan (4 * 3 + i)).inc = {}) ∧ (up [(Reg.CAL_STATE, 1)]).rd Reg.CAL_STATE ≠ 0 ∧ (up []).rd Reg.PL_RUNG = 0 ∧ (up []).coreUp = true ∧
    (let d := (joined (up []) 3 {}).setChan 15 { alarmAt := some 5, alarmNs := 7 }; (d.chan 15).alarmAt = some 5 ∧ (d.chan 15).inc = {}) ∧
    (up [(Reg.RT_STATE, 2)]).rd Reg.RT_STATE = 2 ∧ (61000 < ((61001 : Nat) : Int).natAbs ∧ ((61000 : Nat) : Int).natAbs ≤ 61000) ∧
    (up [(Reg.CAL_STATE, 2)]).rd Reg.CAL_STATE = 2 ∧ (up []).rd Reg.CAL_STATE ≠ 2 := by and_intros <;> decide +kernel

theorem witness_EventsAreKept :
    (let d := up []; d.enabledQueues = [] ∧ d.armedBy 0x0109 = [] ∧ d.staging = [] ∧ d.staging.length < 64 ∧ d.mayWrite = true ∧ d.opsFree = true ∧
      d.log.length < 16384) ∧
    64 ≤ ({ up [] with staging := List.replicate 64 ⟨0, 0, 0, 0, 0⟩ } : Dev).staging.length ∧
    ({ up [] with log := List.replicate 16384 ⟨0, 0, 0, 0, 0⟩ } : Dev).log.length = 16384 ∧ ({ up [] with warn := true } : Dev).mayWrite = false ∧
    ({ up [] with warn := true, staging := List.replicate 64 ⟨0, 0, 0, 0, 0⟩ } : Dev).mayWrite = false ∧
    (up []).grants (readReq r1 Reg.EV_READ) ∧ (up []).opsInUse < 256 ∧
    (let f : Deferred := { q := readReq r1 Reg.EV_READ, e := {} };
      let d : Dev := { up [] with deferred := [f], log := [⟨0, 5, 0x0109, 1, 2⟩] };
      d.coreWorks = true ∧ d.nextDeferred = some f ∧ f.q.op = OP_READ ∧ f.q.segment = 0 ∧ f.q.ix = 0x8010 ∧ f.q.sub = 4 ∧ d.staging = [] ∧
        d.evFind (d.rd Reg.EV_READ_NUM) = some ⟨0, 5, 0x0109, 1, 2⟩ ∧ ({ d with log := [] } : Dev).evFind 0 = none) := by
  and_intros <;> first | decide +kernel | (refine new_of ?_; decide +kernel)

/-- A bank with the header of an image of kind 1 with an empty body and its hash (R387). -/
def emptyBank : Bank :=
  { bytes := ((1 :: List.replicate 11 (0 : Nat)) ++ sha256 [] ++ List.replicate 84 0).zipIdx.map (fun p : Nat × Nat => (p.2, p.1)), valid := false }

/-- The image passes VERIFY where its signature does; whether a signature does is left open (log entry 9). -/
theorem witness_ImageVerifies (h : ∀ k m s, Config.ecdsaVerify k m s = true) : (up []).verifyReason emptyBank = 0 := by
  unfold Dev.verifyReason
  simp only [h]
  decide +kernel

theorem witness_ImagesAreGrafted :
    (let d := up []; d.verifyReason { bytes := (List.range 2).map fun i => (i, 0), valid := false } ≠ 0) ∧
    (up [(Reg.GR_HK_STATE, 4)]).rd Reg.GR_HK_STATE = 4 ∧ (up [(Reg.GR_HK_STATE, 5)]).rd Reg.GR_HK_STATE = 5 ∧
    (up [(Reg.GR_HK_STATE, 6)]).rd Reg.GR_HK_STATE = 6 ∧ (up []).rd Reg.GR_HK_STATE ∉ [4, 5, 6] ∧
    (up [(Reg.GR_HK_STATE, 6)]).crownUp = true ∧ (∀ b ∈ [0, 255], b < 256) ∧ (up []).rd Reg.GR_HK_ADDR + 2 ≤ 4194304 ∧
    (up [(Reg.GR_HK_MIN_VERSION, 2)]).rd Reg.GR_HK_MIN_VERSION = 2 := by and_intros <;> decide +kernel

theorem witness_ConvertersAndMicrocodeAreGrafted :
    (let e : Dev := { up (vi STOPPED ++ [(Reg.GR_CAL_HANDLE, 128), (Reg.GR_CAL_LOW_REF, 0), (Reg.GR_CAL_HIGH_REF, 1000000)]) with
        graft := { calLow := 0, calLowD := 1, calHigh := 1, calHighD := 2 } };
      (e.calNew (e.rd Reg.GR_CAL_HANDLE % 128)).isSome = true ∧ e.graft.calSlot = none) ∧
    0 + 600000000000 ≤ 600000000000 ∧ 599999999999 < (up []).graft.calLast + 600000000000 ∧
    (let d : Dev := { up [(Reg.GR_UC_STATE, 3)] with graft := { ucBranch := some 3 } }; d.graft.ucBranch = some (3 : BranchNo).val ∧ d.rd Reg.GR_UC_STATE = 3) ∧
    (let d : Dev := { up [(Reg.GR_UC_STATE, 2)] with graft := { ucBranch := some 3 } }; d.graft.ucBranch = some 3 ∧ d.rd Reg.GR_UC_STATE = 2) ∧
    (up []).rd Reg.GR_UC_STATE ≠ 2 ∧ (up []).rd Reg.GR_UC_STATE ≠ 3 ∧
    (let e := joined (up []) 3 { digest := (up []).heartDigest 3 }; e.runningIn 3 = [] ∧ (e.branch 3).digest = (up []).heartDigest 3 ∧
      ∀ i, i < 4 → (e.chan (4 * 3 + i)).due = false) := by
  and_intros <;> decide +kernel

/-- Objects of a node whose ring time is synchronised in 1 ms cycles. -/
def timed : List (Nat × Nat) := [(Reg.RT_STATE, 2), (Reg.SQ_LOCK, 1), (Reg.SQ_CYCLE_NS, 1000000), (Reg.RG_NODE_ADDR, 5)]

theorem witness_FramesAreChecked :
    (({ verMajor := 2 } : Frame).verMajor ≠ 1 ∧ ({ ftype := 3 } : Frame).ftype ≠ 1 ∧ ({ ftype := 3 } : Frame).ftype ≠ 2) ∧
    (let f : Frame := { pdLen := 1469 }; 1500 < 32 + f.sealCount + f.pdLen + 128 * f.acycGroups) ∧
    (let f : Frame := { pdLen := 1468 }; 32 + f.sealCount + f.pdLen + 128 * f.acycGroups ≤ 1500 ∧ f.verMajor = 1 ∧ f.ftype = 1 ∧ f.posaddr = false) ∧
    (up [(Reg.PL_RUNG, 1)]).rd Reg.PL_RUNG ≠ 0 ∧ ((up []).rd Reg.PL_RUNG = 0 ∧ (up []).rd Reg.RG_NODE_ADDR = 0) ∧
    (let d := inMode INIT timed; d.rd Reg.RG_NODE_ADDR ≠ 0 ∧ d.mode = INIT) ∧
    (let d := up [(Reg.RG_NODE_ADDR, 5)]; d.mode ≠ INIT ∧ ¬ (d.rd Reg.RT_STATE = 2 ∨ d.rd Reg.RT_STATE = 3)) ∧
    (let d := up timed; let f : Frame := { tArr := 7999999, cycleIndex := 8 }; d.mode ≠ INIT ∧ d.rd Reg.RT_STATE = 2 ∧
      f.cycleIndex ≠ d.ownIndex f.tArr f.cycleNs) ∧
    (let d := up (timed ++ [(Reg.RG_PD_EPOCH, 1)]); let f : Frame := { tArr := 8000000, cycleIndex := 8 };
      f.cycleIndex = d.ownIndex f.tArr f.cycleNs ∧ f.pdEpoch ≠ d.rd Reg.RG_PD_EPOCH) ∧
    (let d := up timed; let f : Frame := { tArr := 8000000, cycleIndex := 8 }; f.cycleIndex = d.ownIndex f.tArr f.cycleNs ∧
      f.pdEpoch = d.rd Reg.RG_PD_EPOCH ∧ d.rd Reg.RG_OUT_OFFSET + d.rd Reg.PI_OUT_LEN ≤ f.pdLen ∧
      d.rd Reg.RG_IN_OFFSET + d.rd Reg.PI_IN_LEN ≤ f.pdLen) := by and_intros <;> decide +kernel

theorem witness_CycleFramesAct :
    (let f : Frame := { tArr := 8000000, tEnd := 8000100, cycleIndex := 8 };
      (up timed).forwards = true ∧ f.fcsOk = true ∧ f.ftype = 1 ∧ (up timed).isolated = false ∧ (up timed).ring.served ≠ some f.cycleIndex ∧ (up timed).frameCheck f = 10 ∧
      (up timed).mapEntries false = [] ∧ (up timed).mapEntries true = [] ∧ (∀ r ∈ f.requests, (up timed).addressed f r = false) ∧
      f.pdLen < (up timed).rd Reg.CN_REGION_OFFSET + 288 ∧ (up []).frameCheck f = 5) ∧
    ({ up timed with ring := { served := some 8 } } : Dev).ring.served = some 8 ∧ (up [(Reg.RP_LOOP, 3)]).isolated = true ∧
    (let d := up (lo RUNNING); d.forwards = true ∧ d.isolated = false ∧ d.ring.served ≠ some 8 ∧ d.frameCheck { cycleIndex := 8 } = 5) := by and_intros <;> decide +kernel

/-- The map entry of LP_OUT_VALUE of slot 0 with 4 bytes, and of its HND_CMD with the EDGE bit (R274). -/
def outEntry : Nat := 0x2000 + (Reg.LP_OUT_SET 0 % 256) * 65536 + 4 * 2 ^ 24
def cmdEntry : Nat := 0x2000 + (Reg.HND_CMD 0 % 256) * 65536 + 2 ^ 24 + 2 ^ 28

theorem witness_ProcessDataActs :
    (let d : Dev := { inMode OPERATE (lo RUNNING) with mapHnd := [(Reg.PI_OUT_MAP 0, 128)] };
      d.writeAccess false true (mapObj outEntry).1 (mapObj outEntry).2 (d.mapHandle true 0) (mapLen outEntry) 4000000 = OK ∧
      d.writeAccess false true (mapObj outEntry).1 (mapObj outEntry).2 (d.mapHandle true 0) (mapLen outEntry) (2 ^ 32 - 1) ≠ OK ∧
      d.entryCheck {} { id := 256, ix := 0x2000, sub := (mapObj outEntry).2, hnd := d.mapHandle true 0, val := 4000000, len := 4 } = OK ∧ d.det = false) ∧
    (inMode OPERATE [(Reg.GU_MODE, 1)]).det = true ∧ (up []).ring.seen.find? (fun p => p.1 = 0) = none ∧
    (let d : Dev := { up [] with ring := { seen := [(0, true)] } }; d.ring.seen.find? (fun p => p.1 = 0) = some (0, bitOf 0x82 7) ∧
      d.ring.seen.find? (fun p => p.1 = 0) = some (0, !bitOf 0x02 7)) ∧
    (let d : Dev := { inMode OPERATE (sw STOPPED) with mapHnd := [(Reg.PI_OUT_MAP 0, 128)], ring := { seen := [(0, true)] } };
      d.writeAccess false true (mapObj cmdEntry).1 (mapObj cmdEntry).2 (d.mapHandle true 0) 1 (0x02 % 128) = OK ∧
      d.entryCheck {} { ix := 0x2000, sub := 4, hnd := d.mapHandle true 0, val := 2, len := 1 } = OK ∧
      d.writeAccess false true (mapObj cmdEntry).1 (mapObj cmdEntry).2 (d.mapHandle true 0) 1 (0x7F % 128) ≠ OK) := by
  and_intros <;> decide +kernel

theorem witness_RingTimeFollows :
    (up []).rd Reg.RT_STATE = 0 ∧ 1000000 < (1000001 : Int).natAbs ∧ (1000000 : Int).natAbs ≤ 1000000 ∧
    (let d := up [(Reg.RT_STATE, 1)]; d.rd Reg.RT_STATE = 1 ∧ 20 < (21 : Int).natAbs ∧ (-20 : Int).natAbs ≤ 20 ∧ d.ring.inLock < 15) ∧
    15 ≤ ({ up [] with ring := { inLock := 15 } } : Dev).ring.inLock ∧
    (let d := up [(Reg.RT_STATE, 2)]; d.rd Reg.RT_STATE = 2 ∧ (200 : Int).natAbs ≤ 200 ∧ 200 < (-201 : Int).natAbs ∧ d.ring.outLock < 2) ∧
    2 ≤ ({ up [] with ring := { outLock := 2 } } : Dev).ring.outLock ∧ (up [(Reg.RT_STATE, 3)]).rd Reg.RT_STATE = 3 := by
  and_intros <;> decide +kernel

theorem witness_RingEventsAct :
    ((up []).forwards = true ∧ (up []).ring.stamps ≠ 7 ∧ (up []).isolated = false) ∧ ((up [(Reg.RP_LOOP, 3)]).forwards = true ∧ (up [(Reg.RP_LOOP, 3)]).isolated = true) ∧ (let r : Ring := { stampP := 5 }; r.stampP ≠ 0 ∧ r.stampP2 = 0) ∧
    (∀ t0, (up []).ring.tFcsA = some t0 → t0 + 60000000000 ≤ 9) ∧ ({ tFcsB := some 5 } : Ring).tFcsB = some 5 ∧ 59999999999 < 5 + 60000000000 ∧
    ((up [(Reg.RP_LINK_A, 1)]).rd (portLink false) ≠ 0 ∧ (up [(Reg.RP_LINK_A, 0)]).rd (portLink false) ≠ 1) ∧
    (let d := up [(Reg.RP_LINK_B, 1), (Reg.RP_LOOP, 2), (Reg.RP_REOPEN_MS, 100)]; bitOf (d.rd Reg.RP_LOOP) 1 = true ∧ d.rd (portLink true) = 1 ∧
      d.ring.cleanB + d.rd Reg.RP_REOPEN_MS * 1000000 ≤ 100000000) ∧
    (let d := up [(Reg.RP_LINK_B, 1), (Reg.RP_LOOP, 0)];
      bitOf ((((d.wr (portLink true) 0).bump 32 Reg.RP_LINK_LOSSES).log1 0x0600 (portSrc true) 0).rd Reg.RP_LOOP) 1 = false) ∧
    (let d := up [(Reg.RP_LINK_B, 1), (Reg.RP_LOOP, 2)];
      bitOf ((((d.wr (portLink true) 0).bump 32 Reg.RP_LINK_LOSSES).log1 0x0600 (portSrc true) 0).rd Reg.RP_LOOP) 1 = true) ∧
    (let d := up [(Reg.PDW_STATE, 1)]; d.rd Reg.PDW_STATE = 1 ∧ d.ring.pdwEnd ≤ 0) ∧ ((up []).mode ≠ INIT ∧ (up []).drivers = []) := by
  and_intros <;> decide +kernel

/-- A mailbox with an ECHO of 16 bytes at segment 15. -/
def echoMail : List Nat := [0x0100, 0, 0x1003, 0, 0x0F00, 0, 0, 0, 1, 2, 3, 4, 5, 6, 7, 8]

theorem witness_PortCommandsAct :
    (127 < 128 ∧ 1 ≤ 3 ∧ ({ shadow := some (127, 1, 2, 10) } : Port).shadow = some (127, 1, 2, 10) ∧ 10 ≤ 60 ∧ 60 ≤ 10 + 50 ∧ 10 + 50 < 61) ∧
    (15 < 16 ∧ (5 < 15 ∧ 15 < 0x10) ∧ (0x11 < 0x1F ∧ 0x1F < 0x20) ∧ (0x40 ≤ 0xFF ∧ 0xFF < 0x100) ∧ 0x300 ≤ 0x300) ∧
    ((up []).portOn = true ∧ (up []).port.mbState ≠ 1 ∧ ({ mbState := 1 } : Port).mbState = 1) ∧
    (let m := mailRequest echoMail 5; (up []).serves m.2.id m.2.seq ∧ m.2.op = OP_ECHO ∧ m.2.segment = 15 ∧ m.2.len = 16 ∧
      ((up []).request ⟨[], {}⟩ m.2).crownUp = true) := by
  and_intros <;> first | decide +kernel | (refine new_of ?_; decide +kernel)

/-- A running 1 ms cycle from ring time 8 ms, whose active table holds the given words from step 0 on. -/
def cycling (d : Dev) (bound : List (Nat × Nat) := []) (words : List Nat := []) : Dev :=
  let e := words.zipIdx.foldl (fun e p => e.wr (Reg.SQ_ACTIVE p.2) p.1) (d.wr Reg.SQ_CYCLE_NS 1000000)
  { e with now := 8000000, seq := { running := true, ended := false, start := 8000000, bound := bound } }

/-- The last step of the table at the last slot before the guard, and a step of slot 0 on handle slot 0. -/
def lastStep : StepOp := { idx := 1023, slot := 99799 }
def step0 : StepOp := { idx := 0, slot := 0 }

/-- The checks of onTime. -/
def onTimeB (d : Dev) (a : Nat) (o : StepOp) : Bool :=
  d.seq.running && !d.seq.ended && o.idx = d.seq.doneTo && d.stepWord false o.idx = stepCode a o && !d.seq.ahead.contains o.idx &&
    o.slot * 10 + 2000 < d.rd Reg.SQ_CYCLE_NS && d.now ≤ d.slotTime o

theorem onTime_of {d : Dev} {a : Nat} {o : StepOp} (h : onTimeB d a o = true) : d.onTime a o := by
  simp only [onTimeB, Bool.and_eq_true, decide_eq_true_eq, Bool.not_eq_true'] at h
  obtain ⟨⟨⟨⟨⟨⟨h1, h2⟩, h3⟩, h4⟩, h5⟩, h6⟩, h7⟩ := h
  exact ⟨h1, h2, h3, h4, h5, h6, h7⟩

theorem witness_StepsAct :
    (∀ a, a < 13 → onTimeB (cycling (up []) [] [stepCode a step0]) a step0 = true) ∧
    (let d := (up [(Reg.SQ_CYCLE_NS, 1000000), (Reg.SQ_ACTIVE 1023, stepCode 11 lastStep)]);
      onTimeB { d with now := 8000000, seq := { running := true, ended := false, start := 8000000, doneTo := 1023 } } 11 lastStep = true) ∧
    (cycling (up [(Reg.QU_STATE 63, 1), (Reg.QU_PRODUCER 63, 0)])).stepsQueue 63 = true ∧
    (cycling (up [])).stepsQueue 63 = false ∧
    (let d := cycling (joined (up (vi RUNNING)) 0 {}) [(0, 128)] [stepCode 2 step0]; let e := d.stepped 2 step0;
      onTimeB d 2 step0 = true ∧ d.stepBound 0 = true ∧ d.hears (d.chanOf 0 / 4) = true ∧ e.urgentOk 0 = true ∧ d.kind 0 ≠ 7 ∧ d.opsFree = true ∧
        d.linked (d.chanOf 0 / 4) = true ∧ d.kind 0 ≠ 4 ∧ d.applyHeld 0 = false) ∧
    (let d : Dev := { cycling (joined (up (vi RUNNING)) 0 {}) [(0, 128)] [stepCode 2 step0] with ops := 256 };
      d.opsFree = false ∧ (d.stepped 2 step0).urgentOk 0 = true) ∧
    ((cycling (up (vi RUNNING)) [(0, 128)]).hears 0 = false ∧ (cycling (up (vi RUNNING)) [(0, 128)]).applyHeld 0 = true) ∧
    (let d := cycling (joined (up (lv RUNNING)) 0 {}) [(0, 128)]; d.stepBound 0 = true ∧ d.linked (d.chanOf 0 / 4) = true ∧ d.kind 0 = 4) ∧
    (cycling (up [])).stepBound 127 = false := by and_intros <;> decide +kernel

theorem witness_StepsAreTimed :
    ((cycling (up [])).seq.running = true ∧ ({ ended := true } : Seq).ended = true ∧ (cycling (up [])).seq.ended = false) ∧
    ((cycling (up [])).rd Reg.SQ_CYCLE_NS ≤ 99800 * 10 + 2000 ∧ 99799 * 10 + 2000 < (cycling (up [])).rd Reg.SQ_CYCLE_NS) ∧
    (let d : Dev := { cycling (up []) [] [stepCode 11 step0] with now := 8000001 }; d.slotTime step0 < d.now ∧ step0.idx = d.seq.doneTo ∧
      d.seq.ahead.contains 0 = false ∧ d.stepWord false 0 = stepCode 11 step0) ∧
    (let o : StepOp := { idx := 0, slot := 99800 }; let d := cycling (up []) [] [stepCode 0 o]; d.stepWord false 0 = stepCode 0 o ∧
      d.seq.ahead.contains 0 = false) ∧
    (cycling (up [])).stepWord false 0 ≠ stepCode 5 step0 ∧ ({ ahead := [0] } : Seq).ahead.contains 0 = true ∧
    (({ dirty := true } : Seq).dirty = true ∧ ({} : Seq).dirty = false ∧ ({} : Seq).wasDirty = false) ∧
    (up (vi RUNNING)).link ((up (vi RUNNING)).chanOf 0 / 4) ≠ 1 ∧
    (let d := joined (up (vi STOPPED)) 0 {}; d.link (d.chanOf 0 / 4) = 1 ∧ d.hst 0 = STOPPED) ∧
    (let d := (joined (up (vi RUNNING)) 0 {}).setSlot 0 { pend := [{ tOut := 3 }] }; d.link (d.chanOf 0 / 4) = 1 ∧ d.hst 0 ≠ STOPPED ∧
      ((d.slot 0).pend.filter fun r => r.tOut ≤ 1000000000 - d.rd Reg.SQ_LATCH_GUARD * 1000) ≠ [] ∧
      ((d.slot 0).pend.filter fun r => r.tOut ≤ 0 - d.rd Reg.SQ_LATCH_GUARD * 1000) = []) := by and_intros <;> decide +kernel

/-- A module whose cycles may run from a local period of 1 ms. -/
def paced (l : List (Nat × Nat)) (x : Seq) : Dev :=
  { up ([(Reg.SQ_CYCLE_SRC, 1), (Reg.SQ_LOCAL_PERIOD, 1000000), (Reg.RT_STATE, 2)] ++ l) with seq := x }

theorem witness_CyclesAreFixed :
    (let d := paced [] {}; d.cyclesMayRun = true ∧ d.wantedNs = 1000000 ∧ d.seq.fixed = false ∧ d.seq.running = false ∧
      d.rd Reg.SQ_SWAP_STATE ≠ 1 ∧ d.txns = []) ∧
    (let d := paced [(Reg.SQ_CYCLE_NS, 1000000)] { running := true, start := 8000000 };
      let stop := d.seq.start + d.rd Reg.SQ_CYCLE_NS; d.cyclesMayRun = true ∧ (stop + d.wantedNs - 1) / d.wantedNs * d.wantedNs = stop) ∧
    (let d := paced [(Reg.SQ_CYCLE_NS, 1500000)] { running := true, start := 9000000 };
      let stop := d.seq.start + d.rd Reg.SQ_CYCLE_NS; d.cyclesMayRun = true ∧ (stop + d.wantedNs - 1) / d.wantedNs * d.wantedNs ≠ stop) ∧
    (let d := paced [(Reg.SQ_SWAP_STATE, 1)] { swapMode := 1 }; d.rd Reg.SQ_SWAP_STATE = 1 ∧ d.seq.swapMode = 1) ∧
    (let d := paced [(Reg.SQ_SWAP_STATE, 1), (Reg.SQ_SWAP_TIME, 9000000)] { swapMode := 2 };
      d.seq.swapMode ≠ 1 ∧ d.rd Reg.SQ_SWAP_TIME ≤ 9000000 ∧ 8000000 < d.rd Reg.SQ_SWAP_TIME) ∧
    (let e : Dev := { paced [] { fixed := true, nextNs := 1000000 } with now := 5 }; e.aheadSteps false 1000000 = []) ∧
    State.reset.dev.cyclesMayRun = false ∧ (paced [] { fixed := true }).seq.fixed = true ∧
    (∀ e ∈ [0, 1, 2], let d := up [(Reg.SY_LAND_MODE, 0), (Reg.FE_LAND_SYNC_EDGE, e)]; d.crownUp = true ∧ d.rd Reg.SY_LAND_MODE = 0 ∧
      d.rd Reg.FE_LAND_SYNC_EDGE = e) ∧ (up [(Reg.SY_LAND_MODE, 1)]).rd Reg.SY_LAND_MODE ≠ 0 ∧
    (let d : Dev := { up [(Reg.RT_STATE, 2)] with seq := { fixed := true, nextNs := 1000000 } };
      d.cyclesMayRun = true ∧ d.seq.fixed = true ∧ d.seq.nextNs ≠ 0 ∧ d.seq.nextSwap = false) ∧ 8000000 % 1000000 = 0 ∧ 8000001 % 1000000 ≠ 0 := by
  and_intros <;> decide +kernel

/-- A module command, the start of slot 0's handle and a bank request of unit 0, as entries. -/
def modEntry (v : Nat) : Entry := { id := 1, ix := 0x0200, sub := 2, val := v, len := 1 }
def startEntry : Entry := { id := 1, ix := 0x2000, sub := 4, val := 2, len := 1, hnd := 128 }
def bankEntry : Entry := { id := 1, ix := 0x5000, sub := 0x0B, val := 1, len := 1 }

theorem witness_BoundariesAct :
    ((up []).crownUp = true ∧ (up []).mode ≠ INIT ∧ (up []).rd Reg.PL_RUNG = 0) ∧ State.reset.dev.crownUp = false ∧
    ((modEntry 3).moduleCmd = true ∧ (modEntry 2).moduleCmd = true ∧ (modEntry 2).val ≠ 3) ∧
    (bankEntry.bankCmd = true ∧ (up (vi ARMED)).unitOf 0 = 0 ∧ (bankEntry.ix - 0x5000) / 0x40 = 0 ∧ startEntry.ix = 0x2000 + 0x40 * 0) ∧
    (Dev.checkAll {} false (up []) [{ ix := 0x8200, sub := 1, val := 17 * 65536 }] 1).isSome = true ∧
    (Dev.checkAll {} false (up []) [modEntry 2] 1 = none ∧ (up []).actsLast [] (modEntry 2) = false) ∧
    (let x : Txn := { num := 1, id := 1, st := 2, done := true }; x.st = 2 ∧ x.done = true ∧ x.applyAt = none ∧ x.entries = []) ∧
    ((up []).det = false ∧ (up [(Reg.GU_MODE, 3)]).det = true ∧ (up [(Reg.GU_MODE, 3)]).atom = true ∧ (cycling (up [(Reg.GU_MODE, 3)])).seq.running = true) := by
  and_intros <;> decide +kernel

/-- The same packet read to its end. -/
def readPkt : Queue := ({ pkts := [{ pos := 0, ty := 1, pseq := 0, bytes := List.replicate 8 7 }] } : Queue).setPtrs { w := 16, c := 16, rd := 16 }

theorem witness_TablesExchange : 1023 < 1024 ∧ tabWf dfltOf (up [(0x600001, 5), (0x640001, 7)]).obj = true := by and_intros <;> decide +kernel

theorem witness_PacketsForm :
    (let d := queued 63 [] {}; let x := d.queue 63; x.broken = none ∧ x.p.dist x.p.w + 8 ≤ x.cap ∧ x.opn = none) ∧
    (let x := (queued 63 [] (({} : Queue).setPtrs { w := 4089 })).queue 63; x.broken = none ∧ x.cap < x.p.dist x.p.w + 8) ∧
    (let d := queued 63 [] { opn := some { start := 0, bytes := [] } }; let x := d.queue 63; x.broken = none ∧ x.opn = some { start := 0 } ∧
      1024 ≤ x.cap - x.p.dist x.p.w ∧ 0 + 1024 ≤ d.pMax 63 ∧ d.pMax 63 < 0 + 1025 ∧ d.pMax 63 - 0 < x.cap - x.p.dist x.p.w ∧ 0 ≤ d.pMax 63) ∧
    (let d := queued 63 [] { ({} : Queue).setPtrs { w := 4000 } with opn := some { start := 3992, bytes := [] } }; let x := d.queue 63;
      x.broken = none ∧ x.cap - x.p.dist x.p.w < 97 ∧ x.cap - x.p.dist x.p.w ≤ d.pMax 63 - 0) ∧
    (let o : Open := { start := 0, bytes := [1], bad := true }; o.bytes ≠ [] ∧ o.bad = true ∧ 9 + (8 - o.bytes.length % 8) % 8 ≤ 4096) := by
  and_intros <;> decide +kernel

theorem witness_QueuesAreRead :
    (let d := queued 63 [] onePkt; let x := d.queue 63; x.broken = none ∧ d.queueOn 63 = true ∧ (∀ k ∈ x.pkts, k.void = false) ∧
      (x.holding x.p.rd).isSome = true ∧ x.mark = false ∧ x.p.dist x.p.rd < x.p.dist 8 ∧ x.p.dist 0 ≤ x.p.dist x.p.rd ∧
      (∀ k ∈ x.pkts, x.p.dist 0 < x.p.dist k.pos + k.size) ∧ d.captured 63 = false) ∧
    ((queued 63 [] { ({} : Queue) with tCommit := some 0, nCommit := 1 }).queue 63).tCommit = some (queued 63 [] {}).now ∧
    ((queued 63 [] {}).queue 63).tCommit ≠ some 0 ∧
    (let d := queued 63 [(Reg.QU_WM_LOW 63, 17)] readPkt; let x := d.queue 63; x.holding x.p.rd = none ∧ x.level < d.rd (Reg.QU_WM_LOW 63) ∧
      ∀ k ∈ x.pkts, x.p.dist k.pos + k.size ≤ x.p.dist x.p.rd) ∧ ({ onePkt with mark := true } : Queue).mark = true ∧
    (let d := queued 63 [] onePkt; d.waitsFill 63 = false ∧ d.grants (readReq r1 (Reg.QU_READ 63)) ∧ d.grants (readReq r1 (Reg.QU_READ3 63)) ∧
      d.permits (writeReq r1 (Reg.QU_CMD 63) 0 1 1) ∧ d.permits (writeReq r1 (Reg.QU_CMD 63) 0 1 5) ∧
      d.permits (writeReq r1 (Reg.QU_RELEASE_AT 63) 0 4 0) ∧ (((d.at 1000).used (writeReq r1 (Reg.QU_RELEASE_AT 63) 0 4 0)).releaseTo 63 0).2 = OK ∧
      (((d.at 1000).used (writeReq r1 (Reg.QU_CMD 63) 0 1 1)).queueCmd 63 1).2 = OK ∧
      (((d.at 1000).used (writeReq r1 (Reg.QU_CMD 63) 0 1 2)).queueCmd 63 2).2 = MARK_LOST) := by
  and_intros <;> first | decide +kernel | (refine new_of ?_; decide +kernel)

theorem witness_HostPacketsForm :
    (let d := svc (queued 63 [(Reg.QU_PRODUCER 63, 1)] {}); d.hostQueue 63 = true ∧ (d.queue 63).broken = none ∧
      permitsB d (writeReq r1 (Reg.QU_WRITE 63) 0 16 (ofBytesLE (List.replicate 16 255))) = true ∧
      (((d.at 1000).used (writeReq r1 (Reg.QU_WRITE 63) 0 16 0)).hostWrite 63 (List.replicate 16 255)).2 = OK ∧
      permitsB d (writeReq r1 (Reg.QU_WRITE_END 63) 0 1 1) = true ∧ permitsB d (writeReq r1 (Reg.QU_WRITE_END 63) 0 1 2) = true) ∧
    (let d := queued 63 [(Reg.QU_PRODUCER 63, 1)] (({} : Queue).setPtrs { w := 4089 });
      ((d.at 1000).hostWrite 63 [1]).2 = BUSY ∧ d.hostQueue 63 = true ∧ (d.queue 63).broken = none) ∧
    (16 < (List.replicate 17 0).length ∧ (List.replicate 256 0).length ≤ 256) ∧
    (permitsB (svc (up [(Reg.GR_HK_STATE, 1)])) (writeReq r1 Reg.GR_HK_DATA 0 16 0) = true ∧ (up []).opsInUse < 256) ∧
    (let d := up [(Reg.QU_SPILL_CHAN 63, 0xFF)]; d.queueOn 63 = false ∧ d.rd (Reg.QU_SPILL_CHAN 63) = 0xFF) ∧
    (let d := up [(Reg.QU_SPILL_CHAN 63, 15)]; d.queueOn 63 = false ∧ d.rd (Reg.QU_SPILL_CHAN 63) = 15 ∧ 15 < 16) ∧
    (let d := queued 63 [(Reg.QU_SPILL_CHAN 63, 0xFF)] {}; d.queueOn 63 = true ∧ d.rd (Reg.QU_SPILL_CHAN 63) = 0xFF) := by and_intros <;> decide +kernel

/-- A packet too far from the reader to lie in the read window. -/
def farPkt : Pkt := { pos := 4096, ty := 1, pseq := 1, bytes := List.replicate 8 9 }

theorem witness_SpillsAndFillsMovePackets :
    (let d := (up [(Reg.QU_STATE 0, 1), (Reg.QU_SPILL_CHAN 0, 15), (Reg.DM_ROLE 15, 1), (Reg.DM_STATE 15, 1), (Reg.DM_QUEUE 15, 0),
        (Reg.DM_BASE 15, 0), (Reg.DM_SIZE 15, 4096), (Reg.QM_PSRAM_STATE, 1), (Reg.QM_PSRAM_USABLE, 4096), (Reg.QU_SPILL_MARK 0, 0)]).setQueue 0
        { ({ pkts := [farPkt] } : Queue).setPtrs { w := 8192, c := 8192 } with cap := 16384 };
      d.spillRuns 15 = true ∧ d.opsFree = true ∧ 0 < d.rd (Reg.DM_SIZE 15) ∧
        d.rd (Reg.DM_BASE 15) + d.rd (Reg.DM_SIZE 15) ≤ d.rd Reg.QM_PSRAM_USABLE ∧ d.rd (Reg.QU_SPILL_MARK 0) < (d.queue 0).inSram ∧
        (d.queue 0).spillNext = some farPkt ∧ (d.queue 0).broken = none ∧ (d.queue 0).place 4096 farPkt.size = some 0 ∧
        (d.queue 0).place 8 farPkt.size = none ∧ ({ d with ops := 256 } : Dev).opsFree = false) ∧
    (up []).spillRuns 15 = false ∧ (let x : Queue := ({ pkts := [{ farPkt with pos := 0, spill := some 0 }] } : Queue).setPtrs { w := 16, c := 16 };
      ∀ k ∈ x.pkts, k.spill.isSome = true ∧ x.inWindow k = true) ∧ (1000 < 1001 ∧ 1000 ≤ 1000) := by and_intros <;> decide +kernel

/-- Capture channel 15 on queue 0 with a ring of 4 096 bytes of PSRAM. -/
def capture (state policy : Nat) : List (Nat × Nat) :=
  [(Reg.DM_ROLE 15, 2), (Reg.DM_STATE 15, state), (Reg.DM_QUEUE 15, 0), (Reg.DM_BASE 15, 0), (Reg.DM_SIZE 15, 4096), (Reg.DM_POLICY 15, policy),
    (Reg.QM_PSRAM_STATE, 1), (Reg.QM_PSRAM_USABLE, 4096)]

theorem witness_CaptureChannelsAct :
    (let d := svc (queued 0 (capture 0 2) {}); permitsB d (writeReq r1 (Reg.DM_CTRL 15) 0 1 1) = true ∧ d.dmCheck 15 1 = OK ∧
      permitsB d (writeReq r1 (Reg.DM_CTRL 15) 0 1 3) = true ∧ d.dmCheck 15 2 = OK ∧ d.rd (Reg.DM_STATE 15) = 0) ∧
    (let d := up (capture 1 2); d.rd (Reg.DM_ROLE 15) = 2 ∧ d.rd (Reg.DM_POLICY 15) = 2 ∧ d.rd (Reg.DM_STATE 15) = 1 ∧
      d.rd (Reg.DM_POST 15) = 0 ∧ (d.queue (d.rd (Reg.DM_QUEUE 15))).pkts.filter (fun k => k.tc ≠ d.now) = []) ∧
    (let d : Dev := { queued 0 (capture 1 2) onePkt with now := 7 }; (d.queue 0).pkts.filter (fun k => k.tc ≠ d.now) ≠ []) ∧
    (let d := queued 0 (capture 1 2) onePkt; d.rd (Reg.DM_POLICY 15) = 2 ∧ (d.queue (d.rd (Reg.DM_QUEUE 15))).pkts ≠ []) ∧
    (let d := queued 0 (capture 1 0) onePkt; d.opsFree = true ∧ d.queueOn 0 = true ∧ (d.queue 0).pkts.length = 1 ∧
      (∀ k ∈ (d.queue 0).pkts, k.void = false ∧ ((d.dma 15).ring.map (·.2)).sum + k.size ≤ 4096)) ∧
    (let d := queued 0 (capture 4 0) onePkt; d.rd (Reg.DM_STATE 15) = 4 ∧ d.queueOn 0 = true ∧ (d.queue 0).pkts ≠ []) ∧
    ({ queued 0 (capture 1 0) onePkt with ops := 256 } : Dev).opsFree = false ∧
    (let d := up (capture 1 0); d.grants (readReq r1 (Reg.DM_RD_DATA 15)) ∧ d.opsFree = true ∧ d.rd (Reg.DM_RD_ADDR 15) < 4096 ∧
      0 + 4096 ≤ d.rd Reg.QM_PSRAM_USABLE ∧ d.psBad = []) ∧
    (let d := up (capture 1 0 ++ [(Reg.QM_PSRAM_USABLE, 0)]); d.rd Reg.QM_PSRAM_USABLE ≤ d.rd (Reg.DM_BASE 15)) := by
  and_intros <;> first | decide +kernel | (refine new_of ?_; decide +kernel)

theorem witness_MemoriesAreKept :
    (up [(Reg.QM_NOR_STATE, 1)]).rd Reg.QM_NOR_STATE = 1 ∧ (up [(Reg.QM_NOR_STATE, 2)]).rd Reg.QM_NOR_STATE ≠ 1 ∧
    (let d := up [(Reg.QM_PSRAM_STATE, 1)]; let e := (d.wr Reg.QM_PSRAM_STATE 2).log1 0x050D 0x52 1; d.rd Reg.QM_PSRAM_STATE = 1 ∧
      e.enabledQueues = [] ∧ ∀ c, c < 16 → e.rd (Reg.DM_STATE c) = 0) ∧ (up [(Reg.QM_PSRAM_STATE, 2)]).rd Reg.QM_PSRAM_STATE ≠ 1 ∧
    (65535 < 65536 ∧ 65535 ∈ ({ up [] with coefBad := [65535] } : Dev).coefBad ∧ 65535 ∉ (up []).coefBad) ∧
    (tabGet (fun _ => 0) (up []).eccLast 1 = 0 ∧ tabGet (fun _ => 0) (up []).eccCnt 1 = 0) ∧ (up []).sramOwner 0 = none ∧ 0x3FFFF < 0x40000 ∧
    ((up []).memoryOn = true ∧ State.reset.dev.memoryOn = false ∧ (up []).opsFree = true ∧ ({ up [] with ops := 256 } : Dev).opsFree = false) ∧
    (let d : Dev := { up [] with eccLast := tabSet (fun _ => 0) [] 1 5 }; tabGet (fun _ => 0) d.eccLast 1 = 5 ∧ 59999999999 < 5 + 60000000000) ∧
    ((up []).scrubAt = none ∧ (let e : Dev := { up [(Reg.QM_PSRAM_USABLE, 4096), (Reg.QM_SCRUB_RATE, 4096)] with scrubAt := some 0, now := 1000000000 };
      e.rd Reg.QM_PSRAM_USABLE * 1000000000 ≤ (e.now - 0) * e.rd Reg.QM_SCRUB_RATE ∧
      ¬ e.rd Reg.QM_PSRAM_USABLE * 1000000000 ≤ (999999999 - 0) * e.rd Reg.QM_SCRUB_RATE)) ∧
    (let d := svc (up []); permitsB d (writeReq r1 Reg.CR_DATA 0 4 0x7FFFFF) = true ∧ permitsB d (writeReq r1 Reg.CR_DATA 0 4 (2 ^ 32 - 0x800000)) = true ∧
      permitsB d (writeReq r1 Reg.CR_DATA 0 4 0x800000) = true ∧ ¬ (toInt 32 0x7FFFFF < -0x800000 ∨ 0x7FFFFF < toInt 32 0x7FFFFF) ∧
      ¬ (toInt 32 (2 ^ 32 - 0x800000) < -0x800000) ∧ 0x7FFFFF < toInt 32 0x800000 ∧ d.coefBusy (d.rd Reg.CR_ADDR) = false ∧
      d.rd Reg.CR_ADDR < 65536) ∧
    (let d := up (vi STOPPED ++ [(Reg.BK_STATE 0 0, 2), (Reg.BK_N2 0 0, 255)]); d.coefBusy (d.rd Reg.CR_ADDR) = true) ∧
    (up []).grants (readReq r1 Reg.CR_DATA) := by and_intros <;> first | decide +kernel | (refine new_of ?_; decide +kernel)

/-- A voltage input in grid mode that is running on a connected branch. -/
def voltage (l : List (Nat × Nat) := []) (x : Slot := {}) : Dev := (joined (up (vi RUNNING ++ [(Reg.CV_WINDOW 0, 0)] ++ l)) 0 {}).setSlot 0 x
/-- A window in which both converters count the same, and windows in which one of them, or none, agrees with T. -/
def even : WinMeas := { nP := 20, nC := 20, nT := 20 }
def pWrong : WinMeas := { nP := 200, nC := 20, nT := 20 }
def cWrong : WinMeas := { nP := 20, nC := 200, nT := 20 }

theorem witness_WindowsEnd :
    (let d := (voltage [] { winEnd := 327680, ideal := 5120000000 }).at 40000000; let y := d.triple {} 0 even (Spans.all (d.windowTicks 0));
      let n := d.chanOf 0; let x := d.slot 0;
      d.kind 0 = 3 ∧ x.settleNext = false ∧ x.testNow = false ∧ x.urgNeed = false ∧ (d.branch (n / 4)).refinFault = false ∧
        (d.branch (n / 4)).refEnd = false ∧ roleOf {} n = 0 ∧ d.graft.calSlot = none ∧ d.graft.calDue = none ∧ (d.branch (n / 4)).cal = none ∧
        (d.branch (n / 4)).driftDue = none ∧ d.windowRuns 0 = true ∧ d.windowDue 0 40000000 = true ∧ d.windowDue 0 19999000 = false ∧
        d.windowTicks 0 ≠ 0 ∧ d.rd (Reg.CV_PLAUS_STATE 0) ≠ VOTING ∧
        (((d.counts 0 y.p) - (d.counts 0 (d.ratioOf 0 0 y.c))).natAbs : Int) ≤ d.plausLimit 0 ∧ d.fast 0 = false ∧ (d.branch (n / 4)).linkUp = true) ∧
    (voltage [(Reg.CV_WINDOW 0, 5)]).fast 0 = true ∧ (((voltage).setBranch 0 {}).branch 0).linkUp = false ∧ (up []).windowRuns 0 = false ∧
    (let d := (voltage [(Reg.CV_WINDOW 0, 5)] { winEnd := 65536, blkP := (100, 16384), blkC := (100, 16384), blkT := (100, 16384) }).at 40000000;
      let q := (d.slot 0).blockMeas even; let f := d.modChan 1 fun c => { c with resP := none, resC := none, resT := none };
      let z := f.triple {} 0 q.1 q.2;
      d.windowRuns 0 = true ∧ d.windowDue 0 40000000 = true ∧ d.fast 0 = true ∧ q.2.p ≠ 0 ∧ q.2.c ≠ 0 ∧
        (((d.counts 0 z.p) - (d.counts 0 (d.ratioOf 0 0 z.c))).natAbs : Int) ≤ d.plausLimit 0) ∧
    (let d := voltage [(Reg.CV_WINDOW 0, 5)]; ((d.slot 0).blockMeas even).2.p = 0) ∧
    (let d := voltage [(Reg.CV_PLAUS_STATE 0, VOTING)] { winEnd := 327680 }; let y := d.triple {} 0 pWrong (Spans.all (d.windowTicks 0));
      let dist := fun a b => ((d.counts 0 a - d.counts 0 b).natAbs : Int);
      d.windowTicks 0 ≠ 0 ∧ d.rd (Reg.CV_PLAUS_STATE 0) = VOTING ∧ d.plausLimit 0 < dist y.p (d.ratioOf 0 0 y.c) ∧
        dist (d.ratioOf 0 0 y.c) (d.ratioOf 0 0 y.t) ≤ d.plausLimit 0 ∧ d.plausLimit 0 < dist y.p (d.ratioOf 0 0 y.t)) ∧
    (let d := voltage [(Reg.CV_PLAUS_STATE 0, VOTING)] { winEnd := 327680 }; let y := d.triple {} 0 cWrong (Spans.all (d.windowTicks 0));
      let dist := fun a b => ((d.counts 0 a - d.counts 0 b).natAbs : Int);
      d.plausLimit 0 < dist y.p (d.ratioOf 0 0 y.c) ∧ dist y.p (d.ratioOf 0 0 y.t) ≤ d.plausLimit 0 ∧
        d.plausLimit 0 < dist (d.ratioOf 0 0 y.c) (d.ratioOf 0 0 y.t)) ∧
    (let d := (joined (up (monitor RUNNING)) 0 {}).setSlot 0 { winEnd := 327680 }; d.windowRuns 0 = true ∧ d.windowDue 0 40000000 = true ∧
      d.fast 0 = false ∧ d.kind 0 = 7 ∧ (d.branch (d.chanOf 0 / 4)).linkUp = true) ∧
    (let d := voltage [(Reg.CV_WINDOW 0, 2), (Reg.CV_MAINS_STATE 0, 2)]; d.rd (Reg.CV_WINDOW 0) = 2 ∧ d.rd (Reg.CV_MAINS_STATE 0) = 2) ∧
    (∀ c ∈ [0, 1, 4, 5], (voltage [(Reg.CV_WINDOW 0, c)]).rd (Reg.CV_WINDOW 0) = c) := by
  and_intros <;> decide +kernel

theorem witness_ReferencesAct :
    (let d := voltage [(Reg.CV_WINDOW 0, 2)]; usesPair (d.kind 0) = true ∧ d.rd (Reg.CV_WINDOW 0) = 2 ∧ d.rd (Reg.CV_MAINS_STATE 0) ≠ 3) ∧
    (voltage [(Reg.CV_WINDOW 0, 3), (Reg.CV_MAINS_STATE 0, 3)]).rd (Reg.CV_MAINS_STATE 0) = 3 ∧
    ¬ (let d := up (sw RUNNING); usesPair (d.kind 0) = true ∧ (d.rd (Reg.CV_WINDOW 0) = 2 ∨ d.rd (Reg.CV_WINDOW 0) = 3)) ∧
    (let d := joined (up [(Reg.BR_REF_SEL 3, 1)]) 3 {}; (d.branch 3).valid = true ∧ (d.branch 3).refinFault = false ∧ d.rd (Reg.BR_REF_SEL 3) = 1) ∧
    (up [(Reg.BR_REF_SEL 3, 0)]).rd (Reg.BR_REF_SEL 3) ≠ 1 ∧ ({ refinFault := true } : Branch).refinFault = true ∧
    (let e := (joined (up []) 3 { cal := some { start := 0, devA := 2000, devB := 0 } }).at 60000000; (e.branch 3).driftDue = none ∧
      (e.branch 3).cal = some { start := 0, devA := 2000, devB := 0 } ∧ 0 + 60000000 ≤ e.now ∧ ((2000 : Int) - 0).natAbs ≤ 2000 ∧
      2000 < ((0 : Int) - 2001).natAbs ∧ 59999999 < 0 + 60000000) ∧ ((up []).branch 3).cal = none ∧
    (let e := (joined (up [(Reg.BR_T_STATE 3, 0), (Reg.BR_CAL_PERIOD 3, 10)]) 3 { calLast := some 0 }).at 10000000000;
      e.rd (Reg.BR_T_STATE 3) = 0 ∧ e.rd (Reg.BR_CAL_PERIOD 3) = 10 ∧ (e.branch 3).refReady = true ∧ (e.branch 3).calLast = some 0 ∧
      0 + 10 * 1000000000 ≤ e.now ∧ (e.branch 3).cal = none) ∧
    (up [(Reg.BR_CAL_PERIOD 3, 0)]).rd (Reg.BR_CAL_PERIOD 3) = 0 ∧ (up [(Reg.BR_T_STATE 3, 2)]).rd (Reg.BR_T_STATE 3) = 2 ∧
    (2 % 2 = 0 ∧ ((voltage).chan (4 * 0 + 2 / 2)).nextP = none) ∧
    ((0 : Int) + clampInt (-16) 16 (20 - 0)).natAbs ≤ 3355 ∧ 3355 < ((3355 : Int) + clampInt (-16) 16 (3400 - 3355)).natAbs := by
  and_intros <;> decide +kernel

theorem witness_UrgentConversionsAct :
    (let d := svc (voltage); let q := writeReq r1 (Reg.CV_URGENT_REQ (128 % 128)) 128 1 1; permitsB d q = true ∧ measuring (d.kind 0) = true ∧
      d.urgentOk 0 = true ∧ d.opsInUse < 256 ∧ d.det = false ∧ (d.slot (d.master 0)).urgRun = false ∧ (d.slot (d.master 0)).urgReqs = []) ∧
    (let d := svc (voltage [(Reg.GU_MODE, 1)]); d.det = true ∧ permitsB d (writeReq r1 (Reg.CV_URGENT_REQ (128 % 128)) 128 1 1) = true) ∧
    (let d := svc (up (vi STOPPED)); d.urgentOk 0 = false ∧ permitsB d (writeReq r1 (Reg.CV_URGENT_REQ (128 % 128)) 128 1 1) = true) ∧
    (let d := voltage [] { urgRun := true, urgReqs := [(1, 0)] }; (d.slot 0).urgRun = true ∧ d.kind 0 ≠ 7 ∧ d.fast 0 = false ∧
      d.hears (d.chanOf 0 / 4) = true ∧ d.observers 0 = [] ∧ (d.slot 0).urgReqs = [(1, 0)] ∧ (d.slot 0).urgNext = []) ∧
    (let d := (joined (up (monitor RUNNING)) 0 {}).setSlot 0 { urgRun := true }; (d.slot 0).urgRun = true ∧ d.kind 0 = 7 ∧ d.hears (d.chanOf 0 / 4) = true) ∧
    ((up []).slot 0).urgRun = false := by and_intros <;> decide +kernel

theorem witness_LoopsAct :
    (let d := up (li RUNNING); d.isDriver 0 = true ∧ d.kind 0 = 1 ∧ bitOf (d.rd (Reg.HND_BIND 0)) 11 = false) ∧ (up []).isDriver 0 = false ∧
    (let d := up (handle 0 0x411 RUNNING 0); d.drvP 1 = some 0 ∧ d.kind 0 = 1) ∧ ({ txOn := true } : Chan).txOn = true ∧
    ({ txLim := true } : Chan).txLim = true ∧ ({ txOff := true } : Chan).txOff = true ∧ (up []).drvP 15 = none ∧
    (let d := (up (lo RUNNING)).setBranch 0 { parked := true }; d.isDriver 0 = true ∧ d.kind 0 = 2 ∧ (d.branch (d.chanOf 0 / 4)).parked = true ∧
      (d.chan (d.chanOf 0)).subDue = false ∧ (d.chan (d.chanOf 0)).ackDue = false ∧ bitOf (d.lpSt 0) 3 = false) ∧
    (let d := (up (lo RUNNING ++ [(Reg.LP_COMPLIANCE_POLICY 0, 0)])).setChan 1 { lpSt := 8 }; bitOf (d.lpSt 0) 3 = true ∧
      d.rd (Reg.LP_COMPLIANCE_POLICY 0) = 0) ∧
    (let d := (up (lo RUNNING ++ [(Reg.LP_COMPLIANCE_POLICY 0, 1), (Reg.LP_OUT_ACTUAL 0, 500000), (Reg.LP_ALARM_HIGH 0, 21000000)])).setBranch 0 { parked := true };
      d.rd (Reg.LP_COMPLIANCE_POLICY 0) = 1 ∧ (d.chan 1).subst = false ∧ (d.chan 1).target < d.rd (Reg.LP_ALARM_HIGH 0) ∧
        (d.chan 1).safeOn = false ∧ 500000 ≤ d.rdI 32 (Reg.LP_OUT_ACTUAL 0) ∧ 1000000 ≤ 1000000) ∧
    (((up (lo RUNNING)).setBranch 0 {}).branch 0).parked = false ∧
    (let d := (joined (up (lo RUNNING)) 0 {}).setChan 1 { ackDue := true }; (d.chan (d.chanOf 0)).ackDue = true ∧ d.hears (d.chanOf 0 / 4) = true) ∧
    ({ subDue := true } : Chan).subDue = true ∧ (up (lo RUNNING)).hears 0 = false := by and_intros <;> decide +kernel

theorem witness_ButtonsTrim :
    permitsB (svc (up [])) (writeReq r1 Reg.TB_ENABLE 0 1 1) = true ∧
    (let l := setBit (setBit ((up [(Reg.TB_LANDS, 2)]).rd Reg.TB_LANDS) 0 true) 2 false; bitOf l 0 = true ∧ bitOf l 1 = true) ∧
    ¬ (let l := setBit (setBit ((up []).rd Reg.TB_LANDS) 0 true) 2 true; bitOf l 0 = true ∧ bitOf l 1 = true) ∧
    (let d := up (lo RUNNING ++ [(Reg.TB_ENABLE, 1), (Reg.TB_HANDLE, 128)]); d.rd Reg.TB_ENABLE = 1 ∧ d.buttons.lock = false ∧
      d.buttonSlot = some 0 ∧ d.kind 0 = 2) ∧
    (let d := up (li RUNNING ++ [(Reg.TB_ENABLE, 1), (Reg.TB_HANDLE, 128)]); d.buttonSlot = some 0 ∧ d.kind 0 = 1 ∧ d.capturing = false ∧
      d.rd Reg.TB_HANDLE = d.rd (Reg.HND_ID 0)) ∧ (up [(Reg.TB_STATUS, 1)]).capturing = true ∧ (up []).buttonSlot = none ∧
    ({ held := some true } : Buttons).held = some true ∧ ((up []).buttons.undo = [] ∧ (up []).staged.filter (fun x => x.aux = 2 && isHandleIx x.ix) = []) ∧
    (let d := (up (lo RUNNING)).stageTrim 0 true 100 2; d.staged.filter (fun x => x.aux = 2 && isHandleIx x.ix) ≠ [] ∧ d.mayWrite = true) ∧
    (let d : Dev := { up (lo RUNNING) with buttons := { undo := [(trimKey 0 false, 7)] } }; d.crownUp = true ∧ d.graft.calSlot = none ∧ d.hst 0 ≠ 0) ∧
    (0 + 1800000000000 ≤ 1800000000000 ∧ 1799999999999 < (up []).buttons.last + 1800000000000) ∧
    (trimFits true (trimLimit true) = true ∧ trimFits false (-trimLimit false) = true) ∧
    (({} : Buttons).capN ≠ 4 ∧ ({} : Buttons).capAll + 1 ≠ 16 ∧ ({ capAll := 15 } : Buttons).capAll + 1 = 16 ∧
      ({ abort := true } : RecFlags).clean = false) := by and_intros <;> decide +kernel

/-- A level input of channel 1 on a powered branch, and the channel's state. -/
def level (c : Chan) (l : List (Nat × Nat) := lv RUNNING) : Dev := (joined (up l) 0 {}).setChan 1 c

theorem witness_LevelsAct :
    (up []).lvJudged 1 = false ∧ (level {}).lvJudged 1 = true ∧ ((false != ({} : Chan).invert) = ({} : Chan).cand ∧ (true != ({} : Chan).invert) ≠ ({} : Chan).cand) ∧
    ({ compWire := true } : Chan).comp = true ∧ ({ compWire := true, compShort := true, detect := 0 } : Chan).comp = false ∧
    (let c := (level { detect := 0 } (handle 0 (0x8000 + 0x14) RUNNING 255)).chan 1; c.detect = 0 ∧ c.raw = c.cand) ∧
    (level {}).ucSwitching (1 / 4) = false ∧
    (let c := (level { cand := true, tc := 5 }).chan 1; c.comp = false ∧ c.fault = false ∧ c.cand ≠ c.level ∧ c.tc + c.debounce * 1000 ≤ 1000005 ∧
      ¬ (c.tc + c.debounce * 1000 ≤ 1000004)) ∧
    (let c := (level { level := true, tc := 5 }).chan 1; c.cand = false ∧ c.cand ≠ c.level) ∧
    ((level {}).lvDriver 1 = some 0 ∧ (level {}).trackers 0 = []) ∧
    (let d := level {} (lv RUNNING ++ handle 1 0x23 RUNNING 1 ++ [(Reg.CV_WINDOW 1, 2), (Reg.CV_MAINS_SRC 1, 128)]); d.lvDriver 1 = some 0 ∧ d.trackers 0 = [1]) ∧
    (let d := level {} (handle 0 (0x8000 + 0x14) RUNNING 255); d.lvDriver 1 = some 0 ∧ d.lvType 0 = 2 ∧ bitOf (d.chan 1).detect 0 = true ∧
      bitOf (d.chan 1).detect 1 = true ∧ (d.chan 1).compShort = false ∧ (d.chan 1).raw = (d.chan 1).cand) ∧ (level {}).lvType 0 ≠ 2 ∧
    (let c : Chan := { compWire := true }; c.compWire = true ∧ bitOf c.detect 0 = true ∧ c.wireBrk = false) ∧ (let c : Chan := { compShort := true }; c.compShort = true ∧ bitOf c.detect 1 = true ∧ c.short = false) ∧
    (let c : Chan := { wireBrk := true }; c.wireBrk = true ∧ c.compWire = false ∧ c.short = false) ∧
    (let c : Chan := {}; (c.wireBrk = true → c.compWire = true) ∧ (c.short = true → c.compShort = true)) := by and_intros <;> decide +kernel

/-- A switch channel 1 on a connected branch. -/
def switch (c : Chan) (l : List (Nat × Nat) := sw RUNNING) : Dev := (joined (up l) 0 {}).setChan 1 c

theorem witness_SwitchesTrip :
    (let d := switch { state := swON, set := { lamp := false } }; let m := d.lead 1; (d.chan m).state = swON ∧ d.iTrip {} m = 3000 ∧ 3000 < 3001 ∧
      (d.chan m).set.lamp = false) ∧ (let d := switch { state := swPWM }; (d.chan (d.lead 1)).state = swPWM ∧ (d.chan (d.lead 1)).set.lamp = true) ∧
    (let d := switch {}; (d.chan (d.lead 1)).state = swOFF ∧ (d.chan (d.lead 1)).meetsOff 5 = false) ∧
    (let d := switch { tOff := some 5, prev := swON, set := { lamp := false } }; (d.chan (d.lead 1)).meetsOff 5 = true ∧ (d.chan (d.lead 1)).set.lamp = false) ∧
    (let d := switch { tOff := some 5, prev := swPWM }; (d.chan (d.lead 1)).meetsOff 5 = true ∧ (d.chan (d.lead 1)).set.lamp = true) ∧
    (let d := switch { state := swRETRYING, flags := 128 }; (d.chan (d.lead 1)).state = swRETRYING ∧ bitOf (d.chan (d.lead 1)).flags 7 = true) ∧
    (({ thermal := 1 } : SwSet).thermal = 1 ∧ ({} : SwSet).thermal ≠ 1) ∧
    (let d := switch {}; d.drvP 1 = some 0 ∧ d.hears (1 / 4) = true ∧ d.hst 0 = RUNNING ∧ (d.branch (1 / 4)).linkUp = true) ∧
    ((up []).hears 0 = false ∧ ((up []).branch 0).buf.length < 32) := by and_intros <;> decide +kernel

theorem witness_SwitchesRetry :
    (let d := switch { state := swRETRYING, flags := 128, left := 1 }; let c := d.chan (d.lead 1);
      c.state = swRETRYING ∧ bitOf c.flags 7 = true ∧ 0 < c.left ∧ c.tTry + c.timRun * 100000 ≤ 5000000 ∧ 4999999 < c.tTry + c.timRun * 100000) ∧ ({ left := 0 } : Chan).left = 0 ∧
    ((switch { state := swON }).chan ((switch { state := swON }).lead 1)).state = swON ∧ ¬ ((switch {}).chan 1).state = swRETRYING ∧
    (let d := switch { state := swRETRYING, left := 1, force := { cmd := 1 }, tOff := some 5 }; let c := d.chan (d.lead 1);
      c.state = swRETRYING ∧ bitOf c.flags 7 = false ∧ d.cool (d.lead 1) = true ∧ c.force.cmd ≠ 0 ∧ gapPast c.gapRun (5 + 10000000) c.tOff = true ∧ 0 < c.left) ∧
    (let d := switch { state := swTHERMAL_HOLD, force := { cmd := 1 }, tTherm := some 5, set := { lamp := false } }; let m := d.lead 1; let c := d.chan m;
      c.state = swTHERMAL_HOLD ∧ d.cool m = true ∧ c.force.cmd ≠ 0 ∧ gapPast c.gapRun (5 + 10000000) c.tTherm = true ∧ d.mayConduct m = true ∧
        halvesGone {} (d.pairChans m) = false ∧ c.set.lamp = false) ∧
    (let d := switch { state := swTHERMAL_HOLD, inSeq := true, left := 1 }; (d.chan (d.lead 1)).set.lamp = true ∧ (d.chan (d.lead 1)).inSeq = true ∧
      0 < (d.chan (d.lead 1)).left) ∧ (switch { temp := 1500 }).cool 1 = false ∧
    ({ tempWarn := true } : Branch).tempWarn = true ∧ ({} : Branch).tempWarn = false := by and_intros <;> decide +kernel

theorem witness_SwitchesJudgeLoads :
    (let d := switch { state := swPWM, force := { cmd := 1 } }; (d.chan (d.lead 1)).state = swPWM ∧ (d.chan (d.lead 1)).force.cmd = 1) ∧
    (let d := switch { state := swPWM, force := { cmd := 2 }, set := { lamp := false } }; (d.chan (d.lead 1)).force.cmd ≠ 1 ∧ (d.chan (d.lead 1)).set.lamp = false) ∧
    (let d := switch { state := swPWM, force := { cmd := 2 } }; (d.chan (d.lead 1)).set.lamp = true ∧ 899 < (d.branch (1 / 4)).warnLvl) ∧
    (let q := compDuty 32768 0 2400 4800; ((switch {}).branch (1 / 4)).warnLvl ≤ 4800 ∧ q.1 < q.2) ∧
    (let q := compDuty 65536 0 2400 2400; (q.2 : Int) ≤ q.1) ∧ ((switch {}).mayClear 1 = true ∧ (up []).mayClear 1 = false) ∧
    (0 < 20 ∧ 2 * 984 ≤ (roundDiv 16384000 20).toNat) ∧
    (let s : SwSet := {}; 200000 * 1500 ≤ clampLimit s.clampS 0 ∧ 30000 ≤ s.clampR * 1000 ∧ clampLimit s.clampS 1750 < 1 * 1500 ∧ s.clampR * 1000 < 30001 ∧
      1000000004 < 5 + 1000000000) ∧
    (let d := switch {}; let x := d.chan 1; x.state = swOFF ∧ d.lead 1 = 1 ∧ d.mayConduct 1 = true ∧ x.set.vOl < 4001 ∧ x.short3 < 2 ∧
      bitOf x.set.test 1 = true ∧ bitOf x.flags 1 = false ∧ 4000 ≤ x.set.vOl) ∧
    (2 ≤ ({ short3 := 2 } : Chan).short3 ∧ 2 ≤ ({ open3 := 2 } : Chan).open3 ∧ 2 ≤ ({ ok3 := 2 } : Chan).ok3 ∧ ({ flags := 3 } : Chan).flags % 4 ≠ 0) ∧
    ((switch { state := swON }).chan 1).state ≠ swOFF := by and_intros <;> decide +kernel

theorem witness_SwitchHalvesFail :
    (let d := switch { state := swON }; (d.chan (d.lead 1)).state = swON ∧ halvesLeft {} 1 = 2 ∧ halvesGone {} (d.pairChans (d.lead 1)) = false) ∧
    halvesLeft { halves := 4 } 1 < 2 ∧ halvesGone { lost := 2 } [1] = true ∧ ((switch {}).chan 1).state ≠ swSTUCK_ON ∧ 100 < 101 ∧
    ((switch { state := swSTUCK_ON }).chan 1).state = swSTUCK_ON ∧
    (let d := switch {}; halvesGone { lost := 2 } (d.pairChans (d.lead 1)) = true ∧ (d.chan (d.lead 1)).state = swOFF ∧ ({ cmd := 1 } : OutVal).cmd ≠ 0) := by
  and_intros <;> decide +kernel

theorem witness_CanopyJudges :
    (let d : Dev := { up [(Reg.CN_RANK, 1)] with canopy := { lost := 0, cyc := 12, fresh := [(7, { rank := 7, cycle := 10 })] } };
      d.canopy.beacon 7 = some { rank := 7, cycle := 10 } ∧ bitOf d.canopy.lost 7 = false ∧ later 32 d.canopy.cyc (10 + 1) = true ∧ 7 ≠ d.cnRank ∧
        d.cnJudges = true) ∧
    (let d : Dev := { up [(Reg.CN_RANK, 1)] with canopy := { lost := 0, cyc := 12, leader := some 0 } }; d.cnJudges = false) ∧
    later 32 11 (10 + 1) = false ∧ (2 < 2 ^ 32 ∧ 0 + 2 ≤ 2 ∧ 2 ^ 31 - 1 < 0 + 2 ^ 31) ∧ (up []).cnDelta = none ∧
    (let d : Dev := { up [(Reg.CN_RANK, 1), (Reg.RT_OFFSET, 1001)] with canopy := { cyc := 12, passed := true, leader := some 0, leadOff := some (12, 0) } };
      d.cnDelta = some 1001 ∧ (1001 : Int).natAbs < 2 ^ 31 ∧ 1000 < (1001 : Int).natAbs ∧ (1000 : Int).natAbs ≤ 1000) ∧
    (({ above := 15 } : Canopy).above = 15 ∧ ({} : Canopy).timeLost = false ∧ ({ timeLost := true, below := 15 } : Canopy).below = 15) := by
  and_intros <;> decide +kernel

theorem witness_EveryStepKeepsMemoryForm : Memory.wf State.reset.ps = true ∧ step { State.reset with pending := [.rstn 5] } = exec (.rstn 5) State.reset := by
  and_intros <;> first | decide +kernel | rfl

theorem witness_SparesStayUsed : Reaches State.reset State.reset ∧ roleOf { conv := 4 } 1 ≠ 0 ∧ drifts { drift := 8 } 3 = true := by
  refine ⟨.here, ?_, ?_⟩ <;> decide +kernel

/-! Single steps. The expected values are the spec's own worked cases and tables, or follow from its formulas by hand. -/

/-- The module after a command; the empty module where the command stops. -/
def after (c : Instr) (d : Dev) : Dev :=
  match exec c { dev := d } with
  | .next t => t.dev
  | _ => {}

/-- R215: the check value for the nine ASCII bytes 123456789. -/
theorem test_crc16 : crc16 [0x31, 0x32, 0x33, 0x34, 0x35, 0x36, 0x37, 0x38, 0x39] = 0x29B1 := by decide +kernel
/-- R110: CRC-32 of IEEE 802.3, its published check value. -/
theorem test_crc32 : crc32 [0x31, 0x32, 0x33, 0x34, 0x35, 0x36, 0x37, 0x38, 0x39] = 0xCBF43926 := by decide +kernel
/-- R388: SHA-256 of the bytes abc (FIPS 180-4). -/
theorem test_sha256 : (sha256 [0x61, 0x62, 0x63]).take 4 = [0xBA, 0x78, 0x16, 0xBF] := by
  decide +kernel
/-- R72: half scale, clamping, and the band below 0 that gives code 0 without SAT. -/
theorem test_codes : codeOf false (1, 2) = (0x800000, false) ∧ codeOf false (1, 1) = (0xFFFFFF, true) ∧ codeOf true (-1, 1) = (-0x800000, false) ∧
    codeOf false (-1, 2000) = (0, false) ∧ codeOf false (-1, 999) = (0, true) := by decide +kernel
/-- R161: half of the 5 ms period at 200 Hz, and an on-time lengthened to 60 µs. -/
theorem test_onTicks : onTicks (32768, 65536) 200 = 40960 ∧ onTicks (1, 65536) 200 = 984 ∧ onTicks (1, 1) 200 = 81920 := by decide +kernel
/-- R35: slot 5 at generation 3. -/
theorem test_handle : handleOf 5 3 = 0x185 := by decide +kernel

/-- R28, R43, R265: a create is answered DEFERRED, and completes with the handle of slot 0 at generation 1. -/
theorem test_create : let d := after (.hmCreate r1 0x15) (up []); d.resp.status = DEFERRED ∧
    (after (.createComplete 2000) d).hst 0 = CREATED ∧ (after (.createComplete 2000) d).rd (Reg.HND_ID 0) = 128 ∧
    (after (.createComplete 2000) d).resp.data = 128 := by decide +kernel
/-- R44: the second driver of a land is refused. -/
theorem test_create_taken : (up (sw CREATED)).createCheck 0x15 = 2 := by decide +kernel
/-- R265: a repeat is answered from the held responses and counted. -/
theorem test_repeat : let d := after (.goOperate r1) (up []); (after (.goOperate r1) d).rd Reg.DR_REPEATS = 1 ∧ (after (.goOperate r1) d).resp = d.resp := by
  decide +kernel
/-- R52, R53: GO_OPERATE is staged, and takes effect at the next boundary. -/
theorem test_goOperate : let d := after (.goOperate r1) (up []); d.mode = PREOP ∧ (after (.cycleBoundary 3000) d).mode = OPERATE := by decide +kernel
/-- R261: ENTER_SERVICE without SERVICE privilege. -/
theorem test_privilege : (after (.enterService r1) (up [])).resp.status = PRIVILEGE := by decide +kernel
/-- R262: the code of 0230:03 grants SERVICE privilege, a wrong one does not. -/
theorem test_unlock : (after (.pvUnlock r1 0x1624) (up [])).serviceOf 1 = true ∧ (after (.pvUnlock r1 0x1625) (up [])).serviceOf 1 = false ∧
    (after (.pvUnlock r1 0x1625) (up [])).resp.status = PRIVILEGE := by decide +kernel
/-- R164: at 12 × 0.25 A the comparator does not trip; above it a channel without LAMP latches. -/
theorem test_trip : let d := switch { state := swON, set := { lamp := false } };
    ((after (.overcurrentTrip 1 3000 5) d).chan 1).state = swON ∧ ((after (.overcurrentTrip 1 3001 5) d).chan 1).state = swOC_LATCH := by decide +kernel
/-- R180: a retired half is used up. -/
theorem test_half : (match exec (.halfRetired 1 true 5) { dev := switch { state := swON } } with
    | .next t => halvesLeft t.worn 1
    | _ => 9) = 1 := by decide +kernel
/-- R398, worked case: 2 840 mV for 2 695 µs. -/
theorem test_dip : let d : Dev := { up [] with warn := true, tWarn := some 5000 };
    ((after (.pwrWarnCleared 2840 2695 2700000) d).log.getLast?.map fun r => (r.code, r.det)) = some (0x0101, 0x0B180A87) := by decide +kernel
/-- R213, R216, R223: a host packet of five bytes comes back as one word, first and last, with five bytes. -/
theorem test_queue : let d := after (.quWrite r1 63 [1, 2, 3, 4, 5]) (queued 63 [(Reg.QU_PRODUCER 63, 1)] {});
    let e := after (.quWriteEndCommit ⟨1, 1, 2000⟩ 63) d;
    (after (.quRead ⟨1, 2, 3000⟩ 63) e).resp.data = 0x0504030201 + (1 + 2 + 4 + 5 * 8) * 2 ^ 64 := by decide +kernel
/-- R225: REWIND without a mark. -/
theorem test_markLost : (after (.rewind r1 63) (queued 63 [] {})).resp.status = MARK_LOST := by decide +kernel
/-- R242: a copy into a ring that lies outside the usable bytes faults. -/
theorem test_hole : (match exec (.captureCopy 15 5) { dev := queued 0 (capture 1 0 ++ [(Reg.QM_PSRAM_USABLE, 0)]) onePkt } with
    | .fault f => some f
    | _ => none) = some .psramHole := by decide +kernel
/-- The canonical form: a byte written as an unlisted one reads leaves the list. -/
theorem test_memory : Memory.put (Memory.put [] 5 7) 5 0 = [] ∧ Memory.byte (Memory.put [] 5 7) 5 = 7 ∧ Memory.byte (Memory.put [] 5 7) 6 = 0 := by
  decide +kernel
/-- R242: where usable PSRAM bytes and their check bytes stand in the device, and the usable size of 64 MiB. -/
theorem test_psramMap : rawData 55 = 55 ∧ rawData 56 = 64 ∧ rawCheck 7 = 56 ∧ rawCheck 55 = 62 ∧ rawCheck 56 = 120 ∧ usableOf (64 * 2 ^ 20) = 58720256 := by
  decide +kernel
/-- R290: a frame of another major version fails check 1, and a node without an address check 5. -/
theorem test_frames : (up timed).frameCheck { verMajor := 2 } = 1 ∧ (up []).frameCheck {} = 5 := by decide +kernel
/-- R405, R412: supply valid, start, restore: the module is in PREOP with the first epoch. -/
theorem test_start : let d := after (.crownStart 3300 3000 (some 0) false 0 true true [] 1000) (after (.vinValid 0) State.reset.dev);
    d.mode = INIT ∧ d.crownUp = true ∧ (after (.restoreComplete 2000) d).mode = PREOP ∧ (after (.restoreComplete 2000) d).rd Reg.DR_EPOCH = 1 := by decide +kernel
/-- R16: the word at the head of a branch's queue acts: an ON command of a switch on a powered branch. -/
theorem test_apply : ((after (.apply 0 w1 5) (down (sw RUNNING) [.apply 1 5] { staged := { cmd := 1 }, set := { lamp := false } })).chan 1).state = swON := by
  decide +kernel
/-- R17: a word with a wrong CRC-8 is not taken. -/
theorem test_badWord : ((after (.apply 0 badWord 5) (down (sw RUNNING) [.apply 1 5] { staged := { cmd := 1 } })).chan 1).state = swOFF := by decide +kernel
/-- R192, R195: MARK_TIME writes the ring time of its slot, 100 × 10 ns after the cycle's start. -/
theorem test_markTime : let o : StepOp := { idx := 0, slot := 100, param := 3 };
    (after (.markTime o) (cycling (up []) [] [stepCode 11 o])).rd (Reg.SQ_MARK 3) = 8001000 ∧ (after (.markTime o) (cycling (up []))).rd (Reg.SQ_MARK 3) = 0 := by
  decide +kernel
/-- R146 to R149: an accepted edge of a level input with the default debounce of 1 ms. -/
theorem test_level : ((after (.levelEdgeAccepted 1 1000005) (level { cand := true, tc := 5 })).chan 1).level = true ∧
    ((after (.levelEdgeAccepted 1 1000004) (level { cand := true, tc := 5 })).chan 1).level = false := by decide +kernel
/-- The table gives no row bits. -/
theorem test_decode : decodeTableWord 16 0 = none ∧ State.reset.withFetchWord 16 0 = State.reset := by decide +kernel
/-- The constructors answer from the state after reset, the front of the queue first. -/
theorem test_step : (match step { State.reset with pending := [.vinValid 5, .rstn 6] } with
    | .next t => decide (t.pending = [.rstn 6]) && t.dev.vinValid
    | _ => false) = true := by decide +kernel

end Sys2Proof.Tests
end

/-!
The coefficient RAM at its address (R107 to R110), errors of the memories (R239, R242 to R245), and the served READ that a coefficient
read is (R256 to R268).
-/
section
namespace Sys2Proof.Machine

/-! Lists and tables. -/

theorem filterMap_tabSet {α β : Type} [DecidableEq α] (d : Nat → α) (f : Nat × α → Option β) (m : Tab α) (k : Nat) (v : α)
    (hf : ∀ w, f (k, w) = none) : (tabSet d m k v).filterMap f = m.filterMap f := by
  have hsome : ∀ l : Tab α, l.filterMap f = (l.filter fun p => (f p).isSome).filterMap f := by
    intro l
    rw [List.filterMap_filter]
    exact List.filterMap_congr fun p _ => by cases h : f p <;> simp
  rw [hsome, hsome m, filter_tabSet d _ m k v fun w => by simp [hf]]

theorem each_of_fixed {α : Type} (d : Dev) (l : List α) (f : Dev → α → Dev) (h : ∀ a ∈ l, f d a = d) : d.each l f = d := by
  induction l with
  | nil => rfl
  | cons a l ih =>
    rw [Dev.each_cons, h a List.mem_cons_self]
    exact ih fun b hb => h b (List.mem_cons_of_mem _ hb)

/-! Faults of the external memories (R239, R245). -/

theorem xspiNoStrobe_goes (s : State) (nor : Bool) (t : Nat) :
    Goes (.xspiNoStrobe nor t) s (if nor then (s.dev.at t).norFault 1 else (s.dev.at t).psramFault 1) := rfl

theorem norFault_of_on (d : Dev) (why : Nat) (h : d.rd Reg.QM_NOR_STATE = 1) :
    d.norFault why = (d.wr Reg.QM_NOR_STATE 2).log1 0x050D 0x53 why := if_neg (not_not_intro h)

theorem norFault_of_not_on (d : Dev) (why : Nat) (h : d.rd Reg.QM_NOR_STATE ≠ 1) : d.norFault why = d := if_pos h

theorem psramFault_of_not_on (d : Dev) (why : Nat) (h : d.rd Reg.QM_PSRAM_STATE ≠ 1) : d.psramFault why = d := if_pos h

/-- With no queue enabled and no DMA channel in use, a fault of the PSRAM is its state and its event. -/
theorem psramFault_of_unused (d : Dev) (why : Nat) (h : d.rd Reg.QM_PSRAM_STATE = 1)
    (hq : ((d.wr Reg.QM_PSRAM_STATE 2).log1 0x050D 0x52 why).enabledQueues = [])
    (hc : ∀ c, c < 16 → ((d.wr Reg.QM_PSRAM_STATE 2).log1 0x050D 0x52 why).rd (Reg.DM_STATE c) = 0) :
    d.psramFault why = (d.wr Reg.QM_PSRAM_STATE 2).log1 0x050D 0x52 why := by
  rw [Dev.psramFault, if_neg (not_not_intro h)]
  simp only [hq, List.filter_nil, Dev.each_nil]
  exact each_of_fixed _ _ _ fun c hc16 => if_pos (hc c (List.mem_range.mp hc16))

/-! Repair of the coefficient RAM (R243). -/

theorem coefRepair_goes_readable (s : State) (a t : Nat) (ha : a < 65536) (h : a ∈ s.dev.coefBad) :
    Goes (.coefRepair a true t) s (((s.dev.at t).setCoef a (tabGet (fun _ => 0) s.dev.coefNor a)).log1 0x0508 0x51 a) := by
  simp [Goes, exec, execCoefRepair, State.run, Nat.mod_eq_of_lt ha, h]

theorem coefRepair_goes_unreadable (s : State) (a t : Nat) (ha : a < 65536) (h : a ∈ s.dev.coefBad) :
    Goes (.coefRepair a false t) s (((s.dev.at t).log1 0x0509 0x51 a).setMaint 4) := by
  simp [Goes, exec, execCoefRepair, State.run, Nat.mod_eq_of_lt ha, h]

theorem coefRepair_goes_good (s : State) (a t : Nat) (readable : Bool) (ha : a < 65536) (h : a ∉ s.dev.coefBad) :
    Goes (.coefRepair a readable t) s (s.dev.at t) := by
  simp [Goes, exec, execCoefRepair, State.run, Nat.mod_eq_of_lt ha, h]

/-! Scrubbing and errors (R242 to R244). -/

theorem eccSingle_zero (d : Dev) (m : Nat) : d.eccSingle m 0 = d := if_pos rfl

/-- What scrubbing, or an ordinary read, found in a memory is counted and acts, and the pass over PSRAM goes on (R242 to R244). -/
theorem scrub_goes (s : State) (m : Fin 3) (r : Bool) (n : Nat) (double : List Nat) (t : Nat) :
    Goes (.scrub m r n double t) s
      (let own := m = 2 && !r
       if !s.dev.memoryOn || (own && !s.dev.opsFree) then s.dev.at t
       else
         let e := (((s.dev.at t).when own (·.passOp)).eccSingle m n).each double fun d a => d.eccHit m a
         e.when (own && e.rd Reg.QM_PSRAM_STATE = 1) (·.scrubOn)) := rfl

theorem scrub_goes_off (s : State) (m : Fin 3) (r : Bool) (n : Nat) (double : List Nat) (t : Nat) (h : s.dev.memoryOn = false) :
    Goes (.scrub m r n double t) s (s.dev.at t) := by
  simpa [h] using scrub_goes s m r n double t

/-- What is found without scrubbing PSRAM takes no entry of the operations table and is no part of a pass. -/
theorem scrub_goes_found (s : State) (m : Fin 3) (r : Bool) (n : Nat) (double : List Nat) (t : Nat) (h : s.dev.memoryOn = true)
    (hm : m ≠ 2 ∨ r = true) :
    Goes (.scrub m r n double t) s (((s.dev.at t).eccSingle m n).each double fun d a => d.eccHit m a) := by
  have own : (m = 2 && !r) = false := by
    obtain hm | hr := hm
    · simp [hm]
    · simp [hr]
  simpa only [own, h, Bool.not_true, Bool.false_or, Bool.false_and, Bool.false_eq_true, if_false, Dev.when_false]
    using scrub_goes s m r n double t

/-- The scrub of PSRAM waits where every entry of the operations table is taken (R28). -/
theorem scrub_goes_full (s : State) (n : Nat) (double : List Nat) (t : Nat) (h : s.dev.opsFree = false) :
    Goes (.scrub 2 false n double t) s (s.dev.at t) := by
  simpa [h] using scrub_goes s 2 false n double t

/-- The scrub of PSRAM passes through the operations table, and its pass goes on where the memory runs. -/
theorem scrub_goes_psram (s : State) (n : Nat) (double : List Nat) (t : Nat) (h : s.dev.memoryOn = true) (hf : s.dev.opsFree = true) :
    Goes (.scrub 2 false n double t) s
      (let e := ((s.dev.at t).passOp.eccSingle 2 n).each double fun d a => d.eccHit 2 a
       if e.rd Reg.QM_PSRAM_STATE = 1 then e.scrubOn else e) := by
  have g := scrub_goes s 2 false n double t
  simpa [h, hf, Dev.when] using g

/-- The device with n more corrected errors of the coefficient RAM counted (R242). -/
def Dev.coefCorrected (d : Dev) (n : Nat) : Dev := d.wr Reg.QM_ECC_COEF_CORR ((d.rd Reg.QM_ECC_COEF_CORR + n) % 2 ^ 32)

/-- 60 s after the last such event, corrected errors are logged with the count since, which starts again. -/
theorem eccSingle_coef_logged (d : Dev) (n : Nat) (hn : 0 < n)
    (hl : tabGet (fun _ => 0) d.eccLast 1 = 0 ∨ tabGet (fun _ => 0) d.eccLast 1 + 60000000000 ≤ d.now) :
    d.eccSingle 1 n = ({ d.coefCorrected n with
      eccCnt := tabSet (fun _ => 0) d.eccCnt 1 0, eccLast := tabSet (fun _ => 0) d.eccLast 1 d.now } : Dev).log1 0x0505 0x51
        (tabGet (fun _ => 0) d.eccCnt 1 + n) := by
  simp [Dev.eccSingle, eccCorr, hn.ne', hl, Dev.coefCorrected]

/-- Within 60 s of the last such event, corrected errors are counted towards the next. -/
theorem eccSingle_coef_counted (d : Dev) (n : Nat) (hn : 0 < n) (h0 : tabGet (fun _ => 0) d.eccLast 1 ≠ 0)
    (hl : d.now < tabGet (fun _ => 0) d.eccLast 1 + 60000000000) :
    d.eccSingle 1 n = { d.coefCorrected n with
      eccCnt := tabSet (fun _ => 0) d.eccCnt 1 (tabGet (fun _ => 0) d.eccCnt 1 + n) } := by
  simp [Dev.eccSingle, eccCorr, hn.ne', h0, Nat.not_le.mpr hl, Dev.coefCorrected]

theorem scrubOn_of_none (d : Dev) (h : d.scrubAt = none) : d.scrubOn = { d with scrubAt := some d.now } := by
  simp only [Dev.scrubOn, h]

theorem scrubOn_of_some (d : Dev) (t0 : Nat) (h : d.scrubAt = some t0) :
    d.scrubOn = if d.rd Reg.QM_PSRAM_USABLE * 1000000000 ≤ (d.now - t0) * d.rd Reg.QM_SCRUB_RATE then
        { d with scrubAt := some d.now }.wr Reg.QM_SCRUB_PASS ((d.now - t0) / 1000000000)
      else d := by
  simp only [Dev.scrubOn, h]

theorem eccHit_coef (d : Dev) (a : Nat) (ha : a < 65536) : d.eccHit 1 a =
    ({ d.bump 32 Reg.QM_ECC_COEF_DOUBLE with coefBad := a :: d.coefBad.filter (· ≠ a) } : Dev).log1 0x0506 0x51 a := by
  simp [Dev.eccHit, eccDouble, Nat.mod_eq_of_lt ha]

theorem enabledQueues_wr (d : Dev) (k v : Nat) (hk : 0x440000 ≤ k) : (d.wr k v).enabledQueues = d.enabledQueues :=
  filterMap_tabSet _ _ d.obj k v fun _ => if_neg (by dsimp only; omega)

theorem segSize_wr (d : Dev) (k v q : Nat) (hk : 0x440000 ≤ k) (hq : q < 64) : (d.wr k v).segSize q = d.segSize q := by
  rw [Dev.segSize, Dev.wr_rd, if_neg (by show (0x4000 + 0x10 * q) * 256 + 0x3 ≠ k; omega)]
  rfl

/-- No object behind those of the queues decides which queue a place of queue SRAM belongs to. -/
theorem sramOwner_wr (d : Dev) (k v a : Nat) (hk : 0x440000 ≤ k) : (d.wr k v).sramOwner a = d.sramOwner a := by
  rw [Dev.sramOwner, Dev.sramOwner, enabledQueues_wr d k v hk]
  congr 1
  refine List.foldl_ext _ _ _ fun p q hq => ?_
  rw [segSize_wr d k v q hk (mem_enabledQueues hq)]

/-- An uncorrectable word of queue SRAM that no queue holds only counts. -/
theorem eccHit_sram_unowned (d : Dev) (a : Nat) (ha : a < 0x40000) (h : d.sramOwner a = none) :
    d.eccHit 0 a = d.bump 32 Reg.QM_ECC_SRAM_DOUBLE := by
  have ho : (d.bump 32 Reg.QM_ECC_SRAM_DOUBLE).sramOwner a = none := by
    rw [Dev.bump_eq, sramOwner_wr _ _ _ _ (by decide), h]
  simp only [Dev.eccHit, eccDouble, if_true, Dev.sramDouble, if_neg (Nat.not_le.mpr ha), ho]

/-! The coefficient RAM (R107 to R110). -/

theorem coefInt_bounds (d : Dev) (a : Nat) : -0x800000 ≤ d.coefInt a ∧ d.coefInt a ≤ 0x7FFFFF := by
  unfold Dev.coefInt toInt
  dsimp only
  split <;> omega

/-- Objects from index 0x5000 up, without the sub-indices under which a slot says which handle it holds: bank states and the coefficient
address are among them, and the digest of a branch reads none of them (R336). -/
def chainKey (k : Nat) : Prop := 0x500000 ≤ k ∧ k % 256 ≠ 2 ∧ k % 256 ≠ 3 ∧ k % 256 ≠ 5

theorem chainKey_bank (i k : Nat) : chainKey (Reg.BK_STATE i k) := by simp only [chainKey, Reg.BK_STATE]; omega

theorem chainKey_banks (i : Nat) : chainKey (Reg.FI_BANKS i) := by simp only [chainKey, Reg.FI_BANKS]; omega

theorem chainKey_addr : chainKey Reg.CR_ADDR := by unfold chainKey; decide

/-- What says which handle a slot holds is no such object. -/
theorem not_chainKey_handle (k i : Nat) (hi : i = 2 ∨ i = 3 ∨ i = 5) : ¬ chainKey ((0x2000 + 0x40 * k) * 256 + i) := by
  unfold chainKey; omega

/-- From d to e only objects of the filter chain may have changed, and no digest of a branch with them. -/
structure ChainOnly (d e : Dev) : Prop where
  frame : e = { d with obj := e.obj }
  rd : ∀ k, ¬ chainKey k → e.rd k = d.rd k
  live : e.liveSlots = d.liveSlots
  digest : ∀ b, b < 4 → e.digestContent b = d.digestContent b

theorem ChainOnly.refl (d : Dev) : ChainOnly d d := ⟨rfl, fun _ _ => rfl, rfl, fun _ _ => rfl⟩

theorem ChainOnly.trans {d e f : Dev} (h : ChainOnly d e) (g : ChainOnly e f) : ChainOnly d f where
  frame := by rw [g.frame, h.frame]
  rd k hk := (g.rd k hk).trans (h.rd k hk)
  live := g.live.trans h.live
  digest b hb := (g.digest b hb).trans (h.digest b hb)

theorem kind_congr {d e : Dev} (hr : ∀ k, ¬ chainKey k → e.rd k = d.rd k) : e.kind = d.kind :=
  funext fun k => hr _ (not_chainKey_handle k 2 (by decide))

theorem branchDrivers_congr {d e : Dev} (hl : e.liveSlots = d.liveSlots) (hr : ∀ k, ¬ chainKey k → e.rd k = d.rd k) (b : Nat) :
    e.branchDrivers b = d.branchDrivers b := by
  have hbind (k : Nat) : e.rd (Reg.HND_BIND k) = d.rd (Reg.HND_BIND k) := hr _ (not_chainKey_handle k 5 (by decide))
  have hst : e.hst = d.hst := funext fun k => hr _ (not_chainKey_handle k 3 (by decide))
  have hchan : e.chanOf = d.chanOf := funext fun k => congrArg recChan (hbind k)
  have hobs : e.isObserver = d.isObserver := funext fun k => congrArg (bitOf · 8) (hbind k)
  rw [Dev.branchDrivers, Dev.branchDrivers, Dev.drivers, Dev.drivers, hchan, hl]
  unfold Dev.isDriver
  rw [hst, hobs, kind_congr hr]

theorem ChainOnly.wr (d : Dev) (k v : Nat) (hk : chainKey k) : ChainOnly d (d.wr k v) := by
  have hrd : ∀ j, ¬ chainKey j → (d.wr k v).rd j = d.rd j := fun j hj => by
    rw [Dev.wr_rd, if_neg fun (e : j = k) => hj (e ▸ hk)]
  have hk5 : 0x500000 ≤ k := hk.1
  have hlive : (d.wr k v).liveSlots = d.liveSlots := filterMap_tabSet _ _ d.obj k v fun _ => if_neg (by dsimp only; omega)
  refine ⟨rfl, hrd, hlive, fun b hb => ?_⟩
  unfold Dev.digestContent
  rw [branchDrivers_congr hlive hrd, kind_congr hrd]
  refine filter_tabSet dfltOf _ d.obj k v fun w => ?_
  have hix : ¬ k / 256 < 0x4000 := by omega
  have hpup : ¬ (k / 256 = 0x1010) ∧ ¬ (k / 256 = 0x1011) ∧ ¬ (k = 0x042001 + b) := by omega
  simp [hix, hpup]

theorem ChainOnly.setBank (d : Dev) (i k st : Nat) : ChainOnly d (d.setBank i k st) :=
  .trans (.wr d _ st (chainKey_bank i k)) (.wr _ _ _ (chainKey_banks i))

/-- The banks of a list become FREE. -/
def Dev.freeBanks (d : Dev) (l : List (Nat × Nat)) : Dev := d.each l fun d p => d.setBank p.1 p.2 0

theorem ChainOnly.freeBanks (d : Dev) (l : List (Nat × Nat)) : ChainOnly d (d.freeBanks l) := by
  induction l generalizing d with
  | nil => exact .refl d
  | cons p l ih => exact (ChainOnly.setBank d p.1 p.2 0).trans (ih _)

/-- The READY banks that hold the word at the coefficient address, once a write of it is accepted (R109). -/
def Dev.staleBanks (d : Dev) : List (Nat × Nat) := d.banksInUse.filter fun p => d.bankHolds p.1 p.2 (d.rd Reg.CR_ADDR)

theorem coefWrite_eq (d : Dev) (v : Nat) : d.coefWrite v =
    ((d.freeBanks d.staleBanks).setCoef (d.rd Reg.CR_ADDR) v).wr Reg.CR_ADDR ((d.rd Reg.CR_ADDR + 1) % 65536) := rfl

theorem coefWrite_addr (d : Dev) (v : Nat) : (d.coefWrite v).rd Reg.CR_ADDR = (d.rd Reg.CR_ADDR + 1) % 65536 := by
  rw [coefWrite_eq, Dev.wr_rd, if_pos rfl]

/-- A coefficient write changes the word at the address and no other. -/
theorem coefWrite_coefAt (d : Dev) (v a : Nat) (ha : a < 65536) (hd : d.rd Reg.CR_ADDR < 65536) :
    (d.coefWrite v).coefAt a = if a = d.rd Reg.CR_ADDR then v % 2 ^ 24 else d.coefAt a := by
  have hcoef : (d.freeBanks d.staleBanks).coef = d.coef := by rw [(ChainOnly.freeBanks d _).frame]
  rw [coefWrite_eq, Dev.coefAt, Dev.wr_coef, Dev.setCoef, hcoef, tabGet_tabSet, Nat.mod_eq_of_lt ha, Nat.mod_eq_of_lt hd, Dev.coefAt,
    Nat.mod_eq_of_lt ha]

/-- A coefficient write leaves the objects outside the filter chain. -/
theorem coefWrite_rd (d : Dev) (v k : Nat) (hk : ¬ chainKey k) : (d.coefWrite v).rd k = d.rd k := by
  rw [coefWrite_eq, (ChainOnly.wr _ _ _ chainKey_addr).rd k hk]
  exact (ChainOnly.freeBanks d _).rd k hk

/-- No branch's digest covers what a coefficient write changes. -/
theorem coefWrite_digestContent (d : Dev) (v b : Nat) (hb : b < 4) : (d.coefWrite v).digestContent b = d.digestContent b := by
  rw [coefWrite_eq, (ChainOnly.wr _ _ _ chainKey_addr).digest b hb]
  exact (ChainOnly.freeBanks d _).digest b hb

theorem withDigests_of_same (d : Dev) (f : Dev → Dev) (h : ∀ b, b < 4 → (f d).digestContent b = d.digestContent b) :
    d.withDigests f = f d := by
  refine each_of_fixed _ _ _ fun b hb => if_pos (h b ?_)
  simp only [List.mem_cons, List.not_mem_nil, or_false] at hb
  omega

/-- The device with the engine's bookkeeping of a request set to given values. -/
def Dev.booked (d : Dev) (t : Nat) (p : Resp) (rs : List Requester) (xs : List Txn) : Dev :=
  { d with now := t, resp := p, reqs := rs, txns := xs }

theorem freeBanks_booked (d : Dev) (l : List (Nat × Nat)) (t : Nat) (p : Resp) (rs : List Requester) (xs : List Txn) :
    (d.booked t p rs xs).freeBanks l = (d.freeBanks l).booked t p rs xs := by
  induction l generalizing d with
  | nil => rfl
  | cons q l ih => exact ih (d.setBank q.1 q.2 0)

/-- A coefficient write does not look at the engine's bookkeeping. -/
theorem coefWrite_booked (d : Dev) (v t : Nat) (p : Resp) (rs : List Requester) (xs : List Txn) :
    (d.booked t p rs xs).coefWrite v = (d.coefWrite v).booked t p rs xs := by
  rw [coefWrite_eq, coefWrite_eq]
  show (((d.booked t p rs xs).freeBanks d.staleBanks).setCoef _ v).wr _ _ = _
  rw [freeBanks_booked]
  rfl

theorem arrived_booked (d : Dev) (q : Request) : ∃ rs, d.arrived q = d.booked q.t {} rs (d.used q).txns := arrived_eq d q

theorem used_booked (d : Dev) (q : Request) : d.used q = d.booked d.now d.resp d.reqs (d.used q).txns := rfl

/-! The served READ (R257, R260). -/

/-- The snapshot that segment 0 of a read takes for its requester (R260). -/
def Requester.snapped (q : Request) (L v : Nat) (r : Requester) : Requester := { r with snap := some (q.ix, q.sub, L, v) }

theorem malformed_readReq (r : Req) (key : Nat) : malformed (readReq r key) = none := by
  simp [malformed, readReq, OP_READ, OP_WRITE]

/-- Segment 0 of a served READ that is answered at once: what the read leaves of the arrived device says, the command does. -/
theorem obeys_read {c : Instr} {s : State} {q : Request} {v : Nat} {i : Info} {y D : Dev}
    (hc : exec c s = s.ask q) (hg : s.dev.grants q) (hm : malformed q = none) (hop : q.op = OP_READ) (hseg : q.segment = 0)
    (hdef : (s.dev.arrived q).isDeferred q.ix q.sub false = false) (htakes : (s.dev.arrived q).readTakes q.ix q.sub = false)
    (hr : (s.dev.arrived q).readNow ⟨s.ps, s.worn⟩ q.ix q.sub q.id = (y, OK, v)) (hi : s.dev.info q.ix q.sub = some i)
    (hy : y.aside = D.aside) (hreq : y.reqs = (s.dev.arrived q).reqs) (hnow : y.now = q.t)
    (hep : y.rd Reg.DR_EPOCH = s.dev.rd Reg.DR_EPOCH) : Obeys c s q (segmentOf 0 (i.ty.length v) v) D := by
  obtain ⟨hs, hacc⟩ := hg
  set L := i.ty.length v
  set x := y.modReq q.id (Requester.snapped q L v) with hx
  obtain ⟨rs, he⟩ := arrived_booked s.dev q
  have hmode : (s.dev.arrived q).mode ≠ INIT := by rw [he]; exact hs.2.2.1
  have hacc' : (s.dev.arrived q).readAccess q.ix q.sub q.hnd = OK := by rw [he]; exact hacc
  have hi' : (s.dev.arrived q).info q.ix q.sub = some i := by rw [he]; exact hi
  have hread : (s.dev.arrived q).readValue ⟨s.ps, s.worn⟩ q = (x, segmentOf 0 L v) := by
    simp only [Dev.readValue, hseg, htakes, hr, hi']
    rfl
  have hcarry : (s.dev.listed q).carryOut ⟨s.ps, s.worn⟩ q = (x, segmentOf 0 L v) := by
    show (if _ then _ else _) = _
    rw [if_neg (by rw [hop]; decide), if_neg (by rw [Bool.and_eq_true, decide_eq_true_eq]; exact fun h => hmode h.1), if_pos hop]
    show (if (s.dev.arrived q).readAccess q.ix q.sub q.hnd ≠ OK then _ else _) = _
    rw [if_neg (not_not_intro hacc')]
    show (if (s.dev.arrived q).isDeferred q.ix q.sub false = true then _ else _) = _
    rw [if_neg (by rw [hdef]; decide)]
    exact hread
  have hrun : (s.dev.at q.t).request ⟨s.ps, s.worn⟩ q = (x.reply q (segmentOf 0 L v)).hold q := by
    rw [request_new s.dev _ q hs hm (by rw [hop]; decide), Dev.runNew, Dev.answered, hcarry]
    rfl
  have hresp : (x.reply q (segmentOf 0 L v)).resp = s.dev.respond q (segmentOf 0 L v) := by
    show x.respond q _ = _
    rw [Dev.respond, Dev.respond, ← hep]
    rfl
  have hother (id : Nat) : (x.reply q (segmentOf 0 L v)).requester id = x.requester id := rfl
  have hyreq (id : Nat) : y.requester id = (s.dev.arrived q).requester id := by rw [Dev.requester, hreq]; rfl
  refine ⟨{ s with dev := (x.reply q (segmentOf 0 L v)).hold q }, ?_, ⟨rfl, rfl, rfl⟩, ⟨hnow, hresp, ?_, ?_⟩, ?_⟩
  · rw [hc, State.ask, State.run, hrun]
  · obtain ⟨r, hr, hl, _⟩ := arrived_requester s.dev q
    refine ⟨(r.snapped q L v).kept q _, ?_, kept_mem _ _ _, hl⟩
    rw [hold_eq, requester_modReq_self _ _ (Requester.kept q _) fun _ => rfl, hother, hx,
      requester_modReq_self _ _ (Requester.snapped q L v) fun _ => rfl, hyreq, hr]
    rfl
  · intro id hid
    rw [hold_eq, requester_modReq_other _ _ (Requester.kept q _) (fun _ => rfl) id hid, hother, hx,
      requester_modReq_other _ _ (Requester.snapped q L v) (fun _ => rfl) id hid, hyreq, arrived_other s.dev q id hid]
  · rw [← hy]
    rfl

/-! A WRITE and a READ of 5801:02 (R107, R258). -/

/-- Said for any width m of the mask, so that the mask of 2048 bits is never evaluated. -/
theorem and_mask_of_lt {v n m : Nat} (hv : v < 2 ^ n) (hm : n ≤ m) : v &&& (2 ^ m - 1) = v :=
  Nat.and_two_pow_sub_one_of_lt_two_pow (hv.trans_le (Nat.pow_le_pow_right Nat.two_pos hm))

/-- No bit of a coefficient is reserved (R7). -/
theorem masked_coefData (d : Dev) (v : Nat) (hv : v < 2 ^ 32) : d.masked 0x5801 2 v = v :=
  and_mask_of_lt (m := 2048) hv (by decide)

/-- The object's own conditions on a coefficient (R107, R109). -/
theorem entryCheck_coefData (d : Dev) (w : Worn) (x : Entry) (hix : x.ix = 0x5801) (hsub : x.sub = 2) : d.entryCheck w x =
    if toInt 32 x.val < -0x800000 ∨ 0x7FFFFF < toInt 32 x.val then RANGE
    else if d.coefBusy (d.rd Reg.CR_ADDR) then BANK_BUSY else OK := by
  simp [Dev.entryCheck, hix, hsub, isHandleIx]

theorem applyEntry_coefData (d : Dev) (w : Worn) (x : Entry) (hix : x.ix = 0x5801) (hsub : x.sub = 2) :
    d.applyEntry w x = d.coefWrite x.val := by
  simp [Dev.applyEntry, Dev.systemWrite, hix, hsub, isHandleIx]

theorem refusedWrite_coefData (d : Dev) (x : Entry) (hix : x.ix = 0x5801) : d.refusedWrite x = d := by
  simp [Dev.refusedWrite, hix]

/-- What a WRITE of v to 5801:02 does, and its answer (R107, R109). -/
def Dev.coefAnswer (d : Dev) (v : Nat) : Dev × Answer :=
  if toInt 32 v < -0x800000 ∨ 0x7FFFFF < toInt 32 v then (d, { status := RANGE })
  else if d.coefBusy (d.rd Reg.CR_ADDR) then (d, { status := BANK_BUSY }) else (d.coefWrite v, {})

theorem coefAnswer_of_wide (d : Dev) (v : Nat) (h : toInt 32 v < -0x800000 ∨ 0x7FFFFF < toInt 32 v) :
    d.coefAnswer v = (d, { status := RANGE }) := if_pos h

theorem coefAnswer_of_busy (d : Dev) (v : Nat) (h : ¬ (toInt 32 v < -0x800000 ∨ 0x7FFFFF < toInt 32 v))
    (hb : d.coefBusy (d.rd Reg.CR_ADDR) = true) : d.coefAnswer v = (d, { status := BANK_BUSY }) := (if_neg h).trans (if_pos hb)

theorem coefAnswer_of_free (d : Dev) (v : Nat) (h : ¬ (toInt 32 v < -0x800000 ∨ 0x7FFFFF < toInt 32 v))
    (hb : d.coefBusy (d.rd Reg.CR_ADDR) = false) : d.coefAnswer v = (d.coefWrite v, {}) :=
  (if_neg h).trans (if_neg (Bool.eq_false_iff.mp hb))

/-- The three ways in which a WRITE of 5801:02 ends. -/
theorem coefAnswer_cases (d : Dev) (v : Nat) : d.coefAnswer v = (d, { status := RANGE }) ∨ d.coefAnswer v = (d, { status := BANK_BUSY }) ∨
    d.coefAnswer v = (d.coefWrite v, {}) := by
  unfold Dev.coefAnswer
  split
  · exact .inl rfl
  · split
    · exact .inr (.inl rfl)
    · exact .inr (.inr rfl)

theorem coefAnswer_status (d : Dev) (v : Nat) : (d.coefAnswer v).2.status ≠ BUSY := by
  rcases coefAnswer_cases d v with h | h | h <;> simp [h]

theorem coefAnswer_epoch (d : Dev) (v : Nat) : (d.coefAnswer v).1.rd Reg.DR_EPOCH = d.rd Reg.DR_EPOCH := by
  rcases coefAnswer_cases d v with h | h | h <;> rw [h]
  exact coefWrite_rd d v _ (by unfold chainKey; decide)

theorem coefAnswer_booked (d : Dev) (v t : Nat) (p : Resp) (rs : List Requester) (xs : List Txn) :
    (d.booked t p rs xs).coefAnswer v = ((d.coefAnswer v).1.booked t p rs xs, (d.coefAnswer v).2) := by
  unfold Dev.coefAnswer
  rw [coefWrite_booked]
  have hb : (d.booked t p rs xs).coefBusy ((d.booked t p rs xs).rd Reg.CR_ADDR) = d.coefBusy (d.rd Reg.CR_ADDR) := rfl
  rw [hb]
  split
  · rfl
  · split <;> rfl

/-- A coefficient write is carried out at once, as its conditions say; no digest changes with it. -/
theorem direct_coefData (d : Dev) (w : Worn) (x : Entry) (hix : x.ix = 0x5801) (hsub : x.sub = 2) : d.direct w x = d.coefAnswer x.val := by
  have hfun : (fun e : Dev => e.applyEntry w x) = fun e => e.coefWrite x.val := funext fun e => applyEntry_coefData e w x hix hsub
  have hdig : d.withDigests (fun e => e.coefWrite x.val) = d.coefWrite x.val :=
    withDigests_of_same d _ fun b hb => coefWrite_digestContent d _ b hb
  rw [Dev.direct, entryCheck_coefData d w x hix hsub, refusedWrite_coefData d x hix, hfun, hdig, Dev.coefAnswer]
  by_cases hr : toInt 32 x.val < -0x800000 ∨ 0x7FFFFF < toInt 32 x.val
  · simp [hr]
  · by_cases hb : d.coefBusy (d.rd Reg.CR_ADDR) = true <;> simp [hr, hb]

/-- The WRITE of 5801:02 is neither a transaction's, nor staged, nor deferred, nor kept: it is carried out at once. -/
theorem writeValue_coefData (d : Dev) (w : Worn) (q : Request) (len v : Nat) (hix : q.ix = 0x5801) (hsub : q.sub = 2) (hv : v < 2 ^ 32)
    (hopen : d.openTxn q.id = none) (hacc : d.writeAccess (d.serviceOf q.id) false q.ix q.sub q.hnd len v = OK) :
    d.writeValue w q len v = d.coefAnswer v := by
  have hinfo : d.info 0x5801 2 = some ⟨.i 4, .rw, 0, .vol, false, .any⟩ := rfl
  rw [hix, hsub] at hacc
  have hplain : actsAtOnce 0x5801 2 = false ∧ isHandleIx 0x5801 = false := ⟨rfl, rfl⟩
  have hnow : d.isDeferred 0x5801 2 true = false ∧ d.isStagedCommand 0x5801 2 = false := ⟨rfl, rfl⟩
  rw [← direct_coefData d w { id := q.id, seq := q.seq, ix := 0x5801, sub := 2, hnd := q.hnd, val := v, len := len,
                              cyc := d.rd Reg.SQ_CYCLE_INDEX } rfl rfl]
  simp [Dev.writeValue, hopen, hix, hsub, hacc, masked_coefData d v hv, hinfo, hplain, hnow, Entry.key]

/-- A permitted WRITE of 5801:02 answers, and leaves the module, as its conditions say. -/
theorem crDataWrite_obeys (s : State) (r : Req) (v : Nat) (hp : s.dev.permits (writeReq r Reg.CR_DATA 0 4 v)) :
    Obeys (.crDataWrite r v) s (writeReq r Reg.CR_DATA 0 4 v) (s.dev.coefAnswer v).2
      ((s.dev.used (writeReq r Reg.CR_DATA 0 4 v)).coefAnswer v).1 := by
  obtain ⟨hs, hopen, hv, hacc⟩ := hp
  have ⟨_, _, _, hid, _⟩ := hs
  generalize hq : writeReq r Reg.CR_DATA 0 4 v = q at *
  obtain ⟨rs, he⟩ := arrived_booked s.dev q
  have hw : (s.dev.arrived q).writeValue s.worn q q.len (q.data % 2 ^ (8 * q.len)) = (s.dev.arrived q).coefAnswer v := by
    rw [Nat.mod_eq_of_lt hv]
    subst hq
    refine writeValue_coefData _ _ _ _ v rfl rfl hv (arrived_openTxn _ _ hopen) ?_
    rw [arrived_service, he]
    exact hacc
  have hm : malformed q = none := hq ▸ malformed_writeReq r _ 0 4 v (by rw [← hq] at hid; exact hid) (by decide)
  rw [he, coefAnswer_booked, ← he] at hw
  refine obeys_write (by rw [← hq]; rfl) hs hm (by rw [← hq]; rfl) (by rw [← hq]; rfl) hw (coefAnswer_status _ _) ?_ ?_ rfl ?_
  · rw [used_booked, coefAnswer_booked]
    rfl
  · rw [he]
    rfl
  · exact coefAnswer_epoch s.dev v

/-- A granted READ of 5801:02 answers the coefficient at the address, which then advances (R107). -/
theorem crDataRead_obeys (s : State) (r : Req) (hg : s.dev.grants (readReq r Reg.CR_DATA)) :
    Obeys (.crDataRead r) s (readReq r Reg.CR_DATA) (segmentOf 0 4 (ofInt 32 (s.dev.coefInt (s.dev.rd Reg.CR_ADDR))))
      ((s.dev.used (readReq r Reg.CR_DATA)).wr Reg.CR_ADDR ((s.dev.rd Reg.CR_ADDR + 1) % 65536)) := by
  obtain ⟨rs, he⟩ := arrived_booked s.dev (readReq r Reg.CR_DATA)
  have hr : (s.dev.arrived (readReq r Reg.CR_DATA)).readNow ⟨s.ps, s.worn⟩ 0x5801 2 r.id =
      ((s.dev.arrived (readReq r Reg.CR_DATA)).wr Reg.CR_ADDR ((s.dev.rd Reg.CR_ADDR + 1) % 65536), OK,
        ofInt 32 (s.dev.coefInt (s.dev.rd Reg.CR_ADDR))) := by
    rw [he]
    rfl
  refine obeys_read (i := ⟨.i 4, .rw, 0, .vol, false, .any⟩) rfl hg (malformed_readReq r _) rfl rfl rfl rfl hr rfl ?_ rfl ?_ ?_
  · rw [he]
    rfl
  · rw [he]
    rfl
  · rw [he]
    exact (ChainOnly.wr _ _ _ chainKey_addr).rd _ (by unfold chainKey; decide)

/-- Settles O49: the errors of the memories command by command, then the WRITE and the READ of 5801:02. -/
theorem memoriesAreKept : Obligations.MemoriesAreKept := by
  unfold Obligations.MemoriesAreKept
  refine ⟨fun s t => ⟨?_, ?_, ?_, ?_, ?_, ?_, ?_, ?_, ?_, ?_, ?_, ?_, ?_⟩, fun s r => ⟨?_, ?_, ?_, ?_, ?_, ?_⟩⟩
  · intro h
    rw [← norFault_of_on (s.dev.at t) 1 h]
    exact xspiNoStrobe_goes s true t
  · intro h
    rw [← norFault_of_not_on (s.dev.at t) 1 h]
    exact xspiNoStrobe_goes s true t
  · exact fun _ => xspiNoStrobe_goes s false t
  · exact fun h hq hc => psramFault_of_unused _ 1 h hq hc
  · intro h
    rw [← psramFault_of_not_on (s.dev.at t) 1 h]
    exact xspiNoStrobe_goes s false t
  · exact fun a ha h => ⟨coefRepair_goes_readable s a t ha h, coefRepair_goes_unreadable s a t ha h⟩
  · exact fun a readable ha h => coefRepair_goes_good s a t readable ha h
  · exact fun m r n double h => scrub_goes_off s m r n double t h
  · refine fun m r double h => ⟨fun hm => ?_, fun hm hr hf => ?_, fun hm hr hf => ?_⟩
    · have g := scrub_goes_found s m r 0 double t h (hm.imp_left fun hm e => hm (congrArg Fin.val e))
      rwa [eccSingle_zero] at g
    · obtain rfl : m = 2 := Fin.ext hm
      subst hr
      exact scrub_goes_full s 0 double t hf
    · obtain rfl : m = 2 := Fin.ext hm
      subst hr
      have g := scrub_goes_psram s 0 double t h hf
      rwa [eccSingle_zero] at g
  · intro r n hn h
    have g := scrub_goes_found s 1 r n [] t h (.inl (by decide))
    rw [Dev.each_nil] at g
    exact ⟨fun hl => eccSingle_coef_logged (s.dev.at t) n hn hl ▸ g, fun h0 hl => eccSingle_coef_counted (s.dev.at t) n hn h0 hl ▸ g⟩
  · refine fun e => ⟨scrubOn_of_none e, fun t0 ht => ⟨fun h => ?_, fun h => ?_⟩⟩
    · rw [scrubOn_of_some e t0 ht, if_pos h]
      exact ⟨by rw [Dev.wr_rd, if_pos rfl], rfl⟩
    · rw [scrubOn_of_some e t0 ht, if_neg (Nat.not_le.mpr h)]
  · exact fun e a ha => eccHit_coef e a ha
  · exact fun e a ha h => eccHit_sram_unowned e a ha h
  · intro v hp hr hb
    have g := crDataWrite_obeys s r v hp
    rwa [coefAnswer_of_free s.dev v hr hb, coefAnswer_of_free (s.dev.used _) v hr hb] at g
  · intro v hp hr hb
    have g := crDataWrite_obeys s r v hp
    rwa [coefAnswer_of_busy s.dev v hr hb, coefAnswer_of_busy (s.dev.used _) v hr hb] at g
  · intro v hp hr
    have g := crDataWrite_obeys s r v hp
    rwa [coefAnswer_of_wide s.dev v hr, coefAnswer_of_wide (s.dev.used _) v hr] at g
  · exact coefInt_bounds
  · exact fun hg => crDataRead_obeys s r hg
  · refine fun d v hd => ⟨?_, coefWrite_addr d v, fun a ha hne => ?_⟩
    · rw [coefWrite_coefAt d v _ hd hd, if_pos rfl]
    · rw [coefWrite_coefAt d v a ha hd, if_neg hne]

end Sys2Proof.Machine
end

/-!
The SERVICE privilege (R261 to R263): the codes tried at PV_UNLOCK, PV_LOCK, the idle time and the end of a lockout.
-/
section
namespace Sys2Proof.Machine

/-! A served WRITE that sets the privilege of its own requester (R262). -/

/-- A served WRITE of a whole value that is not turned away for want of room leaves its effect on the arrived device, answered and held. -/
theorem request_of_write {s : State} {q : Request} {a : Answer} {x : Dev}
    (hs : s.dev.serves q.id q.seq) (hm : malformed q = none) (hop : q.op = OP_WRITE) (htot : q.total = 0)
    (hw : (s.dev.arrived q).writeValue s.worn q q.len (q.data % 2 ^ (8 * q.len)) = (x, a)) (ha : a.status ≠ BUSY) :
    (s.dev.at q.t).request ⟨s.ps, s.worn⟩ q = (x.reply q a).hold q := by
  have ⟨_, _, hmode, _, _⟩ := hs
  have hrun : (s.dev.arrived q).mode ≠ INIT := by
    obtain ⟨rs, he⟩ := arrived_booked s.dev q
    rw [he]
    exact hmode
  have hcarry : (s.dev.listed q).carryOut ⟨s.ps, s.worn⟩ q = (x, a) := by
    show (if _ then _ else if ((s.dev.arrived q).mode = INIT && _) = true then _ else _) = _
    rw [if_neg (by rw [hop]; decide), if_neg (by simp [hrun]), if_neg (by rw [hop]; decide), if_pos htot]
    exact hw
  rw [request_new s.dev _ q hs hm (by rw [hop]; decide), Dev.runNew, Dev.answered, hcarry]
  simp [ha]

/-- A requester's record with the SERVICE privilege given or taken. -/
def Requester.serviced (b : Bool) (r : Requester) : Requester := { r with service := b }

theorem used_aside (d : Dev) (q : Request) : (d.used q).aside = d.aside := by
  have htxns : (d.used q).txns.map (fun x => { x with last := 0 }) = d.txns.map fun x => { x with last := 0 } := by
    rw [Dev.used, List.map_map]
    refine List.map_congr_left fun x _ => ?_
    rw [Function.comp_apply]
    split <;> rfl
  rw [Dev.aside, htxns]
  rfl

/-- A served WRITE that sets its requester's privilege is answered OK and changes nothing else. -/
theorem serviced_of_write {c : Instr} {s : State} {q : Request} {b : Bool}
    (hc : exec c s = s.ask q) (hs : s.dev.serves q.id q.seq) (hm : malformed q = none) (hop : q.op = OP_WRITE) (htot : q.total = 0)
    (hw : (s.dev.arrived q).writeValue s.worn q q.len (q.data % 2 ^ (8 * q.len)) =
      ((s.dev.arrived q).modReq q.id (Requester.serviced b), {})) :
    ∃ t, exec c s = .next t ∧ Rest s t ∧ Answered s t q {} ∧ t.dev.serviceOf q.id = b ∧ t.dev.aside = s.dev.aside := by
  obtain ⟨rs, he⟩ := arrived_booked s.dev q
  obtain ⟨r, hr, hl, _⟩ := arrived_requester s.dev q
  set x := (s.dev.arrived q).modReq q.id (Requester.serviced b) with hx
  have hself : ((x.reply q {}).hold q).requester q.id = some ((r.serviced b).kept q (x.reply q {}).resp) := by
    rw [hold_eq, requester_modReq_self _ _ (Requester.kept q _) fun _ => rfl]
    show (x.requester q.id).map _ = _
    rw [hx, requester_modReq_self _ _ (Requester.serviced b) fun _ => rfl, hr]
    rfl
  refine ⟨{ s with dev := (x.reply q {}).hold q }, ?_, ⟨rfl, rfl, rfl⟩,
    ⟨?_, ?_, ⟨_, hself, kept_mem _ _ _, hl⟩, fun id hid => ?_⟩, ?_, ?_⟩
  · rw [hc, State.ask, State.run, request_of_write hs hm hop htot hw (by decide)]
  · rw [hx, he]
    rfl
  · rw [hx, he]
    rfl
  · rw [hold_eq, requester_modReq_other _ _ (Requester.kept q _) (fun _ => rfl) id hid]
    show x.requester id = _
    rw [hx, requester_modReq_other _ _ (Requester.serviced b) (fun _ => rfl) id hid, arrived_other s.dev q id hid]
  · rw [Dev.serviceOf, hself]
    rfl
  · rw [← used_aside s.dev q, hx, he]
    rfl

/-! PV_UNLOCK and PV_LOCK pass checks 5 to 13 of R258, with or without an open transaction (R262, R269). -/

theorem writeAccess_unlock (d : Dev) (service opened : Bool) (hnd v : Nat) : d.writeAccess service opened 0x0230 1 hnd 4 v = OK := by
  have hix : indexExists 0x0230 = true := rfl
  have hinfo : d.info 0x0230 1 = some ⟨.u 4, .wo, 0, .vol, false, .any⟩ := rfl
  have hplain : d.observerRefuses 0x0230 1 = false ∧ isHandleIx 0x0230 = false ∧ actsAtOnce 0x0230 1 = true := ⟨rfl, rfl, rfl⟩
  simp [Dev.writeAccess, hix, hinfo, hplain, Dev.needsService, Dev.needsTxn, Ty.check, Ty.size, Rng.holds]

theorem writeAccess_lock (d : Dev) (service opened : Bool) (hnd : Nat) : d.writeAccess service opened 0x0230 2 hnd 1 1 = OK := by
  have hix : indexExists 0x0230 = true := rfl
  have hinfo : d.info 0x0230 2 = some ⟨.u 1, .wo, 0, .vol, false, .span 1 1⟩ := rfl
  have hplain : d.observerRefuses 0x0230 2 = false ∧ isHandleIx 0x0230 = false ∧ actsAtOnce 0x0230 2 = true := ⟨rfl, rfl, rfl⟩
  have hmask : d.masked 0x0230 2 1 = 1 := and_mask_of_lt (n := 1) (m := 2048) (by decide) (by decide)
  simp [Dev.writeAccess, hix, hinfo, hplain, hmask, Dev.needsService, Dev.needsTxn, Ty.check, Ty.size, Ty.value, Rng.holds]

theorem writeValue_unlock (d : Dev) (w : Worn) (q : Request) (v : Nat) (hix : q.ix = 0x0230) (hsub : q.sub = 1) (hv : v < 2 ^ 32) :
    d.writeValue w q 4 (v % 2 ^ 32) = d.unlock q.id v := by
  have hh : isHandleIx 0x0230 = false := rfl
  rw [Nat.mod_eq_of_lt hv]
  cases ho : d.openTxn q.id <;> simp [Dev.writeValue, ho, hix, hsub, hh, writeAccess_unlock]

theorem writeValue_lock (d : Dev) (w : Worn) (q : Request) (hix : q.ix = 0x0230) (hsub : q.sub = 2) :
    d.writeValue w q 1 1 = (d.modReq q.id (Requester.serviced false), {}) := by
  have hh : isHandleIx 0x0230 = false := rfl
  have hserviced : Requester.serviced false = fun r => { r with service := false } := rfl
  cases ho : d.openTxn q.id <;> simp [Dev.writeValue, ho, hix, hsub, hh, writeAccess_lock, hserviced]

/-! A code tried (R263). -/

/-- The instants of the wrong codes of the last 60 s. -/
def Dev.recentFails (d : Dev) : List Nat := d.fails.filter fun t => d.now < t + 60000000000

theorem unlock_of_right (d : Dev) (id : Nat) (hl : d.lockEnd = none) :
    d.unlock id (d.rd Reg.PV_SERVICE_CODE) = (d.modReq id (Requester.serviced true), {}) := by
  have hserviced : Requester.serviced true = fun r => { r with service := true } := rfl
  simp [Dev.unlock, hl, hserviced]

theorem unlock_locked_of_right (d : Dev) (id code e : Nat) (hl : d.lockEnd = some e) (he : d.now < e)
    (h : code = d.rd Reg.PV_SERVICE_CODE) : d.unlock id code = (d, { status := PRIVILEGE, detail := 1 }) := by
  simp [Dev.unlock, hl, he, h]

theorem unlock_locked_of_wrong (d : Dev) (id code e : Nat) (hl : d.lockEnd = some e) (he : d.now < e)
    (h : code ≠ d.rd Reg.PV_SERVICE_CODE) :
    d.unlock id code = (d.bump 32 Reg.PV_FAILS, { status := PRIVILEGE, detail := 1 }) := by
  simp [Dev.unlock, hl, he, h]

theorem unlock_of_wrong (d : Dev) (id code : Nat) (hl : d.lockEnd = none) (h : code ≠ d.rd Reg.PV_SERVICE_CODE)
    (hn : d.recentFails.length < 2) :
    d.unlock id code = ({ d.bump 32 Reg.PV_FAILS with fails := d.recentFails ++ [d.now] }, { status := PRIVILEGE }) := by
  have hlen : d.recentFails.length + 1 < 3 := by omega
  unfold Dev.recentFails at hlen ⊢
  simp [Dev.unlock, hl, h, hlen]

theorem unlock_of_third_wrong (d : Dev) (id code : Nat) (hl : d.lockEnd = none) (h : code ≠ d.rd Reg.PV_SERVICE_CODE)
    (hn : 2 ≤ d.recentFails.length) :
    d.unlock id code =
      ({ d.bump 32 Reg.PV_FAILS with fails := [], lockEnd := some (d.now + 300000000000) }, { status := PRIVILEGE }) := by
  have hlen : ¬ d.recentFails.length + 1 < 3 := by omega
  unfold Dev.recentFails at hlen
  simp [Dev.unlock, hl, h, hlen]

/-- The count of wrong codes is apart from the epoch, which every response carries (R257). -/
theorem bump_fails_epoch (d : Dev) : (d.bump 32 Reg.PV_FAILS).rd Reg.DR_EPOCH = d.rd Reg.DR_EPOCH :=
  (Dev.wr_rd d _ _ _).trans (if_neg (by decide))

/-- Setting the engine's bookkeeping to that of a request goes unseen beside it. -/
theorem booked_aside (s D : Dev) (q : Request) (t : Nat) (p : Resp) (rs : List Requester) (h : D.txns = s.txns) :
    (D.booked t p rs (s.used q).txns).aside = D.aside := by
  have hu : (s.used q).txns = (D.used q).txns := by rw [Dev.used, Dev.used, h]
  rw [hu, ← used_aside D q]
  rfl

/-- A refused code is answered, and leaves the module, as trying it says whatever the engine's bookkeeping of the request. -/
theorem pvUnlock_obeys {s : State} {r : Req} {code : Nat} {a : Answer} {D : Dev}
    (hs : s.dev.serves r.id r.seq) (hcode : code < 2 ^ 32) (ha : a.status ≠ BUSY) (htxns : D.txns = s.dev.txns)
    (hep : D.rd Reg.DR_EPOCH = s.dev.rd Reg.DR_EPOCH)
    (hu : ∀ rs xs, (s.dev.booked r.t {} rs xs).unlock r.id code = (D.booked r.t {} rs xs, a)) :
    Obeys (.pvUnlock r code) s (writeReq r Reg.PV_UNLOCK 0 4 code) a D := by
  have ⟨_, _, _, hid, _⟩ := hs
  set q := writeReq r Reg.PV_UNLOCK 0 4 code
  obtain ⟨rs, he⟩ := arrived_booked s.dev q
  refine obeys_write rfl hs (malformed_writeReq r _ 0 4 code hid (by decide)) rfl rfl ?_ ha (booked_aside s.dev D q r.t {} rs htxns)
    ?_ rfl hep
  · rw [he]
    exact (writeValue_unlock _ _ q code rfl rfl hcode).trans (hu rs _)
  · rw [he]
    rfl

theorem pvUnlock_right (s : State) (r : Req) (hs : s.dev.serves r.id r.seq) (hl : s.dev.lockEnd = none)
    (hcode : s.dev.rd Reg.PV_SERVICE_CODE < 2 ^ 32) :
    ∃ t, exec (.pvUnlock r (s.dev.rd Reg.PV_SERVICE_CODE)) s = .next t ∧ Rest s t ∧
      Answered s t (writeReq r Reg.PV_UNLOCK 0 4 (s.dev.rd Reg.PV_SERVICE_CODE)) {} ∧ t.dev.serviceOf r.id = true ∧
      t.dev.aside = s.dev.aside := by
  have ⟨_, _, _, hid, _⟩ := hs
  refine serviced_of_write rfl hs (malformed_writeReq r _ 0 4 _ hid (by decide)) rfl rfl ?_
  obtain ⟨rs, he⟩ := arrived_booked s.dev (writeReq r Reg.PV_UNLOCK 0 4 (s.dev.rd Reg.PV_SERVICE_CODE))
  rw [he]
  exact (writeValue_unlock _ _ _ _ rfl rfl hcode).trans (unlock_of_right (s.dev.booked r.t {} rs _) r.id hl)

theorem pvLock_one (s : State) (r : Req) (hs : s.dev.serves r.id r.seq) :
    ∃ t, exec (.pvLock r 1) s = .next t ∧ Rest s t ∧ Answered s t (writeReq r Reg.PV_LOCK 0 1 1) {} ∧
      t.dev.serviceOf r.id = false ∧ t.dev.aside = s.dev.aside := by
  have ⟨_, _, _, hid, _⟩ := hs
  exact serviced_of_write rfl hs (malformed_writeReq r _ 0 1 1 hid (by decide)) rfl rfl (writeValue_lock _ _ _ rfl rfl)

/-! The idle time and the end of the lockout. -/

/-- A requester's record at the instant t: one idle for the limit has lost the privilege. -/
def Requester.idled (limit t : Nat) (r : Requester) : Requester := if r.last + limit ≤ t then r.serviced false else r

theorem idled_id (limit t : Nat) (r : Requester) : (r.idled limit t).id = r.id := by
  unfold Requester.idled
  split <;> rfl

theorem idled_service (limit t : Nat) (r : Requester) (h : r.service = true) :
    (r.idled limit t).service = decide (t < r.last + limit) := by
  unfold Requester.idled
  split
  · next hle => exact (decide_eq_false (Nat.not_lt.mpr hle)).symm
  · next hlt => exact h.trans (decide_eq_true (Nat.not_le.mp hlt)).symm

theorem serviceOf_idled (d : Dev) (id limit t : Nat) (p : Requester) (hp : d.requester id = some p) :
    (d.modReq id (Requester.idled limit t)).serviceOf id = (p.idled limit t).service := by
  rw [Dev.serviceOf, requester_modReq_self _ _ (Requester.idled limit t) (idled_id limit t), hp]
  rfl

theorem pvTimeout_goes (s : State) (id t : Nat) :
    Goes (.pvTimeout id t) s ((s.dev.at t).modReq id (Requester.idled (s.dev.rd Reg.PV_TIMEOUT * 1000000000) t)) := rfl

theorem pvLockoutEnd_goes (s : State) (t e : Nat) (hl : s.dev.lockEnd = some e) (he : e ≤ t) :
    Goes (.pvLockoutEnd t) s { s.dev.at t with lockEnd := none, fails := [] } := by
  simp [Goes, exec, execPvLockoutEnd, State.run, hl, he]

/-- Settles O21: PV_UNLOCK outside a lockout (right, wrong, wrong for the third time) and in it (right, wrong), then PV_LOCK, PV_TIMEOUT
and PV_LOCKOUT_END. -/
theorem privilegeIsGuarded : Obligations.PrivilegeIsGuarded := by
  unfold Obligations.PrivilegeIsGuarded
  intro s r hs
  refine ⟨fun code hcode hl => ⟨?_, ?_, ?_⟩, ?_, ?_, pvLock_one s r hs, ?_, fun t e => pvLockoutEnd_goes s t e⟩
  · rintro rfl
    rw [used_aside]
    exact pvUnlock_right s r hs hl hcode
  · exact fun h hn => pvUnlock_obeys hs hcode (by decide) rfl (bump_fails_epoch s.dev) fun rs xs =>
      unlock_of_wrong (s.dev.booked r.t {} rs xs) r.id code hl h hn
  · exact fun h hn => pvUnlock_obeys hs hcode (by decide) rfl (bump_fails_epoch s.dev) fun rs xs =>
      unlock_of_third_wrong (s.dev.booked r.t {} rs xs) r.id code hl h hn
  · exact fun code e h hcode hl he => pvUnlock_obeys hs hcode (by decide) rfl rfl fun rs xs =>
      unlock_locked_of_right (s.dev.booked r.t {} rs xs) r.id code e hl he h
  · exact fun code e h hcode hl he => pvUnlock_obeys hs hcode (by decide) rfl (bump_fails_epoch s.dev) fun rs xs =>
      unlock_locked_of_wrong (s.dev.booked r.t {} rs xs) r.id code e hl he h
  · intro id t p hp hservice
    refine ⟨_, pvTimeout_goes s id t, ⟨rfl, rfl, rfl⟩, rfl, rfl, ?_⟩
    exact (serviceOf_idled (s.dev.at t) id _ t p hp).trans (idled_service _ t p hservice)

end Sys2Proof.Machine
end

/-!
The housekeeping graft (R387 to R390): image banks and the bytes programmed in them, the commands and the states that admit them, the
time limits of a swap, and what a stop of the crown does to an unconfirmed image.
-/
section
namespace Sys2Proof.Machine

/-! Image banks (R387). -/

theorem setBank_active (g : Graft) (i : Nat) (b : Bank) : (g.setBank i b).active = g.active := by
  unfold Graft.setBank
  split <;> rfl

theorem bank_setBank_self (g : Graft) (i : Nat) (b : Bank) : (g.setBank i b).bank i = b := by
  unfold Graft.setBank
  split
  · next h => exact if_pos h
  · next h => exact if_neg h

/-- The running bank stays as the other one is written. -/
theorem bank_active_setBank_other (g : Graft) (b : Bank) : (g.setBank (1 - g.active) b).bank g.active = g.bank g.active := by
  by_cases h : g.active = 0
  · simp [Graft.setBank, Graft.bank, h]
  · have ho : 1 - g.active = 0 := by omega
    simp [Graft.setBank, Graft.bank, h, ho]

/-! Bytes programmed (R388). -/

/-- A bank with bytes programmed from address a on. -/
def Bank.programmed (b : Bank) (a : Nat) (bs : List Nat) : Bank :=
  { b with bytes := bs.zipIdx.foldl (fun m p => tabSet (fun _ => 256) m (a + p.2) (p.1 % 256)) b.bytes }

theorem hkProgram_eq (d : Dev) (bs : List Nat) : d.hkProgram bs =
    (({ d with graft := d.graft.setBank d.otherBank ((d.graft.bank d.otherBank).programmed (d.rd Reg.GR_HK_ADDR) bs) } : Dev).wr
      Reg.GR_HK_ADDR ((d.rd Reg.GR_HK_ADDR + bs.length) % 4194304)).wr Reg.GR_HK_STATE 2 := rfl

/-- Addresses outside those of the list keep their bytes; n is the index of the list's first byte. -/
theorem tabGet_program_outside (m : Tab Nat) (a n j : Nat) (bs : List Nat) (h : j < a + n ∨ a + n + bs.length ≤ j) :
    tabGet (fun _ => 256) ((bs.zipIdx n).foldl (fun m p => tabSet (fun _ => 256) m (a + p.2) (p.1 % 256)) m) j =
      tabGet (fun _ => 256) m j := by
  induction bs generalizing m n with
  | nil => rfl
  | cons b bs ih =>
    rw [List.length_cons] at h
    rw [List.zipIdx_cons, List.foldl_cons, ih _ (n + 1) (by omega), tabGet_tabSet, if_neg (by dsimp only; omega)]

theorem tabGet_program_inside (m : Tab Nat) (a n i : Nat) (bs : List Nat) (h : i < bs.length) :
    tabGet (fun _ => 256) ((bs.zipIdx n).foldl (fun m p => tabSet (fun _ => 256) m (a + p.2) (p.1 % 256)) m) (a + n + i) =
      bs[i] % 256 := by
  induction bs generalizing m n i with
  | nil => exact absurd h (Nat.not_lt_zero i)
  | cons b bs ih =>
    rw [List.zipIdx_cons, List.foldl_cons]
    cases i with
    | zero => rw [tabGet_program_outside _ a (n + 1) _ bs (by omega), tabGet_tabSet]; exact if_pos rfl
    | succ i =>
      rw [show a + n + (i + 1) = a + (n + 1) + i by omega]
      exact ih _ (n + 1) i (Nat.lt_of_succ_lt_succ h)

theorem programmed_byte_outside (b : Bank) (a j : Nat) (bs : List Nat) (h : j < a ∨ a + bs.length ≤ j) :
    (b.programmed a bs).byte j = b.byte j :=
  tabGet_program_outside b.bytes a 0 j bs h

theorem programmed_byte_inside (b : Bank) (a i : Nat) (bs : List Nat) (h : i < bs.length) (hb : bs[i] < 256) :
    (b.programmed a bs).byte (a + i) = bs[i] :=
  (tabGet_program_inside b.bytes a 0 i bs h).trans (Nat.mod_eq_of_lt hb)

theorem hkProgram_active (d : Dev) (bs : List Nat) : (d.hkProgram bs).graft.active = d.graft.active := setBank_active _ _ _

/-- Programming works on the bank that does not run. -/
theorem hkProgram_bank_other (d : Dev) (bs : List Nat) : (d.hkProgram bs).graft.bank (d.hkProgram bs).otherBank =
    (d.graft.bank d.otherBank).programmed (d.rd Reg.GR_HK_ADDR) bs := by
  rw [Dev.otherBank, hkProgram_active]
  exact bank_setBank_self _ _ _

theorem hkProgram_bank_active (d : Dev) (bs : List Nat) :
    (d.hkProgram bs).graft.bank (d.hkProgram bs).graft.active = d.graft.bank d.graft.active := by
  rw [hkProgram_active]
  exact bank_active_setBank_other _ _

theorem hkProgram_state (d : Dev) (bs : List Nat) : (d.hkProgram bs).rd Reg.GR_HK_STATE = 2 := by
  rw [hkProgram_eq, Dev.wr_rd, if_pos rfl]

theorem hkProgram_addr (d : Dev) (bs : List Nat) :
    (d.hkProgram bs).rd Reg.GR_HK_ADDR = (d.rd Reg.GR_HK_ADDR + bs.length) % 4194304 := by
  rw [hkProgram_eq, Dev.wr_rd, if_neg (by decide), Dev.wr_rd, if_pos rfl]

/-! The commands of A000:02 (R388, R393). -/

theorem hkDo_verify_refused (d : Dev) (h : d.verifyReason (d.graft.bank d.otherBank) ≠ 0) : d.hkDo 2 =
    ((d.wr Reg.GR_HK_STATE 7).wr Reg.GR_HK_REFUSE (d.verifyReason (d.graft.bank d.otherBank))).log1 0x0811 0xFFFE
      (d.verifyReason (d.graft.bank d.otherBank)) := if_neg h

theorem hkDo_verify_passed (d : Dev) (h : d.verifyReason (d.graft.bank d.otherBank) = 0) : d.hkDo 2 =
    (({ d with graft := d.graft.setBank d.otherBank { d.graft.bank d.otherBank with
      hdr := (d.graft.bank d.otherBank).header, valid := true } } : Dev).wr Reg.GR_HK_STATE 3).log1 0x0810 0xFFFE
        (d.graft.bank d.otherBank).header.version := if_pos h

theorem hkDo_cancel_waiting (d : Dev) (h : d.rd Reg.GR_HK_STATE = 4) : d.hkDo 5 = d.wr Reg.GR_HK_STATE 3 := if_pos h

/-- An unconfirmed image is not left at once: the rollback waits for a safe point. -/
theorem hkDo_cancel_unconfirmed (d : Dev) (h : d.rd Reg.GR_HK_STATE = 6) :
    d.hkDo 5 = { d with graft := { d.graft with rollback := true } } := if_neg (by omega)

/-- A command is taken where its state admits it, and is BUSY elsewhere. -/
theorem okOrBusy_eq_ok (p : Prop) [Decidable p] : (if p then OK else BUSY) = OK ↔ p := by
  by_cases h : p <;> simp [h]

/-- Only a number that names no command is out of range. -/
theorem hkCheck_cases (d : Dev) (v : Nat) : d.hkCheck v = OK ∨ d.hkCheck v = BUSY ∨ (d.hkCheck v = RANGE ∧ (v = 0 ∨ 6 < v)) := by
  match v with
  | 0 => exact .inr (.inr ⟨rfl, .inl rfl⟩)
  | 1 | 2 | 3 | 4 | 5 | 6 => exact (ite_eq_or_eq _ OK BUSY).imp_right .inl
  | n + 7 => exact .inr (.inr ⟨rfl, .inr (Nat.le_add_left 7 n)⟩)

/-! The time limits of a swap and its end (R388, R389). -/

/-- The core is ready after a swap: the other bank runs, unconfirmed. -/
def Dev.swapped (d : Dev) (ms : Nat) : Dev :=
  let f : Dev := { d.coreBack with graft := { d.graft with active := 1 - d.graft.active, unconf := true } }
  ((((f.wr Reg.GR_HK_STATE 6).wr Reg.GR_HK_SWAP_MS (min 65535 ms)).wrote [0]).log1 0x0812 0xFFFE
    (min 65535 ms + (1 - d.graft.active) * 2 ^ 24)).resumeWrites

theorem hkSwapReady_goes (s : State) (ms t : Nat) : Goes (.hkSwapReady ms t) s
    (if s.dev.rd Reg.GR_HK_STATE = 5 then (s.dev.at t).swapped ms else s.dev.at t) := rfl

theorem hkSwapTimeout_goes (s : State) (t : Nat) : Goes (.hkSwapTimeout t) s
    (if s.dev.rd Reg.GR_HK_STATE = 5 then (((s.dev.at t).coreBack.wr Reg.GR_HK_STATE 7).wr Reg.GR_HK_REFUSE 6).resumeWrites
    else s.dev.at t) := rfl

theorem hkWaitTimeout_goes (s : State) (t : Nat) : Goes (.hkWaitTimeout t) s
    (if s.dev.rd Reg.GR_HK_STATE = 4 then (s.dev.at t).wr Reg.GR_HK_STATE 3 else s.dev.at t) := rfl

theorem hkConfirmTimeout_goes (s : State) (t : Nat) : Goes (.hkConfirmTimeout t) s
    (if s.dev.rd Reg.GR_HK_STATE = 6 then { s.dev.at t with graft := { s.dev.graft with rollback := true } } else s.dev.at t) := rfl

theorem goes_of_pos {c : Instr} {s : State} {d e : Dev} {p : Prop} [Decidable p] (g : Goes c s (if p then d else e)) (h : p) :
    Goes c s d := by
  rwa [if_pos h] at g

theorem goes_of_neg {c : Instr} {s : State} {d e : Dev} {p : Prop} [Decidable p] (g : Goes c s (if p then d else e)) (h : ¬ p) :
    Goes c s e := by
  rwa [if_neg h] at g

/-- Outside WAITING, SWAPPING and UNCONFIRMED the time limits and the readiness pass without effect. -/
theorem graftTimers_idle (s : State) (ms t : Nat) (h : s.dev.rd Reg.GR_HK_STATE ∉ [4, 5, 6]) :
    Goes (.hkSwapReady ms t) s (s.dev.at t) ∧ Goes (.hkSwapTimeout t) s (s.dev.at t) ∧ Goes (.hkWaitTimeout t) s (s.dev.at t) ∧
      Goes (.hkConfirmTimeout t) s (s.dev.at t) := by
  simp only [List.mem_cons, List.not_mem_nil, or_false, not_or] at h
  obtain ⟨h4, h5, h6⟩ := h
  exact ⟨goes_of_neg (hkSwapReady_goes s ms t) h5, goes_of_neg (hkSwapTimeout_goes s t) h5, goes_of_neg (hkWaitTimeout_goes s t) h4,
    goes_of_neg (hkConfirmTimeout_goes s t) h6⟩

/-! A stop of the crown (R390, R413). -/

theorem each_active {α : Type} (f : Dev → α → Dev) (hf : ∀ d a, (f d a).graft.active = d.graft.active) (d : Dev) (l : List α) :
    (d.each l f).graft.active = d.graft.active := by
  induction l generalizing d with
  | nil => rfl
  | cons a l ih => exact (ih (f d a)).trans (hf d a)

theorem when_active (f : Dev → Dev) (hf : ∀ d, (f d).graft.active = d.graft.active) (d : Dev) (b : Bool) :
    (d.when b f).graft.active = d.graft.active := by
  cases b
  · rfl
  · exact hf d

theorem graftLeave_active (d : Dev) : d.graftLeave.graft.active = d.graft.active := by
  unfold Dev.graftLeave
  split <;> rfl

theorem tRest_active (d : Dev) (b : Nat) : (d.tRest b).graft.active = d.graft.active := rfl

theorem calAbandon_active (d : Dev) (b : Nat) : (d.calAbandon b).graft.active = d.graft.active := by
  unfold Dev.calAbandon
  split
  · rfl
  · exact when_active _ (tRest_active · b) _ _

theorem unreserve_active (d : Dev) (num : Nat) : (d.unreserve num).graft.active = d.graft.active := by
  unfold Dev.unreserve
  refine each_active _ (fun _ _ => ?_) _ _
  rfl

/-- The module after what ends first as the crown stops: a calibration graft, the calibration cycles, the transactions not yet done. -/
def Dev.crownEnds (d : Dev) : Dev :=
  let d := d.when (d.graft.calSlot.isSome) fun d => d.graftLeave
  let d := d.each [0, 1, 2, 3] fun d b => (d.calAbandon b).when (d.rd (Reg.BR_T_STATE b) = 2) (·.tRest b)
  d.each (d.txns.filter fun x => x.st = 1 || (x.st = 2 && !x.done)) fun d x => d.unreserve x.num

theorem crownEnds_active (d : Dev) : d.crownEnds.graft.active = d.graft.active := by
  have hcal : ∀ (d : Dev) (b : Nat), ((d.calAbandon b).when (d.rd (Reg.BR_T_STATE b) = 2) (·.tRest b)).graft.active = d.graft.active :=
    fun d b => (when_active _ (tRest_active · b) _ _).trans (calAbandon_active d b)
  rw [Dev.crownEnds, each_active (fun d (x : Txn) => d.unreserve x.num) fun d x => unreserve_active d x.num, each_active _ hcal,
    when_active _ graftLeave_active]

/-- The bank that runs at the next start: an unconfirmed image goes back to the other one. -/
theorem crownDown_active (d : Dev) (cause : Nat) (hup : d.crownUp = true) : (d.crownDown cause).graft.active =
    if d.rd Reg.GR_HK_STATE = 6 then d.crownEnds.otherBank else d.crownEnds.graft.active := by
  rw [Dev.crownDown, if_neg (by simp [hup])]
  rfl

theorem crownDown_unconf (d : Dev) (cause : Nat) (hup : d.crownUp = true) : (d.crownDown cause).graft.unconf = false := by
  rw [Dev.crownDown, if_neg (by simp [hup])]

/-- An unconfirmed image never survives a crown start. -/
theorem crownDown_unconfirmed (d : Dev) (cause : Nat) (hup : d.crownUp = true) (h6 : d.rd Reg.GR_HK_STATE = 6) :
    (d.crownDown cause).graft.active = 1 - d.graft.active ∧ (d.crownDown cause).graft.unconf = false := by
  rw [crownDown_active d cause hup, if_pos h6, Dev.otherBank, crownEnds_active]
  exact ⟨rfl, crownDown_unconf d cause hup⟩

/-! The lowest version that a swap accepts, A000:07 (R388). -/

theorem entryCheck_minVersion (d : Dev) (w : Worn) (x : Entry) (hix : x.ix = 0xA000) (hsub : x.sub = 7) :
    d.entryCheck w x = if x.val < d.rd Reg.GR_HK_MIN_VERSION then RANGE else OK := by
  simp [Dev.entryCheck, hix, hsub, isHandleIx]

theorem applyEntry_minVersion (d : Dev) (w : Worn) (x : Entry) (hix : x.ix = 0xA000) (hsub : x.sub = 7) :
    d.applyEntry w x = d.wr Reg.GR_HK_MIN_VERSION x.val := by
  have hkey : x.key = Reg.GR_HK_MIN_VERSION := by rw [Entry.key, hix, hsub]
  simp [Dev.applyEntry, Dev.systemWrite, hix, hsub, hkey, isHandleIx]

/-- Settles O31: the commands and the time limits on a module in any state, the states that admit a command, the bytes programmed, the
stop of the crown, and A000:07. -/
theorem imagesAreGrafted : Obligations.ImagesAreGrafted := by
  unfold Obligations.ImagesAreGrafted
  refine ⟨fun s t ms => ⟨fun e => ?_, fun h5 => ?_, ?_, ?_, graftTimers_idle s ms t⟩, fun d => ?_⟩
  · exact ⟨rfl, hkDo_verify_refused e, hkDo_verify_passed e, rfl, rfl, hkDo_cancel_waiting e, hkDo_cancel_unconfirmed e⟩
  · exact ⟨goes_of_pos (hkSwapReady_goes s ms t) h5, goes_of_pos (hkSwapTimeout_goes s t) h5⟩
  · exact fun h4 => goes_of_pos (hkWaitTimeout_goes s t) h4
  · exact fun h6 => goes_of_pos (hkConfirmTimeout_goes s t) h6
  · refine ⟨okOrBusy_eq_ok _, okOrBusy_eq_ok _, okOrBusy_eq_ok _, okOrBusy_eq_ok _, okOrBusy_eq_ok _, okOrBusy_eq_ok _, hkCheck_cases d,
      fun bs hbs _ => ⟨hkProgram_state d bs, hkProgram_addr d bs, fun i h => ?_, fun a h => ?_, hkProgram_bank_active d bs⟩,
      crownDown_unconfirmed d, fun w x hix hsub => ⟨fun h => ?_, fun h => ?_, applyEntry_minVersion d w x hix hsub⟩⟩
    · rw [hkProgram_bank_other]
      exact programmed_byte_inside _ _ i bs h (hbs _ (List.getElem_mem h))
    · rw [hkProgram_bank_other]
      exact programmed_byte_outside _ _ a bs h
    · rw [entryCheck_minVersion d w x hix hsub, if_pos h]
    · rw [entryCheck_minVersion d w x hix hsub, if_neg (Nat.not_lt.mpr h)]

end Sys2Proof.Machine
end

/-!
What a step can change outside the module (R33, R242): the outcomes of every command, said once, and the invariants that follow.
-/
section
namespace Sys2Proof.Machine

/-! Used spares only grow (R33). -/

theorem and_eq_self_trans {n : Nat} {a b c : BitVec n} (h : a &&& b = a) (g : b &&& c = b) : a &&& c = a := by
  rw [← h, BitVec.and_assoc, g]

theorem and_or_eq_self {n : Nat} (a b : BitVec n) : a &&& (a ||| b) = a := by
  ext i
  simp only [BitVec.getElem_and, BitVec.getElem_or]
  cases a[i] <;> simp

theorem Worn.within_refl (w : Worn) : w.within w :=
  ⟨BitVec.and_self, BitVec.and_self, BitVec.and_self, BitVec.and_self, BitVec.and_self, BitVec.and_self⟩

theorem Worn.within_trans {u v w : Worn} (h : u.within v) (g : v.within w) : u.within w := by
  obtain ⟨h1, h2, h3, h4, h5, h6⟩ := h
  obtain ⟨g1, g2, g3, g4, g5, g6⟩ := g
  exact ⟨and_eq_self_trans h1 g1, and_eq_self_trans h2 g2, and_eq_self_trans h3 g3, and_eq_self_trans h4 g4, and_eq_self_trans h5 g5,
    and_eq_self_trans h6 g6⟩

/-- A converter retired. -/
theorem Worn.within_retire (w : Worn) (n which : Nat) : w.within (w.retire n which) :=
  { w.within_refl with left := and_or_eq_self _ _ }

/-- A half retired. -/
theorem Worn.within_halves (w : Worn) (x : BitVec 32) : w.within { w with halves := w.halves ||| x } := by
  obtain ⟨h1, _, h3⟩ := w.within_refl
  exact ⟨h1, and_or_eq_self _ _, h3⟩

theorem Worn.within_loseHalves (w : Worn) (l : List Nat) : w.within (w.loseHalves l) := by
  obtain ⟨h1, h2, _, h4⟩ := w.within_refl
  exact ⟨h1, h2, and_or_eq_self _ _, h4⟩

theorem and_foldl_or_eq_self {n : Nat} {α : Type} (f : α → BitVec n) (l : List α) (a : BitVec n) :
    a &&& l.foldl (fun v i => v ||| f i) a = a := by
  induction l generalizing a with
  | nil => exact BitVec.and_self
  | cons x l ih => exact and_eq_self_trans (and_or_eq_self a (f x)) (ih _)

theorem Worn.within_loseCal (w : Worn) (l : List Nat) : w.within (w.loseCal l) := by
  obtain ⟨h1, h2, h3, h4, h5, _⟩ := w.within_refl
  exact ⟨h1, h2, h3, h4, h5, and_foldl_or_eq_self _ _ _⟩

theorem Worn.within_driftEnter (d : Dev) (w : Worn) (b : Nat) (r : Int) (bd : Bool) : w.within (d.driftEnter w b r bd).2 := by
  obtain ⟨h1, h2, h3, _, h5, h6⟩ := w.within_refl
  refine ⟨h1, h2, h3, and_or_eq_self _ _, ?_, h6⟩
  cases bd
  · exact h5
  · exact and_or_eq_self _ _

theorem Worn.within_calSettle (d : Dev) (w : Worn) (b : Nat) : w.within (d.calSettle w b).2 := by
  have hkeep := w.within_refl
  unfold Dev.calSettle
  dsimp only
  split
  · split
    · exact within_driftEnter _ _ _ _ _
    · exact hkeep
  · exact hkeep
  · split
    · split <;> exact hkeep
    · split
      · exact hkeep
      · split
        · exact within_driftEnter _ _ _ _ _
        · exact hkeep

/-- The only way a window uses a spare is its verdict, and then what the branch's calibration owes. -/
theorem Worn.within_pairWindow (d : Dev) (w : Worn) (k : Nat) (m : WinMeas) (sp : Spans) (block : Bool) (t : Nat) :
    w.within (d.pairWindow w k m sp block t).2 := by
  unfold Dev.pairWindow
  extract_lets
  split
  next v _ =>
  extract_lets
  refine within_trans ?_ (within_calSettle _ _ _)
  cases v
  · exact w.within_refl
  · exact w.within_retire _ _

/-! The outcomes of a command. -/

/-- The commands that may use spares for good. -/
def judgesSpares : Instr → Bool
  | .windowEnd .. | .fastBlockEnd .. | .calibrationCycle .. | .halfRetired .. | .halvesLost .. | .crownStart .. => true
  | _ => false

/-- The commands that write PSRAM. -/
def storesMemory : Instr → Bool
  | .spillTransfer .. | .captureCopy .. => true
  | _ => false

/-- The commands that read or write PSRAM on their own account. -/
def reachesMemory : Instr → Bool
  | .spillTransfer .. | .captureCopy .. | .fillTransfer .. => true
  | _ => false

/-- How a command can end: with another module alone; with further spares used; with PSRAM written; or at an address that does not exist. -/
inductive Ends (c : Instr) (s : State) : Host.Outcome State Fault Refusal → Prop where
  | module (d : Dev) : Ends c s (.next { s with dev := d })
  | spares (d : Dev) (w : Worn) (hc : judgesSpares c = true) (hw : s.worn.within w) : Ends c s (.next { s with dev := d, worn := w })
  | stores (d : Dev) (m : List Host.Cell) (hc : storesMemory c = true) (hm : Memory.wf s.ps = true → Memory.wf m = true) :
      Ends c s (.next { s with dev := d, ps := m })
  | hole (hc : reachesMemory c = true) : Ends c s (.fault .psramHole)

theorem Ends.ite {c : Instr} {s : State} {p : Prop} [Decidable p] {x y : Host.Outcome State Fault Refusal} (hx : Ends c s x)
    (hy : Ends c s y) : Ends c s (if p then x else y) := by
  split
  · exact hx
  · exact hy

theorem spillAll_wf (c q n : Nat) (r : Dev × List Host.Cell) (h : Memory.wf r.2 = true) : Memory.wf (Dev.spillAll c q n r).2 = true := by
  induction n generalizing r with
  | zero => exact h
  | succ n ih =>
    unfold Dev.spillAll
    dsimp only
    split
    · exact h
    · split
      · exact h
      · split
        · exact h
        · split
          · exact h
          · exact ih _ (Memory.wf_putRing _ _ _ _ _ h)

theorem captureCopy_wf (d : Dev) (m : List Host.Cell) (c : Nat) (h : Memory.wf m = true) : Memory.wf (d.captureCopy m c).2 = true := by
  unfold Dev.captureCopy
  extract_lets
  split
  · exact h
  · extract_lets
    split
    · exact h
    · split
      · exact h
      · split
        · exact h
        · split
          · exact h
          · exact Memory.wf_putRing _ _ _ _ _ h

/-- A command that writes PSRAM ends at a hole or with what its effect leaves. -/
theorem ends_runStore {c : Instr} {s : State} (f : Env → Dev → Dev × List Host.Cell) (hc : storesMemory c = true)
    (hr : reachesMemory c = true) (hf : ∀ d, Memory.wf s.ps = true → Memory.wf (f ⟨s.ps, s.worn⟩ d).2 = true) : Ends c s (s.runStore f) :=
  .ite (.hole hr) (.stores _ _ hc (hf _))

theorem ends_spillTransfer (s : State) (c : DmaNo) (t : Nat) : Ends (.spillTransfer c t) s (execSpillTransfer c t s) := by
  refine ends_runStore _ rfl rfl fun d h => ?_
  dsimp only
  split
  · exact spillAll_wf _ _ _ _ h
  · exact h

theorem ends_captureCopy (s : State) (c : DmaNo) (t : Nat) : Ends (.captureCopy c t) s (execCaptureCopy c t s) := by
  refine ends_runStore _ rfl rfl fun d h => ?_
  dsimp only
  split
  · exact captureCopy_wf _ _ _ h
  · exact h

theorem ends_windowEnd (s : State) (h : SlotNo) (m : WinMeas) (t : Nat) : Ends (.windowEnd h m t) s (execWindowEnd h m t s) :=
  have settled := Worn.within_calSettle (s.dev.at t) s.worn ((s.dev.at t).chanOf h / 4)
  .ite (.module _) (.ite (.spares _ _ rfl settled) (.spares _ _ rfl (Worn.within_trans settled (Worn.within_pairWindow _ _ _ _ _ _ _))))

theorem ends_crownStart (s : State) (vio vbak : Nat) (nor : Option Nat) (high : Bool) (psram : Nat) (b0 b1 : Bool) (l : List Nat)
    (t : Nat) : Ends (.crownStart vio vbak nor high psram b0 b1 l t) s (execCrownStart vio vbak nor high psram b0 b1 l t s) :=
  .ite (.module _) (.spares _ _ rfl (Worn.within_loseCal _ _))

/-- How each command ends, whatever the state. -/
theorem ends (c : Instr) (s : State) : Ends c s (exec c s) := by
  cases c with
  | spillTransfer c t => exact ends_spillTransfer s c t
  | captureCopy c t => exact ends_captureCopy s c t
  | fillTransfer c t => exact .ite (.hole rfl) (.module _)
  | windowEnd h m t => exact ends_windowEnd s h m t
  | fastBlockEnd h m t => exact .ite (.module _) (.ite (.module _) (.spares _ _ rfl (Worn.within_pairWindow _ _ _ _ _ _ _)))
  | calibrationCycle b x y z t => exact .spares _ _ rfl (Worn.within_calSettle _ _ _)
  | halfRetired n half t => exact .ite (.spares _ _ rfl (Worn.within_halves _ _)) (.module _)
  | halvesLost n t => exact .ite (.module _) (.spares _ _ rfl (Worn.within_loseHalves _ _))
  | crownStart vio vbak nor high psram b0 b1 l t => exact ends_crownStart s vio vbak nor high psram b0 b1 l t
  | wdCheckin w1 r id => exact .ite (.module _) (.module _)
  | _ => exact .module _

/-! The invariants of a run. -/

theorem exec_keeps_memory_form {c : Instr} {s t : State} (hs : Memory.wf s.ps = true) (h : exec c s = .next t) : Memory.wf t.ps = true := by
  have e := ends c s
  rw [h] at e
  cases e with
  | module d => exact hs
  | spares d w => exact hs
  | stores d m _ hm => exact hm hs

theorem exec_keeps_spares {c : Instr} {s t : State} (h : exec c s = .next t) : s.worn.within t.worn := by
  have e := ends c s
  rw [h] at e
  cases e with
  | module d => exact s.worn.within_refl
  | spares d w _ hw => exact hw
  | stores d m => exact s.worn.within_refl

/-- A step is its front command, or idles. -/
theorem step_cases {s t : State} (h : step s = .next t) :
    t = s ∨ ∃ c rest, s.pending = c :: rest ∧ exec c { s with pending := rest } = .next t := by
  unfold step at h
  split at h
  · cases h
    exact .inl rfl
  · next c rest hp => exact .inr ⟨c, rest, hp, h⟩

theorem step_keeps_spares {s t : State} (h : step s = .next t) : s.worn.within t.worn := by
  obtain rfl | ⟨c, rest, -, hx⟩ := step_cases h
  · exact t.worn.within_refl
  · exact exec_keeps_spares (s := { s with pending := rest }) hx

theorem reaches_keeps_spares {s t : State} (h : Reaches s t) : s.worn.within t.worn := by
  induction h with
  | here => exact s.worn.within_refl
  | next _ k ih => exact Worn.within_trans ih (step_keeps_spares k)

/-- A bit of used spares stays set. -/
theorem testBit_of_and_eq {n : Nat} {a b : BitVec n} (h : a &&& b = a) {i : Nat} (ha : a.toNat.testBit i = true) :
    b.toNat.testBit i = true := by
  rw [← h, BitVec.toNat_and, Nat.testBit_and, Bool.and_eq_true] at ha
  exact ha.2

theorem roleOf_ne_zero (w : Worn) (n : Nat) :
    roleOf w n ≠ 0 ↔ w.conv.toNat.testBit (2 * n) = true ∨ w.conv.toNat.testBit (2 * n + 1) = true := by
  unfold roleOf
  cases w.conv.toNat.testBit (2 * n) <;> cases w.conv.toNat.testBit (2 * n + 1) <;> decide

theorem nat01_le_of_imp {a b : Bool} (h : a = true → b = true) : nat01 a ≤ nat01 b := by
  cases a
  · exact Nat.zero_le _
  · rw [h rfl]

/-- Fewer halves are left where more are retired. -/
theorem halvesLeft_le {v w : Worn} (n : Nat) (hh : v.halves &&& w.halves = v.halves) (hl : v.lost &&& w.lost = v.lost) :
    halvesLeft w n ≤ halvesLeft v n := by
  have ha := nat01_le_of_imp (testBit_of_and_eq hh (i := 2 * n))
  have hb := nat01_le_of_imp (testBit_of_and_eq hh (i := 2 * n + 1))
  unfold halvesLeft
  by_cases hw : w.lost.toNat.testBit n = true
  · rw [if_pos hw]
    exact Nat.zero_le _
  · rw [if_neg hw, if_neg fun hv => hw (testBit_of_and_eq hl hv)]
    omega

/-- Settles O3: a step is its front command, and how commands end says that only a canonical table is written. -/
theorem everyStepKeepsMemoryForm : Obligations.EveryStepKeepsMemoryForm := by
  unfold Obligations.EveryStepKeepsMemoryForm
  intro s t hs h
  obtain rfl | ⟨c, rest, -, hx⟩ := step_cases h
  · exact hs
  · exact exec_keeps_memory_form (s := { s with pending := rest }) hs hx

/-- Settles O4: along a run by induction, then bit by bit. -/
theorem sparesStayUsed : Obligations.SparesStayUsed := by
  unfold Obligations.SparesStayUsed
  intro s t h
  obtain ⟨hconv, hhalves, hlost, hdrift, _⟩ := reaches_keeps_spares h
  refine ⟨reaches_keeps_spares h, fun n _ hr => ?_, fun n _ => halvesLeft_le n hhalves hlost, fun b _ hb => testBit_of_and_eq hdrift hb⟩
  rw [roleOf_ne_zero] at hr ⊢
  exact hr.imp (testBit_of_and_eq hconv) (testBit_of_and_eq hconv)

/-! The commands by name. -/

theorem of_storesMemory {c : Instr} (h : storesMemory c = true) : (∃ h t, c = .spillTransfer h t) ∨ ∃ h t, c = .captureCopy h t := by
  unfold storesMemory at h
  split at h
  · exact .inl ⟨_, _, rfl⟩
  · exact .inr ⟨_, _, rfl⟩
  · cases h

theorem of_reachesMemory {c : Instr} (h : reachesMemory c = true) :
    (∃ h t, c = .spillTransfer h t) ∨ (∃ h t, c = .captureCopy h t) ∨ ∃ h t, c = .fillTransfer h t := by
  unfold reachesMemory at h
  split at h
  · exact .inl ⟨_, _, rfl⟩
  · exact .inr (.inl ⟨_, _, rfl⟩)
  · exact .inr (.inr ⟨_, _, rfl⟩)
  · cases h

theorem of_judgesSpares {c : Instr} (h : judgesSpares c = true) :
    (∃ h m t, c = .windowEnd h m t) ∨ (∃ h m t, c = .fastBlockEnd h m t) ∨ (∃ b x y z t, c = .calibrationCycle b x y z t) ∨
      (∃ n h t, c = .halfRetired n h t) ∨ (∃ n t, c = .halvesLost n t) ∨
        ∃ vio vbak nor high ps b0 b1 l t, c = .crownStart vio vbak nor high ps b0 b1 l t := by
  unfold judgesSpares at h
  split at h
  · exact .inl ⟨_, _, _, rfl⟩
  · exact .inr (.inl ⟨_, _, _, rfl⟩)
  · exact .inr (.inr (.inl ⟨_, _, _, _, _, rfl⟩))
  · exact .inr (.inr (.inr (.inl ⟨_, _, _, rfl⟩)))
  · exact .inr (.inr (.inr (.inr (.inl ⟨_, _, rfl⟩))))
  · exact .inr (.inr (.inr (.inr (.inr ⟨_, _, _, _, _, _, _, _, _, rfl⟩))))
  · cases h

/-- Settles O5: read off from how the commands end. -/
theorem commandsKeepTheRest : Obligations.CommandsKeepTheRest := by
  unfold Obligations.CommandsKeepTheRest
  intro c s
  have e := ends c s
  refine ⟨fun t h => ?_, fun r h => ?_, fun hs hc hf => ?_, fun f h => ?_⟩
  · rw [h] at e
    cases e with
    | module d => exact ⟨rfl, .inl rfl, .inl rfl⟩
    | spares d w hc => exact ⟨rfl, .inl rfl, .inr (of_judgesSpares hc)⟩
    | stores d m hc => exact ⟨rfl, .inr (of_storesMemory hc), .inl rfl⟩
  · rw [h] at e
    cases e
  · generalize exec c s = o at e
    cases e with
    | module d => exact ⟨_, rfl⟩
    | spares d w => exact ⟨_, rfl⟩
    | stores d m => exact ⟨_, rfl⟩
    | hole h =>
      obtain ⟨k, t, h⟩ | ⟨k, t, h⟩ | ⟨k, t, h⟩ := of_reachesMemory h
      · exact absurd h (hs k t)
      · exact absurd h (hc k t)
      · exact absurd h (hf k t)
  · rw [h] at e
    cases e with
    | hole hc => exact ⟨rfl, of_reachesMemory hc⟩

end Sys2Proof.Machine
end

/-!
The step itself, and the module before its supplies come up.
-/
section
namespace Sys2Proof.Machine

/-- Settles O1: the branches of a step; no word of the table spells a command. -/
theorem stepRunsTheFront : Obligations.StepRunsTheFront := by
  unfold Obligations.StepRunsTheFront
  refine fun s => ⟨fun c rest h => ?_, fun h => ?_, fun nbits w => rfl⟩
  · simp only [step, h]
  · simp only [step, h]

/-- The state of a slot is free by default. -/
theorem dfltOf_hndState (k : Nat) (hk : k < 128) : dfltOf (Reg.HND_STATE k) = 0 := by
  have hix : Reg.HND_STATE k / 256 = 0x2000 + 0x40 * k := by simp only [Reg.HND_STATE]; omega
  have hsub : Reg.HND_STATE k % 256 = 3 := by simp only [Reg.HND_STATE]; omega
  have hrows : rowsAt (fun _ => 0) (0x2000 + 0x40 * k) = some (rowsOfKind 0) := by
    rw [rowsAt, if_pos (by omega), if_pos (by omega)]
  rw [dfltOf, objInfo, hix, hsub, hrows]
  rfl

/-- Settles O2: every object of the reset state reads as its default, and every list is empty. -/
theorem resetStateHolds : Obligations.ResetStateHolds := by
  unfold Obligations.ResetStateHolds
  exact ⟨rfl, rfl, rfl, rfl, rfl, by decide, rfl, rfl, rfl, rfl, rfl, rfl, rfl, dfltOf_hndState, fun _ => ⟨rfl, rfl⟩,
    fun _ => ⟨rfl, rfl⟩, fun _ => rfl⟩

end Sys2Proof.Machine
end

/-!
Link words at a branch (R15, R27, R138), and how a whole next state is refuted: a concrete state whose next module differs in one place.
-/
section
namespace Sys2Proof.Machine

/-- The module that a command leaves. -/
def devAfter : Host.Outcome State Fault Refusal → Dev
  | .next t => t.dev
  | _ => {}

theorem Goes.devAfter {c : Instr} {s : State} {d : Dev} (h : Goes c s d) : devAfter (exec c s) = d := by rw [h]; rfl

/-- The link word whose 40 low bits are p, with their CRC-8 (R15). -/
def linkWord (p : Nat) : LinkBits := BitVec.ofNat 48 (p + crc8 (bytesLE 5 p) * 2 ^ 40)

/-- A module whose object store names two kinds for the handle of slot 0: the create record is that of the switch pair on channels 0 and
1, while the kind object says LOOP_OUT. A substitute is due on channel 0, and an APPLY word for channel 1 waits. -/
def mixedKind : State :=
  { dev := ((((((({ crownUp := true } : Dev).wr (Reg.HND_ID 0) 128).wr (Reg.HND_KIND 0) 2).wr (Reg.HND_STATE 0) RUNNING).wr
      (Reg.HND_BIND 0) 0x06).wr (Reg.LINK_STATE 0) 1).setBranch 0 { linkUp := true, toBranch := [.apply 1 0] }).setChan 0
        { subDue := true } }

/-- Refutes O6: the store may hold a LOOP_OUT handle whose create record drives the P lands of two channels. The APPLY word for the second
then carries out the substitute that is due on the first, whose state the statement leaves as it is. -/
theorem not_branchWordsAct : ¬ Obligations.BranchWordsAct := by
  unfold Obligations.BranchWordsAct
  intro h
  obtain ⟨happly, _⟩ := h mixedKind 0 (linkWord (2 ^ 38)) 0 [] (by decide +kernel) (by decide +kernel)
  obtain ⟨_, hdriver⟩ := happly 0 (by decide +kernel)
  obtain ⟨_, hloop⟩ := hdriver 0 (by decide +kernel) (by decide +kernel) (by decide +kernel) (by decide +kernel)
  have hgoes := hloop (by decide +kernel) (by decide +kernel) (by decide +kernel)
  exact absurd (congrArg (fun d : Dev => (d.chan 0).subst) hgoes.devAfter) (by decide +kernel)

end Sys2Proof.Machine
end

/-!
Logging and the lists that are read off the object store: the live slots and the drivers are the same after it (R30, R381).
-/
section
namespace Sys2Proof.Machine

/-- The objects that logging writes: those of logKey without the objects of the memories. -/
def noteKey (k : Nat) : Prop := logKey k ∧ ¬ (0x440000 ≤ k ∧ k < 0x441000)

theorem noteKey_queue (q i : Nat) (hq : q < 64) (hi : i < 256) : noteKey ((0x4000 + 0x10 * q) * 256 + i) :=
  ⟨logKey_queue q i hq hi, by omega⟩

theorem noteKey_dma (c i : Nat) (hc : c < 16) (hi : i < 256) : noteKey ((0x4410 + c) * 256 + i) := ⟨logKey_dma c i hc hi, by omega⟩

theorem noteKey_total : noteKey Reg.EV_TOTAL := ⟨logKey_total, by decide⟩

theorem noteKey_lost : noteKey Reg.OPS_EVT_LOST := ⟨.inl rfl, by decide⟩

theorem noteKey_peak : noteKey Reg.OPS_PEAK := ⟨.inr (.inr (.inl rfl)), by decide⟩

/-- A relation between modules that holds across everything logging does: writing one of its objects, and any change that leaves the
object store. -/
structure LogClosed (R : Dev → Dev → Prop) : Prop where
  trans : ∀ {a b c}, R a b → R b c → R a c
  wr : ∀ d k v, noteKey k → R d (d.wr k v)
  same : ∀ {d e : Dev}, e.obj = d.obj → R d e

namespace LogClosed

variable {R : Dev → Dev → Prop} (h : LogClosed R)
include h

theorem refl (d : Dev) : R d d := h.same rfl

theorem setQueue (d : Dev) (q : Nat) (x : Queue) : R d (d.setQueue q x) := h.same rfl

theorem breach (d : Dev) (b : Nat) : R d (d.breach b) := h.same rfl

theorem setDma (d : Dev) (c : Nat) (x : Dma) : R d (d.setDma c x) := h.same rfl

theorem when (d : Dev) (b : Bool) (f : Dev → Dev) (hf : R d (f d)) : R d (d.when b f) := by
  cases b
  · exact h.refl d
  · exact hf

theorem wrote (d : Dev) (l : List Nat) : R d (d.wrote l) := by
  unfold Dev.wrote
  cases decide (l ≠ [])
  · exact h.same rfl
  · exact h.trans (h.wr d _ _ noteKey_peak) (h.same rfl)

theorem countAbort (d : Dev) (q r : Nat) (hq : q < 64) : R d (d.countAbort q r).1 := by
  have h1 : R d ((d.bump 32 (Reg.QU_ABORTED q)).wr (Reg.QU_LAST_ABORT q) r) :=
    h.trans (h.wr d _ _ (noteKey_queue q _ hq (by omega))) (h.wr _ _ _ (noteKey_queue q _ hq (by omega)))
  unfold Dev.countAbort
  extract_lets d1 d2 x n due
  have h2 : R d d2 := h.trans h1 (h.when _ _ _ (h.breach _ _))
  split
  · exact h.trans h2 (h.setQueue _ _ _)
  · exact h.trans h2 (h.setQueue _ _ _)

theorem queueReset (d : Dev) (q r : Nat) (hq : q < 64) : R d (d.queueReset q r).1 := by
  have hc := h.countAbort d q 5 hq
  unfold Dev.queueReset
  generalize d.countAbort q 5 = c at hc
  by_cases ho : (d.queue q).opn.isSome = true
  · simp only [ho, if_true]
    exact h.trans hc (h.setQueue _ _ _)
  · simp only [ho]
    exact h.setQueue _ _ _

theorem guardQueue (d : Dev) (q : Nat) (hq : q < 64) : R d (d.guardQueue q).1 := by
  unfold Dev.guardQueue
  split
  · exact h.refl d
  · exact h.queueReset d q 2 hq

theorem abortPacket (d : Dev) (q r : Nat) (hq : q < 64) : R d (d.abortPacket q r).1 := by
  have g := h.guardQueue d q hq
  unfold Dev.abortPacket
  dsimp only
  split
  · exact g
  · exact h.trans g (h.trans (h.setQueue _ _ _) (h.countAbort _ q r hq))

theorem openPacket (d : Dev) (q ty : Nat) (hq : q < 64) : R d (d.openPacket q ty).1 := by
  have g := h.guardQueue d q hq
  unfold Dev.openPacket
  dsimp only
  split
  · exact h.trans g (h.countAbort _ q 1 hq)
  · exact h.trans g (h.setQueue _ _ _)

theorem appendBytes (d : Dev) (q : Nat) (bs : List Nat) (hq : q < 64) : R d (d.appendBytes q bs).1 := by
  have g := h.guardQueue d q hq
  unfold Dev.appendBytes
  dsimp only
  split
  · exact g
  · split
    · exact h.trans g (h.setQueue _ _ _)
    · exact h.trans g (h.abortPacket _ q _ hq)

theorem noteCommit (d : Dev) (q b a : Nat) : R d (d.noteCommit q b a).1 := by
  unfold Dev.noteCommit
  dsimp only
  split <;> exact h.setQueue _ _ _

theorem commitPacket (d : Dev) (q : Nat) (hq : q < 64) : R d (d.commitPacket q).1 := by
  have g := h.guardQueue d q hq
  unfold Dev.commitPacket
  dsimp only
  split
  · exact g
  · split
    · exact h.trans g (h.setQueue _ _ _)
    · split
      · exact h.trans g (h.abortPacket _ q _ hq)
      · split
        · exact h.trans g (h.abortPacket _ q _ hq)
        · exact h.trans (h.trans g (h.setQueue _ _ _)) (h.trans (h.wr _ _ _ (noteKey_queue q _ hq (by omega))) (h.noteCommit _ q _ _))

theorem eventPacket (d : Dev) (r : EvRec) : R d (d.eventPacket r).1 := by
  unfold Dev.eventPacket
  split
  · exact h.refl d
  · next q hf =>
    have hq := mem_enabledQueues (List.mem_of_find?_eq_some hf)
    have h1 := h.openPacket d q 0x10 hq
    generalize d.openPacket q 0x10 = a at h1
    have h2 := h.appendBytes a.1 q r.bytes hq
    dsimp only
    generalize a.1.appendBytes q r.bytes = b at h2
    exact h.trans (h.trans h1 h2) (h.commitPacket b.1 q hq)

theorem trigger (d : Dev) (c code : Nat) (hc : c < 16) : R d (d.trigger c code).1 := by
  unfold Dev.trigger
  split
  · exact h.trans (h.trans (h.wr d _ _ (noteKey_dma c 0x9 hc (by omega))) (h.wr _ _ _ (noteKey_dma c 0x10 hc (by omega)))) (h.setDma _ _ _)
  · exact h.refl d

theorem triggers (cs : List Nat) (hc : ∀ c ∈ cs, c < 16) (code : Nat) (p : Dev × Evs) :
    R p.1 (cs.foldl (fun p c => let r := p.1.trigger c code; (r.1, p.2 ++ r.2)) p).1 := by
  induction cs generalizing p with
  | nil => exact h.refl _
  | cons c cs ih =>
    have ht := h.trigger p.1 c code (hc c List.mem_cons_self)
    simp only [List.foldl_cons]
    generalize p.1.trigger c code = t at ht
    exact h.trans ht (ih (fun x hx => hc x (List.mem_cons_of_mem _ hx)) (t.1, p.2 ++ t.2))

theorem stored (d : Dev) (ls : List Nat) (x y : List EvRec) : R d { d.wrote ls with log := x, staging := y } :=
  h.trans (h.wrote d ls) (h.same rfl)

theorem drain (d : Dev) : R d d.drain := by
  unfold Dev.drain
  split
  · exact h.stored d _ _ _
  · exact h.refl d

theorem logOne (d : Dev) (e : Nat × Nat × Nat) : R d (d.logOne e).1 := by
  unfold Dev.logOne
  have h0 := h.drain d
  generalize d.drain = d at h0
  refine h.trans h0 ?_
  dsimp only
  split
  · exact h.wr d _ _ noteKey_lost
  · have h1 : R d (d.numbered e) := h.trans (h.wr d Reg.EV_TOTAL _ noteKey_total) (h.same rfl)
    have h2 := h.trans h1 (h.triggers ((d.numbered e).armedBy e.1) (fun c hc => mem_armedBy hc) e.1 (d.numbered e, []))
    unfold Dev.numbered at h2
    generalize List.foldl _ _ _ = a at h2 ⊢
    have h3 := h.trans h2 (h.eventPacket a.1 ⟨d.rd Reg.EV_TOTAL, d.now, e.1, e.2.1, e.2.2 % 2 ^ 32⟩)
    generalize Dev.eventPacket _ _ = b at h3 ⊢
    exact h.trans h3 (h.drain _)

theorem logAll (n : Nat) (d : Dev) (es : Evs) : R d (Dev.logAll n d es) := by
  induction n generalizing d es with
  | zero => exact h.refl d
  | succ n ih =>
    unfold Dev.logAll
    induction es generalizing d with
    | nil => exact h.refl d
    | cons e es ihe =>
      have h1 := h.logOne d e
      simp only [List.foldl_cons]
      generalize d.logOne e = a at h1
      exact h.trans (h.trans h1 (ih a.1 a.2)) (ihe _)

theorem logs (d : Dev) (es : Evs) : R d (d.logs es) := h.logAll 8 d es

theorem log1 (d : Dev) (code src det : Nat) : R d (d.log1 code src det) := h.logs d _

end LogClosed

/-- Whatever a list drawn from the object store does not take from the objects of logging, it draws alike. -/
def SameListing (d e : Dev) : Prop := ∀ f : Nat × Nat → Option Nat, (∀ k v, logKey k → f (k, v) = none) → e.obj.filterMap f = d.obj.filterMap f

theorem sameListing_logClosed : LogClosed SameListing where
  trans h g f hf := (g f hf).trans (h f hf)
  wr d k v hk f hf := filterMap_tabSet dfltOf f d.obj k v fun w => hf k w hk.1
  same h f _ := by rw [h]

theorem SameListing.liveSlots {d e : Dev} (h : SameListing d e) : e.liveSlots = d.liveSlots := by
  refine h _ fun k v hk => if_neg fun hc => ?_
  have hlo : 0x2000 * 256 ≤ k ∧ k < 0x4000 * 256 := by omega
  have htotal : Reg.EV_TOTAL = 0x801001 ∧ Reg.OPS_EVT_LOST = 0x02F005 ∧ Reg.OPS_PEAK = 0x02F002 := ⟨rfl, rfl, rfl⟩
  unfold logKey at hk
  omega

end Sys2Proof.Machine
end

/-!
Link words at the crown (R16, R22, R30, R70, R80, R376).
-/
section
namespace Sys2Proof.Machine

/-! Rules for whole next states. -/

theorem Goes.of_eq {c : Instr} {s : State} {d e : Dev} (h : Goes c s d) (he : d = e) : Goes c s e := he ▸ h

/-! A word arrives (R15 to R18). -/

/-- The crown with a good queued word taken from its branch. -/
def Dev.tookUp (d : Dev) (b : Nat) (q : List LWord) : Dev := d.setBranch b { d.branch b with nackUp := 0, toCrown := q }

/-- The crown with a good word taken that stood in no queue. -/
def Dev.heardUp (d : Dev) (b : Nat) : Dev := d.setBranch b { d.branch b with nackUp := 0 }

section
variable {d : Dev} {b : Nat} {w : LinkBits} (hg : linkGood w = true) (hl : d.linked b = true)
include hg hl

theorem wordUp_sent {pick : LWord → Bool} {chan : LWord → Option Nat} {y : LWord} {q : List LWord} (act : Dev → LWord → Dev)
    (hs : sent (d.branch b).toCrown = some (y, q)) (hp : pick y = true) (hc : chan y = some (4 * b + linkChan w)) :
    d.wordUp b w pick chan act = act (d.tookUp b q) y := by
  simp [Dev.wordUp, Dev.tookUp, hg, hl, hs, hp, hc]

/-- A word that is not the one sent next, or is on another channel, changes nothing. -/
theorem wordUp_other {pick : LWord → Bool} {chan : LWord → Option Nat} {y : LWord} {q : List LWord} {m : Nat} (act : Dev → LWord → Dev)
    (hs : sent (d.branch b).toCrown = some (y, q)) (hc : chan y = some m) (hm : m ≠ 4 * b + linkChan w) :
    d.wordUp b w pick chan act = d := by
  simp [Dev.wordUp, hg, hl, hs, hc, hm]

theorem freshUp_heard {prio : Nat} (act : Dev → Dev) (hn : noneAbove prio (d.branch b).toCrown = true) :
    d.freshUp b w prio act = act (d.heardUp b) := by
  simp [Dev.freshUp, Dev.heardUp, hg, hl, hn]

theorem freshUp_waits {prio : Nat} (act : Dev → Dev) (hn : noneAbove prio (d.branch b).toCrown = false) : d.freshUp b w prio act = d := by
  simp [Dev.freshUp, hg, hl, hn]

end

/-! PROT_EVENT (R30, R374). -/

/-- An event of a channel that is no pair, taken. -/
theorem takeProt_single {d : Dev} {e : ProtEv} (h : d.pairChans e.chan = [e.chan]) :
    d.takeProt e = (d.modChan e.chan fun c => { c with life := c.life.count e.code }).logAt e.time e.code (d.protSrc e) e.det := by
  rw [Dev.takeProt, h]
  rfl

theorem protUrgent_none {d : Dev} {e : ProtEv} (h : e.code / 256 = 1 ∨ d.pairDriver e.chan = none) : d.protUrgent e = d := by
  unfold Dev.protUrgent
  by_cases hc : e.code / 256 = 1
  · simp [hc]
  · simp [hc, h.resolve_left hc]

theorem protUrgent_some {d : Dev} {e : ProtEv} {k : Nat} (hc : e.code / 256 ≠ 1) (hk : d.pairDriver e.chan = some k)
    (hu : d.urgentOk k = true) :
    d.protUrgent e = if d.opsFree then d.takeOp.urgentRequest k 256 0 else d.bump 32 Reg.OPS_PROT_LOST := by
  simp [Dev.protUrgent, hc, hk, hu]

/-! The drivers after logging. -/

theorem lt_of_mem_liveSlots {d : Dev} {k : Nat} (h : k ∈ d.liveSlots) : k < 128 := by
  obtain ⟨p, -, h⟩ := List.mem_filterMap.1 h
  split at h
  · have := Option.some.inj h
    omega
  · cases h

/-- From d to e the handles are the same: the live slots, and the objects of every slot. -/
structure SameHandles (d e : Dev) : Prop where
  live : e.liveSlots = d.liveSlots
  rd : ∀ k i, k < 128 → i < 256 → e.rd ((0x2000 + 0x40 * k) * 256 + i) = d.rd ((0x2000 + 0x40 * k) * 256 + i)

namespace SameHandles

theorem refl (d : Dev) : SameHandles d d := ⟨rfl, fun _ _ _ _ => rfl⟩

theorem trans {d e f : Dev} (h : SameHandles d e) (g : SameHandles e f) : SameHandles d f :=
  ⟨g.live.trans h.live, fun k i hk hi => (g.rd k i hk hi).trans (h.rd k i hk hi)⟩

/-- Whatever changes no object keeps the handles. -/
theorem of_obj {d e : Dev} (h : e.obj = d.obj) : SameHandles d e :=
  ⟨by rw [Dev.liveSlots, h]; rfl, fun k i _ _ => by rw [Dev.rd, h]; rfl⟩

theorem logs (d : Dev) (es : Evs) : SameHandles d (d.logs es) :=
  ⟨SameListing.liveSlots (sameListing_logClosed.logs d es), fun k i hk hi => logs_rd d es _ (by
    have htotal : Reg.EV_TOTAL = 0x801001 ∧ Reg.OPS_EVT_LOST = 0x02F005 ∧ Reg.OPS_PEAK = 0x02F002 := ⟨rfl, rfl, rfl⟩
    unfold logKey
    omega)⟩

theorem log1 (d : Dev) (code src det : Nat) : SameHandles d (d.log1 code src det) := logs d _

theorem logAt (d : Dev) (time code src det : Nat) : SameHandles d (d.logAt time code src det) :=
  (of_obj (d := d) (e := { d with now := time }) rfl).trans ((log1 { d with now := time } code src det).trans (of_obj rfl))

variable {d e : Dev} (h : SameHandles d e) {k : Nat} (hk : k < 128)
include h hk

theorem kind : e.kind k = d.kind k := h.rd k 2 hk (by decide)

theorem hst : e.hst k = d.hst k := h.rd k 3 hk (by decide)

theorem bind : e.rd (Reg.HND_BIND k) = d.rd (Reg.HND_BIND k) := h.rd k 5 hk (by decide)

theorem chanOf : e.chanOf k = d.chanOf k := congrArg recChan (h.bind hk)

theorem isDriver : e.isDriver k = d.isDriver k := by
  unfold Dev.isDriver Dev.isObserver
  rw [h.hst hk, h.kind hk, h.bind hk]

omit hk

theorem drivers : e.drivers = d.drivers := by
  unfold Dev.drivers
  rw [h.live]
  exact List.filter_congr fun k hk => h.isDriver (lt_of_mem_liveSlots hk)

theorem pairDriver (n : Nat) : e.pairDriver n = d.pairDriver n := by
  unfold Dev.pairDriver
  rw [h.drivers]
  refine List.find?_congr fun k hk => ?_
  have hk := lt_of_mem_liveSlots (List.mem_of_mem_filter hk)
  rw [h.kind hk, h.chanOf hk]

theorem landDriver (land : Nat) : e.landDriver land = d.landDriver land := by
  unfold Dev.landDriver
  rw [h.drivers]
  exact List.find?_congr fun k hk => by rw [h.bind (lt_of_mem_liveSlots (List.mem_of_mem_filter hk))]

theorem branchDrivers (b : Nat) : e.branchDrivers b = d.branchDrivers b := by
  unfold Dev.branchDrivers
  rw [h.drivers]
  exact List.filter_congr fun k hk => by rw [h.chanOf (lt_of_mem_liveSlots (List.mem_of_mem_filter hk))]

end SameHandles

/-! The words one by one. -/

/-- A value of P or T for a driver without observers in filter units reaches the driver's unit alone. -/
theorem deliver_single {d : Dev} {r : Role} {m : Meas} (hr : r ≠ .c) (ht : d.takers m.slot = [m.slot]) :
    d.deliver r m = match d.unitInput m.slot m with
      | (e, none) => e
      | (e, some o) => e.captureRecord m.slot o := by
  have h : d.deliver r m = match (d.unitInput m.slot m).2 with
      | none => (d.unitInput m.slot m).1
      | some o => (d.unitInput m.slot m).1.captureRecord m.slot o := by
    cases r with
    | c => exact absurd rfl hr
    | p => simp only [Dev.deliver, ht, Dev.each_cons, Dev.each_nil] <;> rfl
    | t => simp only [Dev.deliver, ht, Dev.each_cons, Dev.each_nil] <;> rfl
  rw [h]
  obtain ⟨e, _ | o⟩ := d.unitInput m.slot m
  · rfl
  · rfl

section
variable {s : State} {b : BranchNo} {w : LinkBits} {t : Nat} {q : List LWord} (hg : linkGood w = true) (hl : s.dev.linked b = true)
include hg hl

/-- A protection event taken at the crown. -/
theorem protEvent_goes {e : ProtEv} (hs : sent (s.dev.branch b).toCrown = some (.prot e, q)) (he : e.chan = 4 * b + linkChan w) :
    Goes (.protEvent b w t) s ((((s.dev.at t).tookUp b q).takeProt e).protUrgent e) :=
  Goes.of_eq (d := (s.dev.at t).wordUp b w LWord.isProt (s.dev.at t).upChan _) rfl
    (wordUp_sent (d := s.dev.at t) hg hl _ hs rfl (congrArg some he))

theorem resultWord_goes {r : Role} {m : Meas} (hs : sent (s.dev.branch b).toCrown = some (.result r m, q))
    (hc : s.dev.chanOf m.slot = 4 * b + linkChan w) :
    Goes (.resultWord b w r t) s (if s.dev.rd Reg.PL_RUNG = 0 then ((s.dev.at t).tookUp b q).deliver r m else (s.dev.at t).tookUp b q) :=
  Goes.of_eq (d := (s.dev.at t).wordUp b w (LWord.isResult r) (s.dev.at t).upChan _) rfl
    (wordUp_sent (d := s.dev.at t) hg hl _ hs (by simp [LWord.isResult]) (congrArg some hc))

/-- A queued word other than the one that the bits name, at the crown. -/
theorem upWord_other_goes {y : LWord} {m : Nat} (hs : sent (s.dev.branch b).toCrown = some (y, q)) (hc : s.dev.upChan y = some m)
    (hm : m ≠ 4 * b + linkChan w) (r : Role) :
    Goes (.protEvent b w t) s (s.dev.at t) ∧ Goes (.resultWord b w r t) s (s.dev.at t) :=
  ⟨Goes.of_eq (d := (s.dev.at t).wordUp b w LWord.isProt (s.dev.at t).upChan _) rfl (wordUp_other (d := s.dev.at t) hg hl _ hs hc hm),
    Goes.of_eq (d := (s.dev.at t).wordUp b w (LWord.isResult r) (s.dev.at t).upChan _) rfl
      (wordUp_other (d := s.dev.at t) hg hl _ hs hc hm)⟩

/-- STATUS, where no word above its priority waits. -/
theorem status_goes {vf : Nat} {die t0 t1 t2 t3 : Int} (hn : noneAbove 2 (s.dev.branch b).toCrown = true) :
    Goes (.status b w vf die t0 t1 t2 t3 t) s
      ((((((((s.dev.at t).heardUp b).modBranch b fun y => { y with
        vf := vf, vfMin := if y.vfMin = 0 then vf else min y.vfMin vf, die := die, seenStatus := y.supplyFlags,
        seenRef := y.refFlags (drifts s.worn b) }).modLife fun m => { m with
          peakBr := m.peakBr.zipIdx.map fun p => if p.2 = b.val then max p.1 die else p.1 }).modChan
        (4 * b.val) fun c => { c with temp := t0 }).modChan (4 * b.val + 1) fun c => { c with temp := t1 }).modChan
        (4 * b.val + 2) fun c => { c with temp := t2 }).modChan (4 * b.val + 3) fun c => { c with temp := t3 }) :=
  Goes.of_eq (d := (s.dev.at t).freshUp b w 2 _) rfl (freshUp_heard (d := s.dev.at t) hg hl _ hn)

theorem status_waits_goes {vf : Nat} {die t0 t1 t2 t3 : Int} (hn : noneAbove 2 (s.dev.branch b).toCrown = false) :
    Goes (.status b w vf die t0 t1 t2 t3 t) s (s.dev.at t) :=
  Goes.of_eq (d := (s.dev.at t).freshUp b w 2 _) rfl (freshUp_waits (d := s.dev.at t) hg hl _ hn)

/-- HEARTBEAT upwards: the branch as it stands is seen and its timing measured. -/
theorem heartbeatUp_goes (hn : noneAbove 4 (s.dev.branch b).toCrown = true) :
    Goes (.heartbeat b .toCrown w t) s ((s.dev.at t).setBranch b { s.dev.branch b with
      nackUp := 0, seenPower := (s.dev.branch b).power, trimNext := (s.dev.at t).trimWanted b t, hbUp := some t }) := by
  refine Goes.of_eq (Goes.of_eq (d := (s.dev.at t).freshUp b w 4 _) rfl (freshUp_heard (d := s.dev.at t) hg hl _ hn)) ?_
  have hb : ((s.dev.at t).heardUp b).branch b = { s.dev.branch b with nackUp := 0 } := by simp [Dev.heardUp]
  have htrim : ((s.dev.at t).heardUp b).trimWanted b t = (s.dev.at t).trimWanted b t := by
    unfold Dev.trimWanted
    rw [hb]
    rfl
  rw [hb, htrim]
  exact Dev.setBranch_setBranch _ _ _ _

theorem heartbeatUp_waits_goes (hn : noneAbove 4 (s.dev.branch b).toCrown = false) :
    Goes (.heartbeat b .toCrown w t) s (s.dev.at t) :=
  Goes.of_eq (d := (s.dev.at t).freshUp b w 4 _) rfl (freshUp_waits (d := s.dev.at t) hg hl _ hn)

/-- The crown with the 32 bits of a BITSTREAM word summed for the running block (R70). -/
def Dev.summed (d : Dev) (b : Nat) (w : LinkBits) (k : Nat) (r : Role) : Dev :=
  (d.heardUp b).modSlot k fun y => y.sumBits r (((List.range 32).map fun i => bitOf (linkPayload w) i).map nat01).sum

/-- A reference fault stands in the branch, or has ended since the last boundary (R78). -/
def Branch.refFault (x : Branch) : Bool := x.refinFault || x.refEnd

/-- BITSTREAM of a converter in fast mode: summed, and the feeding converter's bits enter the chains of the takers. -/
theorem bitstream_goes {k : Nat} {r : Role} {ov : Bool} (hn : noneAbove 3 (s.dev.branch b).toCrown = true)
    (hk : s.dev.pairDriver (4 * b + linkChan w) = some k) (hrun : s.dev.rd Reg.PL_RUNG = 0) (hfast : s.dev.fast k = true) :
    Goes (.bitstream b w ⟨r, ov⟩ t) s
      (let bits := (List.range 32).map fun i => bitOf (linkPayload w) i
       let e := (s.dev.at t).summed b w k r
       let fault := (s.dev.branch b).refFault
       if r ≠ e.feeder s.worn k fault then e
       else e.each (e.takers k) fun d j =>
         let i := d.unitOf j
         if d.rd (Reg.FI_STATE i) = 2 then
           let q := d.feedBits j i ((d.inst i).fresh bits t) (fault && d.disagrees k) (e.bitTag s.worn k (e.feeder s.worn k fault) fault ov)
           q.1.each q.2 fun d o => (d.captureRecord j o).urgentOutput k j o
         else d) := by
  refine Goes.of_eq (Goes.of_eq (d := (s.dev.at t).freshUp b w 3 _) rfl (freshUp_heard (d := s.dev.at t) hg hl _ hn)) ?_
  have hk' : ((s.dev.at t).heardUp b).pairDriver (4 * b + linkChan w) = some k := hk
  have hrun' : ((s.dev.at t).heardUp b).rd Reg.PL_RUNG = 0 := hrun
  have hfast' : ((s.dev.at t).heardUp b).fast k = true := hfast
  have hb (f : Slot → Slot) : (((s.dev.at t).heardUp b).modSlot k f).branch b = { s.dev.branch b with nackUp := 0 } := by
    simp [Dev.heardUp]
  unfold Dev.summed Branch.refFault
  generalize (s.dev.at t).heardUp b = D at hk' hrun' hfast' hb ⊢
  simp only [hk', hrun', hfast', hb, ne_eq, not_true_eq_false, decide_false, Bool.not_true, Bool.or_self, Bool.false_eq_true, if_false]

end

/-- Settles O7: word by word. -/
theorem crownWordsAct : Obligations.CrownWordsAct := by
  unfold Obligations.CrownWordsAct
  intro s b w t q hg hl x d n
  refine ⟨fun e hs he hpair => ?_, fun m hs hc hrun hkind => ?_, fun r m hr hs hc hrun htake => ?_, fun r m hs hc hrun => ?_,
    fun y q' hs hne hsome => ?_, fun vf die t0 t1 t2 t3 => ⟨status_goes hg hl, status_waits_goes hg hl⟩,
    fun k r ov hn hk hrun hfast => ?_, heartbeatUp_goes hg hl, heartbeatUp_waits_goes hg hl⟩
  · have hgoes := protEvent_goes (t := t) hg hl hs he
    rw [takeProt_single (d := (s.dev.at t).tookUp b q) (by rw [he]; exact hpair), he] at hgoes
    set f := (d.modChan n fun c => { c with life := c.life.count e.code }).logAt e.time e.code (s.dev.protSrc e) e.det
    have hsame : f.pairDriver n = s.dev.pairDriver n := (SameHandles.logAt _ _ _ _ _).pairDriver n
    replace hgoes : Goes (.protEvent b w t) s (f.protUrgent e) := hgoes
    refine ⟨fun h => ?_, fun k hcode hk hu => ?_⟩
    · rwa [protUrgent_none (by rw [he, hsame]; exact h.symm)] at hgoes
    · rw [protUrgent_some hcode (he ▸ hk) hu] at hgoes
      exact ⟨fun hf => by rwa [if_pos hf] at hgoes, fun hf => by rwa [if_neg (by simp [hf])] at hgoes⟩
  · have hgoes := resultWord_goes (t := t) hg hl hs hc
    rw [if_pos hrun] at hgoes
    exact hgoes.of_eq (if_pos hkind)
  · have hgoes := resultWord_goes (t := t) hg hl hs hc
    rw [if_pos hrun] at hgoes
    exact hgoes.of_eq (deliver_single hr htake)
  · have hgoes := resultWord_goes (t := t) hg hl hs hc
    rwa [if_neg hrun] at hgoes
  · obtain ⟨m, hm⟩ := Option.ne_none_iff_exists'.mp hsome
    have hother := upWord_other_goes (t := t) hg hl hs hm fun h => hne (hm.trans (congrArg some h))
    exact ⟨(hother .p).1, fun r => (hother r).2⟩
  · have hgoes := bitstream_goes (t := t) (r := r) (ov := ov) hg hl hn hk hrun hfast
    refine ⟨fun hne => hgoes.of_eq (if_pos hne), fun heq htake hunit => hgoes.of_eq ?_⟩
    have htake' : ((s.dev.at t).summed b w k r).takers k = [k] := htake
    have hfeeder : r = ((s.dev.at t).summed b w k r).feeder s.worn k (s.dev.branch b).refFault := heq
    refine (if_neg (not_not_intro hfeeder)).trans ?_
    rw [htake', Dev.each_cons, Dev.each_nil, ← hfeeder]
    exact if_pos hunit

end Sys2Proof.Machine
end

/-!
The queues and the log do not look at the engine's bookkeeping or at the ring: an operation on them commutes with setting these.
-/
section
namespace Sys2Proof.Machine

/-- The parts of the module that neither queues nor logging reach: the latest answer, the requesters, the transactions, the ring, the
host's watchdog. -/
structure Own where
  resp : Resp
  reqs : List Requester
  txns : List Txn
  ring : Ring
  wd1 : Wd

/-- The module with those parts set. -/
def Dev.beside (d : Dev) (o : Own) : Dev := { d with resp := o.resp, reqs := o.reqs, txns := o.txns, ring := o.ring, wd1 := o.wd1 }

/-- The same for an operation's result. -/
def besides {α : Type} (o : Own) (r : Dev × α) : Dev × α := (r.1.beside o, r.2)

variable (d : Dev) (o : Own)

/-! The elementary operations. -/

@[simp] theorem besides_mk {α : Type} (a : α) : besides o (d, a) = (d.beside o, a) := rfl
@[simp] theorem besides_fst {α : Type} (r : Dev × α) : (besides o r).1 = r.1.beside o := rfl
@[simp] theorem besides_snd {α : Type} (r : Dev × α) : (besides o r).2 = r.2 := rfl
theorem besides_ite {α : Type} (p : Prop) [Decidable p] (x y : Dev × α) : besides o (if p then x else y) = if p then besides o x else besides o y :=
  apply_ite (besides o) p x y
@[simp] theorem beside_rd (k : Nat) : (d.beside o).rd k = d.rd k := rfl
@[simp] theorem beside_now : (d.beside o).now = d.now := rfl
@[simp] theorem beside_obj : (d.beside o).obj = d.obj := rfl
@[simp] theorem beside_queue (q : Nat) : (d.beside o).queue q = d.queue q := rfl
@[simp] theorem beside_dma (c : Nat) : (d.beside o).dma c = d.dma c := rfl
@[simp] theorem beside_mayWrite : (d.beside o).mayWrite = d.mayWrite := rfl
@[simp] theorem beside_wr (k v : Nat) : (d.beside o).wr k v = (d.wr k v).beside o := rfl
@[simp] theorem beside_setQueue (q : Nat) (x : Queue) : (d.beside o).setQueue q x = (d.setQueue q x).beside o := rfl
@[simp] theorem beside_setDma (c : Nat) (x : Dma) : (d.beside o).setDma c x = (d.setDma c x).beside o := rfl
@[simp] theorem beside_breach (b : Nat) : (d.beside o).breach b = (d.breach b).beside o := rfl
@[simp] theorem beside_stepNames (q : Nat) : (d.beside o).stepNames q = d.stepNames q := rfl
@[simp] theorem beside_pMax (q : Nat) : (d.beside o).pMax q = d.pMax q := rfl

theorem beside_when (b : Bool) (f : Dev → Dev) (hf : f (d.beside o) = (f d).beside o) : (d.beside o).when b f = (d.when b f).beside o := by
  cases b
  · rfl
  · exact hf

theorem beside_ite (p : Prop) [Decidable p] (x y : Dev) : (if p then x.beside o else y.beside o) = (if p then x else y).beside o :=
  (apply_ite (fun e : Dev => e.beside o) p x y).symm

/-! Packets (R216 to R228). -/

/-- The counts and the mark of an abort (R217, R203). -/
def Dev.abortMark (d : Dev) (q r : Nat) : Dev :=
  let d := (d.bump 32 (Reg.QU_ABORTED q)).wr (Reg.QU_LAST_ABORT q) r
  d.when (r = 1 && d.stepNames q) (·.breach 2)

/-- The event of an abort, at most once per second. -/
def Dev.abortNote (d : Dev) (q r : Nat) : Dev × Evs :=
  let x := d.queue q
  let n := min 65535 (x.nAbort + 1)
  let due := match x.tAbort with
    | none => true
    | some t => t + 1000000000 ≤ d.now
  if due then (d.setQueue q { x with tAbort := some d.now, nAbort := 0 }, [(0x0502, q, r + n * 256)])
  else (d.setQueue q { x with nAbort := n }, [])

theorem countAbort_eq (q r : Nat) : d.countAbort q r = (d.abortMark q r).abortNote q r := rfl

theorem beside_abortNote (q r : Nat) : (d.beside o).abortNote q r = besides o (d.abortNote q r) := by
  rw [Dev.abortNote, Dev.abortNote, besides_ite]
  exact if_congr Iff.rfl rfl rfl

@[simp] theorem beside_countAbort (q r : Nat) : (d.beside o).countAbort q r = besides o (d.countAbort q r) := by
  rw [countAbort_eq, countAbort_eq, ← beside_abortNote]
  exact congrArg (fun e : Dev => e.abortNote q r) (beside_when ((d.bump 32 (Reg.QU_ABORTED q)).wr (Reg.QU_LAST_ABORT q) r) o _ (fun e => e.breach 2) rfl)

@[simp] theorem beside_queueReset (q r : Nat) : (d.beside o).queueReset q r = besides o (d.queueReset q r) := by
  simp only [Dev.queueReset, beside_queue, beside_countAbort]
  cases (d.queue q).opn.isSome <;> rfl

@[simp] theorem beside_guardQueue (q : Nat) : (d.beside o).guardQueue q = besides o (d.guardQueue q) := by
  simp only [Dev.guardQueue, beside_queue, beside_queueReset]
  cases (d.queue q).broken <;> rfl

@[simp] theorem beside_abortPacket (q r : Nat) : (d.beside o).abortPacket q r = besides o (d.abortPacket q r) := by
  simp only [Dev.abortPacket, beside_guardQueue, besides_fst, besides_snd, beside_queue, beside_setQueue, beside_countAbort]
  generalize d.guardQueue q = g
  cases (g.1.queue q).opn <;> rfl

@[simp] theorem beside_openPacket (q ty : Nat) : (d.beside o).openPacket q ty = besides o (d.openPacket q ty) := by
  simp only [Dev.openPacket, beside_guardQueue, besides_fst, besides_snd, beside_queue, beside_setQueue, beside_countAbort,
    besides_ite, besides_mk]

@[simp] theorem beside_appendBytes (q : Nat) (bs : List Nat) : (d.beside o).appendBytes q bs = besides o (d.appendBytes q bs) := by
  simp only [Dev.appendBytes, beside_guardQueue, besides_fst, besides_snd, beside_queue, beside_setQueue, beside_abortPacket, beside_pMax]
  generalize d.guardQueue q = g
  cases (g.1.queue q).opn with
  | none => rfl
  | some p => simp only [besides_ite, besides_mk]

@[simp] theorem beside_noteCommit (q a b : Nat) : (d.beside o).noteCommit q a b = besides o (d.noteCommit q a b) := by
  rw [Dev.noteCommit, Dev.noteCommit, besides_ite]
  exact if_congr Iff.rfl rfl rfl

/-- The queue once the open packet p is committed (R216), d being the instant. -/
def Queue.committed (x : Queue) (p : Open) (now : Nat) : Queue :=
  let w := x.p.w + BitVec.ofNat 32 ((8 - p.bytes.length % 8) % 8)
  { x.setPtrs { x.p with w := w, c := w } with
    opn := none, pseq := (x.pseq + 1) % 65536,
    pkts := x.pkts ++ [{ pos := p.start, ty := p.ty, pseq := x.pseq, bytes := p.bytes, tc := now }] }

/-- A commit of the open packet p with content (R216), e being what the comparison of the pointer copies yielded. -/
def Dev.commitOpen (d : Dev) (e : Evs) (q : Nat) (p : Open) : Dev × Evs :=
  let x := d.queue q
  let y := x.committed p d.now
  let r := ((d.setQueue q y).bump 32 (Reg.QU_COMMITTED q)).noteCommit q x.level y.level
  if p.bytes.length = 0 then (d.setQueue q { x.setPtrs { x.p with w := p.start } with opn := none }, e)
  else if x.p.dist x.p.w + (8 - p.bytes.length % 8) % 8 > x.cap then ((d.abortPacket q 1).1, e ++ (d.abortPacket q 1).2)
  else if p.bad then ((d.abortPacket q 4).1, e ++ (d.abortPacket q 4).2)
  else (r.1, e ++ r.2)

theorem commitPacket_eq (q : Nat) : d.commitPacket q =
    match ((d.guardQueue q).1.queue q).opn with
    | none => d.guardQueue q
    | some p => (d.guardQueue q).1.commitOpen (d.guardQueue q).2 q p := by
  unfold Dev.commitPacket
  generalize d.guardQueue q = g
  obtain ⟨e, es⟩ := g
  show (match (e.queue q).opn with | none => _ | some p => _) = _
  cases (e.queue q).opn <;> rfl

theorem beside_commitOpen (e : Evs) (q : Nat) (p : Open) : (d.beside o).commitOpen e q p = besides o (d.commitOpen e q p) := by
  have hn := beside_noteCommit ((d.setQueue q ((d.queue q).committed p d.now)).bump 32 (Reg.QU_COMMITTED q)) o q (d.queue q).level
    ((d.queue q).committed p d.now).level
  rw [show ((d.setQueue q ((d.queue q).committed p d.now)).bump 32 (Reg.QU_COMMITTED q)).beside o =
    ((d.beside o).setQueue q ((d.queue q).committed p d.now)).bump 32 (Reg.QU_COMMITTED q) from rfl] at hn
  simp only [Dev.commitOpen, besides_ite, beside_abortPacket, beside_queue, beside_now, hn, besides_fst, besides_snd]
  rfl

@[simp] theorem beside_commitPacket (q : Nat) : (d.beside o).commitPacket q = besides o (d.commitPacket q) := by
  rw [commitPacket_eq, commitPacket_eq, beside_guardQueue, besides_fst, beside_queue]
  cases ((d.guardQueue q).1.queue q).opn with
  | none => rfl
  | some p => exact beside_commitOpen _ o _ q p

/-! Logging (R30, R222, R236, R381). -/

@[simp] theorem beside_wrote (l : List Nat) : (d.beside o).wrote l = (d.wrote l).beside o := by
  simp only [Dev.wrote]
  cases decide (l ≠ []) <;> rfl

@[simp] theorem beside_drain : (d.beside o).drain = d.drain.beside o := by
  have hs (e : Dev) (l m : List EvRec) : ({ e.beside o with log := l, staging := m } : Dev) = ({ e with log := l, staging := m } : Dev).beside o := rfl
  unfold Dev.drain
  by_cases h : (d.mayWrite && decide (d.staging ≠ [])) = true
  · rw [if_pos h, if_pos (show ((d.beside o).mayWrite && decide ((d.beside o).staging ≠ [])) = true from h), beside_wrote]
    exact hs _ _ _
  · rw [if_neg h, if_neg (show ¬ ((d.beside o).mayWrite && decide ((d.beside o).staging ≠ [])) = true from h)]

@[simp] theorem beside_eventPacket (r : EvRec) : (d.beside o).eventPacket r = besides o (d.eventPacket r) := by
  have hf : (d.beside o).enabledQueues.find? (fun q => (d.beside o).rd (Reg.QU_PRODUCER q) = 2) =
      d.enabledQueues.find? (fun q => d.rd (Reg.QU_PRODUCER q) = 2) := rfl
  unfold Dev.eventPacket
  rw [hf]
  cases d.enabledQueues.find? (fun q => d.rd (Reg.QU_PRODUCER q) = 2) with
  | none => rfl
  | some q => simp only [beside_openPacket, beside_appendBytes, beside_commitPacket, besides_fst, besides_snd, besides_mk]

@[simp] theorem beside_trigger (c code : Nat) : (d.beside o).trigger c code = besides o (d.trigger c code) := by
  rw [Dev.trigger, Dev.trigger, besides_ite]
  exact if_congr Iff.rfl rfl rfl

/-- Several triggers in turn. -/
def Dev.triggered (code : Nat) (p : Dev × Evs) (c : Nat) : Dev × Evs := ((p.1.trigger c code).1, p.2 ++ (p.1.trigger c code).2)

theorem besides_triggers (code : Nat) (l : List Nat) (p : Dev × Evs) :
    l.foldl (Dev.triggered code) (besides o p) = besides o (l.foldl (Dev.triggered code) p) := by
  induction l generalizing p with
  | nil => rfl
  | cons c l ih =>
    rw [List.foldl_cons, List.foldl_cons, ← ih]
    simp only [Dev.triggered, besides_fst, besides_snd, beside_trigger, besides_mk]

@[simp] theorem beside_logOne (e : Nat × Nat × Nat) : (d.beside o).logOne e = besides o (d.logOne e) := by
  simp only [Dev.logOne, beside_drain]
  generalize d.drain = g
  rw [besides_ite]
  refine if_congr (Iff.rfl) rfl ?_
  simp only [Dev.bump_eq, beside_rd, beside_wr, beside_now]
  set r : EvRec := ⟨g.rd Reg.EV_TOTAL, g.now, e.1, e.2.1, e.2.2 % 2 ^ 32⟩
  set f : Dev := { g.wr Reg.EV_TOTAL ((g.rd Reg.EV_TOTAL + 1) % 2 ^ 32) with staging := g.staging ++ [r], port := { g.port with pend := setBit g.port.pend 3 true } }
  have ht : List.foldl (Dev.triggered e.1) (f.beside o, []) (f.armedBy e.1) = besides o (List.foldl (Dev.triggered e.1) (f, []) (f.armedBy e.1)) :=
    besides_triggers o e.1 (f.armedBy e.1) (f, [])
  show (fun p : Dev × Evs => ((p.1.eventPacket r).1.drain, p.2 ++ (p.1.eventPacket r).2))
    (List.foldl (Dev.triggered e.1) (f.beside o, []) (f.armedBy e.1)) = _
  rw [ht]
  simp only [besides_fst, besides_snd, beside_eventPacket, beside_drain]
  rfl

theorem beside_logAll (n : Nat) (es : Evs) : Dev.logAll n (d.beside o) es = (Dev.logAll n d es).beside o := by
  induction n generalizing d es with
  | zero => rfl
  | succ n ih =>
    induction es generalizing d with
    | nil => rfl
    | cons e es ihe =>
      simp only [Dev.logAll, List.foldl_cons, beside_logOne, besides_fst, besides_snd, ih] at ihe ⊢
      exact ihe _

@[simp] theorem beside_logs (es : Evs) : (d.beside o).logs es = (d.logs es).beside o := beside_logAll d o 8 es

@[simp] theorem beside_log1 (code src det : Nat) : (d.beside o).log1 code src det = (d.log1 code src det).beside o := beside_logs d o _

@[simp] theorem logged_besides (r : Dev × Evs) : logged (besides o r) = (logged r).beside o := beside_logs r.1 o r.2

/-! The read side and the consumer commands (R223 to R231). -/

@[simp] theorem beside_queueOn (q : Nat) : (d.beside o).queueOn q = d.queueOn q := rfl
@[simp] theorem beside_hostQueue (q : Nat) : (d.beside o).hostQueue q = d.hostQueue q := rfl
@[simp] theorem beside_modQueue (q : Nat) (f : Queue → Queue) : (d.beside o).modQueue q f = (d.modQueue q f).beside o := rfl

@[simp] theorem beside_noteRelease (q a b : Nat) : (d.beside o).noteRelease q a b = besides o (d.noteRelease q a b) := by
  rw [Dev.noteRelease, Dev.noteRelease, besides_ite]
  exact if_congr Iff.rfl rfl rfl

@[simp] theorem beside_releaseTo (q : Nat) (p : BitVec 32) : (d.beside o).releaseTo q p = besides o (d.releaseTo q p) := by
  simp only [Dev.releaseTo, beside_guardQueue, logged_besides, beside_queue, beside_setQueue, beside_noteRelease, besides_ite, besides_mk]

@[simp] theorem beside_queueMark (q : Nat) : (d.beside o).queueMark q = besides o (d.queueMark q) := by
  simp only [Dev.queueMark, beside_guardQueue, logged_besides, beside_queue, beside_setQueue, besides_mk]

@[simp] theorem beside_queueRewind (q : Nat) : (d.beside o).queueRewind q = besides o (d.queueRewind q) := by
  simp only [Dev.queueRewind, beside_guardQueue, logged_besides, beside_queue, beside_setQueue, besides_ite, besides_mk]

@[simp] theorem beside_queueCmd (q c : Nat) : (d.beside o).queueCmd q c = besides o (d.queueCmd q c) := by
  unfold Dev.queueCmd
  split
  · exact beside_queueMark d o q
  · exact beside_queueRewind d o q
  · exact beside_releaseTo d o q _
  · rw [beside_queueReset, logged_besides]
    rfl
  · rfl
  · rfl

@[simp] theorem beside_queueRead (q : Nat) : (d.beside o).queueRead q = besides o (d.queueRead q) := by
  simp only [Dev.queueRead, beside_queueOn, beside_guardQueue, logged_besides, beside_queue, beside_setQueue, besides_ite, besides_mk]
  congr 1
  cases ((logged (d.guardQueue q)).queue q).holding _ <;> rfl

@[simp] theorem beside_queueRead3 (q n : Nat) : (d.beside o).queueRead3 q n = besides o (d.queueRead3 q n) := by
  induction n generalizing d with
  | zero => rfl
  | succ n ih => simp only [Dev.queueRead3, beside_queueRead, besides_fst, besides_snd, ih, besides_ite, besides_mk]

/-! Host packets (R221). -/

@[simp] theorem beside_hostWrite (q : Nat) (bs : List Nat) : (d.beside o).hostWrite q bs = besides o (d.hostWrite q bs) := by
  simp only [Dev.hostWrite, beside_openPacket, beside_appendBytes, logged_besides, beside_queue, beside_ite, besides_ite, besides_mk]

@[simp] theorem beside_hostEnd (q v : Nat) : (d.beside o).hostEnd q v = (d.hostEnd q v).beside o := by
  simp only [Dev.hostEnd, beside_commitPacket, beside_abortPacket, logged_besides, beside_queue, beside_ite]

end Sys2Proof.Machine
end

/-! The ring node: the checks of a frame, process data, ring time, and the events of its ports. -/
section
namespace Sys2Proof.Machine

/-- Settles O33, check by check in the order of R290. -/
theorem framesAreChecked : Obligations.FramesAreChecked := by
  unfold Obligations.FramesAreChecked
  intro d f timed fits
  have untimed : (d.rd Reg.RT_STATE ≠ 2 ∧ d.rd Reg.RT_STATE ≠ 3) ↔ ¬ timed := not_or.symm
  have unfit : (f.pdEpoch ≠ d.rd Reg.RG_PD_EPOCH ∨ f.pdLen < d.rd Reg.RG_OUT_OFFSET + d.rd Reg.PI_OUT_LEN ∨
      f.pdLen < d.rd Reg.RG_IN_OFFSET + d.rd Reg.PI_IN_LEN) ↔ ¬ fits := by simp only [fits, not_and_or, Nat.not_le, ne_eq]
  refine ⟨fun h => if_pos h, fun hv ht => ⟨fun hl => ?_, fun hl => ⟨fun hr => ?_, fun hr => ⟨fun ha hp => ?_, fun ha => ⟨fun hm => ?_, ?_⟩⟩⟩⟩,
    rfl, ⟨rfl, rfl, rfl, rfl, rfl⟩, rfl, rfl, rfl, rfl⟩
  · simp [Dev.frameCheck, hv, ht, hl]
  · simp [Dev.frameCheck, hv, ht, Nat.not_lt.2 hl, hr]
  · simp [Dev.frameCheck, hv, ht, Nat.not_lt.2 hl, hr, ha, hp]
  · have named : ¬ (d.rd Reg.RG_NODE_ADDR = 0 ∧ (!f.posaddr) = true) := by simpa [← not_or, imp_iff_not_or] using ha
    simp only [Dev.frameCheck, hv, ht, Nat.not_lt.2 hl, hr, named, hm]
    simp
  · have named : ¬ (d.rd Reg.RG_NODE_ADDR = 0 ∧ (!f.posaddr) = true) := by simpa [← not_or, imp_iff_not_or] using ha
    have later (hm : d.mode ≠ INIT) : d.frameCheck f = if ¬ timed then 7 else if f.cycleIndex ≠ d.ownIndex f.tArr f.cycleNs then 8
        else if ¬ fits then 9 else 10 := by
      simp only [Dev.frameCheck, hv, ht, Nat.not_lt.2 hl, hr, named, hm, untimed, unfit]
      simp
    refine ⟨fun hm h => ?_, fun hm h hi => ?_, fun hm h hi hf => ?_, fun hm h hi hf => ?_⟩ <;> rw [later hm]
    · rw [if_pos h]
    · rw [if_neg (not_not.2 h), if_pos hi]
    · rw [if_neg (not_not.2 h), if_neg (not_not.2 hi), if_pos hf]
    · rw [if_neg (not_not.2 h), if_neg (not_not.2 hi), if_neg (not_not.2 hf)]

/-! Process data (R274 to R276). -/

/-- The module with the toggles last seen replaced. -/
def Dev.withSeen (d : Dev) (l : List (Nat × Bool)) : Dev := d.modRing fun r => { r with seen := l }

/-- The checks of a write do not look at the toggles last seen. -/
theorem writeAccess_withSeen (d : Dev) (l : List (Nat × Bool)) (sv op : Bool) (ix sub h n v : Nat) :
    (d.withSeen l).writeAccess sv op ix sub h n v = d.writeAccess sv op ix sub h n v := rfl

/-- The parts of the module as they stand, with the toggles last seen replaced. -/
def Dev.ownSeen (d : Dev) (l : List (Nat × Bool)) : Own := ⟨d.resp, d.reqs, d.txns, { d.ring with seen := l }, d.wd1⟩

theorem withSeen_beside (d : Dev) (l : List (Nat × Bool)) : d.withSeen l = d.beside (d.ownSeen l) := rfl

theorem queueCheck_withSeen (d : Dev) (l : List (Nat × Bool)) (q sub v len : Nat) :
    (d.withSeen l).queueCheck q sub v len = d.queueCheck q sub v len := by
  rw [withSeen_beside]
  unfold Dev.queueCheck
  simp only [beside_queueCmd, beside_releaseTo, beside_hostWrite, besides_snd, beside_hostQueue, beside_rd]
  rfl

theorem handleObjCheck_withSeen (d : Dev) (l : List (Nat × Bool)) (k sub v : Nat) :
    (d.withSeen l).handleObjCheck k sub v = d.handleObjCheck k sub v := rfl

theorem unitCheck_withSeen (d : Dev) (l : List (Nat × Bool)) (i sub v : Nat) : (d.withSeen l).unitCheck i sub v = d.unitCheck i sub v := rfl

theorem bankPasses_withSeen (d : Dev) (l : List (Nat × Bool)) (i k : Nat) : (d.withSeen l).bankPasses i k = d.bankPasses i k := rfl
theorem bank_withSeen (d : Dev) (l : List (Nat × Bool)) (i k : Nat) : (d.withSeen l).bank i k = d.bank i k := rfl
theorem dmCheck_withSeen (d : Dev) (l : List (Nat × Bool)) (c v : Nat) : (d.withSeen l).dmCheck c v = d.dmCheck c v := rfl
theorem createCheck_withSeen (d : Dev) (l : List (Nat × Bool)) (x : Entry) (v : Nat) :
    ((d.withSeen l).ownReserve x).createCheck v = (d.ownReserve x).createCheck v := by
  unfold Dev.ownReserve
  split <;> rfl
theorem destroyCheck_withSeen (d : Dev) (l : List (Nat × Bool)) (v : Nat) : (d.withSeen l).destroyCheck v = d.destroyCheck v := rfl
theorem pupCheck_withSeen (d : Dev) (l : List (Nat × Bool)) (n v : Nat) : (d.withSeen l).pupCheck n v = d.pupCheck n v := rfl
theorem moduleCheck_withSeen (d : Dev) (l : List (Nat × Bool)) (v : Nat) : (d.withSeen l).moduleCheck v = d.moduleCheck v := rfl
theorem wd1Check_withSeen (d : Dev) (l : List (Nat × Bool)) (n v : Nat) : (d.withSeen l).wd1Check n v = d.wd1Check n v := rfl
theorem swapCheck_withSeen (d : Dev) (l : List (Nat × Bool)) (v : Nat) : (d.withSeen l).swapCheck v = d.swapCheck v := rfl
theorem swapPend_withSeen (d : Dev) (l : List (Nat × Bool)) (v : Nat) : ((d.withSeen l).swapPend v).2 = (d.swapPend v).2 := by
  have ht : (d.withSeen l).tableCheck = d.tableCheck := rfl
  unfold Dev.swapPend
  rw [ht]
  cases d.tableCheck <;> rfl
theorem hkCheck_withSeen (d : Dev) (l : List (Nat × Bool)) (v : Nat) : (d.withSeen l).hkCheck v = d.hkCheck v := rfl
theorem calCheck_withSeen (d : Dev) (l : List (Nat × Bool)) (w : Worn) (v : Nat) : (d.withSeen l).calCheck w v = d.calCheck w v := rfl
theorem ucCheck_withSeen (d : Dev) (l : List (Nat × Bool)) (v : Nat) : (d.withSeen l).ucCheck v = d.ucCheck v := rfl
theorem canopyCheck_withSeen (d : Dev) (l : List (Nat × Bool)) (n v : Nat) : (d.withSeen l).canopyCheck n v = d.canopyCheck n v := rfl
theorem mapCheck_withSeen (d : Dev) (l : List (Nat × Bool)) (b : Bool) (k v h : Nat) : (d.withSeen l).mapCheck b k v h = d.mapCheck b k v h := rfl

/-- Nor does the check of an entry's object. -/
theorem entryCheck_withSeen (d : Dev) (l : List (Nat × Bool)) (w : Worn) (x : Entry) :
    (d.withSeen l).entryCheck w x = d.entryCheck w x := by
  unfold Dev.entryCheck
  simp only [queueCheck_withSeen, handleObjCheck_withSeen, unitCheck_withSeen, bankPasses_withSeen, bank_withSeen, dmCheck_withSeen,
    createCheck_withSeen, destroyCheck_withSeen, pupCheck_withSeen, moduleCheck_withSeen, wd1Check_withSeen, swapCheck_withSeen,
    swapPend_withSeen, hkCheck_withSeen, calCheck_withSeen, ucCheck_withSeen, canopyCheck_withSeen, mapCheck_withSeen]
  rfl

/-- Settles O35: the branches of an output entry and of a toggle entry. -/
theorem processDataActs : Obligations.ProcessDataActs := by
  unfold Obligations.ProcessDataActs
  intro d w i v val ix sub h x y seen
  have hseen : seen = d.withSeen ((d.ring.seen.filter fun p => p.1 ≠ i) ++ [(i, bitOf val 7)]) := rfl
  have hout : d.outputEntry w i v val =
      if d.writeAccess false true ix sub h (mapLen v) val ≠ OK || d.entryCheck w x ≠ OK then d.pdDenied
      else if d.det then { d with staged := d.staged ++ [x] } else d.writeOutput (slotOf ix) (ix * 256 + sub) val := rfl
  have htog (p : Nat × Bool) (hp : d.ring.seen.find? (fun p => p.1 = i) = some p) : d.toggleEntry w i v val =
      if p.2 = bitOf val 7 then d
      else if seen.writeAccess false true ix sub h 1 (val % 128) ≠ OK || seen.entryCheck w y ≠ OK then seen.pdDenied
      else { seen with staged := d.staged ++ [y] } := by
    simp only [Dev.toggleEntry, hp]
    rfl
  refine ⟨fun ha => ?_, fun ha he => ⟨fun hd => ?_, fun hd => ?_⟩, fun hn => ?_, fun j hj => ?_, fun j hj => ⟨fun ha he => ?_, fun ha => ?_⟩⟩
  · rw [hout, if_pos (by simp [ha])]
    rfl
  · rw [hout, if_neg (by simp [ha, he]), if_pos hd]
  · rw [hout, if_neg (by simp [ha, he]), if_neg (by simp [hd])]
  · simp only [Dev.toggleEntry, hn, seen]
  · rw [htog _ hj, if_pos rfl]
  · rw [htog _ hj, if_neg (by simp), hseen, writeAccess_withSeen, entryCheck_withSeen, if_neg (by simp [ha, he])]
  · rw [htog _ hj, if_neg (by simp), hseen, writeAccess_withSeen, entryCheck_withSeen, if_pos (by simp [ha])]
    rfl

/-! Ring time (R297, R298). -/

/-- The module once a frame's offset is noted and the rate set. -/
def Dev.timed (d : Dev) (off : Int) : Dev :=
  (d.wrI 32 Reg.RT_OFFSET (sat32 off)).wrI 32 Reg.RT_RATE (clampInt (-500000) 500000 (Config.piRate off (d.rdI 32 Reg.RT_RATE)))

theorem timed_state (d : Dev) (off : Int) : (d.timed off).rd Reg.RT_STATE = d.rd Reg.RT_STATE := by
  simp only [Dev.timed, Dev.wrI_eq, Dev.wr_rd]
  rfl

/-- The branches of an offset by the state of ring time. -/
theorem takeTime_eq (d : Dev) (off : Int) : d.takeTime off =
    if d.rd Reg.RT_STATE = 0 ∨ 1000000 < off.natAbs then (d.timed off).stepClock off
    else if d.rd Reg.RT_STATE = 1 then
      if 16 ≤ (if off.natAbs ≤ 20 then d.ring.inLock + 1 else 0) then
        (((d.timed off).wr Reg.RT_STATE 2).modRing fun r => { r with inLock := 0, outLock := 0 }).log1 0x0606 0xFFFC (ofInt 32 off)
      else (d.timed off).modRing fun r => { r with inLock := if off.natAbs ≤ 20 then d.ring.inLock + 1 else 0 }
    else if d.rd Reg.RT_STATE = 2 then
      if 3 ≤ (if 200 < off.natAbs then d.ring.outLock + 1 else 0) then (d.timed off).slewClock off
      else (d.timed off).modRing fun r => { r with outLock := if 200 < off.natAbs then d.ring.outLock + 1 else 0 }
    else if off.natAbs ≤ 200 then ((d.timed off).wr Reg.RT_STATE 2).modRing fun r => { r with outLock := 0 }
    else (d.timed off).slewClock off := by
  rw [← timed_state d off]
  rfl

/-- Settles O36: the branches of R297 and R298. -/
theorem ringTimeFollows : Obligations.RingTimeFollows := by
  unfold Obligations.RingTimeFollows
  intro d off e
  refine ⟨fun h => ?_, fun hs => ⟨fun h => ⟨fun hl => ?_, fun hl hn => ?_, fun hl hn => ?_⟩, fun h => ⟨fun hl => ?_, fun hl hn => ?_, fun hl hn => ?_⟩,
    fun h => ⟨fun hl => ?_, fun hl => ?_⟩⟩, rfl, fun h => ?_⟩
  · rw [takeTime_eq, if_pos h]
    rfl
  · simp only [takeTime_eq, h, Nat.not_lt.2 hs, Nat.not_le.2 hl]
    rfl
  · simp only [takeTime_eq, h, Nat.not_lt.2 hs, hl, if_true, show ¬ 16 ≤ d.ring.inLock + 1 by omega]
    rfl
  · simp only [takeTime_eq, h, Nat.not_lt.2 hs, hl, if_true, show 16 ≤ d.ring.inLock + 1 by omega]
    rfl
  · simp only [takeTime_eq, h, Nat.not_lt.2 hs, Nat.not_lt.2 hl]
    rfl
  · simp only [takeTime_eq, h, Nat.not_lt.2 hs, hl, if_true, show ¬ 3 ≤ d.ring.outLock + 1 by omega]
    rfl
  · simp only [takeTime_eq, h, Nat.not_lt.2 hs, hl, if_true, show 3 ≤ d.ring.outLock + 1 by omega]
    rfl
  · simp only [takeTime_eq, h, Nat.not_lt.2 hs, hl]
    rfl
  · simp only [takeTime_eq, h, Nat.not_lt.2 hs, Nat.not_le.2 hl]
    rfl
  · simp only [Dev.stepClock, h]
    rfl

/-! The ports (R283 to R287, R299, R302, R309). -/

theorem nat01_eq (b : Bool) : nat01 b = if b then 1 else 0 := by cases b <;> rfl

/-- The record of stamps after one pass of a DELAY frame (R299). -/
def Ring.stamped (r : Ring) (portB copy : Bool) (num t : Nat) : Ring :=
  let r : Ring := if r.stamps = num then r else { r with stamps := num, stampP := 0, stampP2 := 0, stampS := 0, stampPort := 0 }
  if copy then (if r.stampS = 0 then { r with stampS := t } else r)
  else if r.stampP = 0 then { r with stampP := t, stampPort := nat01 portB }
  else if r.stampP2 = 0 then { r with stampP2 := t } else r

theorem delayStamp_eq (d : Dev) (portB copy : Bool) (num t : Nat) : d.delayStamp portB copy num t =
    let r := d.ring.stamped portB copy num t
    ({ d with ring := r }.wr Reg.RG_LAST_CHECK 3).wr Reg.RT_DELAY_STAMPS
      (packLE [(4, r.stamps), (8, r.stampP), (8, r.stampP2), (8, r.stampS), (1, r.stampPort)]) := rfl

theorem stamped_first {r : Ring} {portB : Bool} {num t : Nat} (h : r.stamps ≠ num) : r.stamped portB false num t =
    { r with stamps := num, stampP := t, stampP2 := 0, stampS := 0, stampPort := if portB then 1 else 0 } := by
  simp only [Ring.stamped, if_neg h, Bool.false_eq_true, if_false, if_true, nat01_eq]

theorem stamped_first_copy {r : Ring} {portB : Bool} {num t : Nat} (h : r.stamps ≠ num) : r.stamped portB true num t =
    { r with stamps := num, stampP := 0, stampP2 := 0, stampS := t, stampPort := 0 } := by
  simp only [Ring.stamped, if_neg h, if_true]

theorem stamped_second {r : Ring} {portB : Bool} {t : Nat} (h1 : r.stampP ≠ 0) (h2 : r.stampP2 = 0) :
    r.stamped portB false r.stamps t = { r with stampP2 := t } := by
  simp only [Ring.stamped, if_true, Bool.false_eq_true, if_false, h1, h2]

theorem delayFrame_goes {s : State} {portB copy : Bool} {num t : Nat} (hf : s.dev.forwards = true) (hi : s.dev.isolated = false) :
    Goes (.delayFrame portB copy num t) s ((s.dev.at t).delayStamp portB copy num t) := by
  have h : (!(s.dev.at t).forwards || (s.dev.at t).isolated) = false := by
    rw [show (s.dev.at t).forwards = true from hf, show (s.dev.at t).isolated = false from hi]
    rfl
  exact Goes.of_eq (d := if !(s.dev.at t).forwards || (s.dev.at t).isolated then _ else _) rfl (by rw [h]; rfl)

theorem foreignFrame_goes {s : State} {portB up : Bool} {t : Nat} (hf : s.dev.forwards = true) :
    Goes (.foreignFrame portB false up t) s ((s.dev.at t).fcsError portB up) :=
  Goes.of_eq (d := if (s.dev.at t).forwards && !false then (s.dev.at t).fcsError portB up else s.dev.at t) rfl
    (if_pos (by rw [show (s.dev.at t).forwards = true from hf]; rfl))

/-- The first error of port A after a minute without one is logged with the number counted since (R309). -/
theorem fcsError_first {d : Dev} (h : ∀ t0, d.ring.tFcsA = some t0 → t0 + 60000000000 ≤ d.now) :
    d.fcsError false false = ((d.bump 32 Reg.RP_FCS_A).modRing fun x => { x with
      nFcsA := 0, tFcsA := some d.now, cleanA := d.now }).log1 0x0604 0xFFFA (d.ring.nFcsA + 1) := by
  have due : (match d.ring.tFcsA with | none => true | some t => decide (t + 60000000000 ≤ d.now)) = true := by
    cases ht : d.ring.tFcsA with
    | none => rfl
    | some t => exact decide_eq_true (h t ht)
  have he : d.fcsError false false = (((d.bump 32 Reg.RP_FCS_A).modRing fun r => { r with
      nFcsA := if (match d.ring.tFcsA with | none => true | some t => decide (t + 60000000000 ≤ d.now)) then 0 else d.ring.nFcsA + 1,
      tFcsA := if (match d.ring.tFcsA with | none => true | some t => decide (t + 60000000000 ≤ d.now)) then some d.now else d.ring.tFcsA,
      cleanA := d.now }).when (match d.ring.tFcsA with | none => true | some t => decide (t + 60000000000 ≤ d.now)) fun e =>
        e.log1 0x0604 0xFFFA (d.ring.nFcsA + 1)) := rfl
  rw [he, due]
  rfl

/-- A further error of port B within the minute only counts. -/
theorem fcsError_next {d : Dev} {t0 : Nat} (h : d.ring.tFcsB = some t0) (ht : d.now < t0 + 60000000000) :
    d.fcsError true false = (d.bump 32 Reg.RP_FCS_B).modRing fun x => { x with nFcsB := d.ring.nFcsB + 1, cleanB := d.now } := by
  have due : decide (t0 + 60000000000 ≤ d.now) = false := decide_eq_false (by omega)
  have he : d.fcsError true false = (((d.bump 32 Reg.RP_FCS_B).modRing fun r => { r with
      nFcsB := if (match d.ring.tFcsB with | none => true | some t => decide (t + 60000000000 ≤ d.now)) then 0 else d.ring.nFcsB + 1,
      tFcsB := if (match d.ring.tFcsB with | none => true | some t => decide (t + 60000000000 ≤ d.now)) then some d.now else d.ring.tFcsB,
      cleanB := d.now }).when (match d.ring.tFcsB with | none => true | some t => decide (t + 60000000000 ≤ d.now)) fun e =>
        e.log1 0x0604 0xFFFB (d.ring.nFcsB + 1)) := rfl
  rw [he, h]
  simp only [due]
  rw [← h]
  rfl

/-- Settles O37: a copy at an isolated node is dropped, the first one of a number is stamped, and the port and watchdog events are their commands' branches. -/
theorem ringEventsAct : Obligations.RingEventsAct := by
  unfold Obligations.RingEventsAct
  intro s portB t d r
  have up (hf : s.dev.forwards = true) : d.forwards = true := hf
  have bit : nat01 portB = if portB then 1 else 0 := nat01_eq portB
  refine ⟨fun copy num hf hi => ?_, fun num hf hi hn => ⟨?_, ?_⟩, fun hf hi h1 h2 => ?_, fun _ => ?_, fun hf => foreignFrame_goes hf,
    fun hf hb h => ?_, fun t0 hf h0 ht => ?_, fun hf hl => ?_, fun hf hl => ?_, fun hf hb hl hc => ?_, fun hp ht => ?_, fun hm hd => ?_⟩
  · exact Goes.of_eq (d := if !d.forwards || d.isolated then d else d.delayStamp portB copy num t) rfl
      (if_pos (by rw [show d.isolated = true from hi, Bool.or_true]))
  · refine (delayFrame_goes hf hi).of_eq ?_
    rw [delayStamp_eq, stamped_first (r := d.ring) hn]
    rfl
  · refine (delayFrame_goes hf hi).of_eq ?_
    rw [delayStamp_eq, stamped_first_copy (r := d.ring) hn]
    rfl
  · refine (delayFrame_goes hf hi).of_eq ?_
    rw [delayStamp_eq, show (s.dev.at t).ring.stamped portB false r.stamps t = _ from stamped_second h1 h2]
    rfl
  · exact Goes.of_eq (d := if d.forwards && !true then d.fcsError portB _ else d) rfl (if_neg (by simp))
  · subst hb
    exact (foreignFrame_goes hf).of_eq (fcsError_first h)
  · exact (foreignFrame_goes hf).of_eq (fcsError_next h0 ht)
  · intro e f
    have goes : Goes (.portLinkLost portB t) s (if bitOf (e.rd Reg.RP_LOOP) (if portB then 1 else 0) then e
        else f.log1 0x0602 (portSrc portB) (f.rd Reg.RP_LOOP)) := by
      simp only [← bit, f]
      exact Goes.of_eq (d := if !d.forwards || d.rd (portLink portB) = 0 then d else _) rfl
        (if_neg (by rw [up hf, show decide (d.rd (portLink portB) = 0) = false from decide_eq_false hl]; decide))
    exact ⟨fun h => goes.of_eq (if_pos h), fun h => goes.of_eq (if_neg (by rw [h]; decide))⟩
  · exact Goes.of_eq (d := if !d.forwards || d.rd (portLink portB) = 1 then d else _) rfl
      (if_neg (by rw [up hf, show decide (d.rd (portLink portB) = 1) = false from decide_eq_false hl]; decide))
  · intro e
    have due : (d.forwards && bitOf (d.rd Reg.RP_LOOP) (nat01 portB) && decide (d.rd (portLink portB) = 1) &&
        decide ((if portB then d.ring.cleanB else d.ring.cleanA) + d.rd Reg.RP_REOPEN_MS * 1000000 ≤ t)) = true := by
      rw [up hf, bit, show bitOf (d.rd Reg.RP_LOOP) (if portB then 1 else 0) = true from hb,
        show decide (d.rd (portLink portB) = 1) = true from decide_eq_true hl, show d.ring = r from rfl,
        show d.rd Reg.RP_REOPEN_MS = s.dev.rd Reg.RP_REOPEN_MS from rfl, decide_eq_true hc]
      rfl
    simp only [e, ← bit]
    exact Goes.of_eq (d := if d.forwards && bitOf (d.rd Reg.RP_LOOP) (nat01 portB) && decide (d.rd (portLink portB) = 1) &&
        decide ((if portB then d.ring.cleanB else d.ring.cleanA) + d.rd Reg.RP_REOPEN_MS * 1000000 ≤ t) then _ else d) rfl (if_pos due)
  · have due : (decide (d.rd Reg.PDW_STATE = 1) && decide (d.ring.pdwEnd ≤ d.now)) = true := by
      rw [show decide (d.rd Reg.PDW_STATE = 1) = true from decide_eq_true hp]
      exact decide_eq_true ht
    refine Goes.of_eq (d := d.pdwExpire) rfl ((if_pos due).trans ?_)
    have hj : ((d.wr Reg.PDW_STATE 2).bump 32 Reg.PDW_EXPIRIES).rd Reg.SQ_CYCLE_INDEX = s.dev.rd Reg.SQ_CYCLE_INDEX := by
      simp only [Dev.bump_eq, Dev.wr_rd]
      rfl
    rw [← hj]
    rfl
  · simp only [Dev.moduleSafe, hm, hd, if_false, Dev.each_nil]

end Sys2Proof.Machine
end

/-! A served frame in a module whose handle names a filter unit that does not exist (R291, R302, R347). -/
section
namespace Sys2Proof.Machine

/-! What a frame leaves of the canopy where no leader is chosen (R352 to R358). -/

/-- An offset of 0 under synchronised ring time only notes itself and the rate. -/
theorem takeTime_zero {d : Dev} (h : d.rd Reg.RT_STATE = 2) : d.takeTime 0 = (d.timed 0).modRing fun r => { r with outLock := 0 } := by
  rw [takeTime_eq]
  simp [h]

theorem timed_rd (d : Dev) (off : Int) (k : Nat) (h1 : k ≠ Reg.RT_OFFSET) (h2 : k ≠ Reg.RT_RATE) : (d.timed off).rd k = d.rd k := by
  simp only [Dev.timed, Dev.wrI_eq, Dev.wr_rd, h1, h2, if_false]

/-- No cycle begins under the ring source before a length is announced. -/
theorem cyclesBegin_unannounced {d : Dev} (hs : d.rd Reg.SQ_CYCLE_SRC ≠ 1) (ha : d.seq.annNs = 0) : d.cyclesBegin = d := by
  simp [Dev.cyclesBegin, hs, ha]

theorem cnPassed_leaderless {d : Dev} {f : Frame} (ho : d.cnOn = true) (hl : d.canopy.leader = none) :
    d.cnPassed f = d.modCn fun c => { c with passed := true, cyc := f.cycleIndex } := by
  simp only [Dev.cnPassed, ho, Dev.modCn, hl]
  rfl

/-- A member of a canopy without a leader that waits for one finds itself at result 1, and the canopy's state is 0. -/
theorem cnPublish_waiting {d : Dev} (hself : d.cnSelf = 1) : d.cnPublish.rd Reg.CN_SELF = 1 := by
  have hst : d.cnState = (0, 0) := by simp [Dev.cnState, hself]
  have hq : ¬ logKey Reg.CN_SELF := by unfold logKey; decide
  simp only [Dev.cnPublish, hst, hself]
  have htr (e : Dev) : e.cnTriggers 0 0 = false := rfl
  rw [htr]
  simp only [Bool.false_and, Dev.when_false]
  cases decide (d.rd Reg.CN_STATE ≠ 0)
  · simp only [Dev.when_false, Dev.wr_rd]
    rfl
  · simp only [Dev.when_true, log1_rd _ _ _ _ _ hq, Dev.wr_rd]
    rfl

/-- The end of a frame without beacons or a transfer record at such a member. -/
theorem cnFrameEnd_waiting {d : Dev} {f : Frame} (ho : d.cnOn = true) (hb : f.beacons = []) (ht : f.transfer = none)
    (hf : d.canopy.fresh = []) (hl : d.canopy.leader = none) (ha : d.canopy.adopt = false) (hc : d.coreUp = false) :
    d.cnFrameEnd f = d.cnPublish := by
  have hleads : d.cnLeads = false := by simp [Dev.cnLeads, hl]
  have haccept : d.cnAccept = d := by simp [Dev.cnAccept, Canopy.chief, hf, hleads]
  have hform : d.cnForm = d := by simp [Dev.cnForm, hc]
  have hgrant : d.cnGrant = d := by simp [Dev.cnGrant, hc]
  have hadopted : d.cnAdopted = d := by simp [Dev.cnAdopted, ha]
  simp only [Dev.cnFrameEnd, ho, hb, ht, Dev.each_nil, haccept, ite_self, hform, hgrant, hadopted]
  rfl

/-- The module once a frame that passes every check has restarted the watchdog, in the statement's own steps. -/
def servedEnd (s : State) (f : Frame) : Dev :=
  let d := s.dev.at f.tEnd
  let seen := d.modRing fun r => { r with tFrame := f.tArr }
  let e := ((((((seen.wr Reg.RG_LAST_CHECK 10).wr Reg.RG_POSITION ((f.hops + 1) % 256)).modRing fun r =>
    { r with hopsOut := (f.hops + 1) % 256, servedOut := (f.served + 1) % 65536 }).sealFrame f 10).wrBit Reg.RP_LOOP 7 f.broken).modRing
    fun r => { r with answers := [], inputs := [], beaconOut := none, transferOut := none })
  let g := (((e.modRing fun r => { r with served := some f.cycleIndex, passed := true }).announce f.cycleNs).bump 32 Reg.RP_SERVED).pdwFrame
    f.cycleIndex
  if f.ringSync && !g.canopy.timeLost then g.modSeq fun x => { x with ringSync := true } else g

/-- The offset of the frame. -/
def frameOffset (s : State) (f : Frame) : Int :=
  (f.tArr : Int) - (f.ringTime + (if f.portB then s.dev.rd Reg.RT_PROP_DELAY_B else s.dev.rd Reg.RT_PROP_DELAY))

/-- The whole next state that the statement claims. -/
def servedClaim (s : State) (f : Frame) : Dev := (((servedEnd s f).takeTime (frameOffset s f)).cyclesBegin).cnPassed f

/-- The module after the head of a frame that passes every check. -/
def servedHead (s : State) (f : Frame) : Dev :=
  (((((((s.dev.at f.tEnd).modRing fun r => { r with tFrame := f.tArr }).wr Reg.RG_LAST_CHECK 10).wr Reg.RG_POSITION ((f.hops + 1) % 256)).modRing
    fun r => { r with hopsOut := (f.hops + 1) % 256, servedOut := (f.served + 1) % 65536 }).sealFrame f 10).wrBit Reg.RP_LOOP 7 f.broken).modRing
    fun r => { r with answers := [], inputs := [], beaconOut := none, transferOut := none }

/-- A frame that passes every check, of a module with no input entries, acts by its end alone. -/
theorem cycleFrame_goes {s : State} {f : Frame} (hf : s.dev.forwards = true) (hok : f.fcsOk = true) (hty : f.ftype = 1)
    (hiso : s.dev.isolated = false) (hs : s.dev.ring.served ≠ some f.cycleIndex) (hc : s.dev.frameCheck f = 10)
    (hin : (servedHead s f).mapEntries false = []) :
    Goes (.cycleFrame f) s ((servedHead s f).frameEnd ⟨s.ps, s.worn⟩ f 10) := by
  have h0 : Goes (.cycleFrame f) s (if !(s.dev.at f.tEnd).forwards then s.dev.at f.tEnd else _) := rfl
  refine h0.of_eq ?_
  clear h0
  rw [if_neg (by rw [show (s.dev.at f.tEnd).forwards = true from hf]; decide), hok, hty]
  have hc' : ((s.dev.at f.tEnd).modRing fun r => { r with tFrame := f.tArr }).frameCheck f = 10 := hc
  simp only [decide_true, Bool.not_true, Dev.when_false, Dev.when_true, hc']
  rw [if_neg, if_neg (by decide), if_neg (by decide)]
  · have hin' : (servedHead s f).inputPart ⟨s.ps, s.worn⟩ = (servedHead s f, []) := by
      unfold Dev.inputPart
      rw [hin]
      rfl
    have key (r : Dev × List Nat) (hr : r = (servedHead s f, [])) : (r.1.modRing fun x => { x with inputs := r.2 }) = servedHead s f := by
      rw [hr]
      rfl
    refine congrArg (fun d : Dev => d.frameEnd ⟨s.ps, s.worn⟩ f 10) ((key _ ?_))
    refine (if_neg (by decide)).trans ?_
    split
    · rfl
    · exact hin'
  · rw [show ((s.dev.at f.tEnd).modRing fun r => { r with tFrame := f.tArr }).isolated = false from hiso]
    simp [show ((s.dev.at f.tEnd).modRing fun r => { r with tFrame := f.tArr }).ring.served ≠ some f.cycleIndex from hs]

/-- The module once the frame is marked as served and its cycle length announced. -/
def servedAnnounced (s : State) (f : Frame) : Dev :=
  ((servedHead s f).modRing fun r => { r with served := some f.cycleIndex, passed := true }).announce f.cycleNs

/-- The end of such a frame where it brings neither requests nor outputs and is too short for the canopy's region: what the statement
claims, and the canopy's part once more where its region fits by then. -/
theorem frameEnd_short {s : State} {f : Frame} {e : Env} (hout : ((servedAnnounced s f).bump 32 Reg.RP_SERVED).mapEntries true = [])
    (hreq : f.requests = []) (hfit : (servedAnnounced s f).regionFits f = false)
    (ha : (servedHead s f).rd Reg.RT_PROP_DELAY = s.dev.rd Reg.RT_PROP_DELAY)
    (hb : (servedHead s f).rd Reg.RT_PROP_DELAY_B = s.dev.rd Reg.RT_PROP_DELAY_B) :
    (servedHead s f).frameEnd e f 10 = (servedClaim s f).when ((servedClaim s f).regionFits f) fun d => d.cnFrameEnd f := by
  have hfr : (servedAnnounced s f).frameRequests e f = servedAnnounced s f := by
    simp only [Dev.frameRequests, hreq, List.filter_nil, List.foldl_nil]
  have hop : ((servedAnnounced s f).bump 32 Reg.RP_SERVED).outputPart e.worn f.outputs = (servedAnnounced s f).bump 32 Reg.RP_SERVED := by
    simp only [Dev.outputPart, hout, List.foldl_nil]
  have hend : servedEnd s f = (((servedAnnounced s f).bump 32 Reg.RP_SERVED).pdwFrame f.cycleIndex).when
      (f.ringSync && !(((servedAnnounced s f).bump 32 Reg.RP_SERVED).pdwFrame f.cycleIndex).canopy.timeLost)
      fun d => d.modSeq fun x => { x with ringSync := true } := rfl
  unfold servedAnnounced at hfr hop hend hfit
  simp only [Dev.frameEnd, hfr, hfit, Dev.when_false, if_true, hop, ha, hb, decide_true, Bool.true_and,
    servedClaim, hend]
  rfl

/-- A module of a waiting member after a frame without offset. -/
def Dev.afterFrame (d : Dev) (cycle : Nat) : Dev :=
  ((d.timed 0).modRing fun r => { r with outLock := 0 }).modCn fun c => { c with passed := true, cyc := cycle }

theorem afterFrame_rd (d : Dev) (cycle k : Nat) (h1 : k ≠ Reg.RT_OFFSET) (h2 : k ≠ Reg.RT_RATE) : (d.afterFrame cycle).rd k = d.rd k :=
  timed_rd d 0 k h1 h2

theorem afterFrame_on (d : Dev) (cycle : Nat) : (d.afterFrame cycle).cnOn = d.cnOn := by
  have h1 := afterFrame_rd d cycle Reg.CN_ENABLE (by decide) (by decide)
  have h2 := afterFrame_rd d cycle Reg.CN_RANK (by decide) (by decide)
  have h3 : (d.afterFrame cycle).crownUp = d.crownUp := rfl
  unfold Dev.cnOn
  rw [h1, h2, h3]

/-- The time of a frame without offset, where ring time is synchronised, no length is announced and no leader is chosen. -/
theorem afterFrame_eq {d : Dev} {f : Frame} (ht : d.rd Reg.RT_STATE = 2) (hs : d.rd Reg.SQ_CYCLE_SRC ≠ 1) (ha : d.seq.annNs = 0)
    (ho : d.cnOn = true) (hl : d.canopy.leader = none) : ((d.takeTime 0).cyclesBegin).cnPassed f = d.afterFrame f.cycleIndex := by
  have hsrc : ((d.timed 0).modRing fun r => { r with outLock := 0 }).rd Reg.SQ_CYCLE_SRC ≠ 1 := by
    rwa [show ((d.timed 0).modRing fun r => { r with outLock := 0 }).rd Reg.SQ_CYCLE_SRC = d.rd Reg.SQ_CYCLE_SRC from
      timed_rd d 0 _ (by decide) (by decide)]
  have hon : ((d.timed 0).modRing fun r => { r with outLock := 0 }).cnOn = true := (afterFrame_on d 0).trans ho
  rw [takeTime_zero ht, cyclesBegin_unannounced hsrc ha, cnPassed_leaderless hon hl]
  rfl

/-- A member that waits for a leader, as it finds itself after the frame. -/
theorem afterFrame_self {d : Dev} {cycle : Nat} (ho : d.cnOn = true) (hm : d.cnMember d.cnRank = true) (hl : d.canopy.leader = none)
    (hs : d.canopy.since = 0) : (d.afterFrame cycle).cnSelf = 1 := by
  have hon := (afterFrame_on d cycle).trans ho
  have hrank : (d.afterFrame cycle).cnRank = d.cnRank := afterFrame_rd d cycle Reg.CN_RANK (by decide) (by decide)
  have hmem (r : Nat) : (d.afterFrame cycle).cnMember r = d.cnMember r := by
    unfold Dev.cnMember
    rw [afterFrame_rd d cycle Reg.CN_MEMBERS (by decide) (by decide)]
  have hlead : (d.afterFrame cycle).canopy.leader = none := hl
  have hsince : (d.afterFrame cycle).canopy.since = 0 := hs
  simp only [Dev.cnSelf, hon, hrank, hmem, hm, Dev.cnLeads, Canopy.lead, hlead, hsince]
  simp

/-! The counterexample. -/

/-- A module whose process-data watchdog has run out, with a running handle that names filter unit 128: the objects of that unit would
lie where those of the canopy do, its ACTIVE bank where the offset of the canopy's region stands. -/
def strayUnit : State :=
  { dev := ((((((((((((((({ crownUp := true } : Dev).wr Reg.DEV_STATE PREOP).wr Reg.RT_STATE 2).wr Reg.RG_NODE_ADDR 1).wr Reg.PDW_STATE 1).wr
      Reg.CN_ENABLE 1).wr Reg.CN_RANK 0).wr Reg.CN_MEMBERS 1).wr Reg.CN_SELF 2).wr Reg.CN_REGION_OFFSET 1000).wr (Reg.HND_ID 0) 128).wr
      (Reg.HND_KIND 0) 1).wr (Reg.HND_STATE 0) RUNNING).wr (Reg.HND_BIND 0) 0x01).wr (Reg.HND_FILTER 0) 128) }

/-- A frame that passes every check, too short for the canopy's region. -/
def shortFrame : Frame := { pdLen := 400, cycleNs := 0 }

/-- Refutes O34: the safe trigger of the expired watchdog ends the fade of the unit that the handle names, which moves the canopy's region
inside the frame; the module then judges its place in the canopy, which the statement leaves out. -/
theorem not_cycleFramesAct : ¬ Obligations.CycleFramesAct := by
  unfold Obligations.CycleFramesAct
  intro h
  obtain ⟨_, _, hserved⟩ := h strayUnit shortFrame (by decide +kernel) (by decide +kernel) (by decide +kernel)
  have hgoes := hserved (by decide +kernel) (by decide +kernel) (by decide +kernel) (by decide +kernel) (by decide +kernel)
    (by decide +kernel) (by decide +kernel)
  have hclaim : Goes (.cycleFrame shortFrame) strayUnit (servedClaim strayUnit shortFrame) := hgoes
  have hmodel := (cycleFrame_goes (s := strayUnit) (f := shortFrame) (by decide +kernel) rfl rfl (by decide +kernel) (by decide +kernel)
    (by decide +kernel) (by decide +kernel)).of_eq (frameEnd_short (by decide +kernel) rfl (by decide +kernel) (by decide +kernel)
      (by decide +kernel))
  have hboth := hclaim.devAfter.symm.trans hmodel.devAfter
  have hon : (servedEnd strayUnit shortFrame).cnOn = true := by decide +kernel
  have hleader : (servedEnd strayUnit shortFrame).canopy.leader = none := by decide +kernel
  have hafter : servedClaim strayUnit shortFrame = (servedEnd strayUnit shortFrame).afterFrame 0 := by
    have ho : frameOffset strayUnit shortFrame = 0 := by decide +kernel
    unfold servedClaim
    rw [ho]
    exact afterFrame_eq (by decide +kernel) (by decide +kernel) (by decide +kernel) hon hleader
  have hself := afterFrame_self (cycle := 0) hon (by decide +kernel) hleader (by decide +kernel)
  have hfits : ((servedEnd strayUnit shortFrame).afterFrame 0).regionFits shortFrame = true := by
    unfold Dev.regionFits
    rw [afterFrame_rd _ 0 _ (by decide) (by decide)]
    decide +kernel
  have hend := cnFrameEnd_waiting (f := shortFrame) ((afterFrame_on _ 0).trans hon) rfl rfl (show _ = _ by decide +kernel) hleader
    (by decide +kernel) (by decide +kernel)
  rw [hafter, hfits, Dev.when_true, hend] at hboth
  have hrd := congrArg (fun d : Dev => d.rd Reg.CN_SELF) hboth
  rw [show ((servedEnd strayUnit shortFrame).afterFrame 0).cnPublish.rd Reg.CN_SELF = 1 from cnPublish_waiting hself,
    afterFrame_rd _ 0 _ (by decide) (by decide)] at hrd
  exact absurd hrd (by decide +kernel)

end Sys2Proof.Machine
end

/-! The steps of a table in a running cycle (R24, R190 to R196). -/
section
namespace Sys2Proof.Machine

/-! What running a step does, by its time. -/

theorem stepDue_iff {d : Dev} {a : Nat} {o : StepOp} : d.stepDue a o = true ↔
    d.seq.running = true ∧ d.seq.ended = false ∧ o.idx = d.seq.doneTo ∧ d.stepWord false o.idx = stepCode a o := by
  simp [Dev.stepDue, and_assoc]

/-- A step in its slot acts on the module that the step's time and place are noted in. -/
theorem runStep_onTime {d : Dev} {a : Nat} {o : StepOp} (f : Dev → Nat → Dev) (h : d.onTime a o) :
    d.runStep a o f = f (d.stepped a o) (d.slotTime o) := by
  obtain ⟨hrun, hend, hidx, hword, hahead, hslot, hnow⟩ := h
  have hdue : d.stepDue a o = true := stepDue_iff.2 ⟨hrun, hend, hidx, hword⟩
  have hlate : decide (0 < d.now - d.slotTime o) = false := decide_eq_false (by omega)
  unfold Dev.runStep
  rw [hdue, if_neg (by decide)]
  refine (if_neg (by rw [show (d.modSeq _).seq.ahead = d.seq.ahead from rfl, hahead]; decide)).trans ((if_neg (Nat.not_le.2 hslot)).trans ?_)
  refine congrArg (fun e => f e (d.slotTime o)) ?_
  rw [show (d.modSeq _).now = d.now from rfl, hlate]
  rfl

theorem runStep_idle {d : Dev} {a : Nat} {o : StepOp} (f : Dev → Nat → Dev) (h : d.stepDue a o = false) : d.runStep a o f = d := by
  unfold Dev.runStep
  rw [h]
  rfl

/-- A step that names a handle, in its slot, where the table's binding and the step's own condition admit it. -/
theorem runHandleStep_bound {d : Dev} {a : Nat} {o : StepOp} {ok : Dev → Bool} (f : Dev → Nat → Dev) (h : d.onTime a o)
    (hb : d.stepBound o.hslot = true) (hk : ok (d.stepped a o) = true) : d.runHandleStep a o ok f = f (d.stepped a o) (d.slotTime o) :=
  (runStep_onTime _ h).trans (if_pos (by rw [show (d.stepped a o).stepBound o.hslot = true from hb, hk]; rfl))

theorem runHandleStep_unbound {d : Dev} {a : Nat} {o : StepOp} {ok : Dev → Bool} (f : Dev → Nat → Dev) (h : d.onTime a o)
    (hb : d.stepBound o.hslot = false ∨ ok (d.stepped a o) = false) : d.runHandleStep a o ok f = (d.stepped a o).unbound o := by
  refine (runStep_onTime _ h).trans (if_neg ?_)
  rw [show (d.stepped a o).stepBound o.hslot = d.stepBound o.hslot from rfl]
  rcases hb with hb | hb <;> simp [hb]

section
variable {s : State} {o : StepOp}

/-- Every step command is a step of its action. -/
theorem step_goes {a : Nat} {c : Instr} (f : Dev → Nat → Dev) (hc : exec c s = .next { s with dev := s.dev.runStep a o f })
    (h : s.dev.onTime a o) : Goes c s (f (s.dev.stepped a o) (s.dev.slotTime o)) :=
  Goes.of_eq (d := s.dev.runStep a o f) hc (runStep_onTime f h)

theorem handleStep_goes {a : Nat} {c : Instr} {ok : Dev → Bool} (f : Dev → Nat → Dev)
    (hc : exec c s = .next { s with dev := s.dev.runHandleStep a o ok f }) (h : s.dev.onTime a o) (hb : s.dev.stepBound o.hslot = true)
    (hk : ok (s.dev.stepped a o) = true) : Goes c s (f (s.dev.stepped a o) (s.dev.slotTime o)) :=
  Goes.of_eq (d := s.dev.runHandleStep a o ok f) hc (runHandleStep_bound f h hb hk)

theorem unboundStep_goes {a : Nat} {c : Instr} {ok : Dev → Bool} (f : Dev → Nat → Dev)
    (hc : exec c s = .next { s with dev := s.dev.runHandleStep a o ok f }) (h : s.dev.onTime a o)
    (hb : s.dev.stepBound o.hslot = false ∨ ok (s.dev.stepped a o) = false) : Goes c s ((s.dev.stepped a o).unbound o) :=
  Goes.of_eq (d := s.dev.runHandleStep a o ok f) hc (runHandleStep_unbound f h hb)

end

theorem issue_conv (d : Dev) (k ts : Nat) : d.issue 1 k ts =
    d.when (d.hears (d.chanOf k / 4)) fun e => e.toBranch (d.chanOf k / 4) (.conv k 0 ts) := rfl

/-- Settles O39, action by action. -/
theorem stepsAct : Obligations.StepsAct := by
  unfold Obligations.StepsAct
  intro s o d ts k n
  refine ⟨fun h => step_goes (fun e _ => e) rfl h, fun h => step_goes (fun e _ => { e with seq := { e.seq with ended := true } }) rfl h,
    fun h => step_goes (fun e ts => e.wr (Reg.SQ_MARK (o.param % 8)) ts) rfl h,
    fun h => step_goes (fun e ts => e.syncGroups (o.param % 256) 1 ts) rfl h,
    fun h => ⟨fun hq ht => ?_, fun hq => ?_⟩, fun h => ⟨fun hq => ?_, fun hq => ?_⟩,
    fun hb => ⟨fun h => ⟨fun hh => ?_, fun hh => ?_⟩, fun h => ⟨fun hh => ?_, fun hh => ?_⟩, fun h => ⟨fun hu hk hf => ?_, fun hu hk hf => ?_, fun hu => ?_⟩,
      fun h => handleStep_goes (fun e ts => e.latch k ts) rfl h hb rfl, fun h => ⟨fun hq => ?_, fun hq => ?_⟩, fun h => ⟨fun ha => ?_, fun ha => ?_⟩,
      fun h => ⟨fun hl hk => ?_, fun hl hk => ?_, fun hl => ?_⟩⟩, fun hb p hp h => ?_⟩
  · exact (step_goes _ rfl h).of_eq (if_pos (by
      rw [show (d 4).stepsQueue o.queue = true from hq]
      rcases ht with ht | ht <;> simp [ht]))
  · exact (step_goes _ rfl h).of_eq (if_neg (by
      rcases hq with hq | ⟨h1, h2⟩
      · rw [show (d 4).stepsQueue o.queue = false from hq]
        simp
      · simp [h1, h2]))
  · exact (step_goes _ rfl h).of_eq (if_pos hq)
  · exact (step_goes _ rfl h).of_eq (if_neg (by rw [show (d 6).stepsQueue o.queue = false from hq]; decide))
  · refine (handleStep_goes _ rfl h hb rfl).of_eq ?_
    rw [issue_conv, show (s.dev.stepped 1 o).hears ((s.dev.stepped 1 o).chanOf o.hslot / 4) = true from hh]
    rfl
  · refine (handleStep_goes _ rfl h hb rfl).of_eq ?_
    rw [issue_conv, show (s.dev.stepped 1 o).hears ((s.dev.stepped 1 o).chanOf o.hslot / 4) = false from hh]
    rfl
  · exact (handleStep_goes _ rfl h hb rfl).of_eq (if_pos hh)
  · exact (handleStep_goes _ rfl h hb rfl).of_eq (if_neg (by rw [show (s.dev.stepped 10 o).hears ((s.dev.stepped 10 o).chanOf o.hslot / 4) = false from hh]; decide))
  · have hok : (d 2).acceptsWord 2 k = true := by simp [Dev.acceptsWord, hu, show (d 2).kind k ≠ 7 from hk]
    exact (handleStep_goes _ rfl h hb hok).of_eq (if_pos hf)
  · have hok : (d 2).acceptsWord 2 k = true := by simp [Dev.acceptsWord, hu, show (d 2).kind k ≠ 7 from hk]
    exact (handleStep_goes _ rfl h hb hok).of_eq (if_neg (by rw [show (d 2).opsFree = false from hf]; decide))
  · have hok : (d 2).acceptsWord 2 k = false := by
      rcases hu with hu | hu
      · simp [Dev.acceptsWord, hu]
      · simp [Dev.acceptsWord, show (d 2).kind k = 7 from hu]
    exact unboundStep_goes _ rfl h (.inr hok)
  · exact (handleStep_goes _ rfl h hb rfl).of_eq (if_pos hq)
  · exact (handleStep_goes _ rfl h hb rfl).of_eq (if_neg (by rw [show (d 5).stepsQueue o.queue = false from hq]; decide))
  · exact (handleStep_goes _ rfl h hb rfl).of_eq (if_neg (by rw [show (d 7).applyHeld k = false from ha]; decide))
  · exact (handleStep_goes _ rfl h hb rfl).of_eq (if_pos ha)
  · exact (handleStep_goes _ rfl h hb rfl).of_eq ((if_neg (by rw [show (s.dev.stepped 8 o).linked ((s.dev.stepped 8 o).chanOf o.hslot / 4) = true from hl]; decide)).trans (if_pos hk))
  · exact (handleStep_goes _ rfl h hb rfl).of_eq ((if_neg (by rw [show (s.dev.stepped 8 o).linked ((s.dev.stepped 8 o).chanOf o.hslot / 4) = true from hl]; decide)).trans (if_neg hk))
  · exact (handleStep_goes _ rfl h hb rfl).of_eq (if_pos (by rw [show (s.dev.stepped 8 o).linked ((s.dev.stepped 8 o).chanOf o.hslot / 4) = false from hl]; rfl))
  · simp only [List.mem_cons, List.not_mem_nil, or_false] at hp
    rcases hp with rfl | rfl | rfl | rfl | rfl | rfl | rfl <;> exact unboundStep_goes _ rfl h (.inl hb)

/-! Skipped and late steps (R195). -/

section
variable {d : Dev} {a : Nat} {o : StepOp} (f : Dev → Nat → Dev)

/-- A step whose word left with the fixing of its cycle only passes (R193). -/
theorem runStep_issued (h : d.stepDue a o = true) (ha : d.seq.ahead.contains o.idx = true) :
    d.runStep a o f = { d with seq := { d.seq with doneTo := o.idx + 1 } } := by
  unfold Dev.runStep
  rw [h, if_neg (by decide)]
  exact if_pos ha

/-- A step in the last 2 µs of its cycle is skipped. -/
theorem runStep_skipped (h : d.stepDue a o = true) (ha : d.seq.ahead.contains o.idx = false)
    (hs : d.rd Reg.SQ_CYCLE_NS ≤ o.slot * 10 + 2000) : d.runStep a o f =
    (({ d with seq := { d.seq with doneTo := o.idx + 1 }, now := max d.now (d.slotTime o) } : Dev).bump 32 Reg.SQ_SKIPPED).stepDirty o.idx
      (2 ^ 31) := by
  unfold Dev.runStep
  rw [h, if_neg (by decide)]
  exact (if_neg (by rw [show (d.modSeq _).seq.ahead = d.seq.ahead from rfl, ha]; decide)).trans (if_pos hs)

/-- A step that comes after its slot counts as an overrun, and executes. -/
theorem runStep_late (h : d.stepDue a o = true) (ha : d.seq.ahead.contains o.idx = false) (hs : o.slot * 10 + 2000 < d.rd Reg.SQ_CYCLE_NS)
    (ht : d.slotTime o < d.now) : d.runStep a o f = f ((((d.stepped a o).bump 32 Reg.SQ_OVERRUN).wr Reg.SQ_MAX_LATE
      (max (d.rd Reg.SQ_MAX_LATE) (min (2 ^ 32 - 1) (d.now - d.slotTime o)))).stepDirty o.idx (min 65535 ((d.now - d.slotTime o) / 10)))
      (d.slotTime o) := by
  have hlate : decide (0 < d.now - d.slotTime o) = true := decide_eq_true (by omega)
  unfold Dev.runStep
  rw [h, if_neg (by decide)]
  refine (if_neg (by rw [show (d.modSeq _).seq.ahead = d.seq.ahead from rfl, ha]; decide)).trans ((if_neg (Nat.not_le.2 hs)).trans ?_)
  refine congrArg (fun e => f e (d.slotTime o)) ?_
  rw [show (d.modSeq _).now = d.now from rfl, hlate]
  rfl

end

/-- A step command that is not the next one of the running cycle is not due. -/
theorem stepDue_eq_false {d : Dev} {a : Nat} {o : StepOp}
    (h : d.seq.running = false ∨ d.seq.ended = true ∨ o.idx ≠ d.seq.doneTo ∨ d.stepWord false o.idx ≠ stepCode a o) :
    d.stepDue a o = false := by
  rw [Bool.eq_false_iff, Ne, stepDue_iff]
  rintro ⟨h1, h2, h3, h4⟩
  rcases h with h | h | h | h
  · exact absurd (h.symm.trans h1) (by decide)
  · exact absurd (h2.symm.trans h) (by decide)
  · exact h h3
  · exact h h4

/-- A word step runs a step that sends its word where the binding and the handle admit it. -/
theorem runWordStep_eq (d : Dev) (a : Nat) (o : StepOp) : ∃ f, d.runWordStep a o = d.runStep a o f :=
  ⟨fun d ts => if d.stepBound o.hslot && d.acceptsWord a o.hslot then d.issue a o.hslot ts else d.unbound o, rfl⟩

/-- Each of the thirteen step commands runs its step. -/
theorem stepCommand_runs {s : State} {o : StepOp} {p : Nat × Instr}
    (hp : p ∈ [(0, Instr.nop o), (1, .startConv o), (2, .urgentConv o), (3, .latchResult o), (4, .openPacket o), (5, .pushResult o),
      (6, .commitPacket o), (7, .applyOutput o), (8, .sampleInputs o), (9, .syncFilters o), (10, .diagWindow o), (11, .markTime o),
      (12, .waitCycle o)]) : ∃ f, Goes p.2 s (s.dev.runStep p.1 o f) := by
  simp only [List.mem_cons, List.not_mem_nil, or_false] at hp
  rcases hp with rfl | rfl | rfl | rfl | rfl | rfl | rfl | rfl | rfl | rfl | rfl | rfl | rfl
  case inr.inl => exact (runWordStep_eq s.dev 1 o).imp fun f hf => Goes.of_eq rfl hf
  case inr.inr.inl => exact (runWordStep_eq s.dev 2 o).imp fun f hf => Goes.of_eq rfl hf
  case inr.inr.inr.inr.inr.inr.inr.inl => exact (runWordStep_eq s.dev 7 o).imp fun f hf => Goes.of_eq rfl hf
  all_goals exact ⟨_, rfl⟩

/-! Latches (R194). -/

/-- What showing a value leaves. -/
theorem showValue_frame (d : Dev) (k : Nat) (r : Rec) : ∃ o, d.showValue k r = { d with obj := o } := by
  unfold Dev.showValue
  extract_lets w y
  split
  · exact ⟨_, rfl⟩
  · split
    · exact ⟨_, rfl⟩
    · split
      · exact ⟨_, rfl⟩
      · exact ⟨_, rfl⟩

theorem bitOf_setBit_self (v i : Nat) : bitOf (setBit v i true) i = true := by simp [bitOf, setBit]

/-- Settles O40: a step out of its turn is not due, one that is due and too late is counted and skipped, and a latch takes what the step names. -/
theorem stepsAreTimed : Obligations.StepsAreTimed := by
  unfold Obligations.StepsAreTimed
  constructor
  · intro s o cs ts x gone
    refine ⟨fun p hp h => ?_, fun hr he hi p hp hw => ⟨fun ha => ?_, fun ha hs => ?_⟩,
      fun hr he hi ha hs ht => ⟨fun hw => ?_, fun hw => ?_⟩, fun e i det => ⟨fun h => ?_, fun h1 h2 => ?_⟩⟩
    · obtain ⟨f, hf⟩ := stepCommand_runs hp
      exact hf.of_eq (runStep_idle f (stepDue_eq_false h))
    · obtain ⟨f, hf⟩ := stepCommand_runs hp
      exact hf.of_eq (runStep_issued f (stepDue_iff.2 ⟨hr, he, hi, hw⟩) ha)
    · obtain ⟨f, hf⟩ := stepCommand_runs hp
      exact hf.of_eq (runStep_skipped f (stepDue_iff.2 ⟨hr, he, hi, hw⟩) ha hs)
    · exact Goes.of_eq (d := s.dev.runStep 0 o fun d _ => d) rfl (runStep_late _ (stepDue_iff.2 ⟨hr, he, hi, hw⟩) ha hs ht)
    · exact Goes.of_eq (d := s.dev.runStep 11 o fun d ts => d.wr (Reg.SQ_MARK (o.param % 8)) ts) rfl
        (runStep_late _ (stepDue_iff.2 ⟨hr, he, hi, hw⟩) ha hs ht)
    · have hfirst : (!e.seq.dirty && !e.seq.wasDirty) = false := by rcases h with h | h <;> simp [h]
      unfold Dev.stepDirty
      rw [hfirst]
      rfl
    · unfold Dev.stepDirty
      rw [h1, h2]
      rfl
  · intro d k t x cut set
    refine ⟨?_, ?_, ?_⟩
    · exact fun h => if_pos h
    · exact fun h hst => (if_neg (not_not_intro h)).trans (if_pos hst)
    · intro h hst
      have hlatch : d.latch k t = match set.getLast? with
          | none => d.setSlot k { x with latched := set, pend := x.pend.filter (fun r => cut < r.tOut), cut := some cut }
          | some r =>
            let e := ((d.setSlot k { x with latched := set, pend := x.pend.filter (fun r => cut < r.tOut), cut := some cut }).modSlot k
              fun x => { x with shown := some (r.w, r.a) }).showValue k r
            { e with port := { e.port with seq := (e.port.seq + 1) % 65536, pend := setBit e.port.pend 2 true } } :=
        (if_neg (not_not_intro h)).trans (if_neg hst)
      refine ⟨fun hs => ?_, fun hs => ?_⟩
      · rw [hlatch, hs]
        rfl
      · obtain ⟨r, hr⟩ : ∃ r, set.getLast? = some r := by
          cases hg : set.getLast? with
          | none => exact absurd (List.getLast?_eq_none_iff.1 hg) hs
          | some r => exact ⟨r, rfl⟩
        have hmem : r ∈ set := List.mem_of_getLast? hr
        obtain ⟨hin, hcut⟩ := List.mem_filter.1 hmem
        refine ⟨r, hin, of_decide_eq_true hcut, ?_⟩
        rw [hlatch, hr]
        clear hlatch
        obtain ⟨ob, hob⟩ := showValue_frame ((d.setSlot k { x with latched := set, pend := x.pend.filter (fun r => cut < r.tOut), cut := some cut }).modSlot k
              fun x => { x with shown := some (r.w, r.a) }) k r
        dsimp only
        rw [hob]
        have hslot : ∀ (e : Dev) (y : Slot), ((e.setSlot k y).modSlot k fun x => { x with shown := some (r.w, r.a) }).slot k =
            { y with shown := some (r.w, r.a) } := fun e y => by simp [Dev.modSlot]
        refine ⟨?_, ?_, ?_, rfl, rfl, bitOf_setBit_self _ _⟩
        · exact congrArg Slot.latched (hslot _ _)
        · exact congrArg Slot.pend (hslot _ _)
        · exact congrArg Slot.shown (hslot _ _)

end Sys2Proof.Machine
end

/-! The local port (R310 to R322). -/
section
namespace Sys2Proof.Machine

/-! Reads of the window (R312 to R316). -/

section
variable {d : Dev} {k tick : Nat}

theorem portRead_value (hk : k < 128) (j : Nat) (hj : j ≤ 3) : d.portRead (0x100 + 4 * k + j) tick =
    if j = 0 then d.takeShadow k tick else d.serveShadow k j tick := by
  have hdiv : (0x100 + 4 * k + j - 0x100) / 4 = k := by omega
  have hmod : (0x100 + 4 * k + j - 0x100) % 4 = j := by omega
  unfold Dev.portRead
  rw [if_pos (by omega), hdiv, hmod]

theorem valueWord_of_pos (w x : Nat) {j : Nat} (h1 : 1 ≤ j) (h3 : j ≤ 3) :
    valueWord w x j = if j = 1 then w / 65536 % 65536 else if j = 2 then x % 65536 else x / 65536 % 65536 := by
  obtain rfl | rfl | rfl : j = 1 ∨ j = 2 ∨ j = 3 := by omega
  all_goals rfl

/-- A shadow of the slot that is not too old serves the words beside the first. -/
theorem serveShadow_fresh {w x t0 j : Nat} (hs : d.port.shadow = some (k, w, x, t0)) (h0 : t0 ≤ tick) (h1 : tick ≤ t0 + 50) :
    d.serveShadow k j tick = (d, valueWord w x j) := by
  unfold Dev.serveShadow
  rw [hs]
  exact if_pos ⟨rfl, h1, by omega⟩

theorem serveShadow_torn {i w x t0 j : Nat} (hs : d.port.shadow = some (i, w, x, t0)) (h : i ≠ k ∨ t0 + 50 < tick) :
    d.serveShadow k j tick = (d.portError 0, valueWord ((d.slot k).shown.getD (0, 0)).1 ((d.slot k).shown.getD (0, 0)).2 j) := by
  unfold Dev.serveShadow
  rw [hs]
  refine if_neg ?_
  rintro ⟨rfl, h1, _⟩
  omega

theorem portRead_req {a : Nat} (h : a < 16) : d.portRead (0x20 + a) tick = (d, d.port.req.getD a 0) := by
  unfold Dev.portRead
  rw [if_neg (by omega), if_pos (by omega), show 0x20 + a - 0x20 = a by omega]

theorem portRead_rsp {a : Nat} (h : a < 16) : d.portRead (0x30 + a) tick = (d, d.port.rsp.getD a 0) := by
  unfold Dev.portRead
  rw [if_neg (by omega), if_neg (by omega), if_pos (by omega), show 0x30 + a - 0x30 = a by omega]

/-- An address of the window that names no word. -/
theorem portRead_outside {a : Nat} (h : 5 < a ∧ a < 0x10 ∨ 0x11 < a ∧ a < 0x20 ∨ 0x40 ≤ a ∧ a < 0x100 ∨ 0x300 ≤ a) :
    d.portRead a tick = (d.portError 1, 0) := by
  unfold Dev.portRead
  rw [if_neg (by omega), if_neg (by omega), if_neg (by omega)]
  split
  case h_9 => rfl
  all_goals omega

end

/-! Frames (R311). -/

/-- A command of the port acts where the port is served. -/
theorem port_goes {c : Instr} {s : State} {f : Env → Dev → Dev} {t : Nat} (hc : exec c s = s.port f t) (hp : s.dev.portOn = true) :
    Goes c s (f ⟨s.ps, s.worn⟩ (s.dev.at t)) :=
  Goes.of_eq (d := if s.dev.portOn = true then f ⟨s.ps, s.worn⟩ (s.dev.at t) else s.dev.at t) hc (if_pos hp)

theorem readFrame_one (d : Dev) {addr : Nat} (tick : Nat) (h : addr < 65536) :
    let r := (d.modPort fun p => { p with out := [] }).portRead addr tick
    d.readFrame addr 1 tick = r.1.modPort fun p => { p with out := p.out ++ [r.2] } := by
  intro r
  have hmod : (addr + 0) % 65536 = addr := Nat.mod_eq_of_lt h
  simp only [Dev.readFrame, Dev.each, List.range_one, List.foldl_cons, List.foldl_nil, hmod, r]

theorem writeFrame_one (d : Dev) (e : Env) (a v : Nat) (h : a < 65536) : d.writeFrame e a [v] = d.portWrite e a v := by
  show d.portWrite e (a % 65536) v = _
  rw [Nat.mod_eq_of_lt h]

theorem portWrite_req {d : Dev} {e : Env} {a v : Nat} (h : a < 16) (hm : d.port.mbState ≠ 1) : d.portWrite e (0x20 + a) v =
    d.modPort fun p => { p with req := p.req.set a (v % 65536) } := by
  unfold Dev.portWrite
  rw [if_pos (by omega), if_neg hm, show 0x20 + a - 0x20 = a by omega]

/-! The mailbox (R319). -/

/-- An ECHO that the engine serves answers its own data, and is held. -/
theorem request_echo {d : Dev} {e : Env} {q : Request} (hs : d.serves q.id q.seq) (hop : q.op = OP_ECHO) (hseg : q.segment ≤ 15)
    (hlen : q.len ≤ 16) : (d.at q.t).request e q =
      ((d.arrived q).reply q { len := q.len, data := q.data % 2 ^ (8 * q.len) }).hold q := by
  have hm : malformed q = none := by
    unfold malformed
    rw [hop, if_neg (by rintro (h | h); exacts [absurd h (by decide), by omega]), if_neg (by omega), if_neg]
    rintro ⟨h, -⟩
    exact absurd h (by decide)
  have hcarry : (d.listed q).carryOut e q = (d.arrived q, { len := q.len, data := q.data % 2 ^ (8 * q.len) }) := if_pos hop
  rw [request_new d e q hs hm (by rw [hop]; decide), Dev.runNew, Dev.answered, hcarry]
  rfl

theorem mailSubmit_refused {d : Dev} {e : Env} {v : Nat} (h : v ≠ 1 ∨ d.port.mbState = 1) : d.mailSubmit e v = d.portError 1 :=
  if_pos h.symm

/-- A request from the mailbox: where the crown still runs after it, its response lies in the response words. -/
theorem mailSubmit_eq {d : Dev} {e : Env} {f : Dev} (hm : d.port.mbState ≠ 1)
    (hf : d.request e (mailRequest d.port.req d.now).2 = f) (hup : f.crownUp = true) : d.mailSubmit e 1 =
      { f with port := { f.port with
        mbState := 2, rsp := mailWords (mailRequest d.port.req d.now).1 f.resp, pend := setBit f.port.pend 1 true } } := by
  unfold Dev.mailSubmit
  rw [if_neg (by simp [hm])]
  subst hf
  exact if_neg (fun h => absurd (((Bool.not_eq_true' _).mp h).symm.trans hup) (by decide))

/-- Settles O38: the window word by word, a shadow being fresh or torn; then the frames, each one a function under the port's command. -/
theorem portCommandsAct : Obligations.PortCommandsAct := by
  unfold Obligations.PortCommandsAct
  constructor
  · intro d a k tick sh
    refine ⟨fun hk => ?_, fun j w x t0 hk h1 h3 hs h0 ht => ?_, fun j i w x t0 hk h1 h3 hs h => ?_,
      fun h => ⟨portRead_req h, portRead_rsp h⟩, rfl, rfl, rfl, rfl, rfl, rfl, rfl, rfl, fun h => portRead_outside h⟩
    · exact portRead_value hk 0 (by decide)
    · rw [portRead_value hk j h3, if_neg (by omega), serveShadow_fresh hs h0 ht, valueWord_of_pos w x h1 h3]
    · rw [portRead_value hk j h3, if_neg (by omega), serveShadow_torn hs h, valueWord_of_pos _ _ h1 h3]
      rfl
  · intro s t tick hp d
    refine ⟨fun addr n => ⟨port_goes (f := fun _ d => d.readFrame addr n tick) rfl hp,
        port_goes (f := fun _ d => (d.readFrame addr n tick).portError 3) rfl hp⟩, fun a v ha hm => ?_, fun addr v => ?_,
      fun h => ⟨port_goes (f := fun _ d => d.readFrame (0x100 + 4 * h.val) 1 tick) rfl hp, fun j => port_goes (f := fun _ d => d.readFrame (0x101 + 4 * h.val + j.val) 1 tick) rfl hp⟩, fun addr h => ⟨_, rfl, readFrame_one d tick h⟩,
      fun v => port_goes (f := fun e d => d.portWrite e 0 v) rfl hp,
      fun v => port_goes (f := fun e d => d.portWrite e 5 v) rfl hp, fun v h => ?_, fun hm => ?_, fun hm => ?_⟩
    · refine (port_goes (f := fun e d => d.writeFrame e (0x20 + a) [v]) rfl hp).of_eq ?_
      rw [writeFrame_one _ _ _ _ (by omega), portWrite_req (d := d) ha hm]
      rfl
    · exact port_goes (f := fun _ d => d.portError 3) rfl hp
    · exact (port_goes (t := t) (f := fun e d => d.mailSubmit e v) rfl hp).of_eq (mailSubmit_refused (d := d) h)
    · intro m hs hop hseg hlen
      obtain ⟨rs, ha⟩ := arrived_eq s.dev m.2
      have hreq := request_echo (e := ⟨s.ps, s.worn⟩) hs hop hseg hlen
      have hup : (((s.dev.arrived m.2).reply m.2 { len := m.2.len, data := m.2.data % 2 ^ (8 * m.2.len) }).hold m.2).crownUp = true := by
        rw [ha]
        exact hs.1
      refine ⟨_, (port_goes (f := fun e d => d.mailSubmit e 1) rfl hp).of_eq (mailSubmit_eq (d := d) hm hreq hup), ⟨rfl, rfl, rfl⟩, rfl,
        bitOf_setBit_self _ _, ?_, rfl⟩
      rw [ha]
      rfl
    · intro m e hup
      exact (port_goes (f := fun e d => d.mailSubmit e 1) rfl hp).of_eq (mailSubmit_eq (d := d) hm rfl hup)

end Sys2Proof.Machine
end

/-! The cycle clock, boundaries, table exchanges and packets (R191 to R200, R215 to R217). -/
section
namespace Sys2Proof.Machine

/-! Logging leaves the entries of the object table outside its own keys in their places. -/

/-- The entries of the table whose keys logging does not write are the same, in the same order. -/
def EntriesKept (d t : Dev) : Prop := ∀ f : Nat × Nat → Bool, (∀ k v, logKey k → f (k, v) = false) → t.obj.filter f = d.obj.filter f

namespace EntriesKept

theorem refl (d : Dev) : EntriesKept d d := fun _ _ => rfl

theorem trans {d t u : Dev} (h : EntriesKept d t) (g : EntriesKept t u) : EntriesKept d u := fun f hf => (g f hf).trans (h f hf)

theorem of_obj {d t : Dev} (h : t.obj = d.obj) : EntriesKept d t := fun f _ => by rw [h]

theorem wr (d : Dev) {k : Nat} (v : Nat) (hk : logKey k) : EntriesKept d (d.wr k v) :=
  fun f hf => filter_tabSet dfltOf f d.obj k v fun w => hf k w hk

theorem when (d : Dev) (b : Bool) (f : Dev → Dev) (h : EntriesKept d (f d)) : EntriesKept d (d.when b f) := by
  cases b
  · exact refl d
  · exact h

theorem wrote (d : Dev) (l : List Nat) : EntriesKept d (d.wrote l) := by
  unfold Dev.wrote
  cases decide (l ≠ [])
  · exact of_obj rfl
  · exact trans (wr d _ (.inr (.inr (.inl rfl)))) (of_obj rfl)

theorem countAbort (d : Dev) {q : Nat} (r : Nat) (hq : q < 64) : EntriesKept d (d.countAbort q r).1 := by
  have h : EntriesKept d ((d.bump 32 (Reg.QU_ABORTED q)).wr (Reg.QU_LAST_ABORT q) r) :=
    (wr d _ (logKey_queue q _ hq (by omega))).trans (wr _ _ (logKey_queue q _ hq (by omega)))
  unfold Dev.countAbort
  extract_lets d1 d2 x n due
  have h2 : EntriesKept d d2 := h.trans (when _ _ _ (of_obj rfl))
  split
  · exact h2.trans (of_obj rfl)
  · exact h2.trans (of_obj rfl)

theorem queueReset (d : Dev) {q : Nat} (r : Nat) (hq : q < 64) : EntriesKept d (d.queueReset q r).1 := by
  unfold Dev.queueReset
  dsimp only
  split
  · exact (countAbort d 5 hq).trans (of_obj rfl)
  · exact of_obj rfl

theorem guardQueue (d : Dev) {q : Nat} (hq : q < 64) : EntriesKept d (d.guardQueue q).1 := by
  unfold Dev.guardQueue
  split
  · exact refl d
  · exact queueReset d 2 hq

theorem abortPacket (d : Dev) {q : Nat} (r : Nat) (hq : q < 64) : EntriesKept d (d.abortPacket q r).1 := by
  unfold Dev.abortPacket
  dsimp only
  split
  · exact guardQueue d hq
  · exact (guardQueue d hq).trans (trans (of_obj rfl) (countAbort _ r hq))

theorem openPacket (d : Dev) {q : Nat} (ty : Nat) (hq : q < 64) : EntriesKept d (d.openPacket q ty).1 := by
  unfold Dev.openPacket
  dsimp only
  split
  · exact (guardQueue d hq).trans (countAbort _ 1 hq)
  · exact (guardQueue d hq).trans (of_obj rfl)

theorem appendBytes (d : Dev) {q : Nat} (bs : List Nat) (hq : q < 64) : EntriesKept d (d.appendBytes q bs).1 := by
  unfold Dev.appendBytes
  dsimp only
  split
  · exact guardQueue d hq
  · split
    · exact (guardQueue d hq).trans (of_obj rfl)
    · exact (guardQueue d hq).trans (abortPacket _ _ hq)

theorem noteCommit (d : Dev) (q b a : Nat) : EntriesKept d (d.noteCommit q b a).1 := by
  unfold Dev.noteCommit
  dsimp only
  split
  · exact of_obj rfl
  · exact of_obj rfl

theorem commitPacket (d : Dev) {q : Nat} (hq : q < 64) : EntriesKept d (d.commitPacket q).1 := by
  have hcommit : ∀ (e : Dev) (y : Queue) b a, EntriesKept e (((e.setQueue q y).bump 32 (Reg.QU_COMMITTED q)).noteCommit q b a).1 :=
    fun e y b a => (trans (of_obj rfl) (wr (e.setQueue q y) _ (logKey_queue q _ hq (by omega)))).trans (noteCommit _ q b a)
  unfold Dev.commitPacket
  dsimp only
  split
  · exact guardQueue d hq
  · split
    · exact (guardQueue d hq).trans (of_obj rfl)
    · split
      · exact (guardQueue d hq).trans (abortPacket _ _ hq)
      · split
        · exact (guardQueue d hq).trans (abortPacket _ _ hq)
        · exact (guardQueue d hq).trans (hcommit _ _ _ _)

theorem eventPacket (d : Dev) (r : EvRec) : EntriesKept d (d.eventPacket r).1 := by
  unfold Dev.eventPacket
  split
  · exact refl d
  · next q h =>
    have hq := mem_enabledQueues (List.mem_of_find?_eq_some h)
    have h1 := openPacket d 0x10 hq
    generalize d.openPacket q 0x10 = a at h1
    have h2 := appendBytes a.1 r.bytes hq
    dsimp only
    generalize a.1.appendBytes q r.bytes = b at h2
    have h3 := commitPacket b.1 hq
    generalize b.1.commitPacket q = c at h3
    exact (h1.trans h2).trans h3

theorem trigger (d : Dev) {c : Nat} (code : Nat) (hc : c < 16) : EntriesKept d (d.trigger c code).1 := by
  unfold Dev.trigger
  split
  · exact ((wr d (k := Reg.DM_STATE c) _ (logKey_dma c 0x9 hc (by omega))).trans
      (wr _ (k := Reg.DM_TRIG_TIME c) d.now (logKey_dma c 0x10 hc (by omega)))).trans (of_obj (Dev.setDma_obj _ _ _))
  · exact refl d

theorem triggers (code : Nat) : ∀ (cs : List Nat), (∀ c ∈ cs, c < 16) → ∀ p : Dev × Evs,
    EntriesKept p.1 (cs.foldl (fun p c => let r := p.1.trigger c code; (r.1, p.2 ++ r.2)) p).1
  | [], _, _ => refl _
  | c :: cs, hc, p => by
    have h := trigger p.1 code (hc c List.mem_cons_self)
    simp only [List.foldl_cons]
    generalize p.1.trigger c code = t at h
    exact h.trans (triggers code cs (fun x hx => hc x (List.mem_cons_of_mem _ hx)) (t.1, p.2 ++ t.2))

theorem stored (d : Dev) (ls : List Nat) (x y : List EvRec) : EntriesKept d { d.wrote ls with log := x, staging := y } :=
  (wrote d ls).trans (of_obj rfl)

theorem drain (d : Dev) : EntriesKept d d.drain := by
  unfold Dev.drain
  split
  · exact stored d _ _ _
  · exact refl d

theorem logOne (d : Dev) (e : Nat × Nat × Nat) : EntriesKept d (d.logOne e).1 := by
  unfold Dev.logOne
  refine (drain d).trans ?_
  generalize d.drain = d
  dsimp only
  split
  · exact wr d _ (.inl rfl)
  · have h1 : EntriesKept d (d.numbered e) := (wr d ((d.rd Reg.EV_TOTAL + 1) % 2 ^ 32) logKey_total).trans (of_obj rfl)
    have h2 := h1.trans (triggers e.1 ((d.numbered e).armedBy e.1) (fun c hc => mem_armedBy hc) (d.numbered e, []))
    unfold Dev.numbered at h2
    generalize List.foldl _ _ _ = a at h2 ⊢
    have h3 := h2.trans (eventPacket a.1 ⟨d.rd Reg.EV_TOTAL, d.now, e.1, e.2.1, e.2.2 % 2 ^ 32⟩)
    generalize Dev.eventPacket _ _ = b at h3 ⊢
    exact h3.trans (drain _)

theorem logAll : ∀ (n : Nat) (d : Dev) (es : Evs), EntriesKept d (Dev.logAll n d es)
  | 0, d, _ => refl d
  | n + 1, d, es => by
    unfold Dev.logAll
    induction es generalizing d with
    | nil => exact refl d
    | cons e es ih =>
      have h := logOne d e
      simp only [List.foldl_cons]
      generalize d.logOne e = a at h
      exact (h.trans (logAll n a.1 a.2)).trans (ih _)

theorem logs (d : Dev) (es : Evs) : EntriesKept d (d.logs es) := logAll 8 d es

end EntriesKept

/-! Packets (R215 to R217). -/

theorem guardQueue_whole {d : Dev} {q : Nat} (h : (d.queue q).broken = none) : d.guardQueue q = (d, []) := by
  unfold Dev.guardQueue
  rw [h]

section
variable {d : Dev} {q : Nat} (hb : (d.queue q).broken = none)
include hb

theorem openPacket_full (ty : Nat) (h : (d.queue q).cap < (d.queue q).p.dist (d.queue q).p.w + 8) :
    d.openPacket q ty = d.countAbort q 1 := by
  unfold Dev.openPacket
  rw [guardQueue_whole hb]
  exact if_pos h

theorem openPacket_room (ty : Nat) (h : (d.queue q).p.dist (d.queue q).p.w + 8 ≤ (d.queue q).cap) : d.openPacket q ty =
    (d.setQueue q { (d.queue q).setPtrs { (d.queue q).p with w := (d.queue q).p.w + 8 } with
      opn := some { start := (d.queue q).p.w, ty := ty } }, []) := by
  unfold Dev.openPacket
  rw [guardQueue_whole hb]
  exact if_neg (Nat.not_lt.2 h)

theorem appendBytes_closed (bs : List Nat) (ho : (d.queue q).opn = none) : d.appendBytes q bs = (d, []) := by
  unfold Dev.appendBytes
  rw [guardQueue_whole hb]
  dsimp only
  rw [ho]

theorem commitPacket_closed (ho : (d.queue q).opn = none) : d.commitPacket q = (d, []) := by
  unfold Dev.commitPacket
  rw [guardQueue_whole hb]
  dsimp only
  rw [ho]

section
variable {o : Open} (ho : (d.queue q).opn = some o)
include ho

theorem appendBytes_open (bs : List Nat) : d.appendBytes q bs =
    if bs.length ≤ (d.queue q).cap - (d.queue q).p.dist (d.queue q).p.w ∧ bs.length ≤ d.pMax q - o.bytes.length then
      (d.setQueue q { (d.queue q).setPtrs { (d.queue q).p with w := (d.queue q).p.w + BitVec.ofNat 32 bs.length } with
        opn := some { o with bytes := o.bytes ++ bs } }, [])
    else d.abortPacket q (if (d.queue q).cap - (d.queue q).p.dist (d.queue q).p.w ≤ d.pMax q - o.bytes.length then 1 else 2) := by
  unfold Dev.appendBytes
  rw [guardQueue_whole hb]
  dsimp only
  rw [ho]
  rfl

theorem commitPacket_open : d.commitPacket q =
    if o.bytes.length = 0 then
      (d.setQueue q { (d.queue q).setPtrs { (d.queue q).p with w := o.start } with opn := none }, [])
    else if (d.queue q).cap < (d.queue q).p.dist (d.queue q).p.w + (8 - o.bytes.length % 8) % 8 then d.abortPacket q 1
    else if o.bad then d.abortPacket q 4
    else
      let w := (d.queue q).p.w + BitVec.ofNat 32 ((8 - o.bytes.length % 8) % 8)
      let y := { (d.queue q).setPtrs { (d.queue q).p with w := w, c := w } with
        opn := none, pseq := ((d.queue q).pseq + 1) % 65536,
        pkts := (d.queue q).pkts ++ [{ pos := o.start, ty := o.ty, pseq := (d.queue q).pseq, bytes := o.bytes, tc := d.now }] }
      ((d.setQueue q y).bump 32 (Reg.QU_COMMITTED q)).noteCommit q (d.queue q).level y.level := by
  unfold Dev.commitPacket
  rw [guardQueue_whole hb]
  dsimp only
  rw [ho]
  rfl

theorem abortPacket_open (r : Nat) : d.abortPacket q r =
    (d.setQueue q { (d.queue q).setPtrs { (d.queue q).p with w := o.start } with opn := none }).countAbort q r := by
  unfold Dev.abortPacket
  rw [guardQueue_whole hb]
  dsimp only
  rw [ho]
  rfl

end
end

/-- Settles O44, operation by operation. -/
theorem packetsForm : Obligations.PacketsForm := by
  unfold Obligations.PacketsForm
  intro d q ty bs hb x lvl
  refine ⟨openPacket_room hb ty, openPacket_full hb ty, fun ho => ⟨appendBytes_closed hb bs ho, commitPacket_closed hb ho⟩,
    fun o ho => ⟨fun h1 h2 => ?_, fun h1 h2 => ?_, fun h1 h2 h3 => ?_, fun hn => ?_, fun hn hbad h => ?_, fun hn hbad h => ?_,
      abortPacket_open hb ho 3⟩⟩
  · rw [appendBytes_open hb ho, if_pos ⟨h1, by omega⟩]
  · rw [appendBytes_open hb ho, if_neg (fun h => absurd h.1 (Nat.not_le.2 h1)), if_pos h2]
  · rw [appendBytes_open hb ho, if_neg (fun h => by omega), if_neg (Nat.not_le.2 h2)]
  · rw [commitPacket_open hb ho, if_pos (by rw [hn]; rfl)]
  · rw [commitPacket_open hb ho, if_neg (fun e => hn (List.length_eq_zero_iff.1 e)), if_neg (Nat.not_lt.2 h), if_pos hbad]
  · rw [commitPacket_open hb ho, if_neg (fun e => hn (List.length_eq_zero_iff.1 e)), if_neg (Nat.not_lt.2 h), if_neg (by rw [hbad]; decide)]

end Sys2Proof.Machine
end

/-! Table exchanges, boundaries and the cycle clock (R191 to R200). -/
section
namespace Sys2Proof.Machine

/-! Table exchanges (R200). -/

section
variable {α : Type} {d : Nat → α}

theorem tabGet_append_left (l : Tab α) {m : Tab α} {k : Nat} (h : ∀ p ∈ m, p.1 ≠ k) : tabGet d (l ++ m) k = tabGet d l k := by
  induction l with
  | nil =>
    induction m with
    | nil => rfl
    | cons p m ih => exact (if_neg (h p List.mem_cons_self)).trans (ih fun p hp => h p (List.mem_cons_of_mem _ hp))
  | cons p l ih =>
    show (if p.1 = k then p.2 else tabGet d (l ++ m) k) = if p.1 = k then p.2 else tabGet d l k
    rw [ih]

theorem tabGet_append_right {l : Tab α} (m : Tab α) {k : Nat} (h : ∀ p ∈ l, p.1 ≠ k) : tabGet d (l ++ m) k = tabGet d m k := by
  induction l with
  | nil => rfl
  | cons p l ih => exact (if_neg (h p List.mem_cons_self)).trans (ih fun p hp => h p (List.mem_cons_of_mem _ hp))

theorem tabGet_filter (f : Nat × α → Bool) (m : Tab α) {k : Nat} (h : ∀ v, f (k, v) = true) : tabGet d (m.filter f) k = tabGet d m k := by
  induction m with
  | nil => rfl
  | cons p m ih =>
    obtain ⟨a, v⟩ := p
    by_cases ha : a = k
    · subst ha
      rw [List.filter_cons_of_pos (h v)]
      exact (if_pos rfl).trans (if_pos rfl).symm
    · refine Eq.trans ?_ (if_neg ha).symm
      rw [List.filter_cons]
      split
      · exact (if_neg ha).trans ih
      · exact ih

/-- A table whose keys are moved by g, one key of its own going to each. -/
theorem tabGet_map (g : Nat → Nat) (m : Tab α) {k j : Nat} (hg : ∀ p ∈ m, g p.1 = k ↔ p.1 = j) (hd : d k = d j) :
    tabGet d (m.map fun p => (g p.1, p.2)) k = tabGet d m j := by
  induction m with
  | nil => exact hd
  | cons p m ih =>
    have h := hg p List.mem_cons_self
    have ih := ih fun p hp => hg p (List.mem_cons_of_mem _ hp)
    show (if g p.1 = k then p.2 else _) = if p.1 = j then p.2 else _
    rw [ih]
    exact if_congr h rfl rfl

/-- The canonical form, as a property of the entries. -/
theorem tabWf_iff [DecidableEq α] (m : Tab α) : tabWf d m = true ↔ m.Pairwise (fun p q => p.1 < q.1) ∧ ∀ p ∈ m, p.2 ≠ d p.1 := by
  have habove : ∀ (m : Tab α) (o : Option Nat), tabWfAbove d o m = true ↔
      (∀ b, o = some b → ∀ p ∈ m, b < p.1) ∧ m.Pairwise (fun p q => p.1 < q.1) ∧ ∀ p ∈ m, p.2 ≠ d p.1 := by
    intro m
    induction m with
    | nil => simp [tabWfAbove]
    | cons p m ih =>
      obtain ⟨a, v⟩ := p
      intro o
      simp only [tabWfAbove, Bool.and_eq_true, decide_eq_true_eq, ih, List.forall_mem_cons, List.pairwise_cons]
      constructor
      · rintro ⟨⟨ho, hv⟩, ha, hs, hm⟩
        refine ⟨fun b hb => ?_, ⟨ha a rfl, hs⟩, hv, hm⟩
        subst hb
        have hba : b < a := of_decide_eq_true ho
        exact ⟨hba, fun p hp => hba.trans (ha a rfl p hp)⟩
      · rintro ⟨ho, ⟨ha, hs⟩, hv, hm⟩
        refine ⟨⟨?_, hv⟩, fun b hb => Option.some.inj hb ▸ ha, hs, hm⟩
        cases o with
        | none => rfl
        | some b => exact decide_eq_true (ho b rfl).1
  rw [tabWf, habove]
  simp

end

/-- Neither table's steps have a value other than 0 before they are written. -/
theorem dfltOf_step {ix sub : Nat} (h : 0x6000 ≤ ix ∧ ix < 0x6800) (hs : sub < 256) : dfltOf (ix * 256 + sub) = 0 := by
  have hix : (ix * 256 + sub) / 256 = ix := by omega
  have hsub : (ix * 256 + sub) % 256 = sub := by omega
  have hrows : rowsAt (fun _ => 0) ix = some rowsActiveStep ∨ rowsAt (fun _ => 0) ix = some rowsShadowStep := by
    unfold rowsAt
    rw [if_neg (by omega), if_neg (by omega), if_neg (by omega), if_neg (by omega), if_neg (by omega)]
    by_cases h4 : ix < 0x6400
    · exact .inl (if_pos ⟨h.1, h4⟩)
    · exact .inr ((if_neg (fun e => h4 e.2)).trans (if_pos ⟨by omega, h.2⟩))
  have hrow : ∀ r : Info, r.dflt = 0 → (match (if 1 ≤ sub ∧ sub ≤ 1 then some r else none : Option Info) with
      | none => 0
      | some r => r.dflt) = 0 := by
    intro r hr
    split
    · rfl
    · next h => split at h <;> simp_all
  unfold dfltOf objInfo
  rw [hix, hsub]
  rcases hrows with h | h
  · rw [h]
    exact hrow _ rfl
  · rw [h]
    exact hrow _ rfl

section
variable (m : Tab Nat)

theorem exchangeObj_eq : exchangeObj m = (m.filter fun p => p.1 / 256 < 0x6000) ++
    ((m.filter fun p => 0x6400 ≤ p.1 / 256 && p.1 / 256 < 0x6800).map (fun p => (p.1 - 0x40000, p.2)) ++
      ((m.filter fun p => 0x6000 ≤ p.1 / 256 && p.1 / 256 < 0x6400).map (fun p => (p.1 + 0x40000, p.2)) ++
        m.filter fun p => 0x6800 ≤ p.1 / 256)) := by
  rw [exchangeObj, List.append_assoc, List.append_assoc]

variable {m}

theorem exchangeObj_get_out {k : Nat} (h : k / 256 < 0x6000 ∨ 0x6800 ≤ k / 256) : tabGet dfltOf (exchangeObj m) k = tabGet dfltOf m k := by
  have hsha : ∀ p ∈ (m.filter fun p => 0x6400 ≤ p.1 / 256 && p.1 / 256 < 0x6800).map (fun p => (p.1 - 0x40000, p.2)), p.1 ≠ k := by
    simp only [List.mem_map, List.mem_filter, Bool.and_eq_true, decide_eq_true_eq]
    rintro _ ⟨p, ⟨-, h1, h2⟩, rfl⟩
    dsimp only
    omega
  have hact : ∀ p ∈ (m.filter fun p => 0x6000 ≤ p.1 / 256 && p.1 / 256 < 0x6400).map (fun p => (p.1 + 0x40000, p.2)), p.1 ≠ k := by
    simp only [List.mem_map, List.mem_filter, Bool.and_eq_true, decide_eq_true_eq]
    rintro _ ⟨p, ⟨-, h1, h2⟩, rfl⟩
    dsimp only
    omega
  have hlow : ∀ p ∈ m.filter fun p => p.1 / 256 < 0x6000, p.1 / 256 < 0x6000 := fun p hp => of_decide_eq_true (List.mem_filter.1 hp).2
  have hhigh : ∀ p ∈ m.filter fun p => 0x6800 ≤ p.1 / 256, 0x6800 ≤ p.1 / 256 := fun p hp => of_decide_eq_true (List.mem_filter.1 hp).2
  rw [exchangeObj_eq]
  rcases h with h | h
  · rw [tabGet_append_left _ (fun p hp => ?_), tabGet_filter _ m fun _ => decide_eq_true h]
    rcases List.mem_append.1 hp with hp | hp
    · exact hsha p hp
    rcases List.mem_append.1 hp with hp | hp
    · exact hact p hp
    · have := hhigh p hp
      rintro rfl
      omega
  · rw [tabGet_append_right _ (fun p hp => ?_), tabGet_append_right _ hsha, tabGet_append_right _ hact, tabGet_filter _ m fun _ => decide_eq_true h]
    have := hlow p hp
    rintro rfl
    omega

theorem exchangeObj_get_active {i : Nat} (h : i < 1024) :
    tabGet dfltOf (exchangeObj m) ((0x6000 + i) * 256 + 1) = tabGet dfltOf m ((0x6400 + i) * 256 + 1) := by
  have hd : dfltOf ((0x6000 + i) * 256 + 1) = dfltOf ((0x6400 + i) * 256 + 1) :=
    (dfltOf_step ⟨by omega, by omega⟩ (by decide)).trans (dfltOf_step ⟨by omega, by omega⟩ (by decide)).symm
  rw [exchangeObj_eq, tabGet_append_right _ (fun p hp => ?_), tabGet_append_left _ (fun p hp => ?_),
    tabGet_map (· - 0x40000) _ (j := (0x6400 + i) * 256 + 1) (fun p hp => ?_) hd, tabGet_filter _ m fun _ => ?_]
  · simp only [Bool.and_eq_true, decide_eq_true_eq]
    omega
  · have := (List.mem_filter.1 hp).2
    simp only [Bool.and_eq_true, decide_eq_true_eq] at this
    omega
  · have : 0x6400 ≤ p.1 / 256 := by
      rcases List.mem_append.1 hp with hp | hp
      · simp only [List.mem_map, List.mem_filter, Bool.and_eq_true, decide_eq_true_eq] at hp
        obtain ⟨p, ⟨-, h1, h2⟩, rfl⟩ := hp
        dsimp only
        omega
      · have : 0x6800 ≤ p.1 / 256 := of_decide_eq_true (List.mem_filter.1 hp).2
        omega
    intro e
    omega
  · have : p.1 / 256 < 0x6000 := of_decide_eq_true (List.mem_filter.1 hp).2
    intro e
    omega

theorem exchangeObj_get_shadow {i : Nat} (h : i < 1024) :
    tabGet dfltOf (exchangeObj m) ((0x6400 + i) * 256 + 1) = tabGet dfltOf m ((0x6000 + i) * 256 + 1) := by
  have hd : dfltOf ((0x6400 + i) * 256 + 1) = dfltOf ((0x6000 + i) * 256 + 1) :=
    (dfltOf_step ⟨by omega, by omega⟩ (by decide)).trans (dfltOf_step ⟨by omega, by omega⟩ (by decide)).symm
  rw [exchangeObj_eq, tabGet_append_right _ (fun p hp => ?_), tabGet_append_right _ (fun p hp => ?_), tabGet_append_left _ (fun p hp => ?_),
    tabGet_map (· + 0x40000) _ (j := (0x6000 + i) * 256 + 1) (fun p hp => ?_) hd, tabGet_filter _ m fun _ => ?_]
  · simp only [Bool.and_eq_true, decide_eq_true_eq]
    omega
  · omega
  · have : 0x6800 ≤ p.1 / 256 := of_decide_eq_true (List.mem_filter.1 hp).2
    intro e
    omega
  · simp only [List.mem_map, List.mem_filter, Bool.and_eq_true, decide_eq_true_eq] at hp
    obtain ⟨p, ⟨-, h1, h2⟩, rfl⟩ := hp
    dsimp only
    omega
  · have : p.1 / 256 < 0x6000 := of_decide_eq_true (List.mem_filter.1 hp).2
    intro e
    omega

/-- The exchange keeps the canonical form: the four runs of the table follow each other, and steps of both tables are 0 unless written. -/
theorem tabWf_exchangeObj (h : tabWf dfltOf m = true) : tabWf dfltOf (exchangeObj m) = true := by
  obtain ⟨hs, hd⟩ := (tabWf_iff m).1 h
  have hshift : ∀ p ∈ m, ∀ k, 0x6000 ≤ p.1 / 256 → p.1 / 256 < 0x6800 → 0x6000 ≤ k / 256 → k / 256 < 0x6800 → p.2 ≠ dfltOf k := by
    intro p hp k h1 h2 h3 h4
    have hk : dfltOf k = dfltOf p.1 := by
      rw [← Nat.div_add_mod' k 256, ← Nat.div_add_mod' p.1 256, dfltOf_step ⟨h3, h4⟩ (Nat.mod_lt _ (by decide)),
        dfltOf_step ⟨h1, h2⟩ (Nat.mod_lt _ (by decide))]
    rw [hk]
    exact hd p hp
  rw [exchangeObj_eq, tabWf_iff]
  simp only [List.pairwise_append, List.mem_append, List.mem_map, List.mem_filter, Bool.and_eq_true, decide_eq_true_eq, List.pairwise_map]
  refine ⟨⟨hs.filter _, ⟨?_, ⟨?_, hs.filter _, ?_⟩, ?_⟩, ?_⟩, ?_⟩
  · refine (hs.filter _).imp_of_mem fun {p q} hp hq hpq => ?_
    simp only [List.mem_filter, Bool.and_eq_true, decide_eq_true_eq] at hp hq
    omega
  · exact (hs.filter _).imp fun hpq => by omega
  · rintro _ ⟨p, ⟨-, h1, h2⟩, rfl⟩ q ⟨-, h3⟩
    dsimp only
    omega
  · rintro _ ⟨p, ⟨-, h1, h2⟩, rfl⟩ _ (⟨q, ⟨-, h3, h4⟩, rfl⟩ | ⟨-, h3⟩) <;> omega
  · rintro p ⟨-, h1⟩ _ (⟨q, ⟨-, h3, h4⟩, rfl⟩ | ⟨q, ⟨-, h3, h4⟩, rfl⟩ | ⟨-, h3⟩) <;> omega
  · rintro _ (⟨hp, -⟩ | ⟨p, ⟨hp, h1, h2⟩, rfl⟩ | ⟨p, ⟨hp, h1, h2⟩, rfl⟩ | ⟨hp, -⟩)
    · exact hd _ hp
    · exact hshift p hp _ (by omega) h2 (by dsimp only; omega) (by dsimp only; omega)
    · exact hshift p hp _ h1 (by omega) (by dsimp only; omega) (by dsimp only; omega)
    · exact hd _ hp

end

/-! What an exchange leaves beside the tables. -/

theorem each_keeps {α β : Type} (g : Dev → β) (f : Dev → α → Dev) (h : ∀ d a, g (f d a) = g d) (d : Dev) (l : List α) :
    g (d.each l f) = g d := by
  induction l generalizing d with
  | nil => rfl
  | cons a l ih => exact (ih (f d a)).trans (h d a)

theorem openWindow_obj (d : Dev) (k : Nat) : (d.openWindow k).obj = d.obj := rfl
theorem openWindow_seq (d : Dev) (k : Nat) : (d.openWindow k).seq = d.seq := rfl

theorem gridFrom_obj (d : Dev) (k t : Nat) : (d.gridFrom k t).obj = d.obj := by
  unfold Dev.gridFrom Dev.freshResidues
  split <;> rfl

theorem gridFrom_seq (d : Dev) (k t : Nat) : (d.gridFrom k t).seq = d.seq := by
  unfold Dev.gridFrom Dev.freshResidues
  split <;> rfl

/-- The module whose tables have exchanged, before the event and the grids that begin. -/
def Dev.exchanged (d : Dev) : Dev :=
  ({ d with
    obj := exchangeObj d.obj, seq := { d.seq with bound := d.seq.bound2, bound2 := d.seq.bound, once := [], onceQ := [] } } : Dev).wr
      Reg.SQ_SWAP_STATE 0

/-- After the exchange comes its event, then the grids that begin with it. -/
theorem exchange_logged (d : Dev) (t : Nat) : ∃ n, (d.exchange t).obj = (d.exchanged.log1 0x0291 0xFFF9 n).obj ∧
    (d.exchange t).seq = (d.exchanged.log1 0x0291 0xFFF9 n).seq := by
  have heq : ∃ n l, d.exchange t = (d.exchanged.log1 0x0291 0xFFF9 n).each l fun d k => d.beginGrid k t := ⟨_, _, rfl⟩
  obtain ⟨n, l, h⟩ := heq
  rw [h]
  exact ⟨n, each_keeps Dev.obj _ (fun d k => gridFrom_obj d k _) _ _, each_keeps Dev.seq _ (fun d k => gridFrom_seq d k _) _ _⟩

theorem exchange_rd (d : Dev) (t : Nat) {k : Nat} (h : ¬ logKey k) : (d.exchange t).rd k = d.exchanged.rd k := by
  obtain ⟨n, ho, -⟩ := exchange_logged d t
  exact (congrArg (fun m => tabGet dfltOf m k) ho).trans (log1_rd d.exchanged _ _ _ k h)

theorem exchanged_rd (d : Dev) {k : Nat} (h : k ≠ Reg.SQ_SWAP_STATE) : d.exchanged.rd k = tabGet dfltOf (exchangeObj d.obj) k :=
  (tabGet_tabSet dfltOf (exchangeObj d.obj) Reg.SQ_SWAP_STATE k 0).trans (if_neg h)

theorem not_logKey_step {k : Nat} (h : 0x600000 ≤ k ∧ k < 0x680000) : ¬ logKey k := by
  show ¬ (k = 0x02F005 ∨ k = 0x801001 ∨ k = 0x02F002 ∨ (0x400000 ≤ k ∧ k < 0x442000))
  omega

/-- Settles O43: the exchange maps the object table key by key, and the event that it logs touches no step table. -/
theorem tablesExchange : Obligations.TablesExchange := by
  unfold Obligations.TablesExchange
  intro d t i hi hwf
  have hswap : Reg.SQ_SWAP_STATE < 0x600000 := by decide
  have hstep : ∀ {k}, 0x600000 ≤ k ∧ k < 0x680000 → (d.exchange t).rd k = tabGet dfltOf (exchangeObj d.obj) k := fun h =>
    (exchange_rd d t (not_logKey_step h)).trans (exchanged_rd d (by omega))
  have hact : 0x600000 ≤ (0x6000 + i) * 256 + 1 ∧ (0x6000 + i) * 256 + 1 < 0x680000 := by omega
  have hsha : 0x600000 ≤ (0x6400 + i) * 256 + 1 ∧ (0x6400 + i) * 256 + 1 < 0x680000 := by clear hact hswap hstep; omega
  refine ⟨(hstep hact).trans (exchangeObj_get_active hi), (hstep hsha).trans (exchangeObj_get_shadow hi), ?_, ?_,
    by exact tabWf_exchangeObj hwf⟩
  · obtain ⟨n, -, hs⟩ := exchange_logged d t
    rw [hs, (log1_quiet d.exchanged _ _ _).1]
    rfl
  · rw [exchange_rd d t (by unfold logKey; decide), Dev.exchanged, Dev.wr_rd, if_pos rfl]

end Sys2Proof.Machine
end

/-! A boundary that carries a reset command among its staged work (R26, R271, R413), and the cycle clock (R191 to R197). -/
section
namespace Sys2Proof.Machine

/-! The staged trims wait while the housekeeping core is in reset, as the staged commands have left it: the statement asks the module of
before them. -/

/-- A module at whose boundary a reset command and a trim of a live handle are staged. -/
def resetStaged : Dev := { State.reset.dev with
  crownUp := true, coreUp := true,
  obj := [(Reg.HND_STATE 0, ARMED), (Reg.HND_ID 0, 128)],
  staged := [{ ix := 0x0300, sub := 9, val := 1, id := 1 }, { ix := 0x2000, sub := 0x17, hnd := 128, val := 5, aux := 1 }] }

/-- Refutes O42: the staged reset command puts the housekeeping core into reset, so that the staged trim waits; the statement applies it,
for the core worked before the command. -/
theorem not_boundariesAct : ¬ Obligations.BoundariesAct := by
  unfold Obligations.BoundariesAct
  intro h
  obtain ⟨-, -, hwork, -⟩ := h State.reset 5
  exact absurd (congrArg (fun d : Dev => d.rd 0x200017) (hwork resetStaged {})) (by decide +kernel)

/-! The cycle clock (R193, R197). -/

/-- From d to t the sequencer's parts and the step tables are the same, marks of a breach apart. -/
structure ClockKept (d t : Dev) : Prop where
  seq : t.seq = { d.seq with breach := t.seq.breach }
  rd : ∀ k, ¬ logKey k → t.rd k = d.rd k
  entries : EntriesKept d t

namespace ClockKept

theorem refl (d : Dev) : ClockKept d d := ⟨rfl, fun _ _ => rfl, .refl d⟩

theorem trans {d t u : Dev} (h : ClockKept d t) (g : ClockKept t u) : ClockKept d u :=
  ⟨by rw [g.seq, h.seq], fun k hk => (g.rd k hk).trans (h.rd k hk), h.entries.trans g.entries⟩

theorem of_quiet {d t : Dev} (h : Quiet d t) (g : EntriesKept d t) : ClockKept d t := ⟨congrArg Dev.seq h.1, h.2, g⟩

theorem logs (d : Dev) (es : Evs) : ClockKept d (d.logs es) := of_quiet (logs_quiet d es) (.logs d es)

theorem each {α : Type} {f : Dev → α → Dev} : ∀ (l : List α), (∀ a ∈ l, ∀ d, ClockKept d (f d a)) → ∀ d : Dev, ClockKept d (d.each l f)
  | [], _, d => refl d
  | a :: l, h, d => (h a List.mem_cons_self d).trans (each l (fun b hb => h b (List.mem_cons_of_mem _ hb)) (f d a))

theorem abortLeft (d : Dev) : ClockKept d d.abortLeft := by
  refine each _ (fun q hq d => ?_) d
  have hq := mem_enabledQueues (List.mem_filter.1 hq).1
  exact (of_quiet (.abortPacket d q 6 hq) (.abortPacket d 6 hq)).trans (logs _ _)

end ClockKept

/-- Only the entries of a step table matter for its first WAIT_CYCLE. -/
theorem waitIndex_congr {d t : Dev} (h : t.obj.filter (fun p => 0x600000 ≤ p.1 && p.1 < 0x680000) =
    d.obj.filter fun p => 0x600000 ≤ p.1 && p.1 < 0x680000) : t.waitIndex false = d.waitIndex false := by
  have hfind : ∀ m : Tab Nat, (m.find? fun p => 0x6000 ≤ p.1 / 256 && p.1 / 256 < 0x6000 + 1024 && p.1 % 256 = 1 && stAction p.2 = 0x0C) =
      (m.filter fun p => 0x600000 ≤ p.1 && p.1 < 0x680000).find? fun p =>
        0x6000 ≤ p.1 / 256 && p.1 / 256 < 0x6000 + 1024 && p.1 % 256 = 1 && stAction p.2 = 0x0C := by
    intro m
    rw [List.find?_filter]
    congr 1
    funext p
    rw [Bool.eq_iff_iff]
    simp only [Bool.and_eq_true, decide_eq_true_eq]
    constructor
    · rintro ⟨⟨⟨h1, h2⟩, h3⟩, h4⟩
      exact ⟨⟨by omega, by omega⟩, ⟨⟨h1, h2⟩, h3⟩, h4⟩
    · exact fun h => h.2
  unfold Dev.waitIndex
  simp only [Bool.false_eq_true, if_false]
  rw [hfind t.obj, h, ← hfind d.obj]

theorem steps_wr (d : Dev) {k : Nat} (v : Nat) (hk : k < 0x600000) : (d.wr k v).obj.filter (fun p => 0x600000 ≤ p.1 && p.1 < 0x680000) =
    d.obj.filter fun p => 0x600000 ≤ p.1 && p.1 < 0x680000 :=
  filter_tabSet dfltOf _ d.obj k v fun w => by simp only [Bool.and_eq_false_iff, decide_eq_false_iff_not]; omega

theorem ClockKept.steps {d t : Dev} (h : ClockKept d t) : t.obj.filter (fun p => 0x600000 ≤ p.1 && p.1 < 0x680000) =
    d.obj.filter fun p => 0x600000 ≤ p.1 && p.1 < 0x680000 :=
  h.entries _ fun k v hk => by
    have : ¬ (0x600000 ≤ k ∧ k < 0x680000) := fun h => not_logKey_step h hk
    simp only [Bool.and_eq_false_iff, decide_eq_false_iff_not]
    omega

theorem not_logKey_lock : ¬ logKey Reg.SQ_LOCK := by unfold logKey; decide
theorem not_logKey_cycleNs : ¬ logKey Reg.SQ_CYCLE_NS := by unfold logKey; decide
theorem not_logKey_cycleIndex : ¬ logKey Reg.SQ_CYCLE_INDEX := by unfold logKey; decide

/-- Setting the lock writes it and the length, and may log. -/
theorem setLock_kept (d : Dev) (v T : Nat) : ClockKept ((d.wr Reg.SQ_LOCK v).wr Reg.SQ_CYCLE_NS T) (d.setLock v T) := by
  unfold Dev.setLock
  extract_lets was wasT d1
  cases decide (was ≠ v) || (decide (wasT ≠ T) && decide (v ≠ 0))
  · exact .refl _
  · exact .logs _ _

theorem setLock_lock (d : Dev) (v T : Nat) : (d.setLock v T).rd Reg.SQ_LOCK = v := by
  rw [(setLock_kept d v T).rd _ not_logKey_lock, Dev.wr_rd, if_neg (by decide), Dev.wr_rd, if_pos rfl]

theorem setLock_cycleNs (d : Dev) (v T : Nat) : (d.setLock v T).rd Reg.SQ_CYCLE_NS = T := by
  rw [(setLock_kept d v T).rd _ not_logKey_cycleNs, Dev.wr_rd, if_pos rfl]

theorem setLock_rd (d : Dev) (v T : Nat) {k : Nat} (h : ¬ logKey k) (h1 : k ≠ Reg.SQ_LOCK) (h2 : k ≠ Reg.SQ_CYCLE_NS) :
    (d.setLock v T).rd k = d.rd k := by
  rw [(setLock_kept d v T).rd _ h, Dev.wr_rd, if_neg h2, Dev.wr_rd, if_neg h1]

theorem setLock_seq (d : Dev) (v T : Nat) : (d.setLock v T).seq = { d.seq with breach := (d.setLock v T).seq.breach } :=
  (setLock_kept d v T).seq

theorem setLock_steps (d : Dev) (v T : Nat) : (d.setLock v T).obj.filter (fun p => 0x600000 ≤ p.1 && p.1 < 0x680000) =
    d.obj.filter fun p => 0x600000 ≤ p.1 && p.1 < 0x680000 := by
  rw [(setLock_kept d v T).steps, steps_wr _ _ (by decide), steps_wr _ _ (by decide)]

/-- The lock state of a cycle whose length and source were fixed (R197). -/
def Dev.lockFixed (d : Dev) : Nat :=
  if d.seq.nextSrc = 1 then 3 else if d.rd Reg.SQ_LOCK = 2 ∧ d.seq.nextNs = d.rd Reg.SQ_CYCLE_NS then 2 else 1

/-- The module at the start of a cycle of the fixed length, before a table exchange. -/
def Dev.cycleSet (d : Dev) (t : Nat) : Dev :=
  (d.setLock d.lockFixed d.seq.nextNs).abortLeft.wr Reg.SQ_CYCLE_INDEX (t / d.seq.nextNs % 2 ^ 32)

section
variable {d : Dev} {t : Nat} (hm : d.cyclesMayRun = true) (hf : d.seq.fixed = true) (hn : d.seq.nextNs ≠ 0)
include hm hf hn

theorem startCycle_between (ht : t % d.seq.nextNs ≠ 0) : d.startCycle t =
    (d.setLock d.lockFixed d.seq.nextNs).modSeq fun x => { x with running := false, ended := true, fixed := false } := by
  simp only [Dev.startCycle, hm, hf, Dev.lockFixed]
  simp [hn, ht]

theorem startCycle_multiple (ht : t % d.seq.nextNs = 0) : ∃ e : Dev,
    e = (d.cycleSet t).when (d.seq.nextSwap && d.rd Reg.SQ_SWAP_STATE = 1) (·.exchange t) ∧
    d.startCycle t = e.modSeq fun x => { x with
      running := true, start := t, ended := (e.waitIndex false).isNone, doneTo := 0, fixed := false, nextSwap := false,
      ahead := if x.fixed then x.ahead else [],
      lateAnn := false, breach := if x.lateAnn then x.breach ||| 2 else x.breach } := by
  refine ⟨_, rfl, ?_⟩
  simp only [Dev.startCycle, hm, hf, Dev.cycleSet, Dev.lockFixed]
  simp [hn, ht]

end

theorem exchange_rd_out (d : Dev) (t : Nat) {k : Nat} (hq : ¬ logKey k) (hs : k ≠ Reg.SQ_SWAP_STATE) (h : k / 256 < 0x6000) :
    (d.exchange t).rd k = d.rd k :=
  (exchange_rd d t hq).trans ((exchanged_rd d hs).trans (exchangeObj_get_out (.inl h)))

theorem exchange_ahead (d : Dev) (t : Nat) : (d.exchange t).seq.ahead = d.seq.ahead ∧ (d.exchange t).seq.fixed = d.seq.fixed := by
  obtain ⟨n, -, hs⟩ := exchange_logged d t
  rw [hs, Dev.log1, (ClockKept.logs _ _).seq]
  exact ⟨rfl, rfl⟩

section
variable (d : Dev) (t : Nat)

theorem cycleSet_kept : ClockKept (d.setLock d.lockFixed d.seq.nextNs) (d.setLock d.lockFixed d.seq.nextNs).abortLeft := .abortLeft _

theorem cycleSet_lock : (d.cycleSet t).rd Reg.SQ_LOCK = d.lockFixed := by
  rw [Dev.cycleSet, Dev.wr_rd, if_neg (by decide), (cycleSet_kept d).rd _ not_logKey_lock, setLock_lock]

theorem cycleSet_cycleNs : (d.cycleSet t).rd Reg.SQ_CYCLE_NS = d.seq.nextNs := by
  rw [Dev.cycleSet, Dev.wr_rd, if_neg (by decide), (cycleSet_kept d).rd _ not_logKey_cycleNs, setLock_cycleNs]

theorem cycleSet_cycleIndex : (d.cycleSet t).rd Reg.SQ_CYCLE_INDEX = t / d.seq.nextNs % 2 ^ 32 := by
  rw [Dev.cycleSet, Dev.wr_rd, if_pos rfl]

theorem cycleSet_ahead : (d.cycleSet t).seq.ahead = d.seq.ahead ∧ (d.cycleSet t).seq.fixed = d.seq.fixed := by
  have h : (d.cycleSet t).seq = (d.setLock d.lockFixed d.seq.nextNs).abortLeft.seq := rfl
  rw [h, (cycleSet_kept d).seq, setLock_seq]
  exact ⟨rfl, rfl⟩

theorem cycleSet_waitIndex : (d.cycleSet t).waitIndex false = d.waitIndex false :=
  waitIndex_congr ((steps_wr _ _ (by decide)).trans ((cycleSet_kept d).steps.trans (setLock_steps d _ _)))

theorem cycleSet_step {k : Nat} (h : 0x600000 ≤ k ∧ k < 0x680000) : (d.cycleSet t).rd k = d.rd k := by
  have h1 : Reg.SQ_CYCLE_INDEX < 0x600000 := by decide
  have h2 : Reg.SQ_LOCK < 0x600000 := by decide
  have h3 : Reg.SQ_CYCLE_NS < 0x600000 := by decide
  rw [Dev.cycleSet, Dev.wr_rd, if_neg (by omega), (cycleSet_kept d).rd _ (not_logKey_step h),
    setLock_rd _ _ _ (not_logKey_step h) (by omega) (by omega)]

end

/-! What a cycle fixes (R193, R200). -/

section
variable {d : Dev} {t : Nat}

theorem swapDue_pending (h : d.rd Reg.SQ_SWAP_STATE = 1) (hs : d.seq.swapMode = 1 ∨ d.rd Reg.SQ_SWAP_TIME ≤ t) :
    d.swapDue t = some d.seq.bound2 :=
  (if_pos h).trans (if_pos (by rcases hs with hs | hs <;> simp [Dev.swapsAt, hs]))

theorem swapDue_later (h : d.rd Reg.SQ_SWAP_STATE = 1) (h1 : d.seq.swapMode ≠ 1) (h2 : t < d.rd Reg.SQ_SWAP_TIME) : d.swapDue t = none :=
  (if_pos h).trans (if_neg (by simp [Dev.swapsAt, h1, h2]))

theorem swapDue_none (h : d.rd Reg.SQ_SWAP_STATE ≠ 1) (hn : ∀ x ∈ d.txns, ∀ y ∈ x.entries, y.swapReq = false) : d.swapDue t = none := by
  refine (if_neg h).trans ?_
  rw [Option.map_eq_none_iff, List.find?_eq_none]
  intro x hx hdue
  obtain ⟨-, hany⟩ := Bool.and_eq_true_iff.1 hdue
  obtain ⟨y, hy, hswap⟩ := List.any_eq_true.1 hany
  rw [hn x hx y hy, Bool.false_and] at hswap
  exact absurd hswap (by decide)

theorem issueAhead_nil {shadow : Bool} {bind : List (Nat × Nat)} {T next : Nat} (h : d.aheadSteps shadow T = []) :
    d.issueAhead shadow bind T next = d := by
  rw [Dev.issueAhead, h]
  rfl

end

/-- What CYCLE_FIX notes before it looks for a swap. -/
def Dev.fixing (d : Dev) : Dev :=
  { d with seq := { d.seq with nextNs := d.wantedNs, nextSrc := d.rd Reg.SQ_CYCLE_SRC, fixed := true, ahead := [] } }

/-- The module whose next cycle, starting at next, is fixed. -/
def Dev.fixedFor (d : Dev) (next : Nat) : Dev := { d.fixing with seq := { d.fixing.seq with nextSwap := (d.fixing.swapDue next).isSome } }

/-- The instant at which the running cycle ends, else now. -/
def Dev.cycleStop (d : Dev) : Nat := if d.seq.running then d.seq.start + d.rd Reg.SQ_CYCLE_NS else d.now

theorem cycleFix_goes {s : State} {t : Nat} : Goes (.cycleFix t) s
    (let d := s.dev.at t
     if !d.cyclesMayRun || d.seq.fixed then d
     else
       let next := if d.wantedNs = 0 then d.cycleStop else multipleAt d.wantedNs d.cycleStop
       if d.wantedNs ≠ 0 ∧ (next = d.cycleStop ∨ d.seq.running = false) then
         (d.fixedFor next).issueAhead (d.fixing.swapDue next).isSome ((d.fixing.swapDue next).getD d.seq.bound) d.wantedNs next
       else d.fixedFor next) := rfl

theorem syncLandEdge_goes {s : State} {rising : Bool} {t : Nat} : Goes (.syncLandEdge rising t) s
    (if (s.dev.at t).crownUp && decide ((s.dev.at t).rd Reg.SY_LAND_MODE = 0) &&
        (decide ((s.dev.at t).rd Reg.FE_LAND_SYNC_EDGE = 2) || (decide ((s.dev.at t).rd Reg.FE_LAND_SYNC_EDGE = 0) == rising)) then
      (s.dev.at t).syncGroups ((s.dev.at t).rd Reg.FE_LAND_SYNC_MASK) 2 t
    else s.dev.at t) := rfl

/-- Settles O41: what is fixed depends on the swap that is due and the next boundary; what a cycle holds is read off the start. -/
theorem cyclesAreFixed : Obligations.CyclesAreFixed := by
  unfold Obligations.CyclesAreFixed
  constructor
  · intro s t d
    refine ⟨fun hm hf hw => ?_, fun h => ?_, fun rising hup hmode h => ?_, fun rising hmode => ?_⟩
    · intro T stop next e swap f
      have hopen : ¬ (!d.cyclesMayRun || d.seq.fixed) = true := by
        rw [show d.cyclesMayRun = true from hm, show d.seq.fixed = false from hf]
        decide
      have hT : d.wantedNs ≠ 0 := hw
      have hnext : (if d.wantedNs = 0 then d.cycleStop else multipleAt d.wantedNs d.cycleStop) = next := if_neg hT
      refine ⟨fun h => cycleFix_goes.of_eq ((if_neg hopen).trans ?_), fun h hr => cycleFix_goes.of_eq ((if_neg hopen).trans ?_),
        fun h => issueAhead_nil h, fun h h1 => swapDue_pending h h1, fun h h1 h2 => swapDue_later h h1 h2, fun h h1 => swapDue_none h h1⟩
      · rw [hnext]
        exact if_pos ⟨hT, h⟩
      · rw [hnext]
        exact if_neg (fun g => g.2.elim h fun g => absurd (hr.symm.trans g) (by decide))
    · refine cycleFix_goes.of_eq (if_pos ?_)
      rcases h with h | h
      · rw [show (s.dev.at t).cyclesMayRun = false from h]
        rfl
      · rw [show (s.dev.at t).seq.fixed = true from h, Bool.or_true]
    · refine syncLandEdge_goes.of_eq (if_pos ?_)
      have hsel : (s.dev.rd Reg.FE_LAND_SYNC_EDGE = 2 || decide (s.dev.rd Reg.FE_LAND_SYNC_EDGE = 0) == rising) = true := by
        rcases h with h | ⟨h, rfl⟩ | ⟨h, rfl⟩ <;> simp [h]
      rw [show (s.dev.at t).crownUp = true from hup, show (s.dev.at t).rd Reg.SY_LAND_MODE = 0 from hmode]
      exact hsel
    · refine syncLandEdge_goes.of_eq (if_neg ?_)
      rw [show decide ((s.dev.at t).rd Reg.SY_LAND_MODE = 0) = false from decide_eq_false hmode]
      simp
  · intro d t hm hf hn T lock e
    by_cases ht : t % T = 0
    · obtain ⟨x, hx, he⟩ := startCycle_multiple hm hf hn ht
      change e = _ at he
      have hrd : ∀ k, ¬ logKey k → k ≠ Reg.SQ_SWAP_STATE → k / 256 < 0x6000 → e.rd k = (d.cycleSet t).rd k := by
        intro k h1 h2 h3
        rw [show e.rd k = x.rd k by rw [he]; rfl, hx]
        cases d.seq.nextSwap && d.rd Reg.SQ_SWAP_STATE = 1
        · rfl
        · exact exchange_rd_out _ t h1 h2 h3
      have hkeep : x.seq.ahead = d.seq.ahead ∧ x.seq.fixed = d.seq.fixed := by
        rw [hx]
        cases d.seq.nextSwap && d.rd Reg.SQ_SWAP_STATE = 1
        · exact cycleSet_ahead d t
        · exact ⟨(exchange_ahead _ t).1.trans (cycleSet_ahead d t).1, (exchange_ahead _ t).2.trans (cycleSet_ahead d t).2⟩
      refine ⟨(hrd _ not_logKey_lock (by decide) (by decide)).trans (cycleSet_lock d t),
        (hrd _ not_logKey_cycleNs (by decide) (by decide)).trans (cycleSet_cycleNs d t), fun _ => ⟨?_, ?_, ?_, ?_, ?_, ?_, fun hs => ?_⟩,
        fun h => absurd ht h⟩
      · exact (hrd _ not_logKey_cycleIndex (by decide) (by decide)).trans (cycleSet_cycleIndex d t)
      · rw [he]; rfl
      · rw [he]; rfl
      · rw [he]; rfl
      · rw [he]; rfl
      · rw [he, ← hkeep.1]
        exact if_pos (hkeep.2.trans hf)
      · have hx' : x = d.cycleSet t := by rw [hx, hs]; rfl
        rw [he, hx', ← cycleSet_waitIndex d t]
        refine ⟨rfl, fun i hi => cycleSet_step d t ?_⟩
        have h : 0x600000 ≤ (0x6000 + i) * 256 + 1 ∧ (0x6000 + i) * 256 + 1 < 0x680000 := by clear hrd hkeep; omega
        exact h
    · have he : e = _ := startCycle_between hm hf hn ht
      rw [he]
      exact ⟨setLock_lock d _ _, setLock_cycleNs d _ _, fun h => absurd h ht, fun _ => ⟨rfl, setLock_rd d _ _ not_logKey_cycleIndex (by decide) (by decide)⟩⟩

end Sys2Proof.Machine
end

/-! A served WRITE outside a transaction, by the way it is carried out (R28, R52, R258, R268, R272). -/
section
namespace Sys2Proof.Machine

/-- What a WRITE outside a transaction does once checks 5 to 13 have passed: q the request, v its value, x its entry. -/
def Dev.outside (d : Dev) (w : Worn) (q : Request) (v : Nat) (x : Entry) : Dev × Answer :=
  if q.ix = 0x0220 ∧ q.sub = 1 then d.txOpenNow q.id
  else if q.ix = 0x0220 ∧ q.sub = 2 then (d, d.fromJournal v)
  else if q.ix = 0x0220 ∧ q.sub = 3 then d.txAbortNow q.id v
  else if q.ix = 0x0230 ∧ q.sub = 1 then d.unlock q.id v
  else if q.ix = 0x0230 ∧ q.sub = 2 then (d.modReq q.id fun r => { r with service := false }, {})
  else if x.key = Reg.BR_RELEASE then d.stageCommand w x
  else if actsAtOnce q.ix q.sub then d.direct w x
  else if isHandleIx q.ix && q.sub = 0x1E && measuring (d.kind (slotOf q.ix)) then d.acceptUrgent q x
  else if d.isDeferred q.ix q.sub true then d.accept { q := q, e := x }
  else if d.isStagedCommand q.ix q.sub then d.stageCommand w x
  else if (d.info q.ix q.sub).map (·.persist) = some .kept then d.implicitTxn w x
  else d.direct w x

theorem writeValue_outside {d : Dev} {w : Worn} {q : Request} {len v : Nat} (ho : d.openTxn q.id = none)
    (ha : d.writeAccess (d.serviceOf q.id) false q.ix q.sub q.hnd len v = OK) : d.writeValue w q len v =
      d.outside w q v { id := q.id, seq := q.seq, ix := q.ix, sub := q.sub, hnd := q.hnd, val := d.masked q.ix q.sub v, len := len,
                        cyc := d.rd Reg.SQ_CYCLE_INDEX } := by
  unfold Dev.writeValue Dev.outside
  simp only [ho, Option.isSome_none, ha]
  rfl

section
variable {c : Instr} {s : State} {q : Request} {a : Answer} {x D : Dev}

/-- A served WRITE of a whole value that is not turned away for a full table: what its effect on the arrived device says, the command does;
a BUSY answer counts. -/
theorem obeys_write_counted (hc : exec c s = s.ask q) (hs : s.dev.serves q.id q.seq) (hm : malformed q = none) (hop : q.op = OP_WRITE)
    (htot : q.total = 0) (hw : (s.dev.arrived q).writeValue s.worn q q.len (q.data % 2 ^ (8 * q.len)) = (x, a))
    (ha : a.status = BUSY → a.detail ≠ 1 ∧ a.detail ≠ 2) (hx : (x.when (a.status = BUSY) (·.bump 32 Reg.OPS_BUSY_COUNT)).aside = D.aside)
    (hreq : x.reqs = (s.dev.arrived q).reqs) (hnow : x.now = q.t) (hep : x.rd Reg.DR_EPOCH = s.dev.rd Reg.DR_EPOCH) :
    Obeys c s q a D := by
  have hmode : (s.dev.arrived q).mode ≠ INIT := by
    obtain ⟨rs, he⟩ := arrived_eq s.dev q
    rw [he]
    exact hs.2.2.1
  have hcarry : (s.dev.listed q).carryOut ⟨s.ps, s.worn⟩ q = (x, a) := by
    show (if _ then _ else if ((s.dev.arrived q).mode = INIT && _) = true then _ else _) = _
    rw [if_neg (by rw [hop]; decide), if_neg (by simp [hmode]), if_neg (by rw [hop]; decide), if_pos htot]
    exact hw
  have hrun : (s.dev.at q.t).request ⟨s.ps, s.worn⟩ q = (x.reply q a).hold q := by
    have hans : (s.dev.listed q).answered ⟨s.ps, s.worn⟩ q = (x.reply q a, a) := by
      rw [Dev.answered, hcarry]
      exact if_neg fun h => (ha h.1).1 h.2
    rw [request_new s.dev _ q hs hm (by rw [hop]; decide), Dev.runNew, hans]
    exact if_neg fun h => h.2.elim (ha h.1).1 (ha h.1).2
  have hreply : (x.reply q a).reqs = (s.dev.arrived q).reqs ∧ (x.reply q a).now = q.t ∧ (x.reply q a).aside = D.aside := by
    rw [← hx]
    unfold Dev.reply
    cases decide (a.status = BUSY)
    · exact ⟨hreq, hnow, rfl⟩
    · exact ⟨hreq, hnow, rfl⟩
  obtain ⟨hreqs, hnow', haside⟩ := hreply
  have hfind : ∀ j, (x.reply q a).requester j = (s.dev.arrived q).requester j := fun j => by rw [Dev.requester, hreqs]; rfl
  refine ⟨{ s with dev := (x.reply q a).hold q }, ?_, ⟨rfl, rfl, rfl⟩, ⟨hnow', ?_, ?_, fun id hid => ?_⟩, haside⟩
  · rw [hc, State.ask, State.run, hrun]
  · show x.respond q a = _
    rw [Dev.respond, hep]
    rfl
  · obtain ⟨r, hr, hl, _⟩ := arrived_requester s.dev q
    rw [hold_eq, requester_modReq_self _ _ (Requester.kept q _) fun _ => rfl, hfind, hr]
    exact ⟨_, rfl, kept_mem _ _ _, hl⟩
  · rw [hold_eq, requester_modReq_other _ _ (Requester.kept q _) (fun _ => rfl) id hid, hfind, arrived_other s.dev q id hid]

/-- A WRITE turned away for a full table of operations is answered, counted, and neither held nor of any effect (R29). -/
theorem turnsAway_write (hc : exec c s = s.ask q) (hs : s.dev.serves q.id q.seq) (hm : malformed q = none) (hop : q.op = OP_WRITE)
    (htot : q.total = 0) (hw : ((s.dev.arrived q).writeValue s.worn q q.len (q.data % 2 ^ (8 * q.len))).2 = { status := BUSY, detail := 1 }) :
    ∃ t, exec c s = .next t ∧ Rest s t ∧ t.dev.resp = s.dev.respond q { status := BUSY, detail := 1 } ∧
      t.dev.aside = (s.dev.bump 32 Reg.OPS_BUSY_COUNT).aside := by
  have hmode : (s.dev.arrived q).mode ≠ INIT := by
    obtain ⟨rs, he⟩ := arrived_eq s.dev q
    rw [he]
    exact hs.2.2.1
  have hcarry : ((s.dev.listed q).carryOut ⟨s.ps, s.worn⟩ q).2 = { status := BUSY, detail := 1 } := by
    show (if _ then _ else if ((s.dev.arrived q).mode = INIT && _) = true then _ else _ : Dev × Answer).2 = _
    rw [if_neg (by rw [hop]; decide), if_neg (by simp [hmode]), if_neg (by rw [hop]; decide), if_pos htot]
    exact hw
  have hrun : (s.dev.at q.t).request ⟨s.ps, s.worn⟩ q = (s.dev.listed q).reply q { status := BUSY, detail := 1 } := by
    have hans : (s.dev.listed q).answered ⟨s.ps, s.worn⟩ q =
        ((s.dev.listed q).reply q { status := BUSY, detail := 1 }, { status := BUSY, detail := 1 }) := by
      rw [Dev.answered, hcarry]
      exact if_pos ⟨rfl, rfl⟩
    rw [request_new s.dev _ q hs hm (by rw [hop]; decide), Dev.runNew, hans]
    exact if_pos ⟨rfl, .inl rfl⟩
  have hbump : ∃ rs, s.dev.listed q = s.dev.booked q.t {} rs (s.dev.used q).txns := by
    rcases listed_cases s.dev q with h | h <;> exact ⟨_, h⟩
  obtain ⟨rs, hl⟩ := hbump
  refine ⟨{ s with dev := (s.dev.listed q).reply q { status := BUSY, detail := 1 } }, ?_, ⟨rfl, rfl, rfl⟩, ?_, ?_⟩
  · rw [hc, State.ask, State.run, hrun]
  · rw [hl]
    rfl
  · rw [hl]
    exact booked_aside s.dev (s.dev.bump 32 Reg.OPS_BUSY_COUNT) q q.t _ rs rfl

end

/-! Permitted WRITEs. -/

/-- The request of a command that stands for a WRITE is one. -/
theorem writeOf_op {c : Instr} {q : Request} (h : writeOf c = some q) : q.op = OP_WRITE := by
  unfold writeOf at h
  split at h
  all_goals cases h
  all_goals rfl

section
variable {d : Dev} {t : Nat} {p : Resp} {rs : List Requester} {xs : List Txn}

/-- What the checks before a write's own conditions read is no bookkeeping of the engine. -/
theorem booked_writeAccess (so op : Bool) (ix sub hnd len v : Nat) :
    (d.booked t p rs xs).writeAccess so op ix sub hnd len v = d.writeAccess so op ix sub hnd len v := rfl

theorem booked_masked (ix sub v : Nat) : (d.booked t p rs xs).masked ix sub v = d.masked ix sub v := rfl

theorem booked_isDeferred (ix sub : Nat) (b : Bool) : (d.booked t p rs xs).isDeferred ix sub b = d.isDeferred ix sub b := rfl

theorem booked_isStagedCommand (ix sub : Nat) : (d.booked t p rs xs).isStagedCommand ix sub = d.isStagedCommand ix sub := rfl

theorem booked_namesPresent (x : Entry) : (d.booked t p rs xs).namesPresent x = d.namesPresent x := rfl

end

/-- A command that is a permitted WRITE of a whole value of at most 16 bytes. -/
structure Permitted (c : Instr) (s : State) (q : Request) : Prop where
  ask : exec c s = s.ask q
  permits : s.dev.permits q
  whole : malformed q = none
  op : q.op = OP_WRITE
  total : q.total = 0

theorem Permitted.of_writeReq {c : Instr} {s : State} {r : Req} {key hnd len v : Nat} (hc : writeOf c = some (writeReq r key hnd len v))
    (hlen : len ≤ 16) (hp : s.dev.permits (writeReq r key hnd len v)) : Permitted c s (writeReq r key hnd len v) :=
  ⟨exec_writeOf s c _ hc, hp, malformed_writeReq r key hnd len v hp.1.2.2.2.1 hlen, rfl, rfl⟩

namespace Permitted

variable {c : Instr} {s : State} {q : Request} {a : Answer} {x D : Dev} (hp : Permitted c s q)
include hp

/-- It is carried out on the arrived device, as its object and its value say. -/
theorem writeValue : (s.dev.arrived q).writeValue s.worn q q.len (q.data % 2 ^ (8 * q.len)) =
    (s.dev.arrived q).outside s.worn q q.data (s.dev.entryOf q) := by
  obtain ⟨hs, hopen, hv, hacc⟩ := hp.permits
  obtain ⟨rs, he⟩ := arrived_booked s.dev q
  rw [Nat.mod_eq_of_lt hv, writeValue_outside (arrived_openTxn _ _ hopen) (by
    rw [arrived_service, he, booked_writeAccess]
    exact hacc)]
  rw [he]
  rfl

/-- Where it is not turned away, what its way of being carried out says, the command does. -/
theorem obeys (hw : (s.dev.arrived q).outside s.worn q q.data (s.dev.entryOf q) = (x, a)) (ha : a.status = BUSY → a.detail ≠ 1 ∧ a.detail ≠ 2)
    (hx : (x.when (a.status = BUSY) (·.bump 32 Reg.OPS_BUSY_COUNT)).aside = D.aside) (hreq : x.reqs = (s.dev.arrived q).reqs)
    (hnow : x.now = q.t) (hep : x.rd Reg.DR_EPOCH = s.dev.rd Reg.DR_EPOCH) : Obeys c s q a D :=
  obeys_write_counted hp.ask hp.permits.1 hp.whole hp.op hp.total (hp.writeValue.trans hw) ha hx hreq hnow hep

/-- An effect that the engine's bookkeeping goes through untouched. -/
theorem obeys_booked (htxns : D.txns = s.dev.txns) (hep : D.rd Reg.DR_EPOCH = s.dev.rd Reg.DR_EPOCH) (ha : a.status ≠ BUSY)
    (hw : ∀ rs xs, (s.dev.booked q.t {} rs xs).outside s.worn q q.data (s.dev.entryOf q) = (D.booked q.t {} rs xs, a)) : Obeys c s q a D := by
  obtain ⟨rs, he⟩ := arrived_booked s.dev q
  refine hp.obeys (x := D.booked q.t {} rs (s.dev.used q).txns) (by rw [he]; exact hw rs _) (fun h => absurd h ha) ?_ (by rw [he]; rfl) rfl hep
  rw [decide_eq_false ha]
  exact booked_aside s.dev D q q.t {} rs htxns

/-- A refusal leaves the bookkeeping alone; BUSY counts. -/
theorem refused (st : Nat) (hw : ∀ rs xs, (s.dev.booked q.t {} rs xs).outside s.worn q q.data (s.dev.entryOf q) =
    (s.dev.booked q.t {} rs xs, { status := st })) :
    Obeys c s q { status := st } (s.dev.when (st = BUSY) (·.bump 32 Reg.OPS_BUSY_COUNT)) := by
  obtain ⟨rs, he⟩ := arrived_booked s.dev q
  refine hp.obeys (x := s.dev.booked q.t {} rs (s.dev.used q).txns) (by rw [he]; exact hw rs _)
    (fun _ => ⟨(by decide : (0 : Nat) ≠ 1), (by decide : (0 : Nat) ≠ 2)⟩) ?_ (by rw [he]) rfl rfl
  dsimp only
  cases decide (st = BUSY)
  · exact booked_aside s.dev s.dev q q.t {} rs rfl
  · exact booked_aside s.dev (s.dev.bump 32 Reg.OPS_BUSY_COUNT) q q.t {} rs rfl

/-! Staged commands (R52). -/

section
variable {st : Nat}
  (hw : ∀ rs xs, (s.dev.booked q.t {} rs xs).outside s.worn q q.data (s.dev.entryOf q) =
    (s.dev.booked q.t {} rs xs).stageCommand s.worn (s.dev.entryOf q))
  (hst : ∀ rs xs, (s.dev.booked q.t {} rs xs).entryCheck s.worn (s.dev.entryOf q) = st)
include hw hst

theorem stages (h : st = OK) (hn : s.dev.namesPresent (s.dev.entryOf q) = false) :
    Obeys c s q {} { s.dev with staged := s.dev.staged ++ [s.dev.entryOf q] } :=
  hp.obeys_booked (D := { s.dev with staged := s.dev.staged ++ [s.dev.entryOf q] }) rfl rfl (by decide) fun rs xs => by
    rw [hw, Dev.stageCommand, hst, h, booked_namesPresent, hn]
    rfl

/-- A command whose target is the present state leaves nothing (R50, R54). -/
theorem stages_nothing (h : st = OK) (hn : s.dev.namesPresent (s.dev.entryOf q) = true) : Obeys c s q {} s.dev :=
  hp.obeys_booked rfl rfl (by decide) fun rs xs => by
    rw [hw, Dev.stageCommand, hst, h, booked_namesPresent, hn]
    rfl

theorem stage_refused (h : st ≠ OK) : Obeys c s q { status := st } (s.dev.when (st = BUSY) (·.bump 32 Reg.OPS_BUSY_COUNT)) :=
  hp.refused st fun rs xs => by
    rw [hw, Dev.stageCommand, hst]
    exact if_pos h

end

end Permitted

end Sys2Proof.Machine
end

/-! Staged handle and module commands as requests (R50, R52, R54). -/
section
namespace Sys2Proof.Machine

/-- A WRITE of a staged command that no earlier way takes is staged. -/
theorem outside_staged {d : Dev} {w : Worn} {q : Request} {v : Nat} {x : Entry} (h0 : q.ix ≠ 0x0220 ∧ q.ix ≠ 0x0230)
    (h1 : actsAtOnce q.ix q.sub = false) (h2 : q.sub ≠ 0x1E) (h3 : d.isDeferred q.ix q.sub true = false)
    (h4 : d.isStagedCommand q.ix q.sub = true) : d.outside w q v x = d.stageCommand w x := by
  simp only [Dev.outside, h0, h1, h2, h3, h4]
  simp

/-- A write that passes its checks names a live handle of the object's slot. -/
theorem writeAccess_live {d : Dev} {so op : Bool} {ix sub hnd len v : Nat} (hh : isHandleIx ix = true)
    (h : d.writeAccess so op ix sub hnd len v = OK) : d.isLive hnd = true ∧ slotOf ix = hnd % 128 := by
  by_contra hc
  have hstale : (isHandleIx ix && (!d.isLive hnd || slotOf ix ≠ hnd % 128)) = true := by
    rw [hh]
    simp only [not_and_or, Bool.not_eq_true] at hc
    rcases hc with hc | hc <;> simp [hc]
  unfold Dev.writeAccess at h
  split at h
  · exact absurd h (by decide)
  · split at h
    · exact absurd h (by decide)
    · dsimp only at h
      split at h
      · exact absurd h (by decide)
      · split at h
        · exact absurd h (by decide)
        · exact absurd h (by decide)

/-- No bit of a command number is reserved. -/
theorem masked_small {d : Dev} {ix sub v : Nat} (h : d.writeMask ix sub = 2 ^ 2048 - 1) (hv : v < 2 ^ 64) : d.masked ix sub v = v := by
  rw [Dev.masked, h]
  exact and_mask_of_lt hv (by decide)

/-! Handle commands. -/

theorem slotOf_handle (k : Nat) : slotOf (0x2000 + 0x40 * k) = k := by
  rw [slotOf, Nat.add_sub_cancel_left, Nat.mul_div_cancel_left k (by decide)]

theorem isHandleIx_handle {k : Nat} (hk : k < 128) : isHandleIx (0x2000 + 0x40 * k) = true := by
  simp only [isHandleIx, Bool.and_eq_true, decide_eq_true_eq]
  omega

theorem handleCmd_key (k : Nat) : Reg.HND_CMD k / 256 = 0x2000 + 0x40 * k ∧ Reg.HND_CMD k % 256 = 4 := by
  show ((0x2000 + 0x40 * k) * 256 + 4) / 256 = _ ∧ ((0x2000 + 0x40 * k) * 256 + 4) % 256 = _
  omega

section
variable {d : Dev} {k : Nat} (hk : k < 128)
include hk

theorem writeMask_handleCmd : d.writeMask (0x2000 + 0x40 * k) 4 = 2 ^ 2048 - 1 := by
  rw [Dev.writeMask, if_pos (isHandleIx_handle hk), if_neg (by simp), if_neg (by simp)]

theorem entryCheck_handleCmd {w : Worn} {x : Entry} (hix : x.ix = 0x2000 + 0x40 * k) (hsub : x.sub = 4) (hl : d.isLive x.hnd = true)
    (hh : x.hnd % 128 = k) : d.entryCheck w x = d.handleCheck k x.val := by
  rw [Dev.entryCheck]
  simp [hix, isHandleIx_handle hk, hl, hh, slotOf_handle, hsub, Dev.handleObjCheck]

theorem namesPresent_handleCmd {x : Entry} (hix : x.ix = 0x2000 + 0x40 * k) (hsub : x.sub = 4) : d.namesPresent x = true ↔
    (x.val = 1 ∧ d.hst k = ARMED) ∨ (x.val = 2 ∧ d.hst k = RUNNING) ∨ (x.val = 3 ∧ d.hst k = STOPPED) ∨ (x.val = 4 ∧ d.hst k = HSAFE) := by
  rw [Dev.namesPresent, hix, if_pos (isHandleIx_handle hk)]
  simp [hsub, slotOf_handle, or_assoc]

end

/-! Where a handle command is admitted. -/

theorem ite_ok_range {p : Prop} [Decidable p] : (if p then OK else RANGE) = OK ↔ p := by
  by_cases h : p <;> simp [h]

theorem handleCheck_arm (d : Dev) (k : Nat) : d.handleCheck k 1 = OK ↔ d.hst k = ARMED ∨ (d.hst k = CREATED ∧ d.armFits k = true ∧
    (measuring (d.kind k) = true → d.fits (d.unitOf k) (d.cfg (d.unitOf k) (d.active (d.unitOf k))).load = true)) := by
  simp only [Dev.handleCheck]
  by_cases h1 : d.hst k = ARMED
  · simp [h1]
  by_cases h2 : d.hst k = CREATED
  · cases h3 : d.armFits k <;> cases h4 : measuring (d.kind k) <;>
      cases h5 : d.fits (d.unitOf k) (d.cfg (d.unitOf k) (d.active (d.unitOf k))).load <;> simp [h2]
  · simp [h1, h2]

theorem handleCheck_resume (d : Dev) (k : Nat) : d.handleCheck k 5 = OK ↔
    d.hst k = HSAFE ∧ d.rd (Reg.HND_SAFE_CAUSE k) &&& 0x1D = 0 ∧ d.anyPersists k = false := by
  simp only [Dev.handleCheck]
  by_cases h1 : d.hst k = HSAFE
  · by_cases h2 : d.rd (Reg.HND_SAFE_CAUSE k) &&& 0x1D = 0 <;> cases h3 : d.anyPersists k <;> simp [h1, h2]
  · simp [h1]

theorem handleCheck_clear (d : Dev) (k : Nat) : d.handleCheck k 6 = OK ↔
    d.hst k = LATCHED ∧ (d.chan (d.chanOf k)).state ≠ swSTUCK_ON ∧ d.hears (d.chanOf k / 4) = true := by
  simp only [Dev.handleCheck]
  by_cases h1 : d.hst k = LATCHED
  · by_cases h2 : (d.chan (d.chanOf k)).state = swSTUCK_ON <;> cases h3 : d.hears (d.chanOf k / 4) <;> simp [h1, h2]
  · simp [h1]

/-- Settles O11: a permitted handle command is staged by its own check, and each check is a table of the handle's states. -/
theorem handleCommandsAreStaged : Obligations.HandleCommandsAreStaged := by
  unfold Obligations.HandleCommandsAreStaged
  refine ⟨fun s r h v c hc => ?_, fun d k => ⟨handleCheck_arm d k, ite_ok_range, ite_ok_range, ?_, handleCheck_resume d k, handleCheck_clear d k⟩⟩
  · intro q st hperm k present
    have hk : k < 128 := Nat.mod_lt _ (by decide)
    obtain ⟨hix, hsub⟩ := handleCmd_key k
    have hv : v < 2 ^ 64 ∧ writeOf c = some q := by
      simp only [List.mem_cons, Prod.mk.injEq, List.not_mem_nil, or_false] at hc
      rcases hc with ⟨rfl, rfl⟩ | ⟨rfl, rfl⟩ | ⟨rfl, rfl⟩ | ⟨rfl, rfl⟩ | ⟨rfl, rfl⟩ | ⟨rfl, rfl⟩ <;> exact ⟨by decide, rfl⟩
    obtain ⟨hv, hw⟩ := hv
    have hp := Permitted.of_writeReq hw (by decide) hperm
    have hqix : q.ix = 0x2000 + 0x40 * k := hix
    have hqsub : q.sub = 4 := hsub
    have hacc := hperm.2.2.2
    obtain ⟨hlive, -⟩ := writeAccess_live (by rw [hqix]; exact isHandleIx_handle hk) hacc
    have hval : (s.dev.entryOf q).val = v := masked_small (by rw [hqix, hqsub]; exact writeMask_handleCmd hk) hv
    have hout : ∀ rs xs, (s.dev.booked q.t {} rs xs).outside s.worn q q.data (s.dev.entryOf q) =
        (s.dev.booked q.t {} rs xs).stageCommand s.worn (s.dev.entryOf q) := fun rs xs => by
      have hh := isHandleIx_handle hk
      refine outside_staged ?_ ?_ ?_ ?_ ?_
      · rw [hqix]; omega
      · rw [hqix, hqsub]; simp [actsAtOnce]; omega
      · rw [hqsub]; decide
      · rw [hqix, hqsub]; simp [Dev.isDeferred]; omega
      · rw [hqix, hqsub]; simp [Dev.isStagedCommand, hh]
    have hst : ∀ rs xs, (s.dev.booked q.t {} rs xs).entryCheck s.worn (s.dev.entryOf q) = st := fun rs xs =>
      (entryCheck_handleCmd hk hqix hqsub hlive rfl).trans (by rw [hval]; rfl)
    have hpres : s.dev.namesPresent (s.dev.entryOf q) = true ↔ present := by
      rw [namesPresent_handleCmd hk hqix hqsub, hval]
    refine ⟨fun h hn => hp.stages_nothing hout hst h (hpres.2 hn), fun h hn => hp.stages hout hst h ?_, fun h => ?_, fun h => ?_⟩
    · exact Bool.eq_false_iff.2 fun e => hn (hpres.1 e)
    · have := hp.stage_refused hout hst (by rw [h]; decide)
      rw [h] at this
      exact this
    · have := hp.stage_refused hout hst (by rw [h]; decide)
      rw [h] at this
      exact this
  · exact ite_ok_range.trans (by simp [or_assoc])

end Sys2Proof.Machine
end

/-! Module commands, staged objects, judged and deferred requests (R28, R52, R54, R258 to R268). -/
section
namespace Sys2Proof.Machine

/-! A WRITE that a check before its own conditions refuses (checks 5 to 13 of R258). -/

theorem tyCheck_ne_busy (ty : Ty) (len v : Nat) : ty.check len v ≠ BUSY := by
  unfold Ty.check
  split
  · split
    · decide
    · split <;> decide
  · split
    · decide
    · split <;> decide
  · split
    · decide
    · split <;> decide
  · split <;> decide
  · split <;> decide

theorem writeAccess_ne_busy (d : Dev) (so op : Bool) (ix sub hnd len v : Nat) : d.writeAccess so op ix sub hnd len v ≠ BUSY := by
  unfold Dev.writeAccess
  split
  · decide
  · split
    · decide
    · next r _ =>
      have hty := tyCheck_ne_busy r.ty len v
      dsimp only
      split
      · decide
      · split
        · decide
        · split
          · decide
          · split
            · exact hty
            · split
              · decide
              · split
                · decide
                · split <;> decide

/-- The refusing check answers, and nothing else happens. -/
theorem obeys_checked {c : Instr} {s : State} {q : Request} (hc : exec c s = s.ask q) (hs : s.dev.serves q.id q.seq)
    (hm : malformed q = none) (hop : q.op = OP_WRITE) (htot : q.total = 0) (ho : s.dev.openTxn q.id = none)
    (hst : s.dev.writeAccess (s.dev.serviceOf q.id) false q.ix q.sub q.hnd q.len (q.data % 2 ^ (8 * q.len)) ≠ OK) :
    Obeys c s q { status := s.dev.writeAccess (s.dev.serviceOf q.id) false q.ix q.sub q.hnd q.len (q.data % 2 ^ (8 * q.len)) } s.dev := by
  obtain ⟨rs, he⟩ := arrived_booked s.dev q
  have hw : (s.dev.arrived q).writeValue s.worn q q.len (q.data % 2 ^ (8 * q.len)) = (s.dev.arrived q,
      { status := s.dev.writeAccess (s.dev.serviceOf q.id) false q.ix q.sub q.hnd q.len (q.data % 2 ^ (8 * q.len)) }) := by
    have hacc : (s.dev.arrived q).writeAccess ((s.dev.arrived q).serviceOf q.id) false q.ix q.sub q.hnd q.len (q.data % 2 ^ (8 * q.len)) =
        s.dev.writeAccess (s.dev.serviceOf q.id) false q.ix q.sub q.hnd q.len (q.data % 2 ^ (8 * q.len)) := by
      rw [arrived_service, he, booked_writeAccess]
    rw [← hacc] at hst ⊢
    unfold Dev.writeValue
    simp only [arrived_openTxn _ _ ho, Option.isSome_none]
    exact if_pos hst
  refine obeys_write hc hs hm hop htot hw (writeAccess_ne_busy _ _ _ _ _ _ _ _) ?_ rfl ?_ ?_
  · rw [he]
    exact booked_aside s.dev s.dev q q.t {} rs rfl
  · rw [he]
    rfl
  · rw [he]
    rfl

/-! Module commands (R54). -/

theorem entryCheck_module {d : Dev} {w : Worn} {x : Entry} (hix : x.ix = 0x0200) : d.entryCheck w x = d.moduleCheck x.val := by
  simp [Dev.entryCheck, hix, isHandleIx]

/-- The checks before the module's own pass for every command, ENTER_SERVICE under privilege. -/
theorem writeAccess_module {d : Dev} {so : Bool} {v : Nat} (ha : d.atom = false) (h1 : 1 ≤ v) (h7 : v ≤ 7) (hs : v = 6 → so = true) :
    d.writeAccess so false 0x0200 2 0 1 v = OK := by
  have hinfo : d.info 0x0200 2 = some ⟨.u 1, .wo, 0, .vol, false, .span 1 7⟩ := rfl
  have hmask : d.masked 0x0200 2 v = v := masked_small rfl (by omega)
  have hplain : indexExists 0x0200 = true ∧ d.observerRefuses 0x0200 2 = false ∧ isHandleIx 0x0200 = false := ⟨rfl, rfl, rfl⟩
  have hsvc : (v = 6 ∧ so = false) = False := by
    simp only [eq_iff_iff, iff_false, not_and, Bool.not_eq_false]
    exact hs
  simp [Dev.writeAccess, hinfo, hplain, hmask, Dev.needsService, Dev.needsTxn, ha, Ty.check, Ty.size, Ty.value, Rng.holds, hsvc]
  omega

theorem writeAccess_service {d : Dev} : d.writeAccess false false 0x0200 2 0 1 6 = PRIVILEGE := by
  have hinfo : d.info 0x0200 2 = some ⟨.u 1, .wo, 0, .vol, false, .span 1 7⟩ := rfl
  have hplain : indexExists 0x0200 = true := rfl
  simp [Dev.writeAccess, hinfo, hplain, Dev.needsService]

theorem namesPresent_module {d : Dev} {x : Entry} (hix : x.ix = 0x0200) : d.namesPresent x = true ↔
    (x.val = 1 ∧ d.mode = PREOP) ∨ (x.val = 2 ∧ d.mode = OPERATE) ∨ (x.val = 3 ∧ d.mode = SAFE) ∨ (x.val = 5 ∧ d.mode = HOLD) ∨
      (x.val = 6 ∧ d.mode = SERVICE) := by
  rw [Dev.namesPresent, hix, if_neg (by decide)]
  simp [or_assoc]

/-! What a staged entry does at its boundary (R52). -/

section
variable {d : Dev} {w : Worn} {x : Entry}

theorem stagedCommand_acts (h : d.entryCheck w x = OK) : d.stagedCommand w x = d.applyEntry w x :=
  if_pos (.inr (.inr h))

theorem stagedCommand_dropped (hk : x.key ≠ Reg.BR_RELEASE) (hb : d.supervisionBank x = false) (hu : x.sub ≠ 0x1E)
    (h : d.entryCheck w x ≠ OK) : d.stagedCommand w x = d.bump 32 Reg.HM_CMD_DROPPED := by
  unfold Dev.stagedCommand
  rw [if_neg (by simp [hk, hb, h])]
  simp [hu]

theorem applyEntry_module (hix : x.ix = 0x0200) (hsub : x.sub = 2) : d.applyEntry w x = d.moduleDo x.val := by
  simp [Dev.applyEntry, Dev.systemWrite, hix, hsub, isHandleIx]

theorem stagedCommand_module (hix : x.ix = 0x0200) (hsub : x.sub = 2) (h : d.moduleCheck x.val = OK) :
    d.stagedCommand w x = d.moduleDo x.val :=
  (stagedCommand_acts ((entryCheck_module hix).trans h)).trans (applyEntry_module hix hsub)

end

/-- Settles O13: the requests by the way they are staged, the boundary by module state. -/
theorem moduleCommandsAct : Obligations.ModuleCommandsAct := by
  unfold Obligations.ModuleCommandsAct
  constructor
  · intro s r v c hc hs ho ha q
    have hv : 1 ≤ v ∧ v ≤ 7 ∧ writeOf c = some q := by
      simp only [List.mem_cons, Prod.mk.injEq, List.not_mem_nil, or_false] at hc
      rcases hc with ⟨rfl, rfl⟩ | ⟨rfl, rfl⟩ | ⟨rfl, rfl⟩ | ⟨rfl, rfl⟩ | ⟨rfl, rfl⟩ | ⟨rfl, rfl⟩ | ⟨rfl, rfl⟩ <;>
        exact ⟨by decide, by decide, rfl⟩
    obtain ⟨h1, h7, hw⟩ := hv
    have hsmall : v < 2 ^ (8 * 1) := by omega
    refine ⟨fun h6 hsvc => ?_, fun hsvc => ?_⟩
    · have hacc : s.dev.writeAccess (s.dev.serviceOf q.id) false q.ix q.sub q.hnd q.len (q.data % 2 ^ (8 * q.len)) = PRIVILEGE := by
        rw [show s.dev.serviceOf q.id = false from hsvc]
        subst h6
        exact writeAccess_service
      have := obeys_checked (exec_writeOf s c q hw) hs (malformed_writeReq r _ 0 1 v hs.2.2.2.1 (by decide)) rfl rfl ho (by rw [hacc]; decide)
      rw [hacc] at this
      exact this
    · intro m present
      have hperm : s.dev.permits q := ⟨hs, ho, hsmall, writeAccess_module ha h1 h7 hsvc⟩
      have hp := Permitted.of_writeReq hw (by decide) hperm
      have hval : (s.dev.entryOf q).val = v := masked_small rfl (show v < 2 ^ 64 by omega)
      have hout : ∀ rs xs, (s.dev.booked q.t {} rs xs).outside s.worn q q.data (s.dev.entryOf q) =
          (s.dev.booked q.t {} rs xs).stageCommand s.worn (s.dev.entryOf q) := fun rs xs =>
        outside_staged ⟨(by decide : (0x0200 : Nat) ≠ 0x0220), (by decide : (0x0200 : Nat) ≠ 0x0230)⟩ rfl (by decide : (2 : Nat) ≠ 0x1E) rfl rfl
      have hst : ∀ rs xs, (s.dev.booked q.t {} rs xs).entryCheck s.worn (s.dev.entryOf q) = s.dev.moduleCheck v := fun rs xs =>
        (entryCheck_module rfl).trans (by rw [hval]; rfl)
      have hpres : s.dev.namesPresent (s.dev.entryOf q) = true ↔ present := by
        rw [namesPresent_module rfl, hval]
      refine ⟨fun h hn => hp.stages_nothing hout hst h (hpres.2 hn), fun h hn => hp.stages hout hst h ?_, fun h => ?_, fun h => ?_⟩
      · exact Bool.eq_false_iff.2 fun e => hn (hpres.1 e)
      · have := hp.stage_refused hout hst (by rw [h]; decide)
        rw [h] at this
        exact this
      · have := hp.stage_refused hout hst (by rw [h]; decide)
        rw [h] at this
        exact this
  · intro d w x hix hsub
    have hact : ∀ {v}, x.val = v → d.moduleCheck v = OK → d.stagedCommand w x = d.moduleDo v := fun hv h => by
      subst hv
      exact stagedCommand_module hix hsub h
    refine ⟨fun h => ?_, fun hv h => ?_, fun hv h hc => ?_, fun hv h hc hs => ?_, fun hv h => ?_, fun hv h hp => ?_, fun hv h hp => ?_,
      fun hv h => ?_, fun hv h => ?_, fun hv h => ?_⟩
    · refine stagedCommand_dropped ?_ ?_ (by rw [hsub]; decide) (by rw [entryCheck_module hix]; exact h)
      · rw [Entry.key, hix, hsub]; decide
      · simp [Dev.supervisionBank, Entry.bankCmd, hix]
    · rw [hact hv (by rcases h with h | h <;> simp [Dev.moduleCheck, h])]
      rcases h with h | h <;> simp [Dev.moduleDo, h, Dev.pdwStop]
    · rw [hact hv (by rcases h with h | h <;> simp [Dev.moduleCheck, h, hc])]
      rcases h with h | h <;> simp [Dev.moduleDo, h]
    · rcases h with h | h <;> simp [Dev.moduleCheck, h, hc, hs]
    · rw [hact hv (by rcases h with h | h | h | h <;> simp [Dev.moduleCheck, h])]
      rcases h with h | h | h | h <;> simp [Dev.moduleDo, Dev.moduleSafe, h]
    · rw [hact hv (by simp [Dev.moduleCheck, h, hp])]
      simp [Dev.moduleDo, Dev.pdwStop]
    · simp [Dev.moduleCheck, h, hp]
    · rw [hact hv (by simp [Dev.moduleCheck, h])]
      simp [Dev.moduleDo, h]
    · rw [hact hv (by simp [Dev.moduleCheck, h])]
      simp [Dev.moduleDo]
    · rw [hact hv (by simp [Dev.moduleCheck, h])]
      simp [Dev.moduleDo]

end Sys2Proof.Machine
end

/-! Judged requests, staged objects and deferred rows (R28, R29, R52, R258, R264 to R268). -/
section
namespace Sys2Proof.Machine

/-! The engine's bookkeeping around a request that is not carried out. -/

/-- The table of requesters with the idle time of the asking one restarted. -/
def Dev.touchedReqs (d : Dev) (q : Request) : List Requester := d.reqs.map fun r => if r.id = q.id then { r with last := q.t } else r

theorem touched_booked (d : Dev) (q : Request) : (d.asked q).touch q.id = d.booked q.t {} (d.touchedReqs q) (d.used q).txns := rfl

theorem touchedReqs_untracked {d : Dev} {q : Request} (h : d.requester q.id = none) : d.touchedReqs q = d.reqs := by
  refine (List.map_congr_left fun r hr => if_neg ?_).trans (List.map_id _)
  simpa using List.find?_eq_none.1 h r hr

theorem reply_booked {d : Dev} {q : Request} {t : Nat} {p : Resp} {rs : List Requester} {xs : List Txn} {a : Answer} :
    (d.booked t p rs xs).reply q a = (d.when (a.status = BUSY) (·.bump 32 Reg.OPS_BUSY_COUNT)).booked t (d.respond q a) rs xs := by
  unfold Dev.reply Dev.when
  cases decide (a.status = BUSY) <;> rfl

theorem respond_bump {d : Dev} {w k : Nat} (q : Request) (a : Answer) (hk : Reg.DR_EPOCH ≠ k) :
    (d.bump w k).respond q a = d.respond q a := by
  unfold Dev.respond Dev.bump
  rw [Dev.wr_rd, if_neg hk]

theorem malformed_ne_busy {q : Request} {a : Answer} (h : malformed q = some a) : a.status ≠ BUSY := by
  unfold malformed at h
  split at h
  · cases h; decide
  · split at h
    · cases h; decide
    · split at h
      · cases h; decide
      · cases h

section
variable {c : Instr} {s : State} {q : Request}

/-- A WRITE that reaches the engine in RUN, after its checks 1 and 2. -/
theorem ask_wellFormed (hc : writeOf c = some q) (hup : s.dev.crownUp = true) (hrun : s.dev.rd Reg.PL_RUNG = 0) (hm : malformed q = none) :
    exec c s = .next { s with dev :=
      match ((s.dev.asked q).touch q.id).requester q.id with
      | some r => ((s.dev.asked q).touch q.id).tracked ⟨s.ps, s.worn⟩ q r
      | none =>
        if ((s.dev.asked q).touch q.id).reqs.length < 16 then (((s.dev.asked q).touch q.id).enroll q.id).runNew ⟨s.ps, s.worn⟩ q
        else match ((s.dev.asked q).touch q.id).evictable with
          | none => ((s.dev.asked q).touch q.id).reply q { status := BUSY, detail := 2 }
          | some id => ((((s.dev.asked q).touch q.id).evict id).enroll q.id).runNew ⟨s.ps, s.worn⟩ q } := by
  have hop := writeOf_op hc
  have hid : q.id ≠ 0 := fun h => by
    simp only [malformed, hop, OP_WRITE, h] at hm
    split at hm
    · cases hm
    · split at hm
      · cases hm
      · simp at hm
  rw [exec_writeOf s c q hc, State.ask, State.run, request_eq, if_neg (by simp [asked_crownUp, asked_rd, hup, hrun, hop, OP_WRITE])]
  simp only [hm]
  rw [if_neg hid] <;> rfl

/-- The answer of a record that fails checks 1 or 2. -/
theorem ask_malformed {a : Answer} (hc : writeOf c = some q) (hs : s.dev.serves q.id q.seq) (htot : q.total = 0) (hm : malformed q = some a) :
    exec c s = .next { s with dev := ((s.dev.asked q).touch q.id).reply q a } := by
  obtain ⟨hup, hrun, -⟩ := hs
  rw [exec_writeOf s c q hc, State.ask, State.run, request_eq,
    if_neg (by simp [asked_crownUp, asked_rd, hup, hrun, writeOf_op hc, OP_WRITE])]
  simp only [hm]
  rw [htot]
  simp [Dev.when]

/-- An answer that is not held leaves the rest as it was, but for its count. -/
theorem reply_touched (s : State) (q : Request) (a : Answer) : (((s.dev.asked q).touch q.id).reply q a).resp = s.dev.respond q a ∧
    (((s.dev.asked q).touch q.id).reply q a).aside = (s.dev.when (a.status = BUSY) (·.bump 32 Reg.OPS_BUSY_COUNT)).aside := by
  rw [touched_booked, reply_booked]
  refine ⟨rfl, booked_aside s.dev _ q q.t _ _ ?_⟩
  unfold Dev.when
  cases decide (a.status = BUSY) <;> rfl

/-- In INIT a new request is answered BUSY with DETAIL 5 (R53). -/
theorem runNew_init {d : Dev} {e : Env} (hop : q.op = OP_WRITE) (hmode : d.mode = INIT) (hin : inInit q.ix q.sub = false) :
    d.runNew e q = ((d.endTransfers q).reply q { status := BUSY, detail := 5 }).hold q := by
  have hcarry : d.carryOut e q = (d.endTransfers q, { status := BUSY, detail := 5 }) := by
    have hmode' : (d.endTransfers q).mode = INIT := hmode
    unfold Dev.carryOut
    rw [if_neg (by rw [hop]; decide), if_pos (by simp [hmode', hin])]
  rw [Dev.runNew, Dev.answered, hcarry]
  rfl

end

/-! The table of requesters (R264, R267). -/

theorem requester_eq_none {d : Dev} {id : Nat} : d.requester id = none ↔ ∀ r ∈ d.reqs, r.id ≠ id := by
  simp [Dev.requester, List.find?_eq_none]

theorem evictable_none {d : Dev} (h : ∀ r ∈ d.reqs, ∃ f ∈ d.deferred, f.q.id = r.id) : d.evictable = none := by
  have hnil : (d.reqs.filter fun r => d.deferred.all fun f => f.q.id ≠ r.id) = [] := by
    refine List.filter_eq_nil_iff.2 fun r hr => ?_
    simpa using h r hr
  rw [Dev.evictable, hnil]
  rfl

/-- The requester to evict is one of the table. -/
theorem evictable_mem {d : Dev} {j : Nat} (h : d.evictable = some j) : ∃ r ∈ d.reqs, r.id = j := by
  have key : ∀ (l : List Requester) (b : Option Requester) (r : Requester),
      l.foldl (fun best r => match best with
        | none => some r
        | some b => some (if r.last < b.last then r else b)) b = some r → r ∈ l ∨ b = some r := by
    intro l
    induction l with
    | nil => exact fun b r h => .inr h
    | cons x l ih =>
      intro b r h
      rcases ih _ r h with hl | hb
      · exact .inl (List.mem_cons_of_mem _ hl)
      · cases b with
        | none => cases hb; exact .inl (List.mem_cons_self ..)
        | some b =>
          dsimp only at hb
          split at hb
          · cases hb; exact .inl (List.mem_cons_self ..)
          · exact .inr hb
  obtain ⟨r, hr, rfl⟩ := Option.map_eq_some_iff.1 h
  rcases key _ _ r hr with hm | hm
  · exact ⟨r, (List.mem_filter.1 hm).1, rfl⟩
  · cases hm

/-- The table after an eviction for a new requester: the evicted one is gone, the new one is in. -/
theorem evict_enroll_requester {d : Dev} {j id : Nat} (hne : j ≠ id) : ((d.evict j).enroll id).requester j = none ∧
    (((d.evict j).enroll id).requester id).isSome = true := by
  refine ⟨?_, ?_⟩
  · refine requester_eq_none.2 fun r hr => ?_
    rcases List.mem_append.1 hr with h | h
    · simpa using (List.mem_filter.1 h).2
    · rw [List.mem_singleton.1 h]
      exact Ne.symm hne
  · rw [enroll_requester]
    simp

/-- Settles O16: check 1 or 2, checks 5 to 13, and the four ways of the table of requesters. -/
theorem requestsAreJudged : Obligations.RequestsAreJudged := by
  unfold Obligations.RequestsAreJudged
  refine ⟨fun s c q hc hs htot => ⟨fun a hm => ?_, fun hm ho => ?_⟩, fun s c q hc hup hrun hm => ?_⟩
  · obtain ⟨hresp, haside⟩ := reply_touched s q a
    rw [decide_eq_false (malformed_ne_busy hm)] at haside
    exact ⟨_, ask_malformed hc hs htot hm, ⟨rfl, rfl, rfl⟩, hresp, haside⟩
  · exact obeys_checked (exec_writeOf s c q hc) hs hm (writeOf_op hc) htot ho
  · have hask := ask_wellFormed hc hup hrun hm
    rw [touch_requester] at hask
    refine ⟨fun r p hr hp => ?_, fun r n hr hp hn h1 h2 => ?_, fun hr hlen hdef => ?_, fun j hr hlen hj hmode hin _ => ?_⟩
    · rw [hr] at hask
      refine ⟨_, hask, ⟨rfl, rfl, rfl⟩, ?_⟩
      simp only [Option.map_some, Dev.tracked, hp]
      exact ⟨trivial, booked_aside s.dev (s.dev.bump 32 Reg.DR_REPEATS) q q.t p.2 (s.dev.touchedReqs q) rfl⟩
    · rw [hr] at hask
      refine ⟨_, hask, ⟨rfl, rfl, rfl⟩, ?_⟩
      simp only [Option.map_some, Dev.tracked, hp, hn, h1, h2, decide_true, Bool.and_self, if_true]
      have hb : ((s.dev.asked q).touch q.id).bump 32 Reg.DR_TOO_OLD =
          (s.dev.bump 32 Reg.DR_TOO_OLD).booked q.t {} (s.dev.touchedReqs q) (s.dev.used q).txns := rfl
      rw [hb, reply_booked]
      exact ⟨respond_bump q _ (by decide), booked_aside s.dev (s.dev.bump 32 Reg.DR_TOO_OLD) q q.t _ _ rfl⟩
    · rw [hr, touched_booked] at hask
      obtain ⟨hresp, haside⟩ := reply_touched s q { status := BUSY, detail := 2 }
      refine ⟨_, hask, ⟨rfl, rfl, rfl⟩, ?_⟩
      have hev : (s.dev.booked q.t {} (s.dev.touchedReqs q) (s.dev.used q).txns).evictable = none := by
        rw [touchedReqs_untracked hr]
        exact evictable_none hdef
      have hfull : ¬ (s.dev.booked q.t {} (s.dev.touchedReqs q) (s.dev.used q).txns).reqs.length < 16 := by
        rw [touchedReqs_untracked hr]
        exact Nat.not_lt.2 hlen
      simp only [Option.map_none, if_neg hfull, hev]
      exact ⟨hresp, haside⟩
    · rw [hr, touched_booked, touchedReqs_untracked hr] at hask
      have hfull : ¬ (s.dev.booked q.t {} s.dev.reqs (s.dev.used q).txns).reqs.length < 16 := Nat.not_lt.2 hlen
      have hev : (s.dev.booked q.t {} s.dev.reqs (s.dev.used q).txns).evictable = some j := hj
      simp only [Option.map_none, if_neg hfull, hev] at hask
      have hmode' : (((s.dev.booked q.t {} s.dev.reqs (s.dev.used q).txns).evict j).enroll q.id).mode = INIT :=
        (Dev.wr_rd s.dev _ _ _).trans ((if_neg (by decide)).trans hmode)
      rw [runNew_init (d := ((s.dev.booked q.t {} s.dev.reqs (s.dev.used q).txns).evict j).enroll q.id) (writeOf_op hc) hmode' hin] at hask
      obtain ⟨r, hmem, hrj⟩ := evictable_mem hj
      have hne : j ≠ q.id := fun e => requester_eq_none.1 hr r hmem (hrj.trans e)
      obtain ⟨hgone, hin'⟩ := evict_enroll_requester (d := s.dev.booked q.t {} s.dev.reqs (s.dev.used q).txns) hne
      refine ⟨_, hask, ⟨rfl, rfl, rfl⟩, ?_, ?_, ?_, ?_⟩
      · exact respond_bump (d := s.dev) q _ (by decide)
      · rw [hold_eq, requester_modReq_other _ _ (Requester.kept q _) (fun _ => rfl) j hne]
        show Dev.requester (Dev.endTransfers _ q) j = none
        rw [endTransfers_eq, requester_modReq_other _ _ (requestEnds q) (fun _ => rfl) j hne, hgone]
      · rw [hold_eq, requester_modReq_self _ _ (Requester.kept q _) (fun _ => rfl), Option.isSome_map]
        show (Dev.requester (Dev.endTransfers _ q) q.id).isSome = true
        rw [endTransfers_eq, requester_modReq_self _ _ (requestEnds q) (fun _ => rfl), Option.isSome_map, hin']
      · exact booked_aside s.dev ((s.dev.bump 32 Reg.DR_EVICTIONS).bump 32 Reg.OPS_BUSY_COUNT) q q.t _ _ rfl

/-! Deferred rows (R28, R29, R268). -/

/-- A deferred write that no earlier way takes enters the operations table. -/
theorem outside_deferred {d : Dev} {w : Worn} {q : Request} {v : Nat} {x : Entry} (h0 : q.ix ≠ 0x0220) (h1 : actsAtOnce q.ix q.sub = false)
    (h2 : x.key ≠ Reg.BR_RELEASE) (h3 : isHandleIx q.ix = false) (h4 : d.isDeferred q.ix q.sub true = true) :
    d.outside w q v x = d.accept { q := q, e := x } := by
  have h5 : ¬ (q.ix = 0x0230 ∧ q.sub = 1) ∧ ¬ (q.ix = 0x0230 ∧ q.sub = 2) := by
    constructor <;> rintro ⟨hix, hsub⟩ <;> rw [hix, hsub] at h1 <;> exact absurd h1 (by decide)
  simp only [Dev.outside, h0, h1, h2, h3, h4, h5]
  simp

/-- No deferred object shares the key of BR_RELEASE. -/
theorem isDeferred_key {d : Dev} {ix sub : Nat} (hh : isHandleIx ix = false) (h : d.isDeferred ix sub true = true) :
    ix * 256 + sub ≠ Reg.BR_RELEASE := by
  show ix * 256 + sub ≠ 0x0420 * 256 + 0x0D
  simp only [Dev.isDeferred, hh, Bool.or_eq_true, Bool.and_eq_true, decide_eq_true_eq, Bool.true_and, Bool.false_and, Bool.false_eq_true,
    or_false] at h
  omega

section
variable {c : Instr} {s : State} {q : Request}

theorem Permitted.accepts (hp : Permitted c s q) (hw : ∀ rs xs, (s.dev.booked q.t {} rs xs).outside s.worn q q.data (s.dev.entryOf q) =
      (s.dev.booked q.t {} rs xs).accept { q := q, e := s.dev.entryOf q }) :
    (s.dev.opsInUse < 256 → Obeys c s q { status := DEFERRED }
      ({ s.dev with deferred := s.dev.deferred ++ [(⟨q, s.dev.entryOf q⟩ : Deferred)] }.wr Reg.OPS_PEAK
        (max (s.dev.rd Reg.OPS_PEAK) (s.dev.opsInUse + 1)))) ∧
    (256 ≤ s.dev.opsInUse → ∃ t, exec c s = .next t ∧ Rest s t ∧ t.dev.resp = s.dev.respond q { status := BUSY, detail := 1 } ∧
      t.dev.aside = (s.dev.bump 32 Reg.OPS_BUSY_COUNT).aside) := by
  have hfree : ∀ rs xs, (s.dev.booked q.t {} rs xs).opsFree = decide (s.dev.opsInUse < 256) := fun _ _ => rfl
  refine ⟨fun h => hp.obeys_booked ?_ ?_ (by decide) fun rs xs => ?_, fun h => turnsAway_write hp.ask hp.permits.1 hp.whole hp.op hp.total ?_⟩
  · rfl
  · rw [Dev.wr_rd, if_neg (by decide)]
    rfl
  · have huse : ({ s.dev.booked q.t {} rs xs with deferred := s.dev.deferred ++ [(⟨q, s.dev.entryOf q⟩ : Deferred)] } : Dev).opsInUse =
        s.dev.opsInUse + 1 := by
      show s.dev.ops + (s.dev.deferred ++ [_]).length + nat01 s.dev.graftStep = s.dev.ops + s.dev.deferred.length + nat01 s.dev.graftStep + 1
      rw [List.length_append]
      simp only [List.length_singleton]
      omega
    rw [hw, Dev.accept, hfree, decide_eq_true h]
    simp only [Bool.not_true, Bool.false_eq_true, if_false]
    exact Prod.ext (congrArg (fun n => Dev.wr _ Reg.OPS_PEAK (max (s.dev.rd Reg.OPS_PEAK) n)) huse) rfl
  · obtain ⟨rs, he⟩ := arrived_booked s.dev q
    rw [hp.writeValue, he, hw, Dev.accept, hfree, decide_eq_false (Nat.not_lt.2 h)]
    rfl

/-- The object of a deferred row: no handle's, and no earlier way of being carried out takes it. -/
def deferredKey (d : Dev) (key : Nat) : Prop :=
  d.isDeferred (key / 256) (key % 256) true = true ∧ isHandleIx (key / 256) = false ∧ key / 256 ≠ 0x0220 ∧
    actsAtOnce (key / 256) (key % 256) = false

theorem deferredKey_pup (d : Dev) (isValue : Bool) (n : ChanNo) : deferredKey d (if isValue then Reg.PUP_VALUE n else Reg.PUP_CODE n) := by
  have hn := n.isLt
  have hpup : ∀ ix key : Nat, ix = 0x1010 ∨ ix = 0x1011 → key = ix * 256 + ((n : Nat) + 1) → deferredKey d key := fun ix key hix hkey => by
    have hdiv : key / 256 = ix ∧ key % 256 = (n : Nat) + 1 := by omega
    rw [deferredKey, hdiv.1, hdiv.2]
    rcases hix with rfl | rfl <;> simp [Dev.isDeferred, isHandleIx, actsAtOnce]
  cases isValue
  · exact hpup 0x1010 _ (.inl rfl) (show 0x101001 + (n : Nat) = _ by omega)
  · exact hpup 0x1011 _ (.inr rfl) (show 0x101101 + (n : Nat) = _ by omega)

theorem deferredKey_bkLoad (d : Dev) (i : UnitNo) (k : Fin 3) : deferredKey d (Reg.BK_LOAD i k) := by
  have hi := i.isLt
  have hk := k.isLt
  have hdiv : ∀ x : Nat, (x * 256 + 8) / 256 = x ∧ (x * 256 + 8) % 256 = 8 := fun x => by omega
  obtain ⟨hix, hsub⟩ := hdiv (0x5810 + 3 * (i : Nat) + (k : Nat))
  rw [deferredKey, show Reg.BK_LOAD i k = (0x5810 + 3 * (i : Nat) + (k : Nat)) * 256 + 8 from rfl, hix, hsub]
  simp [Dev.isDeferred, isHandleIx, actsAtOnce]
  omega

/-- A deferred row of the instruction table is a WRITE of such an object. -/
theorem deferredRow_writes {r : Req} {v : Nat} {n : ChanNo} {i : UnitNo} {k : Fin 3} {b : BranchNo} (d : Dev)
    (hc : c ∈ [Instr.hmCreate r v, .hmDestroy r v, .pupCodeWrite r true n v, .pupCodeWrite r false n v, .bkLoad r i k, .sqSwap r v,
      .cnAdopt r, .hwFlush r, .calTimeWrite r v, .erase r, .verify r, .swap r, .confirm r, .cancel r, .calStart r, .calLow r, .calHigh r,
      .calApply r, .calAbort r, .calRestore r, .grUcStart r b]) :
    ∃ key len w, len ≤ 16 ∧ writeOf c = some (writeReq r key 0 len w) ∧ deferredKey d key := by
  have hplain : ∀ key, deferredKey d key → ∀ len w, len ≤ 16 → writeOf c = some (writeReq r key 0 len w) →
      ∃ key len w, len ≤ 16 ∧ writeOf c = some (writeReq r key 0 len w) ∧ deferredKey d key :=
    fun key hk len w hl hw => ⟨key, len, w, hl, hw, hk⟩
  simp only [List.mem_cons, List.not_mem_nil, or_false] at hc
  rcases hc with rfl | rfl | rfl | rfl | rfl | rfl | rfl | rfl | rfl | rfl | rfl | rfl | rfl | rfl | rfl | rfl | rfl | rfl | rfl | rfl | rfl
  case inr.inr.inl => exact hplain _ (deferredKey_pup d true n) _ _ (by decide) rfl
  case inr.inr.inr.inl => exact hplain _ (deferredKey_pup d false n) _ _ (by decide) rfl
  case inr.inr.inr.inr.inl => exact hplain _ (deferredKey_bkLoad d i k) _ _ (by decide) rfl
  all_goals exact hplain _ ⟨rfl, rfl, by decide, rfl⟩ _ _ (by decide) rfl

end

/-- Settles O17: every row is a deferred write of an object that no earlier way takes. -/
theorem deferredRowsAreAccepted : Obligations.DeferredRowsAreAccepted := by
  unfold Obligations.DeferredRowsAreAccepted
  intro s r v n i k b c q hw hperm row other h
  have hother : other := by
    rcases h with hrow | h
    · obtain ⟨key, len, w, hlen, hw', hdef, hh, h0, h1⟩ := deferredRow_writes s.dev hrow
      obtain rfl : writeReq r key 0 len w = q := Option.some.inj (hw'.symm.trans hw)
      exact ⟨rfl, malformed_writeReq r key 0 len w hperm.1.2.2.2.1 hlen, hdef, hh, h0, h1⟩
    · exact h
  obtain ⟨htot, hm, hdef, hh, h0, h1⟩ := hother
  exact Permitted.accepts ⟨exec_writeOf s c q hw, hperm, hm, writeOf_op hw, htot⟩ fun rs xs =>
    outside_deferred h0 h1 (isDeferred_key hh hdef) hh hdef

/-! Objects that a boundary carries out (R52, R116, R138, R149, R173, R204, R338). -/

theorem objKey_div (ix sub : Nat) (h : sub < 256) : (ix * 256 + sub) / 256 = ix ∧ (ix * 256 + sub) % 256 = sub := by omega

section
variable {c : Instr} {s : State} {q : Request}

/-- A staged object of a handle that has no condition of its own. -/
theorem Permitted.stages_handle (hp : Permitted c s q) {k : Nat} (hk : k < 128) (hix : q.ix = 0x2000 + 0x40 * k) (hsub : q.sub ≠ 4 ∧ q.sub ≠ 0x1E)
    (hst : s.dev.isStagedCommand q.ix q.sub = true) (hobj : ∀ v, s.dev.handleObjCheck k q.sub v = OK) :
    Obeys c s q {} { s.dev with staged := s.dev.staged ++ [s.dev.entryOf q] } := by
  have hh : isHandleIx q.ix = true := by rw [hix]; exact isHandleIx_handle hk
  have hslot : slotOf q.ix = k := by rw [hix]; exact slotOf_handle k
  obtain ⟨hlive, hhnd⟩ := writeAccess_live hh hp.permits.2.2.2
  refine hp.stages (st := OK) (fun rs xs => outside_staged ?_ ?_ hsub.2 ?_ hst) (fun rs xs => ?_) rfl ?_
  · omega
  · rw [hix]; simp [actsAtOnce]; omega
  · rw [hix]; simp [Dev.isDeferred, hsub.2]; omega
  · have hcheck : (s.dev.booked q.t {} rs xs).entryCheck s.worn (s.dev.entryOf q) =
        (if (!s.dev.isLive q.hnd || slotOf q.ix ≠ q.hnd % 128) = true then STALE_HANDLE
          else s.dev.handleObjCheck (slotOf q.ix) q.sub (s.dev.entryOf q).val) := if_pos hh
    rw [hcheck, hslot, hobj]
    simp [hlive, ← hhnd, hslot]
  · show (if isHandleIx q.ix = true then _ else _ : Bool) = false
    rw [if_pos hh]
    show ((decide (q.sub = 4)) && _) = false
    rw [decide_eq_false hsub.1, Bool.false_and]

/-- A staged object of no handle. -/
theorem Permitted.stages_plain (hp : Permitted c s q) {st : Nat} (h0 : q.ix ≠ 0x0220 ∧ q.ix ≠ 0x0230 ∧ q.ix ≠ 0x0200)
    (h1 : (s.dev.entryOf q).key = Reg.BR_RELEASE ∨ (actsAtOnce q.ix q.sub = false ∧ s.dev.isDeferred q.ix q.sub true = false))
    (h2 : q.sub ≠ 0x1E) (h3 : isHandleIx q.ix = false) (h4 : s.dev.isStagedCommand q.ix q.sub = true)
    (hst : ∀ rs xs, (s.dev.booked q.t {} rs xs).entryCheck s.worn (s.dev.entryOf q) = st) :
    (st = OK → Obeys c s q {} { s.dev with staged := s.dev.staged ++ [s.dev.entryOf q] }) ∧
      (st ≠ OK → Obeys c s q { status := st } (s.dev.when (st = BUSY) (·.bump 32 Reg.OPS_BUSY_COUNT))) := by
  have hout : ∀ rs xs, (s.dev.booked q.t {} rs xs).outside s.worn q q.data (s.dev.entryOf q) =
      (s.dev.booked q.t {} rs xs).stageCommand s.worn (s.dev.entryOf q) := fun rs xs => by
    rcases h1 with hkey | ⟨h1, hdef⟩
    · simp only [Dev.outside, h0, hkey]
      simp
    · exact outside_staged ⟨h0.1, h0.2.1⟩ h1 h2 hdef h4
  refine ⟨fun h => hp.stages hout hst h ?_, fun h => hp.stage_refused hout hst h⟩
  exact (if_neg (Bool.eq_false_iff.1 h3)).trans (Bool.and_eq_false_imp.2 fun e => absurd (of_decide_eq_true e) h0.2.2)

/-- A bank request is staged where its unit's conditions pass (R116, R117). -/
theorem Permitted.stages_bankReq (hp : Permitted c s q) {r : Req} {v : Nat} (i : UnitNo) (hq : q = writeReq r (Reg.FI_BANK_REQ i) 0 1 v)
    (hv : v < 2 ^ 64) : (s.dev.unitCheck i 0x0B v = OK → Obeys c s q {} { s.dev with staged := s.dev.staged ++ [s.dev.entryOf q] }) ∧
      (s.dev.unitCheck i 0x0B v ≠ OK →
        Obeys c s q { status := s.dev.unitCheck i 0x0B v } (s.dev.when (s.dev.unitCheck i 0x0B v = BUSY) (·.bump 32 Reg.OPS_BUSY_COUNT))) := by
  have hi : i.val < 32 := i.isLt
  obtain ⟨hix, hsub⟩ := objKey_div (0x5000 + 0x40 * i.val) 0x0B (by decide)
  have hqix : q.ix = 0x5000 + 0x40 * i.val := by rw [hq]; exact hix
  have hqsub : q.sub = 0x0B := by rw [hq]; exact hsub
  have hplain : isHandleIx q.ix = false := by rw [hqix]; simp [isHandleIx]; omega
  have hval : (s.dev.entryOf q).val = v := by
    show s.dev.masked q.ix q.sub q.data = v
    rw [hqix, hqsub, show q.data = v by rw [hq]; rfl]
    refine masked_small ?_ hv
    rw [Dev.writeMask, if_neg (by rw [← hqix, hplain]; decide)]
    generalize 2 ^ 2048 - 1 = m
    simp
    omega
  refine hp.stages_plain (by omega) (.inr ⟨?_, ?_⟩) (by rw [hqsub]; decide) hplain ?_ fun rs xs => ?_
  · rw [hqix]; simp [actsAtOnce]; omega
  · rw [hqix, hqsub]; simp [Dev.isDeferred, isHandleIx]; omega
  · rw [hqix, hqsub]; simp [Dev.isStagedCommand]; omega
  · have hunit : (decide (0x5000 ≤ q.ix) && decide (q.ix < 0x5800)) = true := by
      simp only [hqix, Bool.and_eq_true, decide_eq_true_eq]
      omega
    have hidx : (q.ix - 0x5000) / 0x40 = i.val := by omega
    have hcheck : (s.dev.booked q.t {} rs xs).entryCheck s.worn (s.dev.entryOf q) =
        s.dev.unitCheck ((q.ix - 0x5000) / 0x40) q.sub (s.dev.entryOf q).val :=
      (if_neg (Bool.eq_false_iff.1 hplain)).trans (if_pos hunit)
    rw [hcheck, hidx, hqsub, hval]

end

section
variable {d : Dev} {w : Worn} {x : Entry} {k : Nat}

/-- A staged object of a live handle acts on it where it has no condition of its own. -/
theorem stagedCommand_handle (hk : k < 128) (hix : x.ix = 0x2000 + 0x40 * k) (hl : d.isLive x.hnd = true) (hh : x.hnd % 128 = k)
    (hobj : d.handleObjCheck k x.sub x.val = OK) : d.stagedCommand w x = d.handleWrite w x := by
  have hix' : isHandleIx x.ix = true := by rw [hix]; exact isHandleIx_handle hk
  rw [stagedCommand_acts]
  · exact if_pos hix'
  · have hslot : slotOf x.ix = k := by rw [hix]; exact slotOf_handle k
    rw [Dev.entryCheck]
    simp [hix', hl, hh, hslot, hobj]

theorem stagedCommand_bankReq {i : UnitNo} (hix : x.ix = 0x5000 + 0x40 * i.val) (hsub : x.sub = 0x0B) (hcls : d.rd (Reg.FI_CLASS i) = 0) :
    d.stagedCommand w x = d.bankReqAct i x.val := by
  have hi : i.val < 32 := i.isLt
  have hidx : (x.ix - 0x5000) / 0x40 = i.val := by omega
  have hbank : d.supervisionBank x = true := by
    rw [Dev.supervisionBank, hidx, hcls]
    simp only [Entry.bankCmd, hsub, hix, decide_true, Bool.and_true, Bool.and_eq_true, decide_eq_true_eq]
    omega
  have hplain : isHandleIx x.ix = false := by rw [hix]; simp [isHandleIx]; omega
  have hunit : (decide (0x5000 ≤ x.ix) && decide (x.ix < 0x5800)) = true := by
    simp only [hix, Bool.and_eq_true, decide_eq_true_eq]
    omega
  unfold Dev.stagedCommand
  rw [if_pos (.inr (.inl hbank))]
  unfold Dev.applyEntry
  simp only [hplain, hunit, hidx, hsub, Dev.unitWrite]
  simp

/-- A request that its unit's conditions pass exchanges the banks of an instance that is not RUNNING (R116). -/
theorem bankReqAct_armed {i b : Nat} (hst : d.rd (Reg.FI_STATE i) = 1) (hcls : d.rd (Reg.FI_CLASS i) = 0) (hbank : d.bank i b = 1)
    (hne : b ≠ d.active i) (hok : d.unitCheck i 0x0B b = OK) : d.bankReqAct i b = d.bankExchange i b := by
  have hcond : (d.cfg i b).m2 * (d.cfg i b).m3 = (d.cfg i (d.active i)).m2 * (d.cfg i (d.active i)).m3 ∧
      ¬ ((d.inst i).armed && !d.fits i (d.cfg i b).load) = true := by
    simp only [Dev.unitCheck, hst, hcls, hbank] at hok
    constructor
    · by_contra h
      simp [h] at hok
    · intro h
      simp only [h] at hok
      simp at hok
      split at hok
      · exact absurd hok (by decide)
      · exact absurd hok (by decide)
  have hfade : d.fadeable i b = true := by simp [Dev.fadeable, hbank, hcond.1]
  simp [Dev.bankReqAct, hst, hcls, hne, hfade, hcond.2]

end

/-- The condition of BR_RELEASE (R338). -/
theorem entryCheck_release {d : Dev} {w : Worn} {x : Entry} (hix : x.ix = 0x0420) (hsub : x.sub = 0x0D) : d.entryCheck w x =
    if (d.releasable x.val).length ≠ ((List.range 4).filter fun b => bitOf x.val b).length then BUSY else OK := by
  simp [Dev.entryCheck, hix, hsub, isHandleIx]

/-- Settles O14: each object by the way it is staged, then by what it does at its boundary. -/
theorem stagedObjectsAct : Obligations.StagedObjectsAct := by
  unfold Obligations.StagedObjectsAct
  refine ⟨fun s c q hw hperm => ?_, fun d w k x => ⟨fun hk hix hl hh => ?_, fun i hix hsub hst hcls hbank hne hok => ?_, fun hkey hix hsub => ?_,
    fun hix hsub => ?_⟩⟩
  · have hask : ∀ {r key hnd len v}, len ≤ 16 → writeOf c = some (writeReq r key hnd len v) → q = writeReq r key hnd len v ∧ Permitted c s q :=
      fun hlen e => by
        obtain rfl := Option.some.inj (hw.symm.trans e)
        exact ⟨rfl, .of_writeReq hw hlen hperm⟩
    have hhandle : ∀ {r h sub}, sub < 256 → writeOf c = some (writeReq r ((0x2000 + 0x40 * (h % 128)) * 256 + sub) h 1 1) →
        sub ≠ 4 ∧ sub ≠ 0x1E → s.dev.isStagedCommand (0x2000 + 0x40 * (h % 128)) sub = true →
        (∀ v, s.dev.handleObjCheck (h % 128) sub v = OK) →
        Obeys c s q {} { s.dev with staged := s.dev.staged ++ [s.dev.entryOf q] } := fun {r h sub} hlt e hne hst hobj => by
      obtain ⟨rfl, hp⟩ := hask (by decide) e
      obtain ⟨hix, hsub⟩ := objKey_div (0x2000 + 0x40 * (h % 128)) sub hlt
      have hix' : (writeReq r ((0x2000 + 0x40 * (h % 128)) * 256 + sub) h 1 1).ix = 0x2000 + 0x40 * (h % 128) := hix
      have hsub' : (writeReq r ((0x2000 + 0x40 * (h % 128)) * 256 + sub) h 1 1).sub = sub := hsub
      refine hp.stages_handle (Nat.mod_lt _ (by decide)) hix' ?_ ?_ ?_
      · rw [hsub']; exact hne
      · rw [hix', hsub']; exact hst
      · rw [hsub']; exact hobj
    refine ⟨fun r h hc hkind => ?_, fun r h hc hkind => ?_, fun r h hc hkind => ?_, fun r i v hc hok => ?_, fun r v hc => ?_, fun r mask hc hmask => ?_⟩
    · subst hc
      refine hhandle (sub := 0x26) (by decide) rfl (by decide) ?_ fun v => ?_
      · simp [Dev.isStagedCommand, isHandleIx_handle (Nat.mod_lt h (by decide : 0 < 128)), slotOf_handle, hkind]
      · simp [Dev.handleObjCheck, hkind, isSwitch, measuring]
    · subst hc
      refine hhandle (sub := 0x18) (by decide) rfl (by decide) ?_ fun v => ?_
      · simp [Dev.isStagedCommand, isHandleIx_handle (Nat.mod_lt h (by decide : 0 < 128)), slotOf_handle, hkind]
      · simp [Dev.handleObjCheck, hkind, isSwitch, measuring]
    · subst hc
      refine hhandle (sub := 0x28) (by decide) rfl (by decide) ?_ fun v => ?_
      · simp [Dev.isStagedCommand, isHandleIx_handle (Nat.mod_lt h (by decide : 0 < 128)), slotOf_handle, hkind]
      · simp [Dev.handleObjCheck, hkind]
    · subst hc
      obtain ⟨rfl, hp⟩ := hask (by decide) rfl
      have hv : v < 2 ^ 64 := lt_of_lt_of_le (show v < 2 ^ (8 * 1) from hperm.2.2.1) (by decide)
      exact (hp.stages_bankReq i rfl hv).1 hok
    · subst hc
      obtain ⟨rfl, hp⟩ := hask (by decide) rfl
      exact (hp.stages_plain ⟨(by decide : (0x0211 : Nat) ≠ 0x0220), (by decide : (0x0211 : Nat) ≠ 0x0230), (by decide : (0x0211 : Nat) ≠ 0x0200)⟩
        (.inr ⟨rfl, rfl⟩) (by decide : (7 : Nat) ≠ 0x1E) rfl rfl fun _ _ => rfl).1 rfl
    · subst hc
      obtain ⟨rfl, hp⟩ := hask (by decide) rfl
      have hval : (s.dev.entryOf (writeReq r Reg.BR_RELEASE 0 1 mask)).val = mask :=
        show mask &&& (2 ^ 4 - 1) = mask from and_mask_of_lt hmask (le_refl 4)
      obtain ⟨hok, hbusy⟩ := hp.stages_plain (st := if (s.dev.releasable mask).length ≠ ((List.range 4).filter fun b => bitOf mask b).length
          then BUSY else OK)
        ⟨(by decide : (0x0420 : Nat) ≠ 0x0220), (by decide : (0x0420 : Nat) ≠ 0x0230), (by decide : (0x0420 : Nat) ≠ 0x0200)⟩
        (.inl (show (0x04200D : Nat) / 256 * 256 + 0x04200D % 256 = 0x04200D by norm_num)) (by decide : (13 : Nat) ≠ 0x1E) rfl rfl fun rs xs =>
          (entryCheck_release (show (0x04200D : Nat) / 256 = 0x0420 by norm_num) (show (0x04200D : Nat) % 256 = 0x0D by norm_num)).trans
            (by rw [hval]; rfl)
      refine ⟨fun h => hok (if_neg (by rw [h]; simp)), fun h => ?_⟩
      rw [if_pos (Nat.ne_of_lt h)] at hbusy
      exact hbusy (by decide)
  · have hplain : ∀ {sub}, x.sub = sub → d.handleObjCheck k sub x.val = OK → d.stagedCommand w x = d.handleWrite w x := fun hsub hobj =>
      stagedCommand_handle hk hix hl hh (by rw [hsub]; exact hobj)
    have hslot : slotOf x.ix = k := by rw [hix]; exact slotOf_handle k
    refine ⟨fun hsub hkind => ?_, fun hsub hkind => ?_, fun hsub hkind => ?_⟩
    · rw [hplain hsub (by simp [Dev.handleObjCheck, hkind, isSwitch, measuring])]
      simp [Dev.handleWrite, hslot, hsub, hkind, measuring, outputSub, isSwitch]
    · rw [hplain hsub (by simp [Dev.handleObjCheck, hkind, isSwitch, measuring])]
      simp [Dev.handleWrite, hslot, hsub, hkind, measuring, outputSub, isSwitch]
    · have hk56 : d.kind k = 5 ∨ d.kind k = 6 := by simpa [isSwitch] using hkind
      have hact : d.handleWrite w x =
          d.when (d.mayClear (d.chanOf k)) fun d' => d'.modChan (d.chanOf k) fun c => { c with flags := setBit c.flags 3 false } := by
        rcases hk56 with h | h
        · simp [Dev.handleWrite, hslot, hsub, h, measuring, outputSub, isSwitch]
        · simp [Dev.handleWrite, hslot, hsub, h, measuring, outputSub, isSwitch]
      rw [hplain hsub (by simp [Dev.handleObjCheck, hkind]), hact]
      exact ⟨fun h => by rw [h]; rfl, fun h => by rw [h]; rfl⟩
  · rw [stagedCommand_bankReq hix hsub hcls, bankReqAct_armed hst hcls hbank hne hok]
  · unfold Dev.stagedCommand
    rw [if_pos (.inl hkey)]
    simp [Dev.applyEntry, hix, hsub, isHandleIx, Dev.systemWrite, Dev.brReleaseAct]
  · rw [stagedCommand_acts (by simp [Dev.entryCheck, hix, hsub, isHandleIx])]
    simp [Dev.applyEntry, hix, hsub, isHandleIx, Dev.systemWrite]

end Sys2Proof.Machine
end

/-! Handle commands at their boundary (R49 to R52, R56, R57, R112, R163). -/
section
namespace Sys2Proof.Machine

section
variable {d : Dev} {k : Nat} (hk : k < 128)
include hk

/-- A handle's state is no other object's key. -/
theorem wr_state_rd {v j : Nat} (hj : j % 256 ≠ 3 ∨ j < 0x200000 ∨ 0x400000 ≤ j) : (d.wr (Reg.HND_STATE k) v).rd j = d.rd j := by
  rw [Dev.wr_rd, if_neg]
  show j ≠ (0x2000 + 0x40 * k) * 256 + 0x3
  omega

/-- The configuration of a unit does not depend on a handle's state (R101). -/
theorem wr_state_cfg (v i b : Nat) : (d.wr (Reg.HND_STATE k) v).cfg i b = d.cfg i b := by
  have hrd : ∀ j, j % 256 ≠ 3 ∨ j < 0x200000 ∨ 0x400000 ≤ j → (d.wr (Reg.HND_STATE k) v).rd j = d.rd j := fun j => wr_state_rd hk
  generalize d.wr (Reg.HND_STATE k) v = e at *
  have hslot : e.unitSlot i = d.unitSlot i := by
    rw [Dev.unitSlot, Dev.unitSlot, hrd (Reg.FI_HANDLE i) (.inr (.inr (show 0x400000 ≤ (0x5000 + 0x40 * i) * 256 + 0x1 by omega)))]
  have hlow : ∀ s c, c < 256 → c ≠ 3 → e.rd ((0x2000 + 0x40 * s) * 256 + c) = d.rd ((0x2000 + 0x40 * s) * 256 + c) := fun s c h h3 =>
    hrd _ (.inl (by omega))
  have hmaster : ∀ s, e.master s = d.master s := fun s => by
    unfold Dev.master Dev.isObserver
    rw [hlow s 5 (by decide) (by decide), hlow s 0xA (by decide) (by decide)]
  have hfast : ∀ s, e.fast s = d.fast s := fun s => by
    unfold Dev.fast Dev.kind
    rw [hmaster, hlow s 2 (by decide) (by decide), hlow (d.master s) 0x10 (by decide) (by decide)]
  have hhigh : ∀ ix c, 0x4000 ≤ ix → e.rd (ix * 256 + c) = d.rd (ix * 256 + c) := fun ix c h => hrd _ (.inr (.inr (by omega)))
  unfold Dev.cfg
  rw [hslot]
  simp (disch := omega) only [hfast, hmaster, hhigh, hlow]

end

/-- What a switch's settings take to its branch leaves the objects alone. -/
theorem swCommit_obj (d : Dev) (k : Nat) : (d.swCommit k).obj = d.obj ∧ (d.swCommit k).crownUp = d.crownUp := by
  dsimp only [Dev.swCommit]
  cases (d.swSettings k).pair <;> exact ⟨rfl, rfl⟩

section
variable {d : Dev} {k : Nat} (hk : k < 128)
include hk

/-- Arming an observer of no measuring kind changes its state alone (R49). -/
theorem arm_observer (hm : measuring (d.kind k) = false) (ho : d.isObserver k = true) : d.arm k = d.wr (Reg.HND_STATE k) ARMED := by
  have hkind : (d.wr (Reg.HND_STATE k) ARMED).kind k = d.kind k := wr_state_rd hk (.inl (show ((0x2000 + 0x40 * k) * 256 + 2) % 256 ≠ 3 by omega))
  have hobs : (d.wr (Reg.HND_STATE k) ARMED).isObserver k = true := by
    rw [Dev.isObserver, wr_state_rd hk (.inl (show ((0x2000 + 0x40 * k) * 256 + 5) % 256 ≠ 3 by omega))]
    exact ho
  have hdrv : (d.wr (Reg.HND_STATE k) ARMED).isDriver k = false := by simp [Dev.isDriver, hobs]
  simp [Dev.arm, Dev.sendPostureSet, hkind, hobs, hdrv, hm]

/-- Arming an observer of a measuring kind reserves its unit's load (R112). -/
theorem arm_measuring_observer (hm : measuring (d.kind k) = true) (ho : d.isObserver k = true) : d.arm k =
    ((d.wr (Reg.HND_STATE k) ARMED).modInst (d.unitOf k) fun y => { y with armed := true }).setLoad (d.unitOf k)
      (d.cfg (d.unitOf k) (d.active (d.unitOf k))).load 0 := by
  have hkind : (d.wr (Reg.HND_STATE k) ARMED).kind k = d.kind k := wr_state_rd hk (.inl (show ((0x2000 + 0x40 * k) * 256 + 2) % 256 ≠ 3 by omega))
  have hunit : (d.wr (Reg.HND_STATE k) ARMED).unitOf k = d.unitOf k :=
    wr_state_rd hk (.inl (show ((0x2000 + 0x40 * k) * 256 + 6) % 256 ≠ 3 by omega))
  have hact : ∀ i, (d.wr (Reg.HND_STATE k) ARMED).active i = d.active i := fun i =>
    wr_state_rd hk (.inr (.inr (show 0x400000 ≤ (0x5000 + 0x40 * i) * 256 + 8 by omega)))
  have hobs : (((d.wr (Reg.HND_STATE k) ARMED).modInst (d.unitOf k) fun y => { y with armed := true }).setLoad (d.unitOf k)
      (d.cfg (d.unitOf k) (d.active (d.unitOf k))).load 0).isObserver k = true := by
    rw [Dev.isObserver, Dev.setLoad, Dev.wr_rd, if_neg (by show (0x2000 + 0x40 * k) * 256 + 5 ≠ 0x580002; omega), Dev.wr_rd,
      if_neg (by show (0x2000 + 0x40 * k) * 256 + 5 ≠ (0x5000 + 0x40 * d.unitOf k) * 256 + 0x16; omega)]
    exact (congrArg (bitOf · 8) (wr_state_rd hk (.inl (show ((0x2000 + 0x40 * k) * 256 + 5) % 256 ≠ 3 by omega)))).trans ho
  have hdrv := fun e : Dev => show e.isObserver k = true → e.isDriver k = false from fun h => by simp [Dev.isDriver, h]
  dsimp only [Dev.arm]
  rw [hkind, hm]
  simp only [Dev.when_true, hunit, hact, wr_state_cfg hk]
  generalize hE : Dev.setLoad _ _ _ 0 = E at *
  simp [hobs, Dev.sendPostureSet, hdrv E hobs]

/-- Arming a driver of a switch whose branch hears the crown (R49, R169, R183). -/
theorem arm_switch (hs : isSwitch (d.kind k) = true) (ho : d.isObserver k = false) (hh : d.hears (d.chanOf k / 4) = true) : d.arm k =
    (((((d.wr (Reg.HND_STATE k) ARMED).swCommit k).modChan (d.chanOf k) fun c =>
      { c with left := c.set.retryN, refill := false }).toBranch (d.chanOf k / 4) (.config 1)).toBranch (d.chanOf k / 4)
        (.postureSet (d.chanOf k) (d.rd (Reg.HND_POSTURE k)) (d.rd (Reg.HND_POSTURE_VALUE k)))) := by
  have hlow : ∀ c, c < 256 → c ≠ 3 → (d.wr (Reg.HND_STATE k) ARMED).rd ((0x2000 + 0x40 * k) * 256 + c) = d.rd ((0x2000 + 0x40 * k) * 256 + c) :=
    fun c h h3 => wr_state_rd hk (.inl (by omega))
  have hkind : (d.wr (Reg.HND_STATE k) ARMED).kind k = d.kind k := hlow 2 (by decide) (by decide)
  have hobs : (d.wr (Reg.HND_STATE k) ARMED).isObserver k = false := (congrArg (bitOf · 8) (hlow 5 (by decide) (by decide))).trans ho
  have hchan : (d.wr (Reg.HND_STATE k) ARMED).chanOf k = d.chanOf k := congrArg recChan (hlow 5 (by decide) (by decide))
  have hb : d.chanOf k / 4 < 4 := by
    have : d.chanOf k < 16 := Nat.mod_lt _ (by decide)
    omega
  have hhears : (d.wr (Reg.HND_STATE k) ARMED).hears (d.chanOf k / 4) = true := by
    unfold Dev.hears Dev.link
    rw [wr_state_rd hk (.inr (.inl (by decide : Reg.PL_RUNG < 0x200000))),
      wr_state_rd hk (.inr (.inl (show 0x02F201 + d.chanOf k / 4 < 0x200000 by omega)))]
    exact hh
  have hst : (d.wr (Reg.HND_STATE k) ARMED).hst k = ARMED := (Dev.wr_rd _ _ _ _).trans (if_pos rfl)
  have hk56 : d.kind k = 5 ∨ d.kind k = 6 := by simpa [isSwitch] using hs
  have hdrv : (d.wr (Reg.HND_STATE k) ARMED).isDriver k = true := by
    rcases hk56 with h | h <;> simp [Dev.isDriver, hst, hobs, hkind, h]
  have hmeas : measuring (d.kind k) = false := by rcases hk56 with h | h <;> simp [measuring, h]
  have h4 : d.kind k ≠ 4 := by rcases hk56 with h | h <;> simp [h]
  generalize hE : d.wr (Reg.HND_STATE k) ARMED = E at *
  have hobj : ∀ f g, (((E.swCommit k).modChan (d.chanOf k) f).toBranch (d.chanOf k / 4) g).obj = E.obj := fun f g => (swCommit_obj E k).1
  dsimp only [Dev.arm]
  rw [hE, hkind, hmeas, Dev.when_false, hobs, hhears]
  have hset : E.branchSettings k = E.swCommit k := by simp [Dev.branchSettings, hkind, hs]
  simp only [Bool.not_false, Bool.and_self, Dev.when_true, hset]
  have hobj := (swCommit_obj E k).1
  have hup := (swCommit_obj E k).2
  generalize E.swCommit k = C at *
  have hrd : ∀ j, C.rd j = E.rd j := fun j => by rw [Dev.rd, Dev.rd, hobj]
  have hC : isSwitch (C.rd (Reg.HND_KIND k)) = true ∧ C.rd (Reg.HND_KIND k) ≠ 4 ∧ C.rd (Reg.HND_KIND k) ≠ 7 := by
    rw [hrd]
    have : E.rd (Reg.HND_KIND k) = d.kind k := hkind
    rcases hk56 with h | h <;> simp [this, h, isSwitch]
  have hCbind : bitOf (C.rd (Reg.HND_BIND k)) 8 = false ∧ recChan (C.rd (Reg.HND_BIND k)) = d.chanOf k := by
    rw [hrd]
    exact ⟨hobs, hchan⟩
  have hChears : C.crownUp = true ∧ C.rd Reg.PL_RUNG ≤ 1 ∧ C.rd (Reg.LINK_STATE (d.chanOf k / 4)) = 1 := by
    rw [hrd, hrd, hup]
    simp only [Dev.hears, Dev.link, Bool.and_eq_true, and_assoc] at hhears
    exact ⟨hhears.1, of_decide_eq_true hhears.2.1, of_decide_eq_true hhears.2.2⟩
  have hCst : C.rd (Reg.HND_STATE k) = ARMED := (hrd _).trans hst
  have hCpost : C.rd (Reg.HND_POSTURE k) = d.rd (Reg.HND_POSTURE k) ∧ C.rd (Reg.HND_POSTURE_VALUE k) = d.rd (Reg.HND_POSTURE_VALUE k) := by
    rw [hrd, hrd]
    exact ⟨hlow 7 (by decide) (by decide), hlow 8 (by decide) (by decide)⟩
  simp only [Dev.kind, Dev.isObserver, Dev.isDriver, Dev.hst, Dev.chanOf, Dev.hears, Dev.link, Dev.sendPostureSet, Dev.toBranch] at *
  simp [hC, hCbind, hChears, hCst, hCpost]

/-- Starting a handle of no measuring kind changes its state alone (R49). -/
theorem start_plain (hm : measuring (d.kind k) = false) : d.start k = d.wr (Reg.HND_STATE k) RUNNING := by
  have hkind : (d.wr (Reg.HND_STATE k) RUNNING).kind k = d.kind k := wr_state_rd hk (.inl (show ((0x2000 + 0x40 * k) * 256 + 2) % 256 ≠ 3 by omega))
  dsimp only [Dev.start]
  rw [hkind, hm]
  rfl

/-- Starting a measuring handle of a supervision unit (R49, R66, R114). -/
theorem start_supervision (hm : measuring (d.kind k) = true) (hcls : d.rd (Reg.FI_CLASS (d.unitOf k)) = 0) :
    let e := ((d.wr (Reg.HND_STATE k) RUNNING).wr (Reg.FI_STATE (d.unitOf k)) 2).wr (Reg.FI_SAT_COUNT (d.unitOf k)) 0
    (d.isObserver k = true → d.start k = e.chainReset (d.unitOf k) d.now) ∧
      (d.isObserver k = false → d.start k = ((e.mainsStart k).restart k d.now true).modSlot k fun y => { y with owCnt := 0 }) := by
  intro e
  have hrd : ∀ j, j % 256 ≠ 3 ∨ j < 0x200000 ∨ 0x400000 ≤ j → (d.wr (Reg.HND_STATE k) RUNNING).rd j = d.rd j := fun j => wr_state_rd hk
  have hkind : (d.wr (Reg.HND_STATE k) RUNNING).kind k = d.kind k := hrd _ (.inl (show ((0x2000 + 0x40 * k) * 256 + 2) % 256 ≠ 3 by omega))
  have hunit : (d.wr (Reg.HND_STATE k) RUNNING).unitOf k = d.unitOf k := hrd _ (.inl (show ((0x2000 + 0x40 * k) * 256 + 6) % 256 ≠ 3 by omega))
  have hcls' : e.rd (Reg.FI_CLASS (d.unitOf k)) = 0 := by
    rw [Dev.wr_rd, if_neg (show (0x5000 + 0x40 * d.unitOf k) * 256 + 3 ≠ (0x5000 + 0x40 * d.unitOf k) * 256 + 0x17 by omega), Dev.wr_rd,
      if_neg (show (0x5000 + 0x40 * d.unitOf k) * 256 + 3 ≠ (0x5000 + 0x40 * d.unitOf k) * 256 + 2 by omega),
      hrd _ (.inr (.inr (show 0x400000 ≤ (0x5000 + 0x40 * d.unitOf k) * 256 + 3 by omega))), hcls]
  have hobs : e.isObserver k = d.isObserver k := by
    rw [Dev.isObserver, Dev.wr_rd, if_neg (show (0x2000 + 0x40 * k) * 256 + 5 ≠ (0x5000 + 0x40 * d.unitOf k) * 256 + 0x17 by omega), Dev.wr_rd,
      if_neg (show (0x2000 + 0x40 * k) * 256 + 5 ≠ (0x5000 + 0x40 * d.unitOf k) * 256 + 2 by omega),
      hrd _ (.inl (show ((0x2000 + 0x40 * k) * 256 + 5) % 256 ≠ 3 by omega))]
    rfl
  dsimp only [Dev.start]
  rw [hkind, hm, hunit]
  change _ = 0 at hcls'
  rw [hcls', decide_eq_false (by decide : (0 : Nat) ≠ 1), Dev.when_false, hobs]
  exact ⟨fun h => by rw [h]; rfl, fun h => by rw [h]; rfl⟩

/-- Stopping a handle that no capture is set for (R49, R119). -/
theorem stop_uncaptured (h : d.rd Reg.TB_HANDLE ≠ d.rd (Reg.HND_ID k)) : d.stop k = (d.wr (Reg.HND_STATE k) STOPPED).unitStop k := by
  have htb : (d.wr (Reg.HND_STATE k) STOPPED).rd Reg.TB_HANDLE = d.rd Reg.TB_HANDLE := wr_state_rd hk (.inr (.inr (by decide)))
  have hid : (d.wr (Reg.HND_STATE k) STOPPED).rd (Reg.HND_ID k) = d.rd (Reg.HND_ID k) :=
    wr_state_rd hk (.inl (show ((0x2000 + 0x40 * k) * 256 + 1) % 256 ≠ 3 by omega))
  dsimp only [Dev.stop]
  rw [htb, hid, decide_eq_false h]
  rfl

omit hk in
/-- RESUME is admitted for the command's own cause, and beside the cause of a lost branch that is configured again (R50). -/
theorem resume_admitted (hst : d.hst k = HSAFE) (hc : d.rd (Reg.HND_SAFE_CAUSE k) = 0x40 ∨
    (d.rd (Reg.HND_SAFE_CAUSE k) = 0x42 ∧ (d.branch (d.chanOf k / 4)).configured = true)) : d.handleCheck k 5 = OK := by
  have h64 : Nat.testBit 64 1 = false ∧ Nat.testBit 64 2 = false ∧ Nat.testBit 64 4 = false ∧ Nat.testBit 64 5 = false := by decide
  have h66 : Nat.testBit 66 2 = false ∧ Nat.testBit 66 4 = false ∧ Nat.testBit 66 5 = false := by decide
  refine (handleCheck_resume d k).2 ⟨hst, ?_⟩
  rcases hc with h | ⟨h, hcfg⟩
  · simp [h, h64, Dev.anyPersists, Dev.persists, bitOf, List.range_succ]
  · simp [h, h66, hcfg, Dev.anyPersists, Dev.persists, bitOf, List.range_succ]

omit hk in
/-- RESUME lifts the command's own cause; with another cause left the handle stays SAFE (R49, R50). -/
theorem resume_kept (hc : d.rd (Reg.HND_SAFE_CAUSE k) = 0x42) : d.clearCauses k 0x40 = d.wr (Reg.HND_SAFE_CAUSE k) 0x02 := by
  rw [Dev.clearCauses, hc]
  refine if_neg fun h => ?_
  have h2 := h.2
  rw [Dev.wr_rd, if_pos rfl] at h2
  exact absurd h2 (by decide)

/-- RESUME with no other cause: the handle returns to its prior state (R40, R49). -/
theorem resume_commanded (hst : d.hst k = HSAFE) (hc : d.rd (Reg.HND_SAFE_CAUSE k) = 0x40) :
    let y := d.slot k
    let e := (((d.wr (Reg.HND_SAFE_CAUSE k) 0).setSlot k { y with prior := if y.prior = LATCHED then y.left else y.prior }).wr
      (Reg.HND_STATE k) y.prior).modChan (d.chanOf k) fun c => { c with safeOn := false, due := false }
    (y.prior = RUNNING → d.clearCauses k 0x40 = e) ∧ (y.prior ≠ RUNNING → d.clearCauses k 0x40 = e.unitStop k) := by
  intro y e
  have hzero : d.clearCauses k 0x40 = (d.wr (Reg.HND_SAFE_CAUSE k) 0).leaveSafe k := by rw [Dev.clearCauses, hc]; rfl
  have hcond : (d.wr (Reg.HND_SAFE_CAUSE k) 0).hst k = HSAFE ∧ (d.wr (Reg.HND_SAFE_CAUSE k) 0).rd (Reg.HND_SAFE_CAUSE k) = 0 := by
    refine ⟨(Dev.wr_rd _ _ _ _).trans ((if_neg ?_).trans hst), (Dev.wr_rd _ _ _ _).trans (if_pos rfl)⟩
    show (0x2000 + 0x40 * k) * 256 + 0x3 ≠ (0x2000 + 0x40 * k) * 256 + 0x9
    omega
  have hchan : (((d.wr (Reg.HND_SAFE_CAUSE k) 0).setSlot k { y with prior := if y.prior = LATCHED then y.left else y.prior }).wr
      (Reg.HND_STATE k) y.prior).chanOf k = d.chanOf k := by
    refine congrArg recChan ((wr_state_rd hk (.inl (show ((0x2000 + 0x40 * k) * 256 + 5) % 256 ≠ 3 by omega))).trans
      ((Dev.wr_rd d _ _ _).trans (if_neg ?_)))
    show (0x2000 + 0x40 * k) * 256 + 0x5 ≠ (0x2000 + 0x40 * k) * 256 + 0x9
    omega
  have hleave : (d.wr (Reg.HND_SAFE_CAUSE k) 0).leaveSafe k = e.when (y.prior ≠ RUNNING) (·.unitStop k) := by
    rw [Dev.leaveSafe, if_pos hcond]
    dsimp only [Dev.releasePosture]
    exact congrArg (fun n => Dev.when (Dev.modChan _ n _) _ _) hchan
  rw [hzero, hleave]
  exact ⟨fun h => by rw [decide_eq_false (not_not.2 h)]; rfl, fun h => by rw [decide_eq_true h]; rfl⟩

omit hk in
/-- The SAFE command at a handle that is not SAFE yet (R49, R57). -/
theorem safeTrigger_command (hst : d.hst k = ARMED ∨ d.hst k = RUNNING ∨ d.hst k = STOPPED) : d.safeTrigger k 6 =
    ((((d.wrBit (Reg.HND_SAFE_CAUSE k) 6 true).modSlot k fun y => { y with prior := d.hst k }).wr (Reg.HND_STATE k) HSAFE).orderPosture k).unitRun k := by
  dsimp only [Dev.safeTrigger]
  rw [if_pos hst]
  rfl

end

section
variable {d : Dev} {w : Worn} {k : Nat} {x : Entry}

/-- A handle command that its handle's state admits is carried out (R49, R52). -/
theorem stagedCommand_handleCmd (hk : k < 128) (hix : x.ix = 0x2000 + 0x40 * k) (hsub : x.sub = 4) (hl : d.isLive x.hnd = true)
    (hh : x.hnd % 128 = k) (hok : d.handleCheck k x.val = OK) : d.stagedCommand w x = d.handleDo w k x.val := by
  have hslot : slotOf x.ix = k := by rw [hix]; exact slotOf_handle k
  rw [stagedCommand_handle hk hix hl hh (by rw [hsub]; exact hok)]
  unfold Dev.handleWrite
  rw [if_pos hsub, hslot]

end

/-- Settles O12: each command by its branch of handleDo. -/
theorem handleCommandsAct : Obligations.HandleCommandsAct := by
  unfold Obligations.HandleCommandsAct
  intro d w k x hk hix hsub hl hh n
  have hix' : isHandleIx x.ix = true := by rw [hix]; exact isHandleIx_handle hk
  have hacts : ∀ {v}, x.val = v → d.handleCheck k v = OK → d.stagedCommand w x = d.handleDo w k v := fun hv hok => by
    subst hv
    exact stagedCommand_handleCmd hk hix hsub hl hh hok
  have hkeep : ∀ {v j}, j % 256 ≠ 3 ∨ j < 0x200000 ∨ 0x400000 ≤ j → (d.wr (Reg.HND_STATE k) v).rd j = d.rd j := wr_state_rd hk
  have hown : ∀ v, (d.wr (Reg.HND_STATE k) v).hst k = v := fun v => (Dev.wr_rd _ _ _ _).trans (if_pos rfl)
  refine ⟨?_, ?_, ?_, ?_, ?_, ?_, ?_, ?_, ?_, ?_, ?_, ?_, ?_, ?_, ?_, ?_⟩
  · intro h
    refine stagedCommand_dropped ?_ ?_ (by rw [hsub]; decide) (by rw [entryCheck_handleCmd hk hix hsub hl hh]; exact h)
    · rw [Entry.key, hix, hsub]
      show _ ≠ 0x04200D
      omega
    · rw [Dev.supervisionBank, Entry.bankCmd, hsub]
      simp
  · intro hv hst
    rw [hacts hv (by simp [Dev.handleCheck, hst])]
    simp [Dev.handleDo, hst, ARMED, CREATED]
  · intro hv hok hst hm ho
    rw [hacts hv hok]
    exact (if_pos hst).trans (arm_observer hk hm ho)
  · intro hv hok hst hs ho hhears
    rw [hacts hv hok]
    exact (if_pos hst).trans (arm_switch hk hs ho hhears)
  · intro hv hok hst hm ho
    rw [hacts hv hok]
    exact (if_pos hst).trans (arm_measuring_observer hk hm ho)
  · intro hv hst
    rw [hacts hv (by simp [Dev.handleCheck, hst])]
    simp [Dev.handleDo, hst]
  · intro hv hst hm
    rw [hacts hv (by rcases hst with h | h <;> simp [Dev.handleCheck, h])]
    exact (if_pos hst).trans (start_plain hk hm)
  · intro hv hst hm hcls e
    rw [hacts hv (by rcases hst with h | h <;> simp [Dev.handleCheck, h])]
    obtain ⟨hobs, hdrv⟩ := start_supervision hk hm hcls
    exact ⟨fun ho => (if_pos hst).trans (hobs ho), fun ho => (if_pos hst).trans (hdrv ho)⟩
  · intro hv hst
    rw [hacts hv (by simp [Dev.handleCheck, hst])]
    simp [Dev.handleDo, hst]
  · intro hv hst htb
    rw [hacts hv (by simp [Dev.handleCheck, hst])]
    exact (if_pos hst).trans (stop_uncaptured hk htb)
  · intro hv hdrv hst
    have hok : d.handleCheck k 4 = OK := by rcases hst with h | h | h <;> simp [Dev.handleCheck, hdrv, h]
    rw [hacts hv hok]
    have hne : d.hst k ≠ HSAFE := by rcases hst with h | h | h <;> simp [h]
    exact (if_neg hne).trans (safeTrigger_command hst)
  · intro hv hdrv hst
    rw [hacts hv (by simp [Dev.handleCheck, hdrv, hst])]
    simp [Dev.handleDo, Dev.safeTrigger, hst]
  · intro hv hdrv hst
    rw [hacts hv (by simp [Dev.handleCheck, hdrv, hst])]
    simp [Dev.handleDo, hst]
  · intro hv hst hcause y e
    rw [hacts hv (resume_admitted hst (.inl hcause))]
    exact resume_commanded hk hst hcause
  · intro hv hst hcause hcfg
    rw [hacts hv (resume_admitted hst (.inr ⟨hcause, hcfg⟩))]
    exact resume_kept hcause
  · intro hv hok e
    rw [hacts hv hok]
    refine ⟨fun h => if_neg (not_not.2 h), fun h => if_pos h, ?_⟩
    intro hst hcmd c f hf
    have hclear : e = f.swFromOff w n := if_pos hst
    rw [hclear, Dev.swFromOff, if_pos (.inl hf)]

end Sys2Proof.Machine
end

/-! Transactions (R269 to R273). -/
section
namespace Sys2Proof.Machine

/-! Rows of the object dictionary. -/

/-- No sub-index of the rows exceeds a byte. -/
def subsFit (rows : List (Nat × Nat × Info)) : Bool := rows.all fun p => p.2.1 < 256

theorem rowAt_sub {rows : List (Nat × Nat × Info)} {sub : Nat} {r : Info} (hf : subsFit rows = true) (h : rowAt rows sub = some r) : sub < 256 := by
  induction rows with
  | nil => cases h
  | cons p rows ih =>
    obtain ⟨lo, hi, i⟩ := p
    simp only [subsFit, List.all_cons, Bool.and_eq_true, decide_eq_true_eq] at hf
    rw [rowAt] at h
    split at h
    · omega
    · exact ih hf.2 h

theorem rowsOfKind_fit (kind : Nat) : subsFit (rowsOfKind kind) = true := by
  unfold rowsOfKind
  split <;> decide

/-- Every row list an option may hold fits. -/
def optFits (o : Option (List (Nat × Nat × Info))) : Prop := ∀ rows, o = some rows → subsFit rows = true

theorem optFits_some {l : List (Nat × Nat × Info)} (h : subsFit l = true) : optFits (some l) := fun rows e => by cases e; exact h

theorem optFits_none : optFits none := fun _ e => by cases e

theorem optFits_ite {c : Prop} [Decidable c] {x y : Option (List (Nat × Nat × Info))} (hx : optFits x) (hy : optFits y) :
    optFits (if c then x else y) := by
  split
  · exact hx
  · exact hy

theorem rowsAt_fit (kind : Nat → Nat) (ix : Nat) : optFits (rowsAt kind ix) := by
  unfold rowsAt
  refine optFits_ite (optFits_ite (optFits_some (rowsOfKind_fit _)) optFits_none) ?_
  refine optFits_ite (optFits_ite (optFits_some (by decide)) optFits_none) ?_
  refine optFits_ite (optFits_some (by decide)) ?_
  refine optFits_ite (optFits_ite (optFits_some (by decide)) optFits_none) ?_
  repeat refine optFits_ite (optFits_some (by decide)) ?_
  exact optFits_none

/-- An object's sub-index is a byte (R255). -/
theorem info_sub {d : Dev} {ix sub : Nat} {r : Info} (h : d.info ix sub = some r) : sub < 256 := by
  rw [Dev.info, objInfo] at h
  split at h
  · cases h
  · next rows hr => exact rowAt_sub (rowsAt_fit _ _ _ hr) h

section
variable {d : Dev} {w : Worn} {x : Entry} {t : Nat} {p : Resp} {rs : List Requester} {xs : List Txn}

theorem queueCheck_booked {q sub v len : Nat} (h : sub ≠ 0x0E ∧ sub ≠ 0x0F ∧ sub ≠ 0x11) :
    (d.booked t p rs xs).queueCheck q sub v len = d.queueCheck q sub v len := by
  unfold Dev.queueCheck
  split
  · rfl
  · rfl
  · rfl
  · exact absurd rfl h.1
  · exact absurd rfl h.2.1
  · exact absurd rfl h.2.2
  · rfl
  · rfl

theorem swapPend_status_booked (v : Nat) : ((d.booked t p rs xs).swapPend v).2 = (d.swapPend v).2 := by
  have h : (d.booked t p rs xs).tableCheck = d.tableCheck := rfl
  unfold Dev.swapPend
  rw [h]
  cases d.tableCheck <;> rfl

/-- The conditions of an entry outside the queues' consumer and host objects look at no bookkeeping. -/
theorem entryCheck_booked (hq : 0x4000 ≤ x.ix → x.ix < 0x4400 → x.sub ≠ 0x0E ∧ x.sub ≠ 0x0F ∧ x.sub ≠ 0x11) (haux : x.aux = 0) :
    (d.booked t p rs xs).entryCheck w x = d.entryCheck w x := by
  have hown : ∀ e : Dev, e.ownReserve x = e := fun e => if_pos haux
  unfold Dev.entryCheck
  refine ite_congr rfl (fun _ => rfl) fun _ => ite_congr rfl (fun _ => rfl) fun _ => ite_congr rfl (fun _ => rfl) fun _ =>
    ite_congr rfl (fun h => ?_) fun _ => ite_congr rfl (fun _ => rfl) fun _ => ite_congr rfl (fun _ => rfl) fun _ => ?_
  · simp only [Bool.and_eq_true, decide_eq_true_eq] at h
    exact queueCheck_booked (hq h.1 h.2)
  · rw [hown, hown, swapPend_status_booked]
    rfl

end

/-! Implicit transactions (R272). -/

/-- A write of a kept object outside a transaction forms one of its own. -/
theorem outside_kept {d : Dev} {w : Worn} {q : Request} {v : Nat} {x : Entry} {f : Info} (hkey : x.key ≠ Reg.BR_RELEASE)
    (h1 : actsAtOnce q.ix q.sub = false) (h2 : isHandleIx q.ix = true → q.sub ≠ 0x1E) (h3 : d.isDeferred q.ix q.sub true = false)
    (h4 : d.isStagedCommand q.ix q.sub = false) (hf : d.info q.ix q.sub = some f) (hk : f.persist = .kept) :
    d.outside w q v x = d.implicitTxn w x := by
  have h5 : q.ix ≠ 0x0220 ∧ ¬ (q.ix = 0x0230 ∧ q.sub = 1) ∧ ¬ (q.ix = 0x0230 ∧ q.sub = 2) := by
    refine ⟨fun hix => ?_, ?_, ?_⟩
    · rw [hix] at h1
      exact absurd h1 (by simp [actsAtOnce])
    all_goals
      rintro ⟨hix, hsub⟩
      rw [hix, hsub] at h1
      exact absurd h1 (by decide)
  have h6 : (isHandleIx q.ix && decide (q.sub = 0x1E) && measuring (d.kind (slotOf q.ix))) = false := by
    cases hh : isHandleIx q.ix
    · rfl
    · simp [h2 hh]
  simp only [Dev.outside, h5, hkey, h1, h6, h3, h4, hf, Option.map_some, hk]
  simp

/-- The transactions that wait for their boundary do not depend on when one was last used. -/
theorem waiting_used (d : Dev) (q : Request) (t : Nat) (p : Resp) (rs : List Requester) :
    (d.booked t p rs (d.used q).txns).waiting = d.waiting := by
  have hg : ∀ x : Txn, (if x.id = q.id && x.st = 1 then { x with last := q.t } else x).st = x.st ∧
      (if x.id = q.id && x.st = 1 then { x with last := q.t } else x).entries = x.entries := fun x => by split <;> exact ⟨rfl, rfl⟩
  show (List.filter _ (List.map _ d.txns)).flatMap _ = _
  rw [List.filter_map, List.flatMap_map]
  simp only [Function.comp_def, hg]
  rfl

section
variable {d : Dev} {w : Worn} {e : Entry}

/-- The module once a transaction of one entry is formed at t, journalled (R272, R273). -/
def Dev.formTxn (d : Dev) (e : Entry) (t : Nat) : Dev :=
  (({ d.wr Reg.TX_NEXT (if d.rd Reg.TX_NEXT = 2 ^ 32 - 1 then 1 else d.rd Reg.TX_NEXT + 1) with
    txns := d.txns ++ [{ num := d.rd Reg.TX_NEXT, id := e.id, st := 2, entries := [e], last := t, cyc := e.cyc, done := true }] } :
      Dev).journalPut (d.rd Reg.TX_NEXT) e.id 2).pruneTxns

/-- Numbering a transaction leaves the leave for heartwood writes as it was. -/
theorem mayWrite_next (v : Nat) : (d.wr Reg.TX_NEXT v).mayWrite = d.mayWrite := by
  unfold Dev.mayWrite Dev.opsFree Dev.opsInUse Dev.graftStep
  simp [Dev.wr_rd]

/-- An implicit transaction whose entry passes its check is numbered, journalled and waits for its boundary. -/
theorem implicitTxn_passes (hwait : d.waiting = []) (hself : d.rd Reg.CN_SELF ≠ 2) (hmay : d.mayWrite = true) (hkey : e.key ≠ Reg.CN_APPLY_AT)
    (hok : d.entryCheck w e = OK) : d.implicitTxn w e = (d.formTxn e d.now, {}) := by
  have hfree : d.opsFree = true := by
    simp only [Dev.mayWrite, Bool.and_eq_true] at hmay
    exact hmay.2
  have hcan : d.canopyRefuses [e] = none := by simp [Dev.canopyRefuses, List.findIdx?_cons, hkey, hself]
  dsimp only [Dev.implicitTxn]
  rw [hwait, show (d.layOver w []).entryCheck w e = OK from hok, hcan, hfree, if_neg (by decide), if_neg (by decide), if_neg (by decide)]
  dsimp only [Dev.issueTxn]
  rw [mayWrite_next, hmay]
  rfl

theorem implicitTxn_refused (hwait : d.waiting = []) (hne : d.entryCheck w e ≠ OK) : d.implicitTxn w e = (d, { status := d.entryCheck w e }) := by
  unfold Dev.implicitTxn
  rw [hwait]
  exact if_pos hne

end

/-- No kept object that waits for a transaction shares the key of BR_RELEASE. -/
theorem keptKey_ne_release {d : Dev} {ix sub : Nat} {f : Info} (hf : d.info ix sub = some f) (h : actsAtOnce ix sub = false) :
    ix * 256 + sub ≠ Reg.BR_RELEASE := by
  have hs := info_sub hf
  show ix * 256 + sub ≠ 0x0420 * 256 + 0x0D
  intro e
  have hix : ix = 0x0420 := by omega
  rw [hix] at h
  exact absurd h (by simp [actsAtOnce])

/-- The kept objects of a queue are its settings. -/
theorem keptQueue_sub {d : Dev} {ix sub : Nat} {f : Info} (h1 : 0x4000 ≤ ix) (h2 : ix < 0x4400) (hf : d.info ix sub = some f)
    (hk : f.persist = .kept) : sub ≠ 0x0E ∧ sub ≠ 0x0F ∧ sub ≠ 0x11 := by
  have hrow : ∀ f, d.info ix sub = some f → rowAt rowsQueue sub = some f := fun f hf => by
    rw [Dev.info, objInfo, rowsAt, if_neg (by omega), if_pos ⟨h1, h2⟩] at hf
    split at hf
    · cases hf
    · next rows hr =>
      split at hr
      · cases hr; exact hf
      · cases hr
  have hr := hrow f hf
  refine ⟨?_, ?_, ?_⟩ <;> rintro rfl <;> cases hr <;> cases hk

/-- A write of the object forms a transaction of its own: it is kept, and no other way of being carried out takes it. -/
def Dev.formsTxn (d : Dev) (ix sub : Nat) : Prop :=
  (∃ f, d.info ix sub = some f ∧ f.persist = .kept) ∧ d.isDeferred ix sub true = false ∧ d.isStagedCommand ix sub = false ∧
    actsAtOnce ix sub = false ∧ (isHandleIx ix = true → sub ≠ 0x1E)

theorem formsTxn_enable (d : Dev) (u : QueueNo) : d.formsTxn (0x4000 + 0x10 * u.val) 2 := by
  have hu : u.val < 64 := u.isLt
  refine ⟨⟨⟨.u 1, .rw, 0, .kept, false, .span 0 1⟩, ?_, rfl⟩, ?_, ?_, ?_, fun _ => by decide⟩
  · rw [Dev.info, objInfo, rowsAt, if_neg (by omega), if_pos (by omega), if_pos (by omega)]
    rfl
  · simp [Dev.isDeferred]; omega
  · simp [Dev.isStagedCommand]; omega
  · simp [actsAtOnce]; omega

theorem formsTxn_bank (d : Dev) (i : UnitNo) (k : Fin 3) {sub : Nat} (h1 : 1 ≤ sub) (h7 : sub ≤ 7) : d.formsTxn (0x5810 + 3 * i.val + k.val) sub := by
  have hi : i.val < 32 := i.isLt
  have hk : k.val < 3 := k.isLt
  refine ⟨?_, ?_, ?_, ?_, fun _ => by omega⟩
  · have hrow : d.info (0x5810 + 3 * i.val + k.val) sub = rowAt rowsBank sub := by
      rw [Dev.info, objInfo, rowsAt, if_neg (by omega), if_neg (by omega), if_neg (by omega), if_neg (by omega), if_pos (by omega)]
    rw [hrow]
    interval_cases sub <;> exact ⟨_, rfl, rfl⟩
  · simp [Dev.isDeferred, isHandleIx]; omega
  · simp [Dev.isStagedCommand, isHandleIx]; omega
  · simp [actsAtOnce]; omega

theorem formsTxn_trim {d : Dev} {k sub : Nat} (hk : k < 128) (hl : d.hst k ≠ 0) (hkind : d.kind k = 1 ∨ d.kind k = 2) (hsub : sub = 0x28 ∨ sub = 0x29) :
    d.formsTxn (0x2000 + 0x40 * k) sub := by
  have hslot : (0x2000 + 0x40 * k - 0x2000) / 0x40 = k := by omega
  refine ⟨?_, ?_, ?_, ?_, fun _ => by omega⟩
  · have hrow : d.info (0x2000 + 0x40 * k) sub = rowAt (rowsOfKind (d.kind k)) sub := by
      rw [Dev.info, objInfo, rowsAt, if_pos (by omega), if_pos (by omega), hslot, if_neg hl]
    rw [hrow]
    rcases hkind with h | h <;> rcases hsub with rfl | rfl <;> rw [h] <;> exact ⟨_, rfl, rfl⟩
  · rcases hsub with rfl | rfl <;> simp [Dev.isDeferred] <;> omega
  · rcases hkind with h | h <;> rcases hsub with rfl | rfl <;> simp [Dev.isStagedCommand, slotOf_handle, h, isSwitch]
  · simp [actsAtOnce]; omega

/-- The rows of the instruction table that write such an object. -/
theorem keptRow_writes {s : State} {r : Req} {i : UnitNo} {k : Fin 3} {sub v h : Nat} {span : Bool} {u : QueueNo} {c : Instr} {q : Request}
    (hw : writeOf c = some q) (hperm : s.dev.permits q)
    (hrow : (c = .bankDescriptorWrite r i k sub v ∧ 1 ≤ sub ∧ sub ≤ 7) ∨
      (c = .trimWrite r h span v ∧ (s.dev.kind (h % 128) = 1 ∨ s.dev.kind (h % 128) = 2)) ∨ c = .quEnable r u ∨ c = .quDisable r u) :
    q.total = 0 ∧ malformed q = none ∧ s.dev.formsTxn q.ix q.sub := by
  have hwhole : ∀ {r ix sub hnd len v}, len ≤ 16 → sub < 256 → writeOf c = some (writeReq r (ix * 256 + sub) hnd len v) →
      q.total = 0 ∧ malformed q = none ∧ q.ix = ix ∧ q.sub = sub ∧ q.hnd = hnd := fun {r ix sub hnd len v} hlen hsub e => by
    obtain rfl := Option.some.inj (hw.symm.trans e)
    obtain ⟨h1, h2⟩ := objKey_div ix sub hsub
    exact ⟨rfl, malformed_writeReq _ _ _ _ _ hperm.1.2.2.2.1 hlen, h1, h2, rfl⟩
  rcases hrow with ⟨rfl, h1, h7⟩ | ⟨rfl, hkind⟩ | rfl | rfl
  · obtain ⟨htot, hm, hix, hsub, -⟩ := hwhole (by split <;> omega) (Nat.mod_lt _ (by decide)) rfl
    rw [hix, hsub, Nat.mod_eq_of_lt (by omega)]
    exact ⟨htot, hm, formsTxn_bank _ i k h1 h7⟩
  · have hk : h % 128 < 128 := Nat.mod_lt _ (by decide)
    obtain ⟨b, hb, htot, hm, hix, hsub, hhnd⟩ : ∃ b, (b = 0x28 ∨ b = 0x29) ∧ q.total = 0 ∧ malformed q = none ∧
        q.ix = 0x2000 + 0x40 * (h % 128) ∧ q.sub = b ∧ q.hnd = h := by
      cases span
      · exact ⟨0x28, .inl rfl, hwhole (by decide) (by decide) rfl⟩
      · exact ⟨0x29, .inr rfl, hwhole (by decide) (by decide) rfl⟩
    obtain ⟨hlive, -⟩ := writeAccess_live (by rw [hix]; exact isHandleIx_handle hk) hperm.2.2.2
    rw [hhnd] at hlive
    have hst : s.dev.hst (h % 128) ≠ 0 := by
      intro e
      simp [Dev.isLive, e] at hlive
    rw [hix, hsub]
    exact ⟨htot, hm, formsTxn_trim hk hst hkind hb⟩
  · obtain ⟨htot, hm, hix, hsub, -⟩ := hwhole (by decide) (by decide) rfl
    rw [hix, hsub]
    exact ⟨htot, hm, formsTxn_enable _ u⟩
  · obtain ⟨htot, hm, hix, hsub, -⟩ := hwhole (by decide) (by decide) rfl
    rw [hix, hsub]
    exact ⟨htot, hm, formsTxn_enable _ u⟩

/-- Settles O19: a write outside a transaction that no earlier way takes forms an implicit one, and booking its answer leaves the check alone. -/
theorem keptWritesFormTransactions : Obligations.KeptWritesFormTransactions := by
  unfold Obligations.KeptWritesFormTransactions
  intro s r i k sub v h span u c q hw hperm row other hro hwait hself hmay hkey e n d
  have hother : other := by
    rcases hro with hrow | h
    · exact keptRow_writes hw hperm hrow
    · exact h
  obtain ⟨htot, hm, ⟨f, hf, hk⟩, hdef, hst, hat, hurg⟩ := hother
  have hp : Permitted c s q := ⟨exec_writeOf s c q hw, hperm, hm, writeOf_op hw, htot⟩
  have hout : ∀ rs xs, (s.dev.booked q.t {} rs xs).outside s.worn q q.data e = (s.dev.booked q.t {} rs xs).implicitTxn s.worn e := fun rs xs =>
    outside_kept (keptKey_ne_release hf hat) hat hurg hdef hst hf hk
  have hcheck : ∀ rs xs, (s.dev.booked q.t {} rs xs).entryCheck s.worn e = s.dev.entryCheck s.worn e := fun rs xs =>
    entryCheck_booked (fun h1 h2 => keptQueue_sub h1 h2 hf hk) rfl
  obtain ⟨rs, he⟩ := arrived_booked s.dev q
  have hwait' : (s.dev.booked q.t {} rs d.txns).waiting = [] := (waiting_used s.dev q q.t {} rs).trans hwait
  refine ⟨fun hok => ?_, fun hne hbusy => ?_⟩
  · refine hp.obeys (x := (s.dev.booked q.t {} rs d.txns).formTxn e q.t) (D := d.formTxn e q.t) ?_ (by decide) ?_ (by rw [he]; rfl) rfl ?_
    · rw [he, hout]
      exact implicitTxn_passes hwait' hself hmay hkey ((hcheck rs _).trans hok)
    · rfl
    · exact (Dev.wr_rd _ _ _ _).trans (if_neg (by decide))
  · refine hp.obeys (x := s.dev.booked q.t {} rs d.txns) (D := s.dev) ?_ (fun h => absurd h hbusy) ?_ (by rw [he]) rfl rfl
    · rw [he, hout, implicitTxn_refused hwait' (by rw [hcheck]; exact hne), hcheck]
    · dsimp only
      rw [decide_eq_false hbusy]
      exact booked_aside s.dev s.dev q q.t {} rs rfl

end Sys2Proof.Machine
end

/-! The service code in a transaction (R261, R269). -/
section
namespace Sys2Proof.Machine

/-- A module in PREOP whose requester 1 has SERVICE privilege and an open transaction. -/
def serviceOpened : State :=
  { dev := { State.reset.dev with
      crownUp := true, coreUp := true, obj := [(Reg.DEV_STATE, PREOP)], reqs := [{ id := 1, service := true }], txns := [{ num := 1, id := 1 }] } }

/-- The answer that a command leaves with a status. -/
theorem Obeys.status {c : Instr} {s : State} {q : Request} {a : Answer} {d : Dev} (h : Obeys c s q a d) :
    (devAfter (exec c s)).resp.status = a.status := by
  obtain ⟨t, ht, -, ⟨-, hresp, -⟩, -⟩ := h
  rw [ht]
  show t.dev.resp.status = _
  rw [hresp]
  rfl

/-- Refutes O20: a service code of 0 is outside the object's range of 1 to 2^32 - 1 and is answered RANGE; the statement stages it. -/
theorem not_transactionsStageAndCommit : ¬ Obligations.TransactionsStageAndCommit := by
  unfold Obligations.TransactionsStageAndCommit
  intro h
  have hserves : serviceOpened.dev.serves 1 1 :=
    ⟨rfl, by decide +kernel, by decide +kernel, by decide, rfl, trivial⟩
  obtain ⟨hcode, -⟩ := h.2 serviceOpened ⟨1, 1, 0⟩ { num := 1, id := 1 } hserves (by decide +kernel)
  have hobeys := hcode 0 (by decide) (by decide +kernel) (by decide) (by decide)
  exact absurd hobeys.status (by decide +kernel)

end Sys2Proof.Machine
end

/-! Completion of deferred requests (R28, R43 to R45, R60, R110, R200, R268). -/
section
namespace Sys2Proof.Machine

/-- The next deferred write completes, if it is of the kind asked for and the core works. -/
theorem complete_goes {s : State} {kind : Deferred → Bool} {t : Nat} {f : Deferred} (hcore : s.dev.coreWorks = true)
    (hmay : s.dev.mayWrite = true) (hnext : s.dev.nextDeferred = some f) (hop : f.q.op = OP_WRITE) (hkind : kind f = true) :
    s.complete kind t = .next { s with dev :=
      ((s.dev.at t).completeWrite s.worn f.e).1.finish f ((s.dev.at t).completeWrite s.worn f.e).2 } := by
  have hnext' : (s.dev.at t).nextDeferred = some f := hnext
  have hcore' : (s.dev.at t).coreWorks = true := hcore
  have hmay' : (s.dev.at t).mayWrite = true := hmay
  rw [State.complete, State.run, Dev.completeNext, hnext']
  simp only [hcore', hmay', hkind, hop]
  simp

/-! The write of a deferred request. -/

section
variable {d : Dev} {w : Worn} {x : Entry}

theorem completeWrite_create {k : Nat} (hkey : x.key = Reg.HM_CREATE) (hwhy : d.createCheck x.val = 0) (hslot : d.freeSlot = some k) :
    d.completeWrite w x = (d.withDigests (·.createNow k x.val), { len := 2, data := handleOf k (d.slot k).gen }) := by
  unfold Dev.completeWrite
  rw [if_neg (by rw [hkey]; decide), if_pos hkey]
  simp only [hwhy, hslot]

theorem completeWrite_createRefused (hkey : x.key = Reg.HM_CREATE) (hwhy : d.createCheck x.val ≠ 0) :
    d.completeWrite w x = (d.createRefused (d.createCheck x.val) x.id, { status := createStatus (d.createCheck x.val) }) := by
  unfold Dev.completeWrite
  rw [if_neg (by rw [hkey]; decide), if_pos hkey]
  generalize d.createCheck x.val = why at *
  cases why with
  | zero => exact absurd rfl hwhy
  | succ n => rfl

theorem completeWrite_swap (hkey : x.key = Reg.SQ_SWAP) (hok : d.swapCheck x.val = OK) :
    d.completeWrite w x = ((d.swapPend x.val).1, { status := d.entryCheck w x }) := by
  unfold Dev.completeWrite
  rw [if_neg (by rw [hkey]; decide), if_neg (by rw [hkey]; decide), if_pos hkey, if_neg (not_not.2 hok)]

theorem completeWrite_bank (hix : 0x5810 ≤ x.ix ∧ x.ix < 0x5870) (hkey : x.key ≠ Reg.TX_COMMIT ∧ x.key ≠ Reg.HM_CREATE ∧ x.key ≠ Reg.SQ_SWAP) :
    d.completeWrite w x = if d.entryCheck w x = OK then (d.applyEntry w x, {})
      else (d.when (d.entryCheck w x = RANGE) fun d => d.setBank (bankOf x.ix).1 (bankOf x.ix).2 0, { status := d.entryCheck w x }) := by
  unfold Dev.completeWrite
  rw [if_neg hkey.1, if_neg hkey.2.1, if_neg hkey.2.2, if_pos hix]

/-- A deferred write of a plain object: refused by its own conditions, or of effect, the digests following. -/
theorem completeWrite_plain (hkey : x.key ≠ Reg.TX_COMMIT ∧ x.key ≠ Reg.HM_CREATE ∧ x.key ≠ Reg.SQ_SWAP) (hix : x.ix < 0x5810 ∨ 0x5870 ≤ x.ix)
    (hself : d.rd Reg.CN_SELF ≠ 2) (hat : x.key ≠ Reg.CN_APPLY_AT) :
    d.completeWrite w x = if d.entryCheck w x = OK then (d.withDigests (·.applyEntry w x), {}) else (d, { status := d.entryCheck w x }) := by
  have hcan : d.canopyRefuses [x] = none := by simp [Dev.canopyRefuses, List.findIdx?_cons, hat, hself]
  unfold Dev.completeWrite
  rw [if_neg hkey.1, if_neg hkey.2.1, if_neg hkey.2.2, if_neg (by omega), hcan]
  by_cases h : d.entryCheck w x = OK
  · rw [if_neg (not_not.2 h), if_pos h]
    rfl
  · rw [if_pos h, if_neg h]

end

/-! The slots of handles (R36, R45). -/

theorem log1_slots (d : Dev) (code src det : Nat) : (d.log1 code src det).slots = d.slots := by rw [(log1_quiet d code src det).1]

theorem wrote_slots (d : Dev) (l : List Nat) : (d.wrote l).slots = d.slots := by
  unfold Dev.wrote Dev.when
  generalize decide (l ≠ []) = b
  cases b <;> rfl

theorem drain_slots (d : Dev) : d.drain.slots = d.slots := by
  unfold Dev.drain
  split
  · dsimp only
    exact wrote_slots d _
  · rfl

theorem reply_slots (d : Dev) (q : Request) (a : Answer) : (d.reply q a).slots = d.slots := by
  unfold Dev.reply Dev.when
  generalize decide (a.status = BUSY) = b
  cases b <;> rfl

theorem finish_slots (d : Dev) (f : Deferred) (a : Answer) : (d.finish f a).slots = d.slots :=
  (reply_slots _ f.q a).trans (drain_slots _)

theorem withDigests_slots (d : Dev) (f : Dev → Dev) : (d.withDigests f).slots = (f d).slots := by
  refine each_keeps Dev.slots _ (fun e b => ?_) _ _
  split
  · rfl
  · unfold Dev.commitDigest
    dsimp only
    generalize Dev.linked _ b = l
    cases l <;> rfl

theorem setBank_slots (d : Dev) (i k st : Nat) : (d.setBank i k st).slots = d.slots := by
  simp only [Dev.setBank, Dev.wr_slots]

theorem clearBank_slots (d : Dev) (i k : Nat) : (d.clearBank i k).slots = d.slots := by
  rw [Dev.clearBank, setBank_slots]
  exact each_keeps Dev.slots (fun d a => d.wr a (dfltOf a)) (fun _ _ => Dev.wr_slots _ _ _) d _

theorem refreshUnit_slots (d : Dev) (i : Nat) : (d.refreshUnit i).slots = d.slots := by
  simp only [Dev.refreshUnit, Dev.publish, Dev.wr_slots]
  refine each_keeps Dev.slots (fun d k => d.when (d.bank i k ≠ 0) (·.measureBank i k)) (fun e k => ?_) d _
  generalize decide (e.bank i k ≠ 0) = b
  cases b
  · rfl
  · simp only [Dev.when_true, Dev.measureBank, Dev.wr_slots]

theorem freeUnitOf_slots (d : Dev) (i : Nat) : (d.freeUnitOf i).slots = d.slots := by
  simp only [Dev.freeUnitOf, Dev.resetBanks, Dev.bankAReset, Dev.setLoad, refreshUnit_slots, setBank_slots, clearBank_slots, Dev.wr_slots,
    Dev.modInst_eq, Dev.setInst_slots]

theorem captureAbandon_slots (d : Dev) : d.captureAbandon.slots = d.slots := by
  unfold Dev.captureAbandon
  split
  · rw [log1_slots]
    rfl
  · rfl

theorem slot_of_slots {d e : Dev} (h : e.slots = d.slots) (k : Nat) : e.slot k = d.slot k := by rw [Dev.slot, Dev.slot, h]

/-- A freed slot keeps its reservation and takes the next generation. -/
theorem freeSlotOf_slot (d : Dev) (k : Nat) : (d.freeSlotOf k).slot k = { gen := nextGen k (d.slot k).gen, held := (d.slot k).held } := by
  have hwhen : ∀ (e : Dev) (b : Bool) (f : Dev → Dev), (∀ e : Dev, (f e).slots = e.slots) → (e.when b f).slots = e.slots := fun e b f h => by
    cases b
    · rfl
    · exact h e
  dsimp only [Dev.freeSlotOf]
  rw [Dev.setSlot_slot, if_pos rfl]
  refine congrArg (fun x : Slot => ({ gen := nextGen k x.gen, held := x.held } : Slot)) (slot_of_slots ?_ k)
  refine Eq.trans (hwhen _ _ _ fun e => freeUnitOf_slots e _) (hwhen _ _ _ captureAbandon_slots)

/-- What a destroy is judged by (R45). -/
theorem entryCheck_destroy {d : Dev} {w : Worn} {x : Entry} (hix : x.ix = 0x1000) (hsub : x.sub = 2) : d.entryCheck w x = d.destroyCheck x.val := by
  simp [Dev.entryCheck, hix, hsub, isHandleIx]

theorem applyEntry_destroy {d : Dev} {w : Worn} {x : Entry} (hix : x.ix = 0x1000) (hsub : x.sub = 2) :
    d.applyEntry w x = d.destroyAt w (x.val % 128) := by
  simp [Dev.applyEntry, Dev.systemWrite, hix, hsub, isHandleIx]

/-- A destroy as it completes (R45). -/
def Dev.destroyed (d : Dev) (w : Worn) (h : Nat) : Dev × Answer :=
  if d.destroyCheck h = OK then (d.withDigests (·.destroyAt w (h % 128)), {}) else (d, { status := d.destroyCheck h })

/-- Settles O15: what the completed write is judged by, and what it does. -/
theorem createsAndDestroysComplete : Obligations.CreatesAndDestroysComplete := by
  unfold Obligations.CreatesAndDestroysComplete
  intro s t f hcore hmay hnext hop d
  have hcreate : f.e.key = Reg.HM_CREATE → exec (.createComplete t) s = _ := fun hkey =>
    complete_goes (kind := Deferred.writes Reg.HM_CREATE) hcore hmay hnext hop (by simp [Deferred.writes, hop, hkey])
  have hdestroy : f.e.key = Reg.HM_DESTROY → f.e.ix = 0x1000 → f.e.sub = 2 → s.dev.rd Reg.CN_SELF = 0 →
      Goes (.destroyComplete t) s ((d.destroyed s.worn f.e.val).1.finish f (d.destroyed s.worn f.e.val).2) :=
    fun hkey hix hsub hself => by
      have hplain := completeWrite_plain (d := d) (w := s.worn) (x := f.e) (by rw [hkey]; decide) (.inl (by rw [hix]; decide))
        (by rw [show d.rd Reg.CN_SELF = 0 from hself]; decide) (by rw [hkey]; decide)
      rw [entryCheck_destroy hix hsub] at hplain
      simp only [applyEntry_destroy hix hsub] at hplain
      rw [Dev.destroyed, ← hplain]
      exact complete_goes (kind := Deferred.writes Reg.HM_DESTROY) hcore hmay hnext hop (by simp [Deferred.writes, hop, hkey])
  refine ⟨fun k hkey hwhy hslot => ?_, fun hkey hwhy => ?_, fun hkey hix hsub hl hself hst => ?_, fun hkey hix hsub hl hself hr hs => ?_⟩
  · have h := hcreate hkey
    rw [completeWrite_create (d := s.dev.at t) hkey hwhy hslot] at h
    exact h
  · have h := hcreate hkey
    rw [completeWrite_createRefused (d := s.dev.at t) hkey hwhy] at h
    exact h
  · have hchk : d.destroyCheck f.e.val = NEEDS_STOP := by
      unfold Dev.destroyCheck
      rw [if_neg (by rw [show d.isLive f.e.val = true from hl]; decide)]
      exact if_pos hst
    have h := hdestroy hkey hix hsub hself
    rw [Dev.destroyed, hchk, if_neg (by decide)] at h
    exact h
  · have hchk : d.destroyCheck f.e.val = OK := by
      unfold Dev.destroyCheck
      rw [if_neg (by rw [show d.isLive f.e.val = true from hl]; decide)]
      exact if_neg fun h => h.elim hr hs
    have h := hdestroy hkey hix hsub hself
    rw [Dev.destroyed, hchk, if_pos rfl] at h
    refine ⟨h, fun hdrv => ⟨_, h, ⟨rfl, rfl, rfl⟩, ?_⟩⟩
    have hat : d.destroyAt s.worn (f.e.val % 128) = d.freeSlotOf (f.e.val % 128) := if_neg (by rw [show d.isDriver _ = false from hdrv]; decide)
    show ((d.withDigests (·.destroyAt s.worn (f.e.val % 128))).finish f {}).slot (f.e.val % 128) = _
    rw [slot_of_slots (finish_slots _ f _), slot_of_slots (withDigests_slots d _), hat]
    exact freeSlotOf_slot d _

/-! The other deferred writes (R60, R110, R200, R268). -/

/-- A deferred write of a plain object as it completes. -/
theorem complete_plain {c : Instr} {s : State} {kind : Deferred → Bool} {t : Nat} {f : Deferred} (hc : exec c s = s.complete kind t)
    (hcore : s.dev.coreWorks = true) (hmay : s.dev.mayWrite = true) (hnext : s.dev.nextDeferred = some f) (hop : f.q.op = OP_WRITE)
    (hkind : kind f = true) (hkey : f.e.key ≠ Reg.TX_COMMIT ∧ f.e.key ≠ Reg.HM_CREATE ∧ f.e.key ≠ Reg.SQ_SWAP)
    (hix : f.e.ix < 0x5810 ∨ 0x5870 ≤ f.e.ix) (hself : s.dev.rd Reg.CN_SELF ≠ 2) (hat : f.e.key ≠ Reg.CN_APPLY_AT) :
    ((s.dev.at t).entryCheck s.worn f.e ≠ OK →
      Goes c s ((s.dev.at t).finish f { status := (s.dev.at t).entryCheck s.worn f.e })) ∧
    ((s.dev.at t).entryCheck s.worn f.e = OK →
      Goes c s (((s.dev.at t).withDigests fun e => e.applyEntry s.worn f.e).finish f {})) := by
  have h : Goes c s _ := hc.trans (complete_goes hcore hmay hnext hop hkind)
  rw [completeWrite_plain (d := s.dev.at t) hkey hix hself hat] at h
  refine ⟨fun hne => ?_, fun hok => ?_⟩
  · rw [if_neg hne] at h
    exact h
  · rw [if_pos hok] at h
    exact h

theorem bankOf_bank (i : UnitNo) (k : Fin 3) : bankOf (0x5810 + 3 * i.val + k.val) = (i.val, k.val) := by
  have hk : k.val < 3 := k.isLt
  refine Prod.ext ?_ ?_
  · show (0x5810 + 3 * i.val + k.val - 0x5810) / 3 = i.val
    omega
  · show (0x5810 + 3 * i.val + k.val - 0x5810) % 3 = k.val
    omega

/-- The check of a bank that is not in use (R110). -/
theorem entryCheck_bkLoad {d : Dev} {w : Worn} {x : Entry} {i : UnitNo} {k : Fin 3} (hix : x.ix = 0x5810 + 3 * i.val + k.val) (hsub : x.sub = 8)
    (hfree : d.bank i k < 2) : d.entryCheck w x = if d.bankPasses i k then OK else RANGE := by
  have hi : i.val < 32 := i.isLt
  have hk : k.val < 3 := k.isLt
  have h1 : isHandleIx x.ix = false := by rw [hix]; simp [isHandleIx]; omega
  have h2 : (0x5000 ≤ x.ix && x.ix < 0x5800) = false := by rw [hix]; simp; omega
  have h3 : (0x5810 ≤ x.ix && x.ix < 0x5870) = true := by rw [hix]; simp; omega
  dsimp only [Dev.entryCheck]
  rw [h1, h2, h3, hix, bankOf_bank]
  dsimp only
  rw [if_neg (by decide), if_neg (by decide), if_pos rfl, if_neg (by omega), hsub]
  cases d.bankPasses i k <;> rfl

theorem applyEntry_bkLoad {d : Dev} {w : Worn} {x : Entry} {i : UnitNo} {k : Fin 3} (hix : x.ix = 0x5810 + 3 * i.val + k.val) (hsub : x.sub = 8) :
    d.applyEntry w x = (d.bankChecked i k 1).coefKept i k := by
  have hi : i.val < 32 := i.isLt
  have hk : k.val < 3 := k.isLt
  have h1 : isHandleIx x.ix = false := by rw [hix]; simp [isHandleIx]; omega
  have h2 : (0x5000 ≤ x.ix && x.ix < 0x5800) = false := by rw [hix]; simp; omega
  have h3 : (0x5810 ≤ x.ix && x.ix < 0x5870) = true := by rw [hix]; simp; omega
  dsimp only [Dev.applyEntry]
  rw [h1, h2, h3]
  rw [if_neg (by decide), if_neg (by decide), if_pos rfl, Dev.bankWrite, hix, bankOf_bank, hsub]
  rfl

/-- Settles O18: the completed write passes or fails its own check, and what a good one does follows from its object. -/
theorem deferredRequestsComplete : Obligations.DeferredRequestsComplete := by
  unfold Obligations.DeferredRequestsComplete
  constructor
  · intro s t f hcore hmay hnext hop hself hat h1 h2 h3 hix _ _ d
    obtain ⟨hne, hok⟩ := complete_plain (c := .deferredComplete t) (kind := fun _ => true) rfl hcore hmay hnext hop rfl ⟨h1, h2, h3⟩ hix hself hat
    have hfun : ∀ g : Dev → Dev, (∀ e : Dev, e.applyEntry s.worn f.e = g e) → d.entryCheck s.worn f.e = OK →
        Goes (.deferredComplete t) s ((d.withDigests g).finish f {}) := fun g hg h => by
      rw [← funext hg]
      exact hok h
    refine ⟨hne, fun h => ⟨hok h, fun hkey hix => hfun _ (fun e => ?_) h, fun hix hsub => hfun _ (fun e => ?_) h,
      fun hix hsub haux => hfun _ (fun e => ?_) h⟩⟩
    · have hsub : f.e.sub = 0x0B := by
        have hk : f.e.ix * 256 + f.e.sub = 0x80000B := hkey
        omega
      simp [Dev.applyEntry, Dev.systemWrite, hix, hsub, isHandleIx]
    · simp [Dev.applyEntry, Dev.systemWrite, hix, hsub, isHandleIx]
    · simp [Dev.applyEntry, Dev.systemWrite, hix, hsub, haux, isHandleIx]
  intro s t f hcore hmay hnext hop d
  refine ⟨?_, ?_, ?_⟩
  · intro n hix hsub hchk hself
    have hn : n.val < 16 := n.isLt
    have hkey : ∀ j, j < 0x101000 ∨ 0x101100 ≤ j → f.e.key ≠ j := fun j hj => by
      rw [Entry.key, hix, hsub]
      omega
    obtain ⟨hne, hok⟩ := complete_plain (c := .pupWriteDone t) (kind := fun f => f.q.op = OP_WRITE && (f.e.ix = 0x1010 || f.e.ix = 0x1011)) rfl
      hcore hmay hnext hop (by simp [hop, hix]) ⟨hkey _ (.inl (by decide)), hkey _ (.inl (by decide)), hkey _ (.inl (by decide))⟩
      (.inl (by rw [hix]; decide)) hself (hkey _ (.inr (by decide)))
    have hcheck : d.entryCheck s.worn f.e = if d.linked (n.val / 4) then OK else BUSY := by
      simp [Dev.entryCheck, hix, hsub, isHandleIx, hchk]
    have happ : ∀ e : Dev, e.applyEntry s.worn f.e = e.pupWrite n f.e.val := fun e => by
      simp [Dev.applyEntry, Dev.systemWrite, hix, hsub, isHandleIx]
    refine ⟨fun hl => ?_, fun hl => ?_⟩
    · rw [hl] at hcheck
      have := hok hcheck
      simp only [happ] at this
      exact this
    · rw [hl] at hcheck
      have := hne (by rw [show (s.dev.at t).entryCheck s.worn f.e = BUSY from hcheck]; decide)
      rw [show (s.dev.at t).entryCheck s.worn f.e = BUSY from hcheck] at this
      exact this
  · intro i k hix hsub hfree
    have hi : i.val < 32 := i.isLt
    have hk : k.val < 3 := k.isLt
    have hkey : ∀ j, j < 0x581000 → f.e.key ≠ j := fun j hj => by
      rw [Entry.key, hix, hsub]
      omega
    have hwrite := completeWrite_bank (d := d) (w := s.worn) (x := f.e) (by omega)
      ⟨hkey _ (by decide), hkey _ (by decide), hkey _ (by decide)⟩
    have h : Goes (.bkLoadComplete t) s ((d.completeWrite s.worn f.e).1.finish f (d.completeWrite s.worn f.e).2) :=
      complete_goes (kind := fun f => f.q.op = OP_WRITE && 0x5810 ≤ f.e.ix && f.e.ix < 0x5870) hcore hmay hnext hop (by simp [hop]; omega)
    rw [hwrite, entryCheck_bkLoad hix hsub hfree, applyEntry_bkLoad hix hsub, hix, bankOf_bank] at h
    refine ⟨fun hp => ?_, fun hp => ?_⟩
    · rw [hp] at h
      exact h
    · rw [hp] at h
      exact h
  · intro hkey hix hsub haux hok
    have hwrite := completeWrite_swap (d := d) (w := s.worn) (x := f.e) hkey hok
    have hcheck : d.entryCheck s.worn f.e = (d.swapPend f.e.val).2 := by
      simp [Dev.entryCheck, hix, hsub, haux, hok, isHandleIx]
    have h : Goes (.sqSwapCheckDone t) s ((d.completeWrite s.worn f.e).1.finish f (d.completeWrite s.worn f.e).2) :=
      complete_goes (kind := Deferred.writes Reg.SQ_SWAP) hcore hmay hnext hop (by simp [Deferred.writes, hop, hkey])
    rw [hwrite, hcheck] at h
    exact h

end Sys2Proof.Machine
end

/-! What the operations on one queue leave unchanged, and a WRITE of a queue's command objects (R221 to R231, R258). -/
section
namespace Sys2Proof.Machine

theorem logKey_iff {k : Nat} : logKey k ↔ k = 0x02F005 ∨ k = 0x801001 ∨ k = 0x02F002 ∨ (0x400000 ≤ k ∧ k < 0x442000) := Iff.rfl

/-- The slot that an object entry shows to be live. -/
def liveSlotOf (p : Nat × Nat) : Option Nat :=
  if p.1 % 256 = 3 ∧ 0x2000 ≤ p.1 / 256 ∧ p.1 / 256 < 0x4000 ∧ (p.1 / 256 - 0x2000) % 0x40 = 0 then some ((p.1 / 256 - 0x2000) / 0x40) else none

theorem liveSlots_lt {d : Dev} {k : Nat} (h : k ∈ d.liveSlots) : k < 128 := by
  obtain ⟨p, -, hp⟩ := List.mem_filterMap.1 (show k ∈ d.obj.filterMap liveSlotOf from h)
  unfold liveSlotOf at hp
  split at hp
  · cases hp
    omega
  · cases hp

/-- An entry that the digest of branch b covers, ks being its drivers (R336). -/
def Dev.digestCovers (d : Dev) (ks : List Nat) (b : Nat) (p : Nat × Nat) : Bool :=
  (0x2000 ≤ p.1 / 256 && p.1 / 256 < 0x4000 && ks.contains ((p.1 / 256 - 0x2000) / 0x40) &&
    (match objInfo (fun k => d.kind k) (p.1 / 256) (p.1 % 256) with
     | some r => p.1 % 256 ≠ 3 && p.1 % 256 ≠ 9 && (r.acc = .rw || r.acc = .rws || p.1 % 256 = 5) && r.persist ≠ .vol
     | none => false)) ||
  ((p.1 / 256 = 0x1010 || p.1 / 256 = 0x1011) && (p.1 % 256 - 1) / 4 = b && 1 ≤ p.1 % 256) || p.1 = Reg.HOLD_TIME b

theorem digestContent_eq (d : Dev) (b : Nat) : d.digestContent b = d.obj.filter (d.digestCovers (d.branchDrivers b) b) := rfl

theorem digestCovers_plain {d : Dev} {ks : List Nat} {b : Nat} {p : Nat × Nat} (h : ¬ (0x2000 ≤ p.1 / 256 ∧ p.1 / 256 < 0x4000)) :
    d.digestCovers ks b p =
      (((p.1 / 256 = 0x1010 || p.1 / 256 = 0x1011) && (p.1 % 256 - 1) / 4 = b && 1 ≤ p.1 % 256) || p.1 = Reg.HOLD_TIME b) := by
  have hr : (decide (0x2000 ≤ p.1 / 256) && decide (p.1 / 256 < 0x4000)) = false := by simpa using h
  unfold Dev.digestCovers
  rw [hr]
  simp

/-- From d to t only what queues and logging reach has changed, in the object store by keys of theirs. -/
structure QueueOnly (d t : Dev) : Prop where
  quiet : Quiet d t
  entries : EntriesKept d t

namespace QueueOnly

theorem refl (d : Dev) : QueueOnly d d := ⟨.refl d, .refl d⟩

theorem trans {d t u : Dev} (h : QueueOnly d t) (g : QueueOnly t u) : QueueOnly d u := ⟨h.quiet.trans g.quiet, h.entries.trans g.entries⟩

theorem setQueue (d : Dev) (q : Nat) (x : Queue) : QueueOnly d (d.setQueue q x) := ⟨.setQueue d q x, .of_obj rfl⟩

theorem logs (d : Dev) (es : Evs) : QueueOnly d (d.logs es) := ⟨logs_quiet d es, .logs d es⟩

theorem logged {d : Dev} {r : Dev × Evs} (h : QueueOnly d r.1) : QueueOnly d (logged r) := h.trans (logs r.1 r.2)

section
variable (d : Dev) {q : Nat} (hq : q < 64)
include hq

theorem guardQueue : QueueOnly d (d.guardQueue q).1 := ⟨.guardQueue d q hq, .guardQueue d hq⟩

theorem queueReset (r : Nat) : QueueOnly d (d.queueReset q r).1 := ⟨.queueReset d q r hq, .queueReset d r hq⟩

theorem openPacket (ty : Nat) : QueueOnly d (d.openPacket q ty).1 := ⟨.openPacket d q ty hq, .openPacket d ty hq⟩

theorem appendBytes (bs : List Nat) : QueueOnly d (d.appendBytes q bs).1 := ⟨.appendBytes d q bs hq, .appendBytes d bs hq⟩

theorem commitPacket : QueueOnly d (d.commitPacket q).1 := ⟨.commitPacket d q hq, .commitPacket d hq⟩

theorem abortPacket (r : Nat) : QueueOnly d (d.abortPacket q r).1 := ⟨.abortPacket d q r hq, .abortPacket d r hq⟩

omit hq in
theorem noteRelease (a b : Nat) : QueueOnly d (d.noteRelease q a b).1 := by
  unfold Dev.noteRelease
  dsimp only
  split
  · exact setQueue d q _
  · exact refl d

theorem releaseTo (p : BitVec 32) : QueueOnly d (d.releaseTo q p).1 := by
  have hg : QueueOnly d (Sys2Proof.Machine.logged (d.guardQueue q)) := logged (guardQueue d hq)
  unfold Dev.releaseTo
  dsimp only
  split
  · exact hg
  · exact hg.trans (logged ((setQueue _ q _).trans (noteRelease _ _ _)))

theorem queueCmd (c : Nat) : QueueOnly d (d.queueCmd q c).1 := by
  have hg : QueueOnly d (Sys2Proof.Machine.logged (d.guardQueue q)) := logged (guardQueue d hq)
  unfold Dev.queueCmd
  split
  · exact hg.trans (setQueue _ q _)
  · unfold Dev.queueRewind
    dsimp only
    split
    · exact hg.trans (setQueue _ q _)
    · exact hg
  · exact releaseTo d hq _
  · exact logged (queueReset d hq 1)
  · exact setQueue d q _
  · exact refl d

theorem hostWrite (bs : List Nat) : QueueOnly d (d.hostWrite q bs).1 := by
  have hopen : ∀ b : Bool, QueueOnly d (if b then d else Sys2Proof.Machine.logged (d.openPacket q 0x80)) := fun b => by
    cases b
    · exact logged (openPacket d hq 0x80)
    · exact refl d
  have ho := hopen (d.queue q).opn.isSome
  unfold Dev.hostWrite
  dsimp only
  generalize (if (d.queue q).opn.isSome = true then d else Sys2Proof.Machine.logged (d.openPacket q 0x80)) = e at *
  split
  · exact ho
  · exact ho.trans (logged (appendBytes e hq bs))

theorem hostEnd (v : Nat) : QueueOnly d (d.hostEnd q v) := by
  unfold Dev.hostEnd
  split
  · exact refl d
  · split
    · exact logged (commitPacket d hq)
    · exact logged (abortPacket d hq 3)

end

/-! Objects that are none of theirs. -/

variable {d t : Dev} (h : QueueOnly d t)
include h

theorem now : t.now = d.now := by rw [h.quiet.1]

theorem handle_rd {k c : Nat} (hk : k < 128) (hc : c < 256) : t.rd ((0x2000 + 0x40 * k) * 256 + c) = d.rd ((0x2000 + 0x40 * k) * 256 + c) := by
  refine h.quiet.2 _ fun hl => ?_
  have := logKey_iff.1 hl
  omega

theorem kind {k : Nat} (hk : k < 128) : t.kind k = d.kind k := h.handle_rd hk (by decide : 2 < 256)

/-- An entry that stands for no key of queues and logging shows where a live handle stands. -/
theorem liveSlots : t.liveSlots = d.liveSlots := by
  have hsplit : ∀ e : Dev, e.liveSlots = (e.obj.filter fun p => (liveSlotOf p).isSome).filterMap liveSlotOf := fun e => by
    rw [List.filterMap_filter]
    refine congrArg (fun g => e.obj.filterMap g) (funext fun p => ?_)
    show liveSlotOf p = _
    cases liveSlotOf p <;> rfl
  rw [hsplit, hsplit, h.entries _ fun k v hk => ?_]
  have := logKey_iff.1 hk
  unfold liveSlotOf
  rw [if_neg (by dsimp only; omega)]
  rfl

theorem branchDrivers (b : Nat) : t.branchDrivers b = d.branchDrivers b := by
  have hsame : ∀ k ∈ d.liveSlots, t.isDriver k = d.isDriver k ∧ t.chanOf k = d.chanOf k := fun k hk => by
    have hk : k < 128 := liveSlots_lt hk
    have h3 : t.hst k = d.hst k := h.handle_rd hk (by decide : 3 < 256)
    have h5 : t.rd (Reg.HND_BIND k) = d.rd (Reg.HND_BIND k) := h.handle_rd hk (by decide : 5 < 256)
    rw [Dev.isDriver, Dev.isDriver, Dev.isObserver, Dev.isObserver, Dev.chanOf, Dev.chanOf, h3, h5, h.kind hk]
    exact ⟨rfl, rfl⟩
  unfold Dev.branchDrivers Dev.drivers
  rw [h.liveSlots, List.filter_filter, List.filter_filter]
  refine List.filter_congr fun k hk => ?_
  obtain ⟨h1, h2⟩ := hsame k hk
  rw [h1, h2]

/-- What a branch's digest covers is none of theirs (R336). -/
theorem digestContent {b : Nat} (hb : b < 4) : t.digestContent b = d.digestContent b := by
  have hsame : ∀ p, t.digestCovers (d.branchDrivers b) b p = d.digestCovers (d.branchDrivers b) b p := fun p => by
    by_cases hp : 0x2000 ≤ p.1 / 256 ∧ p.1 / 256 < 0x4000
    · have hrows : rowsAt (fun k => t.kind k) (p.1 / 256) = rowsAt (fun k => d.kind k) (p.1 / 256) := by
        unfold rowsAt
        rw [if_pos hp, if_pos hp]
        dsimp only
        rw [h.kind (show (p.1 / 256 - 0x2000) / 0x40 < 128 by omega)]
      unfold Dev.digestCovers objInfo
      rw [hrows]
    · rw [digestCovers_plain hp, digestCovers_plain hp]
  rw [digestContent_eq, digestContent_eq, h.branchDrivers b, funext hsame]
  refine h.entries _ fun k v hk => ?_
  have := logKey_iff.1 hk
  rw [digestCovers_plain (by dsimp only; omega)]
  simp only [Bool.or_eq_false_iff, Bool.and_eq_false_iff, decide_eq_false_iff_not]
  refine ⟨?_, ?_⟩
  · left; left
    omega
  · show ¬ k = 0x042001 + b
    omega

omit h in
/-- A change of theirs leaves every digest as it is. -/
theorem withDigests {f : Dev → Dev} (hf : ∀ e, QueueOnly e (f e)) (e : Dev) : e.withDigests f = f e :=
  withDigests_of_same e f fun _ hb => (hf e).digestContent hb

end QueueOnly

/-! Permitted WRITEs of a queue's command objects. -/

/-- An operation that does not look at the engine's bookkeeping leaves it alone. -/
theorem beside_own {op : Dev → Dev} (hb : ∀ d o, op (d.beside o) = (op d).beside o) (d : Dev) :
    op d = (op d).beside ⟨d.resp, d.reqs, d.txns, d.ring, d.wd1⟩ := hb d ⟨d.resp, d.reqs, d.txns, d.ring, d.wd1⟩

section
variable {c : Instr} {s : State} {q : Request} {op : Dev → Dev} {a : Answer}

/-- The arrived device of a request, as the module of its instant with the bookkeeping set. -/
theorem booked_beside (s : State) (q : Request) (rs : List Requester) : s.dev.booked q.t {} rs (s.dev.used q).txns =
    ((s.dev.at q.t).used q).beside ⟨{}, rs, (s.dev.used q).txns, s.dev.ring, s.dev.wd1⟩ := rfl

theorem op_aside (hb : ∀ d o, op (d.beside o) = (op d).beside o) (s : State) (q : Request) (rs : List Requester) :
    (op (s.dev.booked q.t {} rs (s.dev.used q).txns)).aside = (op ((s.dev.at q.t).used q)).aside := by
  rw [booked_beside, hb, beside_own hb ((s.dev.at q.t).used q)]
  rfl

theorem bump_aside {d e : Dev} {w k : Nat} (h : d.aside = e.aside) : (d.bump w k).aside = (e.bump w k).aside := by
  have haside : ∀ x : Dev, (x.bump w k).aside = x.aside.bump w k := fun _ => rfl
  rw [haside, haside, h]

/-- A write whose effect is an operation on queues and log: the command does it on the module of its instant. -/
theorem Permitted.obeys_beside (hp : Permitted c s q) (hb : ∀ d o, op (d.beside o) = (op d).beside o) (ho : ∀ d, QueueOnly d (op d))
    (ha : a.status = BUSY → a.detail ≠ 1 ∧ a.detail ≠ 2)
    (hw : ∀ rs, (s.dev.booked q.t {} rs (s.dev.used q).txns).outside s.worn q q.data (s.dev.entryOf q) =
      (op (s.dev.booked q.t {} rs (s.dev.used q).txns), a)) :
    Obeys c s q a ((op ((s.dev.at q.t).used q)).when (a.status = BUSY) (·.bump 32 Reg.OPS_BUSY_COUNT)) := by
  obtain ⟨rs, he⟩ := arrived_booked s.dev q
  have haside := op_aside hb s q rs
  refine hp.obeys (by rw [he]; exact hw rs) ha ?_ ?_ ?_ ?_
  · cases decide (a.status = BUSY)
    · exact haside
    · exact bump_aside haside
  · rw [he, booked_beside, hb]
    rfl
  · exact (ho _).now
  · exact (ho _).quiet.2 _ fun hk => absurd (logKey_iff.1 hk) (by decide)

/-- The rows of a queue's objects. -/
theorem info_queue {d : Dev} {i n : Nat} (hi : i < 64) : d.info (0x4000 + 0x10 * i) n = rowAt rowsQueue n := by
  rw [Dev.info, objInfo, rowsAt, if_neg (by omega), if_pos (by omega), if_pos (by omega)]

/-- A command object of a queue: neither staged, deferred nor kept, so that its write acts at once. -/
theorem outside_queueObj {d : Dev} {w : Worn} {v : Nat} {x : Entry} {i : Nat} (hi : i < 64) (hix : q.ix = 0x4000 + 0x10 * i)
    (hsub : q.sub = 0x0E ∨ q.sub = 0x0F ∨ q.sub = 0x11 ∨ q.sub = 0x12) (hkey : x.key = q.ix * 256 + q.sub) :
    d.outside w q v x = d.direct w x := by
  have hplain : isHandleIx q.ix = false := by rw [hix]; simp [isHandleIx]
  have hrow : d.info q.ix q.sub = rowAt rowsQueue q.sub := by
    rw [hix, info_queue hi]
  have hvol : ((d.info q.ix q.sub).map (·.persist) = some .kept) = False := by
    rw [hrow]
    rcases hsub with h | h | h | h <;> rw [h] <;> simp [rowAt, rowsQueue]
  have hkey' : x.key ≠ Reg.BR_RELEASE := by
    rw [hkey, hix]
    show _ ≠ 0x04200D
    omega
  have h0 : q.ix ≠ 0x0220 ∧ q.ix ≠ 0x0230 := by omega
  have h1 : actsAtOnce q.ix q.sub = false := by rw [hix]; simp [actsAtOnce]; omega
  have h2 : d.isDeferred q.ix q.sub true = false := by rw [hix]; simp [Dev.isDeferred, isHandleIx]; omega
  have h3 : d.isStagedCommand q.ix q.sub = false := by rw [hix]; simp [Dev.isStagedCommand, isHandleIx]; omega
  simp only [Dev.outside, h0, hkey', h1, hplain, h2, h3, hvol]
  simp

theorem queueObj_ix {i : Nat} (hi : i < 64) : isHandleIx (0x4000 + 0x10 * i) = false ∧
    (0x5000 ≤ 0x4000 + 0x10 * i && 0x4000 + 0x10 * i < 0x5800) = false ∧ (0x5810 ≤ 0x4000 + 0x10 * i && 0x4000 + 0x10 * i < 0x5870) = false ∧
    (0x4000 ≤ 0x4000 + 0x10 * i && 0x4000 + 0x10 * i < 0x4400) = true ∧ (0x4000 + 0x10 * i - 0x4000) / 0x10 = i := by
  refine ⟨?_, ?_, ?_, ?_, by omega⟩
  · simp [isHandleIx]
  · simp; omega
  · simp; omega
  · simp; omega

theorem entryCheck_queue {d : Dev} {w : Worn} {x : Entry} {i : Nat} (hi : i < 64) (hix : x.ix = 0x4000 + 0x10 * i) :
    d.entryCheck w x = d.queueCheck i x.sub x.val x.len := by
  obtain ⟨h1, h2, h3, h4, h5⟩ := queueObj_ix hi
  dsimp only [Dev.entryCheck]
  rw [hix, h1, h2, h3, h4, h5]
  rfl

theorem applyEntry_queue {d : Dev} {w : Worn} {x : Entry} {i : Nat} (hi : i < 64) (hix : x.ix = 0x4000 + 0x10 * i) (haux : x.aux = 0) :
    d.applyEntry w x = d.queueWrite i x.sub x.key x.val x.len := by
  obtain ⟨h1, h2, h3, h4, h5⟩ := queueObj_ix hi
  have hout : d.outlived x = false := by simp [Dev.outlived, haux]
  dsimp only [Dev.applyEntry]
  rw [hix, h1, h2, h3, h4, h5, hout]
  rfl

/-- A permitted write of a queue's command object whose check passes does its operation. -/
theorem Permitted.queue_acts (hp : Permitted c s q) {i : Nat} (hi : i < 64) (hix : q.ix = 0x4000 + 0x10 * i)
    (hsub : q.sub = 0x0E ∨ q.sub = 0x0F ∨ q.sub = 0x11 ∨ q.sub = 0x12)
    (hact : ∀ d : Dev, d.queueWrite i q.sub (q.ix * 256 + q.sub) (s.dev.entryOf q).val q.len = op d)
    (hb : ∀ d o, op (d.beside o) = (op d).beside o) (ho : ∀ d, QueueOnly d (op d))
    (hok : ∀ rs, (s.dev.booked q.t {} rs (s.dev.used q).txns).queueCheck i q.sub (s.dev.entryOf q).val q.len = OK) :
    Obeys c s q {} (op ((s.dev.at q.t).used q)) := by
  refine hp.obeys_beside (a := {}) hb ho (by decide) fun rs => ?_
  have happly : ∀ e : Dev, e.applyEntry s.worn (s.dev.entryOf q) = op e := fun e => (applyEntry_queue hi hix rfl).trans (hact e)
  rw [outside_queueObj (x := s.dev.entryOf q) hi hix hsub rfl, Dev.direct, entryCheck_queue (x := s.dev.entryOf q) hi hix,
    show Dev.queueCheck _ i (s.dev.entryOf q).sub (s.dev.entryOf q).val (s.dev.entryOf q).len = OK from hok rs]
  simp only [happly]
  rw [QueueOnly.withDigests ho]
  rfl

/-- A permitted write of a queue's command object that its check refuses: what the refusal leaves. -/
theorem Permitted.queue_refused (hp : Permitted c s q) {i st : Nat} (hi : i < 64) (hix : q.ix = 0x4000 + 0x10 * i)
    (hsub : q.sub = 0x0E ∨ q.sub = 0x0F ∨ q.sub = 0x11 ∨ q.sub = 0x12)
    (hact : ∀ rs, (s.dev.booked q.t {} rs (s.dev.used q).txns).refusedWrite (s.dev.entryOf q) = op (s.dev.booked q.t {} rs (s.dev.used q).txns))
    (hb : ∀ d o, op (d.beside o) = (op d).beside o) (ho : ∀ d, QueueOnly d (op d)) (hst : st ≠ OK)
    (hchk : ∀ rs, (s.dev.booked q.t {} rs (s.dev.used q).txns).queueCheck i q.sub (s.dev.entryOf q).val q.len = st) :
    Obeys c s q { status := st } ((op ((s.dev.at q.t).used q)).when (st = BUSY) (·.bump 32 Reg.OPS_BUSY_COUNT)) := by
  refine hp.obeys_beside (a := { status := st }) hb ho (fun _ => ⟨(by decide : (0 : Nat) ≠ 1), (by decide : (0 : Nat) ≠ 2)⟩) fun rs => ?_
  rw [outside_queueObj (x := s.dev.entryOf q) hi hix hsub rfl, Dev.direct, entryCheck_queue (x := s.dev.entryOf q) hi hix,
    show Dev.queueCheck _ i (s.dev.entryOf q).sub (s.dev.entryOf q).val (s.dev.entryOf q).len = st from hchk rs]
  rw [← hact rs]
  exact if_pos hst

end

end Sys2Proof.Machine
end

/-! The read side of a queue (R223 to R231) and its requests: O45. -/
section
namespace Sys2Proof.Machine

theorem logged_none (d : Dev) : logged (d, []) = d := rfl

section
variable {d : Dev} {q : Nat}

/-- Where the pointer copies agree, an access logs nothing. -/
theorem logged_guardQueue_whole (hb : (d.queue q).broken = none) : logged (d.guardQueue q) = d := by
  rw [guardQueue_whole hb, logged_none]

theorem pastVoid_none {x : Queue} (h : ∀ k ∈ x.pkts, k.void = false) (p : BitVec 32) : x.pastVoid p = p := by
  unfold Queue.pastVoid
  generalize x.pkts = l at h
  induction l with
  | nil => rfl
  | cons k ks ih =>
    rw [List.foldl_cons, if_neg (by rw [h k List.mem_cons_self]; simp)]
    exact ih fun j hj => h j (List.mem_cons_of_mem k hj)

theorem queueRead_on (hb : (d.queue q).broken = none) (hon : d.queueOn q = true) (hv : ∀ k ∈ (d.queue q).pkts, k.void = false) :
    d.queueRead q = match (d.queue q).holding (d.queue q).p.rd with
      | none => (d.setQueue q ((d.queue q).setPtrs (d.queue q).p), 0, 0)
      | some k =>
        let x := d.queue q
        let rd := if x.p.rd = k.pos then x.p.rd + 8 else x.p.rd
        let i := x.p.dist rd - x.p.dist k.pos - 8
        let bs := (k.bytes.drop i).take 8
        (d.setQueue q (x.setPtrs { x.p with rd := rd + 8 }), ofBytesLE bs,
          tagOf (decide (i = 0)) (decide (k.bytes.length ≤ i + 8)) (x.mark && decide (rd = x.content x.p.m)) bs.length) := by
  dsimp only [Dev.queueRead]
  rw [hon, logged_guardQueue_whole hb, pastVoid_none hv]
  rfl

theorem noteRelease_below {a b : Nat} (h : a < d.rd (Reg.QU_WM_LOW q)) : d.noteRelease q a b = (d, []) :=
  if_neg fun hc => absurd hc.1 (Nat.not_le.2 h)

theorem releaseTo_whole (hb : (d.queue q).broken = none) (p : BitVec 32) :
    d.releaseTo q p =
      if (d.queue q).p.dist (d.queue q).p.rd < (d.queue q).p.dist p then (d, RANGE)
      else
        let x := d.queue q
        let gone := x.pkts.filter fun k => x.p.dist k.pos + k.size ≤ x.p.dist p
        let l := match gone.getLast? with
          | none => x.p.l
          | some k => k.pos + BitVec.ofNat 32 k.size
        let y := { x.setPtrs { x.p with l := l } with
          pkts := x.pkts.drop gone.length, mark := x.mark && decide (x.p.dist l ≤ x.p.dist x.p.m) }
        (logged ((d.setQueue q y).noteRelease q x.level y.level), OK) := by
  dsimp only [Dev.releaseTo]
  rw [logged_guardQueue_whole hb] <;> rfl

/-- The last released byte lies at distance 0 from itself. -/
theorem dist_released (p : Ptrs) : p.dist p.l = 0 := by
  simp [Ptrs.dist]

theorem releaseTo_keeps (hb : (d.queue q).broken = none) {p : BitVec 32} (hp : (d.queue q).p.dist p ≤ (d.queue q).p.dist (d.queue q).p.rd)
    (hk : ∀ k ∈ (d.queue q).pkts, (d.queue q).p.dist p < (d.queue q).p.dist k.pos + k.size)
    (hl : (d.queue q).level < d.rd (Reg.QU_WM_LOW q)) : d.releaseTo q p = (d.setQueue q ((d.queue q).setPtrs (d.queue q).p), OK) := by
  have hnone : ((d.queue q).pkts.filter fun k => decide ((d.queue q).p.dist k.pos + k.size ≤ (d.queue q).p.dist p)) = [] :=
    List.filter_eq_nil_iff.2 fun k hm => by simpa using hk k hm
  have hl' (y : Queue) : (d.queue q).level < (d.setQueue q y).rd (Reg.QU_WM_LOW q) := hl
  rw [releaseTo_whole hb, if_neg (Nat.not_lt.2 hp)]
  dsimp only
  rw [hnone, noteRelease_below (hl' _), logged_none]
  refine congrArg (fun y => (d.setQueue q y, OK)) ?_
  show Queue.mk .. = Queue.mk ..
  simp [dist_released, Queue.setPtrs]

theorem release_front (hb : (d.queue q).broken = none) {k : Pkt} {rest : List Pkt} (hpk : (d.queue q).pkts = k :: rest)
    (hk : (d.queue q).p.dist k.pos + k.size ≤ (d.queue q).p.dist (d.queue q).p.rd)
    (hr : ∀ j ∈ rest, (d.queue q).p.dist (d.queue q).p.rd < (d.queue q).p.dist j.pos + j.size) :
    let x := d.queue q
    let l := k.pos + BitVec.ofNat 32 k.size
    let y := { x.setPtrs { x.p with l := l } with pkts := rest, mark := x.mark && decide (x.p.dist l ≤ x.p.dist x.p.m) }
    d.queueCmd q 3 = (logged ((d.setQueue q y).noteRelease q x.level y.level), OK) := by
  have hrest : (rest.filter fun j => decide ((d.queue q).p.dist j.pos + j.size ≤ (d.queue q).p.dist (d.queue q).p.rd)) = [] :=
    List.filter_eq_nil_iff.2 fun j hm => by simpa using hr j hm
  have hgone : ((d.queue q).pkts.filter fun j => decide ((d.queue q).p.dist j.pos + j.size ≤ (d.queue q).p.dist (d.queue q).p.rd)) = [k] := by
    rw [hpk, List.filter_cons_of_pos (by simpa using hk), hrest]
  intro x l y
  show d.releaseTo q (d.queue q).p.rd = _
  rw [releaseTo_whole hb, if_neg (Nat.lt_irrefl _)]
  dsimp only
  rw [hgone, hpk]
  rfl

end

namespace QueueOnly

variable (d : Dev) {q : Nat} (hq : q < 64)
include hq

theorem queueRead : QueueOnly d (d.queueRead q).1 := by
  have hg : QueueOnly d (Sys2Proof.Machine.logged (d.guardQueue q)) := logged (guardQueue d hq)
  unfold Dev.queueRead
  dsimp only
  split
  · exact refl d
  · split
    · exact hg.trans (setQueue _ q _)
    · exact hg.trans (setQueue _ q _)

theorem queueRead3 (n : Nat) : QueueOnly d (d.queueRead3 q n).1 := by
  induction n generalizing d with
  | zero => exact refl d
  | succ n ih =>
    unfold Dev.queueRead3
    dsimp only
    split
    · exact queueRead d hq
    · exact (queueRead d hq).trans (ih _)

end QueueOnly

/-! Requests. -/

section
variable {c : Instr} {s : State} {q : Request} {i : Nat}

/-- No bit of a queue's object is reserved (R7). -/
theorem masked_queue (d : Dev) (sub : Nat) (hi : i < 64) {n v : Nat} (hn : n ≤ 2048) (hv : v < 2 ^ n) : d.masked (0x4000 + 0x10 * i) sub v = v := by
  have hmask : d.writeMask (0x4000 + 0x10 * i) sub = 2 ^ 2048 - 1 := by
    rw [Dev.writeMask, if_neg (by rw [(queueObj_ix hi).1]; decide), if_neg (by simp; omega), if_neg (by simp; omega),
      if_neg (by simp; omega), if_neg (by simp; omega), if_neg (by simp; omega), if_neg (by simp; omega)]
  rw [Dev.masked, hmask]
  exact and_mask_of_lt hv hn

theorem entryOf_val_queue (hi : i < 64) (hix : q.ix = 0x4000 + 0x10 * i) {n : Nat} (hn : n ≤ 2048) (hv : q.data < 2 ^ n) :
    (s.dev.entryOf q).val = q.data := by
  show s.dev.masked q.ix q.sub q.data = q.data
  rw [hix, masked_queue _ _ hi hn hv]

/-- Object n of queue i. -/
theorem queueKey_split {i n : Nat} (hn : n < 256) : ((0x4000 + 0x10 * i) * 256 + n) / 256 = 0x4000 + 0x10 * i ∧
    ((0x4000 + 0x10 * i) * 256 + n) % 256 = n := by omega

/-- What QU_READ3 leaves and the number it answers (R225). -/
def Dev.readThree (d : Dev) (i : Nat) : Dev × Nat :=
  ((d.queueRead3 i 3).1, packLE ((d.queueRead3 i 3).2.flatMap fun p => [(8, p.1), (1, p.2)]))

/-- What QU_READ leaves and the number it answers (R225). -/
def Dev.readWord (d : Dev) (i : Nat) : Dev × Nat := ((d.queueRead i).1, packLE [(8, (d.queueRead i).2.1), (1, (d.queueRead i).2.2)])

theorem beside_readThree (d : Dev) (o : Own) (i : Nat) : (d.beside o).readThree i = besides o (d.readThree i) := by
  simp only [Dev.readThree, beside_queueRead3, besides_fst, besides_snd, besides_mk]

theorem beside_readWord (d : Dev) (o : Own) (i : Nat) : (d.beside o).readWord i = besides o (d.readWord i) := by
  simp only [Dev.readWord, beside_queueRead, besides_fst, besides_snd, besides_mk]

section
variable {d : Dev} {e : Env} {i id : Nat} (hi : i < 64) (hc : d.captured i = false) (hw : d.waitsFill i = false)
include hi hc hw

omit hi hc in
/-- A read that waits for no fill brings nothing back from PSRAM. -/
theorem fillForRead_none (m : List Host.Cell) : d.fillForRead m i = d := by
  unfold Dev.fillForRead
  split
  · rfl
  · rw [if_neg (by rw [hw]; decide)]

theorem readNow_queueRead : d.readNow e (0x4000 + 0x10 * i) 0x0C id = ((d.readWord i).1, OK, (d.readWord i).2) := by
  obtain ⟨h1, -, -, h4, h5⟩ := queueObj_ix hi
  dsimp only [Dev.readNow]
  rw [h1, h4, h5, hc, fillForRead_none hw]
  rfl

theorem readNow_queueRead3 : d.readNow e (0x4000 + 0x10 * i) 0x0D id = ((d.readThree i).1, OK, (d.readThree i).2) := by
  obtain ⟨h1, -, -, h4, h5⟩ := queueObj_ix hi
  dsimp only [Dev.readNow]
  rw [h1, h4, h5, hc, fillForRead_none hw]
  rfl

end

/-- A granted read of a queue that no capture channel holds and that waits for no fill: an operation on queues and log with the value it
answers. -/
theorem obeys_queueRead {op : Dev → Dev × Nat} {x : Info} {n : Nat} (hn : ∀ v, x.ty.length v = n) (hc : exec c s = s.ask q) (hg : s.dev.grants q) (hm : malformed q = none)
    (hop : q.op = OP_READ) (hseg : q.segment = 0) (hi : i < 64) (hix : q.ix = 0x4000 + 0x10 * i)
    (hfill : s.dev.waitsFill i = false) (hx : s.dev.info q.ix q.sub = some x)
    (hr : ∀ d : Dev, d.captured i = false → d.waitsFill i = false →
      d.readNow ⟨s.ps, s.worn⟩ q.ix q.sub q.id = ((op d).1, OK, (op d).2)) (hcap : s.dev.captured i = false)
    (hb : ∀ d o, op (d.beside o) = besides o (op d)) (ho : ∀ d, QueueOnly d (op d).1) :
    let e := (s.dev.at q.t).used q
    Obeys c s q (segmentOf 0 n (op e).2) (op e).1 := by
  obtain ⟨rs, he⟩ := arrived_booked s.dev q
  intro e
  rw [← hn (op e).2]
  have harr : s.dev.arrived q = e.beside ⟨{}, rs, (s.dev.used q).txns, s.dev.ring, s.dev.wd1⟩ := he.trans (booked_beside s q rs)
  have hself : op e = besides ⟨e.resp, e.reqs, e.txns, e.ring, e.wd1⟩ (op e) := hb e ⟨e.resp, e.reqs, e.txns, e.ring, e.wd1⟩
  have hread := hr (s.dev.arrived q) (by rw [he]; exact hcap) (by rw [he]; exact hfill)
  rw [harr, hb] at hread
  refine obeys_read hc hg hm hop hseg ?_ ?_ (by rw [harr]; exact hread) hx ?_ (by rw [harr]; rfl) ?_ ?_
  · simp only [Dev.isDeferred, hix]
    simp
    omega
  · have hw : (s.dev.arrived q).waitsFill ((q.ix - 0x4000) / 0x10) = false := by
      rw [hix, (queueObj_ix hi).2.2.2.2, he]
      exact hfill
    rw [Dev.readTakes, hw, hix]
    simp
    omega
  · rw [hself]
    rfl
  · exact (ho e).now
  · exact (ho e).quiet.2 _ fun hk => absurd (logKey_iff.1 hk) (by decide)

/-- A consumer command's object (R227, R228, R231). -/
theorem consumer_acts {v : Nat} {r : Req} {i : QueueNo} (hp : Permitted c s (writeReq r (Reg.QU_CMD i) 0 1 v)) (hv : v < 2 ^ 8)
    (hcap : s.dev.captured i = false) :
    let e := (s.dev.at r.t).used (writeReq r (Reg.QU_CMD i) 0 1 v)
    ((e.queueCmd i v).2 = OK → Obeys c s (writeReq r (Reg.QU_CMD i) 0 1 v) {} (e.queueCmd i v).1) ∧
    ((s.dev.queue i).broken = none → (e.queueCmd i v).2 = MARK_LOST →
      Obeys c s (writeReq r (Reg.QU_CMD i) 0 1 v) { status := MARK_LOST } e) := by
  intro e
  set q := writeReq r (Reg.QU_CMD i) 0 1 v with hq
  have hix : q.ix = 0x4000 + 0x10 * i.val := by
    show ((0x4000 + 0x10 * i.val) * 256 + 0xE) / 256 = _
    omega
  have hsub : q.sub = 0x0E := by
    show ((0x4000 + 0x10 * i.val) * 256 + 0xE) % 256 = _
    omega
  have hval : (s.dev.entryOf q).val = v := entryOf_val_queue i.isLt hix (n := 8) (by decide) hv
  have hchk (rs : List Requester) : (s.dev.booked q.t {} rs (s.dev.used q).txns).queueCheck i q.sub (s.dev.entryOf q).val q.len =
      (e.queueCmd i v).2 := by
    rw [hsub, hval]
    show (if s.dev.captured i = true then BUSY else _) = _
    rw [if_neg (by rw [hcap]; decide), booked_beside, beside_queueCmd]
    rfl
  refine ⟨fun hok => ?_, fun hb hml => ?_⟩
  · refine hp.queue_acts (op := fun d => (d.queueCmd i v).1) i.isLt hix (.inl hsub) (fun d => ?_) (fun d o => ?_)
      (fun d => QueueOnly.queueCmd d i.isLt v) fun rs => (hchk rs).trans hok
    · rw [hsub, hval]
      rfl
    · rw [beside_queueCmd]
      rfl
  · refine hp.queue_refused (op := id) i.isLt hix (.inl hsub) (fun rs => ?_) (fun _ _ => rfl) QueueOnly.refl (by decide) fun rs =>
      (hchk rs).trans hml
    have hw : ((s.dev.booked q.t {} rs (s.dev.used q).txns).queue i).broken = none := hb
    unfold Dev.refusedWrite
    rw [show (s.dev.entryOf q).ix = _ from hix, show (s.dev.entryOf q).sub = _ from hsub, (queueObj_ix i.isLt).2.2.2.2,
      if_neg (by simp), if_pos (by have := i.isLt; omega), logged_guardQueue_whole hw]
    rfl

/-- RELEASE_AT (R227). -/
theorem quReleaseAt_acts (s : State) (r : Req) (i : QueueNo) {p : Nat} (hv : p < 2 ^ 32)
    (hperm : s.dev.permits (writeReq r (Reg.QU_RELEASE_AT i) 0 4 p)) (hcap : s.dev.captured i = false) :
    let e := (s.dev.at r.t).used (writeReq r (Reg.QU_RELEASE_AT i) 0 4 p)
    (e.releaseTo i (BitVec.ofNat 32 p)).2 = OK →
      Obeys (.quReleaseAt r i p) s (writeReq r (Reg.QU_RELEASE_AT i) 0 4 p) {} (e.releaseTo i (BitVec.ofNat 32 p)).1 := by
  intro e hok
  have hp : Permitted (.quReleaseAt r i p) s (writeReq r (Reg.QU_RELEASE_AT i) 0 4 p) := .of_writeReq rfl (by decide) hperm
  obtain ⟨hix, hsub⟩ := queueKey_split (i := i.val) (n := 0xF) (by decide)
  set q := writeReq r (Reg.QU_RELEASE_AT i) 0 4 p with hq
  replace hix : q.ix = 0x4000 + 0x10 * i.val := hix
  replace hsub : q.sub = 0x0F := hsub
  have hval : (s.dev.entryOf q).val = p := entryOf_val_queue i.isLt hix (n := 32) (by decide) hv
  refine hp.queue_acts (op := fun d => (d.releaseTo i (BitVec.ofNat 32 p)).1) i.isLt hix (.inr (.inl hsub)) (fun d => ?_) (fun d o => ?_)
    (fun d => QueueOnly.releaseTo d i.isLt _) fun rs => ?_
  · rw [hsub, hval]
    rfl
  · rw [beside_releaseTo]
    rfl
  · rw [hsub, hval, ← hok]
    show (if s.dev.captured i = true then BUSY else _) = _
    rw [if_neg (by rw [hcap]; decide), booked_beside, beside_releaseTo]
    rfl

/-- QU_READ (R225, R227). -/
theorem quRead_obeys (s : State) (r : Req) (i : QueueNo) (hcap : s.dev.captured i = false)
    (hg : s.dev.grants (readReq r (Reg.QU_READ i))) (hfill : s.dev.waitsFill i = false) :
    let e := (s.dev.at r.t).used (readReq r (Reg.QU_READ i))
    Obeys (.quRead r i) s (readReq r (Reg.QU_READ i)) (segmentOf 0 9 (e.readWord i).2) (e.readWord i).1 := by
  obtain ⟨hix, hsub⟩ := queueKey_split (i := i.val) (n := 0xC) (by decide)
  refine obeys_queueRead (c := .quRead r i) (op := fun d => d.readWord i) (x := ⟨.record 9, .ro, 0, .vol, false, .any⟩) (fun _ => rfl)
    rfl hg (malformed_readReq r _) rfl rfl i.isLt hix hfill ?_ (fun d hc hw => ?_) hcap (fun d o => beside_readWord d o i)
    fun d => QueueOnly.queueRead d i.isLt
  · show s.dev.info (((0x4000 + 0x10 * i.val) * 256 + 0xC) / 256) (((0x4000 + 0x10 * i.val) * 256 + 0xC) % 256) = _
    rw [hix, hsub, info_queue i.isLt]
    rfl
  · show d.readNow _ (((0x4000 + 0x10 * i.val) * 256 + 0xC) / 256) (((0x4000 + 0x10 * i.val) * 256 + 0xC) % 256) _ = _
    rw [hix, hsub]
    exact readNow_queueRead i.isLt hc hw

/-- QU_READ3 (R225). -/
theorem quRead3_obeys (s : State) (r : Req) (i : QueueNo) (hcap : s.dev.captured i = false)
    (hg : s.dev.grants (readReq r (Reg.QU_READ3 i))) (hfill : s.dev.waitsFill i = false) :
    let e := (s.dev.at r.t).used (readReq r (Reg.QU_READ3 i))
    Obeys (.quRead3 r i) s (readReq r (Reg.QU_READ3 i)) (segmentOf 0 27 (e.readThree i).2) (e.readThree i).1 := by
  obtain ⟨hix, hsub⟩ := queueKey_split (i := i.val) (n := 0xD) (by decide)
  refine obeys_queueRead (c := .quRead3 r i) (op := fun d => d.readThree i) (x := ⟨.record 27, .ro, 0, .vol, false, .any⟩) (fun _ => rfl)
    rfl hg (malformed_readReq r _) rfl rfl i.isLt hix hfill ?_ (fun d hc hw => ?_) hcap (fun d o => beside_readThree d o i)
    fun d => QueueOnly.queueRead3 d i.isLt 3
  · show s.dev.info (((0x4000 + 0x10 * i.val) * 256 + 0xD) / 256) (((0x4000 + 0x10 * i.val) * 256 + 0xD) % 256) = _
    rw [hix, hsub, info_queue i.isLt]
    rfl
  · show d.readNow _ (((0x4000 + 0x10 * i.val) * 256 + 0xD) / 256) (((0x4000 + 0x10 * i.val) * 256 + 0xD) % 256) _ = _
    rw [hix, hsub]
    exact readNow_queueRead3 i.isLt hc hw

end

/-- Settles O45: the operations where the pointer copies agree, then the requests. -/
theorem queuesAreRead : Obligations.QueuesAreRead := by
  unfold Obligations.QueuesAreRead
  refine ⟨fun d q hb hon hvoid => ⟨fun hn => ?_, fun k hk => ?_, ?_, fun hm => ?_, fun hm => ?_, rfl, fun ht => ?_, fun ht => ?_,
    fun p hp => ?_, fun p hp hk hl => releaseTo_keeps hb hp hk hl, fun k rest hpk hk hr _ => release_front hb hpk hk hr⟩,
    fun s r q hcap hb => ⟨fun hg hfill => ?_, fun hg hfill => ?_, fun c v hcv hperm => ?_, fun p hp hperm hok => ?_⟩⟩
  · rw [queueRead_on hb hon hvoid, hn]
    exact ⟨rfl, rfl⟩
  · rw [queueRead_on hb hon hvoid, hk]
    exact ⟨rfl, rfl, rfl⟩
  · show d.queueMark q = _
    dsimp only [Dev.queueMark]
    rw [logged_guardQueue_whole hb]
  · show d.queueRewind q = _
    dsimp only [Dev.queueRewind]
    rw [logged_guardQueue_whole hb, if_pos hm]
  · show d.queueRewind q = _
    dsimp only [Dev.queueRewind]
    rw [logged_guardQueue_whole hb, if_neg (by rw [hm]; decide)]
  · show d.queueAck q = _
    simp only [Dev.queueAck, Dev.modQueue, ht, if_false]
    rfl
  · show d.queueAck q = _
    simp only [Dev.queueAck, Dev.modQueue, ht, if_true]
  · rw [releaseTo_whole hb, if_pos hp]
  · exact quRead_obeys s r q hcap hg hfill
  · obtain ⟨t, hex, hrest, ⟨-, hresp, -, -⟩, haside⟩ := quRead3_obeys s r q hcap hg hfill
    refine ⟨t, hex, hrest, haside, ?_, ?_, ?_⟩ <;> rw [hresp] <;> rfl
  · have hc : writeOf c = some (writeReq r (Reg.QU_CMD q) 0 1 v) ∧ v < 2 ^ 8 := by
      simp only [List.mem_cons, Prod.mk.injEq, List.not_mem_nil, or_false] at hcv
      obtain ⟨rfl, rfl⟩ | ⟨rfl, rfl⟩ | ⟨rfl, rfl⟩ | ⟨rfl, rfl⟩ | ⟨rfl, rfl⟩ := hcv <;> exact ⟨rfl, by decide⟩
    obtain ⟨hdo, hno⟩ := consumer_acts (.of_writeReq hc.1 (by decide) hperm) hc.2 hcap
    exact ⟨hdo, hno hb⟩
  · exact quReleaseAt_acts s r q hp hperm hcap hok

end Sys2Proof.Machine
end

/-! Host packets and the enabling of queues (R213, R221, R260): O46. -/
section
namespace Sys2Proof.Machine

/-! Bytes. -/

theorem bytesLE_ofBytesLE : ∀ {bs : List Nat}, (∀ b ∈ bs, b < 256) → bytesLE bs.length (ofBytesLE bs) = bs
  | [], _ => rfl
  | b :: bs, h => by
    have hb := h b List.mem_cons_self
    have ih := bytesLE_ofBytesLE fun j hj => h j (List.mem_cons_of_mem b hj)
    show (b % 256 + 256 * ofBytesLE bs) % 256 :: bytesLE bs.length ((b % 256 + 256 * ofBytesLE bs) / 256) = _
    rw [show (b % 256 + 256 * ofBytesLE bs) % 256 = b by omega, show (b % 256 + 256 * ofBytesLE bs) / 256 = ofBytesLE bs by omega, ih]

/-- A list is the chunks of 16 that its first n hold, in order. -/
theorem chunks_flatten (bs : List Nat) (n : Nat) : ((List.range n).flatMap fun k => (bs.drop (16 * k)).take 16) = bs.take (16 * n) := by
  induction n with
  | zero => rfl
  | succ n ih => rw [List.range_succ, List.flatMap_append, ih, Nat.mul_succ, List.take_add]; simp

section
variable {r : Req} {key : Nat} {bs : List Nat}

theorem writeBytes_whole (h : bs.length ≤ 16) : writeBytes r key bs = [writeReq r key 0 bs.length (ofBytesLE bs)] := if_pos h

/-- The segments of a value above 16 bytes carry its bytes in order (R260). -/
theorem writeBytes_segments (hb : ∀ b ∈ bs, b < 256) (h : 16 < bs.length) :
    ((writeBytes r key bs).flatMap fun x => bytesLE x.len x.data) = bs ∧
      ∀ x ∈ writeBytes r key bs, x.op = OP_WRITE ∧ x.total = bs.length ∧ x.len ≤ 16 ∧ x.seq = (r.seq + x.segment) % 65536 := by
  rw [writeBytes, if_neg (Nat.not_le.2 h)]
  constructor
  · have hchunk : ∀ k, bytesLE ((bs.drop (16 * k)).take 16).length (ofBytesLE ((bs.drop (16 * k)).take 16)) = (bs.drop (16 * k)).take 16 :=
      fun k => bytesLE_ofBytesLE fun b hm => hb b (List.mem_of_mem_drop (List.mem_of_mem_take hm))
    have hsegs := chunks_flatten bs ((bs.length + 15) / 16)
    rw [List.take_of_length_le (by omega)] at hsegs
    rw [List.flatMap_map]
    exact (congrArg (fun f => (List.range ((bs.length + 15) / 16)).flatMap f) (funext hchunk)).trans hsegs
  · intro x hx
    obtain ⟨k, -, rfl⟩ := List.mem_map.1 hx
    exact ⟨rfl, rfl, List.length_take_le _ _, rfl⟩

end

/-! Requests of a host packet (R221). -/

section
variable (s : State) (r : Req) (i : QueueNo)

theorem exec_quWrite {bytes : List Nat} (h : bytes.length ≤ 16) :
    exec (.quWrite r i bytes) s = s.ask (writeReq r (Reg.QU_WRITE i) 0 bytes.length (ofBytesLE bytes)) := by
  show execQuWrite r i bytes s = _
  unfold execQuWrite
  rw [writeBytes_whole h]
  rfl

theorem exec_grHkData {bytes : List Nat} (h : bytes.length ≤ 16) :
    exec (.grHkData r bytes) s = s.ask (writeReq r Reg.GR_HK_DATA 0 bytes.length (ofBytesLE bytes)) := by
  show execGrHkData r bytes s = _
  unfold execGrHkData
  rw [writeBytes_whole h]
  rfl

/-- QU_WRITE of at most 16 bytes (R221). -/
theorem quWrite_obeys {bytes : List Nat} (hb : ∀ b ∈ bytes, b < 256) (hlen : bytes.length ≤ 16) (hhost : s.dev.hostQueue i = true)
    (hperm : s.dev.permits (writeReq r (Reg.QU_WRITE i) 0 bytes.length (ofBytesLE bytes))) :
    let w := writeReq r (Reg.QU_WRITE i) 0 bytes.length (ofBytesLE bytes)
    let e := (s.dev.at r.t).used w
    ((e.hostWrite i bytes).2 = OK → Obeys (.quWrite r i bytes) s w {} (e.hostWrite i bytes).1) ∧
    ((e.hostWrite i bytes).2 = BUSY →
      Obeys (.quWrite r i bytes) s w { status := BUSY } ((e.hostWrite i bytes).1.bump 32 Reg.OPS_BUSY_COUNT)) := by
  intro w e
  have hdata : w.data < 2 ^ (8 * w.len) := hperm.2.2.1
  have hp : Permitted (.quWrite r i bytes) s w :=
    ⟨exec_quWrite s r i hlen, hperm, malformed_writeReq r _ 0 _ _ hperm.1.2.2.2.1 hlen, rfl, rfl⟩
  obtain ⟨hix, hsub⟩ := queueKey_split (i := i.val) (n := 0x11) (by decide)
  replace hix : w.ix = 0x4000 + 0x10 * i.val := hix
  replace hsub : w.sub = 0x11 := hsub
  have hval : bytesLE w.len (s.dev.entryOf w).val = bytes := by
    rw [entryOf_val_queue i.isLt hix (show 8 * w.len ≤ 2048 by show 8 * bytes.length ≤ 2048; omega) hdata]
    exact bytesLE_ofBytesLE hb
  have hchk (rs : List Requester) : (s.dev.booked w.t {} rs (s.dev.used w).txns).queueCheck i w.sub (s.dev.entryOf w).val w.len =
      (e.hostWrite i bytes).2 := by
    rw [hsub]
    show (if s.dev.hostQueue i = true then _ else _) = _
    rw [if_pos hhost, hval, booked_beside, beside_hostWrite]
    rfl
  have hcomm (d : Dev) (o : Own) : ((d.beside o).hostWrite i bytes).1 = (d.hostWrite i bytes).1.beside o := by
    rw [beside_hostWrite]
    rfl
  refine ⟨fun hok => ?_, fun hbusy => ?_⟩
  · refine hp.queue_acts (op := fun d => (d.hostWrite i bytes).1) i.isLt hix (.inr (.inr (.inl hsub))) (fun d => ?_) hcomm
      (fun d => QueueOnly.hostWrite d i.isLt bytes) fun rs => (hchk rs).trans hok
    rw [hsub]
    show (d.hostWrite i (bytesLE w.len (s.dev.entryOf w).val)).1 = _
    rw [hval]
  · refine hp.queue_refused (op := fun d => (d.hostWrite i bytes).1) (st := BUSY) i.isLt hix (.inr (.inr (.inl hsub))) (fun rs => ?_) hcomm
      (fun d => QueueOnly.hostWrite d i.isLt bytes) (by decide) fun rs => (hchk rs).trans hbusy
    unfold Dev.refusedWrite
    rw [show (s.dev.entryOf w).ix = _ from hix, show (s.dev.entryOf w).sub = _ from hsub, (queueObj_ix i.isLt).2.2.2.2,
      if_pos ⟨Nat.le_add_right _ _, by have := i.isLt; omega, rfl, hhost⟩]
    show (Dev.hostWrite _ i (bytesLE w.len (s.dev.entryOf w).val)).1 = _
    rw [hval]

/-- QU_WRITE_END (R221). -/
theorem quWriteEnd_obeys {c : Instr} {v : Nat} (hc : writeOf c = some (writeReq r (Reg.QU_WRITE_END i) 0 1 v)) (hv : v < 2 ^ 8)
    (hperm : s.dev.permits (writeReq r (Reg.QU_WRITE_END i) 0 1 v)) (hhost : s.dev.hostQueue i = true) :
    Obeys c s (writeReq r (Reg.QU_WRITE_END i) 0 1 v) {} (((s.dev.at r.t).used (writeReq r (Reg.QU_WRITE_END i) 0 1 v)).hostEnd i v) := by
  have hp : Permitted c s _ := .of_writeReq hc (by decide) hperm
  obtain ⟨hix, hsub⟩ := queueKey_split (i := i.val) (n := 0x12) (by decide)
  set w := writeReq r (Reg.QU_WRITE_END i) 0 1 v
  replace hix : w.ix = 0x4000 + 0x10 * i.val := hix
  replace hsub : w.sub = 0x12 := hsub
  have hval : (s.dev.entryOf w).val = v := entryOf_val_queue i.isLt hix (n := 8) (by decide) hv
  refine hp.queue_acts (op := fun d => d.hostEnd i v) i.isLt hix (.inr (.inr (.inr hsub))) (fun d => ?_) (fun d o => beside_hostEnd d o i v)
    (fun d => QueueOnly.hostEnd d i.isLt v) fun rs => ?_
  · rw [hsub, hval]
    rfl
  · rw [hsub]
    show (if s.dev.hostQueue i = true then _ else _) = _
    rw [if_pos hhost]

/-- GR_HK_DATA of at most 16 bytes waits for the housekeeping core (R28, R388). -/
theorem grHkData_obeys {bytes : List Nat} (hlen : bytes.length ≤ 16) (hops : s.dev.opsInUse < 256)
    (hperm : s.dev.permits (writeReq r Reg.GR_HK_DATA 0 bytes.length (ofBytesLE bytes))) :
    let w := writeReq r Reg.GR_HK_DATA 0 bytes.length (ofBytesLE bytes)
    Obeys (.grHkData r bytes) s w { status := DEFERRED } (({ s.dev with
      deferred := s.dev.deferred ++ [(⟨w, s.dev.entryOf w⟩ : Deferred)] } : Dev).wr Reg.OPS_PEAK (max (s.dev.rd Reg.OPS_PEAK) (s.dev.opsInUse + 1))) := by
  intro w
  have hp : Permitted (.grHkData r bytes) s w :=
    ⟨exec_grHkData s r hlen, hperm, malformed_writeReq r _ 0 _ _ hperm.1.2.2.2.1 hlen, rfl, rfl⟩
  obtain ⟨hdef, hh, h0, h1⟩ : deferredKey s.dev Reg.GR_HK_DATA := ⟨rfl, rfl, by decide, rfl⟩
  exact (hp.accepts fun rs xs => outside_deferred h0 h1 (isDeferred_key hh hdef) hh hdef).1 hops

end

/-! Enabling (R213). -/

section
variable {d : Dev} {q : Nat}

theorem spillChan_none (h : d.rd (Reg.QU_SPILL_CHAN q) = 0xFF) : d.spillChan q = none := if_neg (by rw [h]; decide)

theorem spillChan_some {c : Nat} (h : d.rd (Reg.QU_SPILL_CHAN q) = c) (hc : c < 16) : d.spillChan q = some c := by
  rw [Dev.spillChan, h, if_pos hc]

/-- The state of an enabled queue, before its spill channel runs. -/
def Dev.enabledBase (d : Dev) (q cap : Nat) : Dev :=
  let d := d.setQueue q { cap := cap, resets := (d.queue q).resets }
  let d := ((d.wr (Reg.QU_STATE q) 1).wr (Reg.QU_ENABLE q) 1).wr Reg.QM_SRAM_FREE (d.rd Reg.QM_SRAM_FREE - d.segSize q)
  ((d.wr (Reg.QU_COMMITTED q) 0).wr (Reg.QU_ABORTED q) 0).wr (Reg.QU_LAST_ABORT q) 0

theorem enabledBase_queue {cap p : Nat} : (d.enabledBase q cap).queue p = if p = q then { cap := cap, resets := (d.queue q).resets } else d.queue p := by
  simp only [Dev.enabledBase, Dev.wr_queue, Dev.setQueue_queue]

theorem enabledBase_rd {cap k : Nat} : (d.enabledBase q cap).rd k =
    if k = Reg.QU_LAST_ABORT q then 0 else if k = Reg.QU_ABORTED q then 0 else if k = Reg.QU_COMMITTED q then 0
    else if k = Reg.QM_SRAM_FREE then d.rd Reg.QM_SRAM_FREE - d.segSize q
    else if k = Reg.QU_ENABLE q then 1 else if k = Reg.QU_STATE q then 1 else d.rd k := by
  simp only [Dev.enabledBase, Dev.segSize, Dev.wr_rd, Dev.setQueue_rd]

/-- Enabling, the spill channel put apart (R213). -/
theorem quEnable_off (hoff : d.queueOn q = false) : d.quEnable q =
    match d.spillChan q with
    | none => d.enabledBase q (d.segSize q)
    | some c => (d.enabledBase q (d.segSize q + d.rd (Reg.DM_SIZE c))).wr (Reg.DM_STATE c) 1 := by
  have hchan (cap : Nat) : (d.enabledBase q cap).spillChan q = d.spillChan q := by
    have hrd : (d.enabledBase q cap).rd (Reg.QU_SPILL_CHAN q) = d.rd (Reg.QU_SPILL_CHAN q) := by
      simp [enabledBase_rd, Reg.QU_SPILL_CHAN, Reg.QU_LAST_ABORT, Reg.QU_ABORTED, Reg.QU_COMMITTED, Reg.QM_SRAM_FREE, Reg.QU_ENABLE, Reg.QU_STATE]
      omega
    rw [Dev.spillChan, hrd, Dev.spillChan]
  show (if d.queueOn q = true then d else
    match (d.enabledBase q (d.segSize q + match d.spillChan q with | none => 0 | some c => d.rd (Reg.DM_SIZE c))).spillChan q with
    | none => d.enabledBase q (d.segSize q + match d.spillChan q with | none => 0 | some c => d.rd (Reg.DM_SIZE c))
    | some c => (d.enabledBase q (d.segSize q + match d.spillChan q with | none => 0 | some c => d.rd (Reg.DM_SIZE c))).wr (Reg.DM_STATE c) 1) = _
  rw [if_neg (by rw [hoff]; decide), hchan]
  cases d.spillChan q <;> rfl

end

/-- Settles O46: the requests, then the registers of a queue as it is enabled and disabled. -/
theorem hostPacketsForm : Obligations.HostPacketsForm := by
  unfold Obligations.HostPacketsForm
  refine ⟨fun s r q bytes hb => ⟨fun hhost _ _ hlen hperm => quWrite_obeys s r q hb hlen hhost hperm, ⟨rfl, rfl⟩,
    fun key hlong _ => writeBytes_segments hb hlong, fun hperm hhost _ => quWriteEnd_obeys s r q rfl (by decide) hperm hhost,
    fun hperm hhost _ => quWriteEnd_obeys s r q rfl (by decide) hperm hhost, fun hperm _ hlen hops => grHkData_obeys s r hlen hops hperm⟩,
    fun d q hq => ⟨fun hoff hs => ?_, fun c hoff hs hc => ?_, fun hon => ?_, fun hon hs => ?_, fun hoff => ?_⟩⟩
  · have he : d.quEnable q = d.enabledBase q (d.segSize q) := by rw [quEnable_off hoff, spillChan_none hs]
    intro e
    rw [show e = d.enabledBase q (d.segSize q) from he]
    have hne {n m : Nat} (h : n ≠ m) : (0x4000 + 0x10 * q) * 256 + n ≠ (0x4000 + 0x10 * q) * 256 + m := fun e => h (Nat.add_left_cancel e)
    have hfree {n : Nat} (h : n < 256) : (0x4000 + 0x10 * q) * 256 + n ≠ 0x440001 := by omega
    refine ⟨?_, ?_, ?_, ?_, ?_, ?_, ?_, ?_, fun p hp => ?_⟩
    · rw [enabledBase_queue, if_pos rfl, Dev.segSize]
    · rw [enabledBase_rd, if_neg (hne (by decide)), if_neg (hne (by decide)), if_neg (hne (by decide)), if_neg (hfree (by decide)), if_neg (hne (by decide)), if_pos rfl]
    · rw [enabledBase_rd, if_neg (hne (by decide)), if_neg (hne (by decide)), if_neg (hne (by decide)), if_neg (hfree (by decide)), if_pos rfl]
    · rw [enabledBase_rd, if_neg (hfree (by decide)).symm, if_neg (hfree (by decide)).symm, if_neg (hfree (by decide)).symm, if_pos rfl, Dev.segSize]
    · rw [enabledBase_rd, if_neg (hne (by decide)), if_neg (hne (by decide)), if_pos rfl]
    · rw [enabledBase_rd, if_neg (hne (by decide)), if_pos rfl]
    · rw [enabledBase_rd, if_pos rfl]
    · rw [Dev.pMax, enabledBase_rd, if_neg (hne (by decide)), if_neg (hne (by decide)), if_neg (hne (by decide)), if_neg (hfree (by decide)), if_neg (hne (by decide)),
        if_neg (hne (by decide))]
    · rw [enabledBase_queue, if_neg hp]
  · have he := quEnable_off hoff
    rw [spillChan_some hs hc] at he
    rw [he, Dev.wr_rd, if_pos rfl, Dev.wr_queue, enabledBase_queue, if_pos rfl]
    exact ⟨rfl, rfl⟩
  · exact if_pos hon
  · dsimp only [Dev.quDisable]
    rw [hon, spillChan_none hs]
    rfl
  · exact if_pos (by rw [hoff]; rfl)

end Sys2Proof.Machine
end

/-! ECHO, READ and segmented transfers (R256 to R260): O22. -/
section
namespace Sys2Proof.Machine

/-! A served request by what carrying it out does. -/

section
variable {c : Instr} {s : State} {q : Request} {a : Answer} {x D : Dev}

/-- A served request that no full table turns away is answered as carrying it out says, and its answer is held. -/
theorem exec_of_carried (hc : exec c s = s.ask q) (hs : s.dev.serves q.id q.seq) (hm : malformed q = none) (hop : q.op ≠ 0)
    (hcarry : (s.dev.listed q).carryOut ⟨s.ps, s.worn⟩ q = (x, a)) (ha : a.status = BUSY → a.detail ≠ 1 ∧ a.detail ≠ 2) :
    exec c s = .next { s with dev := (x.reply q a).hold q } := by
  have hans : (s.dev.listed q).answered ⟨s.ps, s.worn⟩ q = (x.reply q a, a) := by
    rw [Dev.answered, hcarry]
    exact if_neg fun h => (ha h.1).1 h.2
  have hrun : (s.dev.listed q).runNew ⟨s.ps, s.worn⟩ q = (x.reply q a).hold q := by
    rw [Dev.runNew, hans]
    exact if_neg fun h => h.2.elim (ha h.1).1 (ha h.1).2
  rw [hc, State.ask, State.run, request_new s.dev _ q hs hm hop, hrun]

/-- It is answered where carrying it out leaves its requester in the table and the others as they were. -/
theorem answered_of_carried {p : Requester} (hc : exec c s = s.ask q) (hs : s.dev.serves q.id q.seq) (hm : malformed q = none) (hop : q.op ≠ 0)
    (hcarry : (s.dev.listed q).carryOut ⟨s.ps, s.worn⟩ q = (x, a)) (ha : a.status = BUSY → a.detail ≠ 1 ∧ a.detail ≠ 2)
    (hx : (x.when (a.status = BUSY) (·.bump 32 Reg.OPS_BUSY_COUNT)).aside = D.aside) (hself : x.requester q.id = some p) (hlast : p.last = q.t)
    (hother : ∀ id, id ≠ q.id → x.requester id = s.dev.requester id) (hnow : x.now = q.t) (hep : x.rd Reg.DR_EPOCH = s.dev.rd Reg.DR_EPOCH) :
    ∃ t, exec c s = .next t ∧ Rest s t ∧ Answered s t q a ∧ t.dev.aside = D.aside ∧ t.dev.requester q.id = some (p.kept q t.dev.resp) := by
  have hreply : (x.reply q a).reqs = x.reqs ∧ (x.reply q a).now = q.t ∧ (x.reply q a).aside = D.aside := by
    rw [← hx]
    unfold Dev.reply
    cases decide (a.status = BUSY)
    · exact ⟨rfl, hnow, rfl⟩
    · exact ⟨rfl, hnow, rfl⟩
  obtain ⟨hreqs, hnow', haside⟩ := hreply
  have hfind : ∀ j, (x.reply q a).requester j = x.requester j := fun j => by rw [Dev.requester, hreqs]; rfl
  have hkept : ((x.reply q a).hold q).requester q.id = some (p.kept q (x.reply q a).resp) := by
    rw [hold_eq, requester_modReq_self _ _ (Requester.kept q _) fun _ => rfl, hfind, hself]
    rfl
  refine ⟨{ s with dev := (x.reply q a).hold q }, exec_of_carried hc hs hm hop hcarry ha, ⟨rfl, rfl, rfl⟩,
    ⟨hnow', ?_, ⟨_, hkept, kept_mem _ _ _, hlast⟩, fun id hid => ?_⟩, haside, hkept⟩
  · show x.respond q a = _
    rw [Dev.respond, hep]
    rfl
  · rw [hold_eq, requester_modReq_other _ _ (Requester.kept q _) (fun _ => rfl) id hid, hfind, hother id hid]

/-- Answering and holding an answer that is not BUSY leaves the rest of the module. -/
theorem reply_held (ha : a.status ≠ BUSY) : ((x.reply q a).hold q).aside = x.aside ∧ ((x.reply q a).hold q).resp = x.respond q a := by
  unfold Dev.reply
  rw [decide_eq_false ha]
  exact ⟨rfl, rfl⟩

/-! What carrying out comes down to out of INIT. -/

theorem arrived_mode (hs : s.dev.serves q.id q.seq) : (s.dev.arrived q).mode ≠ INIT := by
  obtain ⟨rs, he⟩ := arrived_booked s.dev q
  rw [he]
  exact hs.2.2.1

theorem carryOut_echo (e : Env) (hop : q.op = OP_ECHO) : (s.dev.listed q).carryOut e q =
    (s.dev.arrived q, { len := q.len, data := q.data % 2 ^ (8 * q.len) }) := if_pos hop

theorem carryOut_read (e : Env) (hs : s.dev.serves q.id q.seq) (hop : q.op = OP_READ) (hacc : s.dev.readAccess q.ix q.sub q.hnd = OK)
    (hdef : s.dev.isDeferred q.ix q.sub false = false) : (s.dev.listed q).carryOut e q = (s.dev.arrived q).readValue e q := by
  have hmode := arrived_mode hs
  obtain ⟨rs, he⟩ := arrived_booked s.dev q
  have hacc' : (s.dev.arrived q).readAccess q.ix q.sub q.hnd = OK := by rw [he]; exact hacc
  have hdef' : (s.dev.arrived q).isDeferred q.ix q.sub false = false := by rw [he]; exact hdef
  show (if _ then _ else if ((s.dev.arrived q).mode = INIT && _) = true then _ else if _ then
    (if (s.dev.arrived q).readAccess q.ix q.sub q.hnd ≠ OK then _ else if (s.dev.arrived q).isDeferred q.ix q.sub false = true then _ else _) else _) = _
  rw [if_neg (by rw [hop]; decide), if_neg (by simp [hmode]), if_pos hop, if_neg (not_not_intro hacc'), if_neg (by rw [hdef']; decide)]
  rfl

theorem carryOut_segment (e : Env) (hs : s.dev.serves q.id q.seq) (hop : q.op = OP_WRITE) (htot : q.total ≠ 0) :
    (s.dev.listed q).carryOut e q = (s.dev.arrived q).writeSegment e.worn q := by
  have hmode := arrived_mode hs
  show (if _ then _ else if ((s.dev.arrived q).mode = INIT && _) = true then _ else if _ then _ else if _ then _ else _) = _
  rw [if_neg (by rw [hop]; decide), if_neg (by simp [hmode]), if_neg (by rw [hop]; decide), if_neg htot]
  rfl

/-! The requester of a request. -/

theorem arrived_readied {p : Requester} (hp : s.dev.requester q.id = some p) : s.dev.arrived q = s.dev.readied q := by
  have ht := touch_requester s.dev q
  rw [hp] at ht
  unfold Dev.arrived Dev.listed
  simp only [ht]
  rfl

theorem arrived_known {p : Requester} (hp : s.dev.requester q.id = some p) :
    (s.dev.arrived q).requester q.id = some (requestEnds q { p with last := q.t }) := by
  have ht := touch_requester s.dev q
  rw [arrived_readied hp]
  show (((s.dev.asked q).touch q.id).modReq q.id (requestEnds q)).requester q.id = _
  rw [requester_modReq_self _ _ (requestEnds q) fun _ => rfl, ht, hp]
  rfl

theorem arrived_aside : (s.dev.arrived q).aside = (s.dev.used q).aside := by
  obtain ⟨rs, he⟩ := arrived_booked s.dev q
  rw [he]
  rfl

theorem arrived_now : (s.dev.arrived q).now = q.t := by
  obtain ⟨rs, he⟩ := arrived_booked s.dev q
  rw [he]
  rfl

theorem arrived_rd (k : Nat) : (s.dev.arrived q).rd k = s.dev.rd k := by
  obtain ⟨rs, he⟩ := arrived_booked s.dev q
  rw [he]
  rfl

/-- A served request that changes nothing but its requester's record. -/
theorem answered_of_noted {f : Requester → Requester} (hid : ∀ r, (f r).id = r.id) (hl : ∀ r, (f r).last = r.last) (hc : exec c s = s.ask q)
    (hs : s.dev.serves q.id q.seq) (hm : malformed q = none) (hop : q.op ≠ 0)
    (hcarry : (s.dev.listed q).carryOut ⟨s.ps, s.worn⟩ q = ((s.dev.arrived q).modReq q.id f, a)) (ha : a.status ≠ BUSY) :
    ∃ t p, exec c s = .next t ∧ Rest s t ∧ t.dev.aside = (s.dev.used q).aside ∧ Answered s t q a ∧
      (s.dev.arrived q).requester q.id = some p ∧ t.dev.requester q.id = some ((f p).kept q t.dev.resp) := by
  obtain ⟨p, hp, hlast, -⟩ := arrived_requester s.dev q
  obtain ⟨t, hex, hrest, hans, haside, hreq⟩ := answered_of_carried (D := s.dev.used q) (p := f p) hc hs hm hop hcarry (fun h => absurd h ha)
    (by rw [decide_eq_false ha]; exact arrived_aside (q := q)) (by rw [requester_modReq_self _ _ f hid, hp]; rfl) ((hl p).trans hlast)
    (fun id hne => by rw [requester_modReq_other _ _ f hid id hne, arrived_other s.dev q id hne]) arrived_now (arrived_rd _)
  exact ⟨t, p, hex, hrest, haside, hans, hp, hreq⟩

/-- The same, where the record stays too. -/
theorem answered_of_idle (hc : exec c s = s.ask q) (hs : s.dev.serves q.id q.seq) (hm : malformed q = none) (hop : q.op ≠ 0)
    (hcarry : (s.dev.listed q).carryOut ⟨s.ps, s.worn⟩ q = (s.dev.arrived q, a)) (ha : a.status ≠ BUSY) :
    ∃ t, exec c s = .next t ∧ Rest s t ∧ Answered s t q a ∧ t.dev.aside = (s.dev.used q).aside := by
  obtain ⟨p, hp, hlast, -⟩ := arrived_requester s.dev q
  obtain ⟨t, hex, hrest, hans, haside, -⟩ := answered_of_carried (D := s.dev.used q) hc hs hm hop hcarry (fun h => absurd h ha)
    (by rw [decide_eq_false ha]; exact arrived_aside (q := q)) hp hlast (arrived_other s.dev q) arrived_now (arrived_rd _)
  exact ⟨t, hex, hrest, hans, haside⟩

end

theorem bytesLE_length : ∀ n v : Nat, (bytesLE n v).length = n
  | 0, _ => rfl
  | n + 1, v => congrArg Nat.succ (bytesLE_length n (v / 256))

theorem ofBytesLE_lt : ∀ bs : List Nat, ofBytesLE bs < 2 ^ (8 * bs.length)
  | [] => by decide
  | b :: bs => by
    have ih := ofBytesLE_lt bs
    show b % 256 + 256 * ofBytesLE bs < 2 ^ (8 * (bs.length + 1))
    rw [Nat.mul_add, Nat.pow_add]
    omega

theorem bytesLE_lt : ∀ (n v : Nat), ∀ b ∈ bytesLE n v, b < 256
  | n + 1, v, b, h => by
    rcases List.mem_cons.1 h with rfl | h
    · exact Nat.mod_lt _ (by decide)
    · exact bytesLE_lt n (v / 256) b h

/-- What a later segment finds collected. -/
theorem collected_kept {s : State} {q : Request} {p : Requester} {got : List Nat} (hp : s.dev.requester q.id = some p)
    (hcol : p.collect = some (q.ix, q.sub, q.total, got)) :
    ((s.dev.arrived { q with op := OP_WRITE }).requester q.id).bind (·.collect) = some (q.ix, q.sub, q.total, got) := by
  have hknown := arrived_known (s := s) (q := { q with op := OP_WRITE }) hp
  rw [show (s.dev.arrived { q with op := OP_WRITE }).requester q.id = _ from hknown]
  simp [requestEnds, hcol, OP_WRITE, OP_ECHO]

/-! The clauses. -/

section
variable {s : State} {q : Request} (hs : s.dev.serves q.id q.seq) (hseg : q.segment ≤ 15) (hlen : q.len ≤ 16)
include hs hseg hlen

omit hs in
/-- A request of small fields that writes no segment is well formed. -/
theorem malformed_plain {op : Nat} (h : op = OP_READ ∨ op = OP_ECHO) : malformed { q with op := op } = none := by
  have hop : op ≤ 3 ∧ op ≠ OP_WRITE := by rcases h with rfl | rfl <;> decide
  unfold malformed
  rw [if_neg (fun h => h.elim (Nat.not_lt.2 hop.1) (Nat.not_lt.2 hseg)), if_neg (Nat.not_lt.2 hlen), if_neg fun h => hop.2 h.1]

theorem malformed_segment (h1 : 17 ≤ q.total) (h2 : q.total ≤ 256) : malformed { q with op := OP_WRITE } = none := by
  have hid := hs.2.2.2.1
  unfold malformed
  rw [if_neg (fun h => h.elim (Nat.not_lt.2 (by decide : (2 : Nat) ≤ 3)) (Nat.not_lt.2 hseg)), if_neg (Nat.not_lt.2 hlen), if_neg]
  rintro ⟨-, h | h | h | h⟩
  · exact hid h
  · exact absurd h1 (Nat.not_le.2 h.2)
  · exact absurd h (Nat.not_lt.2 h2)
  · have h0 : q.total = 0 := h.1
    omega

/-- ECHO (R256). -/
theorem echo_answered (hd : q.data < 2 ^ (8 * q.len)) : ∃ t, exec (.echo q) s = .next t ∧ Rest s t ∧
    Answered s t { q with op := OP_ECHO } { len := q.len, data := q.data } ∧ t.dev.aside = (s.dev.used q).aside := by
  have hcarry := carryOut_echo (s := s) (q := { q with op := OP_ECHO }) ⟨s.ps, s.worn⟩ rfl
  rw [show ({ q with op := OP_ECHO } : Request).data % 2 ^ (8 * q.len) = q.data from Nat.mod_eq_of_lt hd] at hcarry
  exact answered_of_idle (c := .echo q) (q := { q with op := OP_ECHO }) rfl hs (malformed_plain hseg hlen (.inr rfl)) (by decide : OP_ECHO ≠ 0) hcarry
    (by decide : OK ≠ BUSY)

/-- A later segment of a read is served from the snapshot (R260). -/
theorem laterSegment_answered {p : Requester} {L v : Nat} (hacc : s.dev.readAccess q.ix q.sub q.hnd = OK)
    (hdef : s.dev.isDeferred q.ix q.sub false = false) (hlater : 0 < q.segment) (hp : s.dev.requester q.id = some p)
    (hsnap : p.snap = some (q.ix, q.sub, L, v)) : ∃ t, exec (.segmentedRead q) s = .next t ∧ Rest s t ∧
      Answered s t { q with op := OP_READ } (segmentOf q.segment L v) ∧ t.dev.aside = (s.dev.used q).aside := by
  have hknown := arrived_known (s := s) (q := { q with op := OP_READ }) hp
  have hbind : ((s.dev.arrived { q with op := OP_READ }).requester q.id).bind (·.snap) = some (q.ix, q.sub, L, v) := by
    rw [show (s.dev.arrived { q with op := OP_READ }).requester q.id = _ from hknown]
    simp [requestEnds, hlater, hsnap]
  have hcarry := carryOut_read (s := s) (q := { q with op := OP_READ }) ⟨s.ps, s.worn⟩ hs rfl hacc hdef
  refine answered_of_idle (c := .segmentedRead q) (q := { q with op := OP_READ }) rfl hs (malformed_plain hseg hlen (.inl rfl))
    (by decide : OP_READ ≠ 0) (hcarry.trans ?_) (by decide : OK ≠ BUSY)
  have h0 : q.segment ≠ 0 := by omega
  simp only [Dev.readValue, h0, decide_false, Bool.false_and, hbind]
  simp

/-- Segment 0 of a value takes its first 16 bytes (R260). -/
theorem firstSegment_answered (h1 : 17 ≤ q.total) (h2 : q.total ≤ 256) (h0 : q.segment = 0) (h16 : q.len = 16) :
    ∃ t p, exec (.segmentedWrite q) s = .next t ∧ Rest s t ∧ t.dev.aside = (s.dev.used q).aside ∧
      Answered s t { q with op := OP_WRITE } { detail := 16 } ∧ t.dev.requester q.id = some p ∧
      p.collect = some (q.ix, q.sub, q.total, bytesLE 16 q.data) := by
  have hcarry := carryOut_segment (s := s) (q := { q with op := OP_WRITE }) ⟨s.ps, s.worn⟩ hs rfl (show q.total ≠ 0 by omega)
  have hstore : (s.dev.arrived { q with op := OP_WRITE }).writeSegment s.worn { q with op := OP_WRITE } =
      ((s.dev.arrived { q with op := OP_WRITE }).modReq q.id fun r => { r with collect := some (q.ix, q.sub, q.total, bytesLE q.len q.data) },
        { detail := 16 }) := by
    simp only [Dev.writeSegment, h0, h16, if_true]
  obtain ⟨t, p, hex, hrest, haside, hans, -, hreq⟩ := answered_of_noted (c := .segmentedWrite q) (q := { q with op := OP_WRITE })
    (f := fun r => { r with collect := some (q.ix, q.sub, q.total, bytesLE q.len q.data) }) (a := { detail := 16 }) (fun _ => rfl) (fun _ => rfl) rfl hs
    (malformed_segment hs hseg hlen h1 h2) (by decide : OP_WRITE ≠ 0)
    (hcarry.trans hstore) (by decide : OK ≠ BUSY)
  exact ⟨t, _, hex, hrest, haside, hans, hreq, by rw [h16]; rfl⟩

/-- A segment between appends its bytes (R260). -/
theorem middleSegment_answered {p : Requester} {got : List Nat} (h1 : 17 ≤ q.total) (h2 : q.total ≤ 256) (h0 : 0 < q.segment)
    (hp : s.dev.requester q.id = some p) (hcol : p.collect = some (q.ix, q.sub, q.total, got)) (hgot : got.length = 16 * q.segment)
    (hl : q.len = min 16 (q.total - got.length)) (hmore : got.length + q.len < q.total) :
    ∃ t p', exec (.segmentedWrite q) s = .next t ∧ Rest s t ∧ t.dev.aside = (s.dev.used q).aside ∧
      Answered s t { q with op := OP_WRITE } { detail := got.length + q.len } ∧ t.dev.requester q.id = some p' ∧
      p'.collect = some (q.ix, q.sub, q.total, got ++ bytesLE q.len q.data) := by
  have hcarry := carryOut_segment (s := s) (q := { q with op := OP_WRITE }) ⟨s.ps, s.worn⟩ hs rfl (show q.total ≠ 0 by omega)
  have hstore : (s.dev.arrived { q with op := OP_WRITE }).writeSegment s.worn { q with op := OP_WRITE } =
      ((s.dev.arrived { q with op := OP_WRITE }).modReq q.id fun r => { r with collect := some (q.ix, q.sub, q.total, got ++ bytesLE q.len q.data) },
        { detail := got.length + q.len }) := by
    have hn : q.segment ≠ 0 := by omega
    have hll : (got ++ bytesLE q.len q.data).length = got.length + q.len := by rw [List.length_append, bytesLE_length]
    unfold Dev.writeSegment
    rw [if_neg hn, collected_kept hp hcol]
    show (if _ then _ else if _ then _ else if (got ++ bytesLE q.len q.data).length < q.total then
      (Dev.modReq _ q.id fun r => { r with collect := some (q.ix, q.sub, q.total, got ++ bytesLE q.len q.data) },
        ({ detail := (got ++ bytesLE q.len q.data).length } : Answer)) else _) = _
    rw [if_neg (by simp [hgot]), if_neg (not_not_intro hl), hll, if_pos hmore]
  obtain ⟨t, p, hex, hrest, haside, hans, -, hreq⟩ := answered_of_noted (c := .segmentedWrite q) (q := { q with op := OP_WRITE })
    (f := fun r => { r with collect := some (q.ix, q.sub, q.total, got ++ bytesLE q.len q.data) }) (a := { detail := got.length + q.len })
    (fun _ => rfl) (fun _ => rfl) rfl hs (malformed_segment hs hseg hlen h1 h2) (by decide : OP_WRITE ≠ 0)
    (hcarry.trans hstore) (by decide : OK ≠ BUSY)
  exact ⟨t, _, hex, hrest, haside, hans, hreq, rfl⟩

/-- A read of segment 0 answers, and leaves the module, as the read of its object does (R257, R260). -/
theorem read_answered {p : Requester} {i : Info} (hacc : s.dev.readAccess q.ix q.sub q.hnd = OK)
    (hdef : s.dev.isDeferred q.ix q.sub false = false) (hi : s.dev.info q.ix q.sub = some i) (h0 : q.segment = 0)
    (hp : s.dev.requester q.id = some p) (hfree : s.dev.opsFree = true) :
    let w := { q with op := OP_READ }
    let r := (s.dev.readied w).readNow ⟨s.ps, s.worn⟩ q.ix q.sub q.id
    ∃ t, exec (.segmentedRead q) s = .next t ∧ Rest s t ∧
      (r.2.1 = OK → t.dev.aside = r.1.aside ∧ t.dev.resp = r.1.respond w (segmentOf 0 (i.ty.length r.2.2) r.2.2)) ∧
      (r.2.1 ≠ OK → r.2.1 ≠ BUSY → t.dev.aside = r.1.aside ∧ t.dev.resp = r.1.respond w { status := r.2.1 }) := by
  intro w r
  have harr : s.dev.arrived w = s.dev.readied w := arrived_readied (q := w) hp
  obtain ⟨rs, he⟩ := arrived_booked s.dev w
  have hinfo : (s.dev.arrived w).info q.ix q.sub = some i := by rw [he]; exact hi
  have hops : (s.dev.arrived w).opsFree = true := by rw [he]; exact hfree
  have hread : (s.dev.arrived w).readValue ⟨s.ps, s.worn⟩ w = if r.2.1 ≠ OK then (r.1, { status := r.2.1 })
      else (r.1.modReq q.id fun x => { x with snap := some (q.ix, q.sub, i.ty.length r.2.2, r.2.2) }, segmentOf 0 (i.ty.length r.2.2) r.2.2) := by
    have hw0 : w.segment = 0 := h0
    unfold Dev.readValue
    rw [hops, hinfo, harr, if_neg (by simp), if_pos hw0]
  have hcarry := (carryOut_read (q := w) ⟨s.ps, s.worn⟩ hs rfl hacc hdef).trans hread
  have hm : malformed w = none := malformed_plain hseg hlen (.inl rfl)
  by_cases hok : r.2.1 = OK
  · rw [if_neg (not_not_intro hok)] at hcarry
    exact ⟨_, exec_of_carried (c := .segmentedRead q) rfl hs hm (by decide : OP_READ ≠ 0) hcarry (fun h => absurd h (by decide : OK ≠ BUSY)),
      ⟨rfl, rfl, rfl⟩, fun _ => reply_held (x := r.1.modReq q.id _) (by decide : OK ≠ BUSY), fun h => absurd hok h⟩
  · rw [if_pos hok] at hcarry
    by_cases hbusy : r.2.1 = BUSY
    · exact ⟨_, exec_of_carried (c := .segmentedRead q) rfl hs hm (by decide : OP_READ ≠ 0) hcarry
        (fun _ => ⟨(by decide : (0 : Nat) ≠ 1), (by decide : (0 : Nat) ≠ 2)⟩), ⟨rfl, rfl, rfl⟩, fun h => absurd h hok, fun _ h => absurd hbusy h⟩
    · exact ⟨_, exec_of_carried (c := .segmentedRead q) rfl hs hm (by decide : OP_READ ≠ 0) hcarry (fun h => absurd h hbusy),
        ⟨rfl, rfl, rfl⟩, fun h => absurd h hok, fun _ _ => reply_held (x := r.1) hbusy⟩

/-- The objects that are read as they are held: the digest, the coefficients' state, the ring's and the operations' counts. -/
theorem heldRead_obeys {i : Info} (hacc : s.dev.readAccess q.ix q.sub q.hnd = OK) (hdef : s.dev.isDeferred q.ix q.sub false = false)
    (hi : s.dev.info q.ix q.sub = some i) (h0 : q.segment = 0) (hix : q.ix = 0x0210 ∨ q.ix = 0x5800 ∨ q.ix = 0x0840 ∨ q.ix = 0x02F2) :
    Obeys (.segmentedRead q) s { q with op := OP_READ }
      (segmentOf 0 (i.ty.length (s.dev.rd (q.ix * 256 + q.sub))) (s.dev.rd (q.ix * 256 + q.sub))) (s.dev.used q) := by
  set w : Request := { q with op := OP_READ } with hw
  obtain ⟨rs, he⟩ := arrived_booked s.dev w
  have hread : (s.dev.arrived w).readNow ⟨s.ps, s.worn⟩ w.ix w.sub w.id = (s.dev.arrived w, OK, s.dev.rd (q.ix * 256 + q.sub)) := by
    rw [← arrived_rd (s := s) (q := w)]
    show (s.dev.arrived w).readNow ⟨s.ps, s.worn⟩ q.ix q.sub w.id = _
    rcases hix with h | h | h | h <;> rw [h] <;> rfl
  refine obeys_read (c := .segmentedRead q) (q := w) rfl ⟨hs, hacc⟩ (malformed_plain hseg hlen (.inl rfl)) rfl h0 ?_ ?_ hread hi
    arrived_aside rfl arrived_now (arrived_rd _)
  · rw [he]
    exact hdef
  · show Dev.readTakes _ q.ix q.sub = false
    rcases hix with h | h | h | h <;> rw [h] <;> rfl

end

/-- What a QU_WRITE does on a module that takes the packet, and its answer (R221). -/
def Dev.hostAnswer (d : Dev) (i : Nat) (bytes : List Nat) : Dev × Answer :=
  ((d.hostWrite i bytes).1, { status := (d.hostWrite i bytes).2 })

theorem direct_quWrite {d : Dev} {w : Worn} {x : Entry} {i : Nat} {bytes : List Nat} (hi : i < 64) (hix : x.ix = 0x4000 + 0x10 * i) (hsub : x.sub = 0x11)
    (haux : x.aux = 0) (hval : bytesLE x.len x.val = bytes) (hhost : d.hostQueue i = true) : d.direct w x = d.hostAnswer i bytes := by
  have hchk : d.entryCheck w x = (d.hostWrite i bytes).2 := by
    rw [entryCheck_queue hi hix, hsub]
    show (if d.hostQueue i = true then _ else _) = _
    rw [if_pos hhost, hval]
  have happly : ∀ e : Dev, e.applyEntry w x = (e.hostWrite i bytes).1 := fun e => by
    rw [applyEntry_queue hi hix haux, hsub]
    show (e.hostWrite i (bytesLE x.len x.val)).1 = _
    rw [hval]
  have hrefused : d.refusedWrite x = (d.hostWrite i bytes).1 := by
    unfold Dev.refusedWrite
    rw [hix, hsub, (queueObj_ix hi).2.2.2.2, if_pos ⟨Nat.le_add_right _ _, by omega, rfl, hhost⟩, hval]
  rw [Dev.direct, hchk, hrefused]
  simp only [happly]
  rw [QueueOnly.withDigests (f := fun e => (e.hostWrite i bytes).1) fun e => QueueOnly.hostWrite e hi bytes]
  show (if (d.hostWrite i bytes).2 ≠ OK then _ else _) = _
  by_cases h : (d.hostWrite i bytes).2 = OK
  · rw [if_neg (not_not_intro h), Dev.hostAnswer, h]
  · rw [if_pos h]
    rfl

section
variable {s : State} {q : Request} {i : QueueNo} {p : Requester} {got : List Nat}

/-- The last segment of a QU_WRITE writes the whole value (R221, R260). -/
theorem lastSegment_carried (hs : s.dev.serves q.id q.seq) (hix : q.ix = 0x4000 + 0x10 * i.val) (hsub : q.sub = 0x11) (htot : 17 ≤ q.total)
    (h24 : q.total ≤ 24) (h0 : 0 < q.segment) (hp : s.dev.requester q.id = some p) (hcol : p.collect = some (q.ix, q.sub, q.total, got))
    (hlt : ∀ x ∈ got, x < 256) (hgot : got.length = 16 * q.segment) (hl : q.len = min 16 (q.total - got.length))
    (hwhole : got.length + q.len = q.total) (hopen : s.dev.openTxn q.id = none)
    (hacc : s.dev.writeAccess (s.dev.serviceOf q.id) false q.ix q.sub q.hnd q.total (ofBytesLE (got ++ bytesLE q.len q.data)) = OK)
    (hhost : s.dev.hostQueue i = true) : (s.dev.listed { q with op := OP_WRITE }).carryOut ⟨s.ps, s.worn⟩ { q with op := OP_WRITE } =
      ((s.dev.arrived { q with op := OP_WRITE }).dropCollect q.id).hostAnswer i (got ++ bytesLE q.len q.data) := by
  set w : Request := { q with op := OP_WRITE } with hw
  set bytes := got ++ bytesLE q.len q.data with hbytes
  set d := (s.dev.arrived w).dropCollect q.id with hd
  obtain ⟨rs, he⟩ := arrived_booked s.dev w
  have hll : bytes.length = q.total := by rw [hbytes, List.length_append, bytesLE_length, hwhole]
  have hb256 : ∀ b ∈ bytes, b < 256 := fun b hb => (List.mem_append.1 hb).elim (hlt b) (bytesLE_lt _ _ b)
  have hseg : (s.dev.arrived w).writeSegment s.worn w = d.writeValue s.worn w q.total (ofBytesLE bytes) := by
    have hn : q.segment ≠ 0 := by omega
    unfold Dev.writeSegment
    rw [if_neg hn, collected_kept hp hcol]
    show (if _ then _ else if _ then _ else if bytes.length < q.total then _ else d.writeValue s.worn w q.total (ofBytesLE bytes)) = _
    rw [if_neg (by simp [hgot, hw]), if_neg (not_not_intro hl), if_neg (by omega)]
  have hserv : d.serviceOf q.id = s.dev.serviceOf q.id := by
    obtain ⟨r, hr, -, hsv⟩ := arrived_requester s.dev w
    have hdr : d.requester q.id = some { r with collect := none } := by
      rw [hd]
      show ((s.dev.arrived w).modReq q.id fun r => { r with collect := none }).requester q.id = _
      rw [requester_modReq_self _ _ (fun r => { r with collect := none }) fun _ => rfl, hr]
      rfl
    rw [Dev.serviceOf, hdr]
    exact hsv
  have hopen' : d.openTxn w.id = none := arrived_openTxn s.dev w hopen
  have hbook : ∃ rs, d = s.dev.booked w.t {} rs (s.dev.used w).txns := by
    rw [hd, he]
    exact ⟨_, rfl⟩
  obtain ⟨rs', hbook⟩ := hbook
  have hval : d.writeValue s.worn w q.total (ofBytesLE bytes) = d.hostAnswer i bytes := by
    set x : Entry := { id := w.id, seq := w.seq, ix := w.ix, sub := w.sub, hnd := w.hnd, val := d.masked w.ix w.sub (ofBytesLE bytes),
                       len := q.total, cyc := d.rd Reg.SQ_CYCLE_INDEX } with hx
    have hout : d.outside s.worn w (ofBytesLE bytes) x = d.direct s.worn x :=
      outside_queueObj (q := w) (x := x) i.isLt hix (.inr (.inr (.inl hsub))) rfl
    have hmasked : d.masked w.ix w.sub (ofBytesLE bytes) = ofBytesLE bytes := by
      rw [show w.ix = _ from hix]
      exact masked_queue d w.sub i.isLt (show 8 * bytes.length ≤ 2048 by omega) (ofBytesLE_lt bytes)
    rw [writeValue_outside hopen' (by
      rw [show d.serviceOf w.id = _ from hserv, hbook, booked_writeAccess]
      exact hacc)]
    refine hout.trans (direct_quWrite i.isLt hix hsub rfl ?_ (by rw [hbook]; exact hhost))
    show bytesLE q.total (d.masked w.ix w.sub (ofBytesLE bytes)) = bytes
    rw [hmasked, ← hll]
    exact bytesLE_ofBytesLE hb256
  rw [carryOut_segment (q := w) _ hs rfl (show q.total ≠ 0 by omega), hseg, hval]

/-- A request carried out as a QU_WRITE on the arrived device, some collection dropped, leaves what the QU_WRITE leaves (R221). -/
theorem hostAnswer_obeys {c : Instr} {bytes : List Nat} (hc : exec c s = s.ask q) (hs : s.dev.serves q.id q.seq) (hm : malformed q = none)
    (hop : q.op ≠ 0)
    (hcarry : (s.dev.listed q).carryOut ⟨s.ps, s.worn⟩ q = ((s.dev.arrived q).dropCollect q.id).hostAnswer i bytes) :
    let r := ((s.dev.at q.t).used q).hostWrite i bytes
    Obeys c s q { status := r.2 } (r.1.when (r.2 = BUSY) (·.bump 32 Reg.OPS_BUSY_COUNT)) := by
  intro r
  set e := (s.dev.at q.t).used q with he
  obtain ⟨rs, harr⟩ := arrived_booked s.dev q
  have hbook : ∃ rs, (s.dev.arrived q).dropCollect q.id = e.beside ⟨{}, rs, (s.dev.used q).txns, s.dev.ring, s.dev.wd1⟩ := by
    rw [harr]
    exact ⟨_, rfl⟩
  obtain ⟨rs', hd⟩ := hbook
  have hhost : ((s.dev.arrived q).dropCollect q.id).hostAnswer i bytes =
      (r.1.beside ⟨{}, rs', (s.dev.used q).txns, s.dev.ring, s.dev.wd1⟩, { status := r.2 }) := by
    rw [hd, Dev.hostAnswer, beside_hostWrite]
    rfl
  have hb : ∀ (d : Dev) (o : Own), ((d.beside o).hostWrite i bytes).1 = (d.hostWrite i bytes).1.beside o := fun d o => by
    rw [beside_hostWrite]
    rfl
  have haside : (r.1.beside ⟨{}, rs', (s.dev.used q).txns, s.dev.ring, s.dev.wd1⟩).aside = r.1.aside := by
    rw [show r.1 = r.1.beside ⟨e.resp, e.reqs, e.txns, e.ring, e.wd1⟩ from
      beside_own (op := fun d => (d.hostWrite i bytes).1) hb e]
    rfl
  have hfind (id : Nat) : (r.1.beside ⟨{}, rs', (s.dev.used q).txns, s.dev.ring, s.dev.wd1⟩).requester id =
      ((s.dev.arrived q).modReq q.id fun p => { p with collect := none }).requester id := by
    show (rs'.find? fun p => p.id = id) = ((s.dev.arrived q).dropCollect q.id).requester id
    rw [hd]
    rfl
  obtain ⟨p, hp, hlast, -⟩ := arrived_requester s.dev q
  obtain ⟨t, hex, hrest, hans, hleft, -⟩ := answered_of_carried (p := { p with collect := none })
    (D := r.1.when (r.2 = BUSY) (·.bump 32 Reg.OPS_BUSY_COUNT)) hc hs hm hop (hcarry.trans hhost)
    (fun _ => ⟨(by decide : (0 : Nat) ≠ 1), (by decide : (0 : Nat) ≠ 2)⟩)
    (by
      show (Dev.when _ (decide (r.2 = BUSY)) _).aside = _
      cases decide (r.2 = BUSY)
      · exact haside
      · exact bump_aside haside)
    (by rw [hfind, requester_modReq_self _ _ (fun p => { p with collect := none }) fun _ => rfl, hp]; rfl) hlast
    (fun id hne => by
      rw [hfind, requester_modReq_other _ _ (fun p => { p with collect := none }) (fun _ => rfl) id hne, arrived_other s.dev q id hne])
    (QueueOnly.hostWrite e i.isLt bytes).now
    ((QueueOnly.hostWrite e i.isLt bytes).quiet.2 _ fun hk => absurd (logKey_iff.1 hk) (by decide))
  exact ⟨t, hex, hrest, hans, hleft⟩

end

/-- Settles O22: ECHO, the reads, the segments of a value and the last one of a QU_WRITE. -/
theorem segmentsCarryValues : Obligations.SegmentsCarryValues := by
  unfold Obligations.SegmentsCarryValues
  refine fun s q hs hseg hlen => ⟨echo_answered hs hseg hlen, fun i hacc hdef hi h0 hix => ?_,
    fun p i hacc hdef hi h0 hp hfree => read_answered hs hseg hlen hacc hdef hi h0 hp hfree, fun p L v hacc hdef hlater hp hsnap => ?_,
    fun _ h1 h2 h0 h16 => firstSegment_answered hs hseg hlen h1 h2 h0 h16,
    fun p got h1 h2 h0 hp hcol hgot hl hmore => middleSegment_answered hs hseg hlen h1 h2 h0 hp hcol hgot hl hmore,
    fun i p got hix hsub htot h24 h0 hp hcol hlt hgot hl hwhole hopen hacc hhost _ => ?_⟩
  · obtain ⟨t, hex, hrest, hans, haside⟩ := heldRead_obeys hs hseg hlen hacc hdef hi h0 hix
    exact ⟨t, hex, hrest, haside, hans⟩
  · obtain ⟨t, hex, hrest, hans, haside⟩ := laterSegment_answered hs hseg hlen hacc hdef hlater hp hsnap
    exact ⟨t, hex, hrest, haside, hans⟩
  · have hobeys := hostAnswer_obeys (c := .segmentedWrite q) (q := { q with op := OP_WRITE }) rfl hs
      (malformed_segment hs hseg hlen htot (by omega)) (by decide : OP_WRITE ≠ 0)
      (lastSegment_carried hs hix hsub htot h24 h0 hp hcol hlt hgot hl hwhole hopen hacc hhost)
    refine ⟨fun hok => ?_, fun hbusy => ?_⟩
    · dsimp only at hobeys
      rw [hok] at hobeys
      exact hobeys
    · dsimp only at hobeys
      rw [hbusy] at hobeys
      exact hobeys

end Sys2Proof.Machine
end

/-! Capture channels (R234 to R237): O48. -/
section
namespace Sys2Proof.Machine

/-! The commands of a channel. -/

theorem QueueOnly.dmDo (d : Dev) {c : Nat} (hc : c < 16) (v : Nat) : QueueOnly d (d.dmDo c v) := by
  have hwr (e : Dev) (n w : Nat) (hn : n < 256) : QueueOnly e (e.wr ((0x4410 + c) * 256 + n) w) :=
    ⟨.wr e _ w (logKey_dma c n hc hn), .wr e w (logKey_dma c n hc hn)⟩
  unfold Dev.dmDo
  split
  · unfold Dev.dmStart
    split
    · exact refl d
    · exact ((((hwr d 0x9 1 (by decide)).trans (hwr _ 0xA 0 (by decide))).trans (hwr _ 0xB 0 (by decide))).trans (hwr _ 0xC 0 (by decide))).trans
        ⟨.setDma _ c _, .of_obj rfl⟩
  · exact hwr d 0x9 0 (by decide)
  · exact logged ⟨.trigger d c 0 hc, .trigger d 0 hc⟩
  · exact refl d

theorem beside_dmDo (d : Dev) (o : Own) (c v : Nat) : (d.beside o).dmDo c v = (d.dmDo c v).beside o := by
  unfold Dev.dmDo
  split
  · exact beside_ite o _ d (((((d.wr (Reg.DM_STATE c) 1).wr (Reg.DM_WRITE_INDEX c) 0).wr (Reg.DM_OLDEST c) 0).wr (Reg.DM_WRAPS c) 0).setDma c {})
  · rfl
  · rw [beside_trigger, logged_besides]
  · rfl

/-- The rows of a channel's objects. -/
theorem info_dma {d : Dev} {c n : Nat} (hc : c < 16) : d.info (0x4410 + c) n = rowAt rowsDma n := by
  rw [Dev.info, objInfo, rowsAt, if_neg (by omega), if_neg (by omega), if_pos (by omega)]

theorem dmaObj_ix {c : Nat} (hc : c < 16) : isHandleIx (0x4410 + c) = false ∧
    (0x5000 ≤ 0x4410 + c && 0x4410 + c < 0x5800) = false ∧ (0x5810 ≤ 0x4410 + c && 0x4410 + c < 0x5870) = false ∧
    (0x4000 ≤ 0x4410 + c && 0x4410 + c < 0x4400) = false ∧ (0x4410 ≤ 0x4410 + c && 0x4410 + c < 0x4420) = true ∧ 0x4410 + c - 0x4410 = c := by
  refine ⟨?_, ?_, ?_, ?_, ?_, by omega⟩
  · simp [isHandleIx]; omega
  · simp; omega
  · simp; omega
  · simp; omega
  · simp; omega

/-- D:08 is neither staged, deferred nor kept. -/
theorem outside_dmCtrl {d : Dev} {w : Worn} {q : Request} {v : Nat} {x : Entry} {c : Nat} (hc : c < 16) (hix : q.ix = 0x4410 + c)
    (hsub : q.sub = 8) (hkey : x.key = q.ix * 256 + q.sub) : d.outside w q v x = d.direct w x := by
  have hplain : isHandleIx q.ix = false := by rw [hix]; exact (dmaObj_ix hc).1
  have hrow : d.info q.ix q.sub = rowAt rowsDma q.sub := by rw [hix, info_dma hc]
  have hvol : ((d.info q.ix q.sub).map (·.persist) = some .kept) = False := by
    rw [hrow, hsub]
    simp [rowAt, rowsDma]
  have hkey' : x.key ≠ Reg.BR_RELEASE := by
    rw [hkey, hix]
    show _ ≠ 0x04200D
    omega
  have h0 : q.ix ≠ 0x0220 ∧ q.ix ≠ 0x0230 := by omega
  have h1 : actsAtOnce q.ix q.sub = false := by rw [hix]; simp [actsAtOnce]; omega
  have h2 : d.isDeferred q.ix q.sub true = false := by rw [hix]; simp [Dev.isDeferred, isHandleIx]; omega
  have h3 : d.isStagedCommand q.ix q.sub = false := by rw [hix]; simp [Dev.isStagedCommand, isHandleIx]; omega
  simp only [Dev.outside, h0, hkey', h1, hplain, h2, h3, hvol]
  simp

theorem systemWrite_dmCtrl {d : Dev} {w : Worn} {x : Entry} {c : Nat} (hc : c < 16) (hix : x.ix = 0x4410 + c) (hsub : x.sub = 8) :
    d.systemWrite w x = d.dmDo c x.val := by
  unfold Dev.systemWrite
  dsimp only
  split
  any_goals omega
  obtain ⟨-, -, -, -, h5, h6⟩ := dmaObj_ix hc
  have hnever (a n : Nat) (h : a + n ≤ 0x4410 ∨ 0x4420 ≤ a) : (decide (a ≤ 0x4410 + c) && decide (0x4410 + c < a + n)) = false := by
    simp
    omega
  rw [hix, hsub, h5, h6, show (decide (0x9010 ≤ 0x4410 + c) && decide (0x4410 + c < 0x9014)) = false from hnever 0x9010 4 (by decide),
    show (decide (0x0310 ≤ 0x4410 + c) && decide (0x4410 + c < 0x0314)) = false from hnever 0x0310 4 (by decide)]
  rfl

theorem entryCheck_dmCtrl {d : Dev} {w : Worn} {x : Entry} {c : Nat} (hc : c < 16) (hix : x.ix = 0x4410 + c) (hsub : x.sub = 8) :
    d.entryCheck w x = d.dmCheck c x.val := by
  obtain ⟨h1, h2, h3, h4, h5, h6⟩ := dmaObj_ix hc
  dsimp only [Dev.entryCheck]
  rw [hix, h1, h2, h3, h4, h5, h6, hsub]
  rfl

theorem applyEntry_dmCtrl {d : Dev} {w : Worn} {x : Entry} {c : Nat} (hc : c < 16) (hix : x.ix = 0x4410 + c) (hsub : x.sub = 8) :
    d.applyEntry w x = d.dmDo c x.val := by
  obtain ⟨h1, h2, h3, h4, -, -⟩ := dmaObj_ix hc
  dsimp only [Dev.applyEntry]
  rw [systemWrite_dmCtrl hc hix hsub, hix, h1, h2, h3, h4]
  rfl

theorem dmCtrl_obeys {i : Instr} {s : State} {r : Req} {c : DmaNo} {v : Nat} (hi : writeOf i = some (writeReq r (Reg.DM_CTRL c) 0 1 v))
    (hv : v < 2 ^ 8) (hperm : s.dev.permits (writeReq r (Reg.DM_CTRL c) 0 1 v)) (hchk : s.dev.dmCheck c v = OK) :
    Obeys i s (writeReq r (Reg.DM_CTRL c) 0 1 v) {} (((s.dev.at r.t).used (writeReq r (Reg.DM_CTRL c) 0 1 v)).dmDo c v) := by
  have hp : Permitted i s _ := .of_writeReq hi (by decide) hperm
  have hc := c.isLt
  set q := writeReq r (Reg.DM_CTRL c) 0 1 v with hq
  have hix : q.ix = 0x4410 + c.val := by
    show ((0x4410 + c.val) * 256 + 8) / 256 = _
    omega
  have hsub : q.sub = 8 := by
    show ((0x4410 + c.val) * 256 + 8) % 256 = _
    omega
  have hval : (s.dev.entryOf q).val = v := by
    have hmask : s.dev.writeMask q.ix q.sub = 2 ^ 2048 - 1 := by
      rw [hix, Dev.writeMask, if_neg (by rw [(dmaObj_ix hc).1]; decide), if_neg (by simp; omega), if_neg (by simp; omega),
        if_neg (by simp; omega), if_neg (by simp; omega), if_neg (by simp; omega), if_neg (by simp; omega)]
    exact masked_small hmask (hv.trans (by decide))
  have happly : ∀ e : Dev, e.applyEntry s.worn (s.dev.entryOf q) = e.dmDo c v := fun e => by
    rw [applyEntry_dmCtrl (x := s.dev.entryOf q) hc hix hsub, hval]
  refine hp.obeys_beside (op := fun d => d.dmDo c v) (a := {}) (fun d o => beside_dmDo d o c v) (fun d => QueueOnly.dmDo d hc v) (by decide) fun rs => ?_
  rw [outside_dmCtrl (x := s.dev.entryOf q) hc hix hsub rfl, Dev.direct, entryCheck_dmCtrl (x := s.dev.entryOf q) hc hix hsub, hval,
    show (s.dev.booked q.t {} rs (s.dev.used q).txns).dmCheck c v = OK from hchk]
  simp only [happly]
  rw [QueueOnly.withDigests (f := fun e => e.dmDo c v) fun e => QueueOnly.dmDo e hc v]
  rfl

/-! A trigger (R236). -/

section
variable {d : Dev} {c : Nat} (hrole : d.rd (Reg.DM_ROLE c) = 2) (hpol : d.rd (Reg.DM_POLICY c) = 2) (hst : d.rd (Reg.DM_STATE c) = 1)
include hrole hpol hst

/-- The packets that wait as the channel is triggered. -/
def Dev.waitingAt (d : Dev) (c : Nat) : List Pkt := (d.queue (d.rd (Reg.DM_QUEUE c))).pkts.filter fun k => k.tc ≠ d.now

/-- The channel as a trigger leaves it in state st. -/
def Dev.triggeredTo (d : Dev) (c st : Nat) : Dev :=
  ((d.wr (Reg.DM_STATE c) st).wr (Reg.DM_TRIG_TIME c) d.now).setDma c
    { d.dma c with post := 0, skip := (d.waitingAt c).length, epoch := (d.queue (d.rd (Reg.DM_QUEUE c))).resets }

theorem trigger_waits (h : d.waitingAt c ≠ [] ∨ d.rd (Reg.DM_POST c) ≠ 0) : d.dmDo c 3 = (d.triggeredTo c 3).log1 0x050B (0x40 + c) 0 := by
  have hdone : ¬ ((d.waitingAt c) = [] ∧ d.rd (Reg.DM_POST c) = 0) := fun hn => h.elim (· hn.1) (· hn.2)
  show logged (d.trigger c 0) = _
  unfold Dev.trigger
  rw [if_pos ⟨hrole, hpol, hst⟩]
  show logged ((((d.wr _ (if (d.waitingAt c) = [] ∧ d.rd (Reg.DM_POST c) = 0 then 4 else 3)).wr _ _).setDma c _),
    _ :: (if (d.waitingAt c) = [] ∧ d.rd (Reg.DM_POST c) = 0 then _ else _)) = _
  rw [if_neg hdone, if_neg hdone]
  rfl

theorem trigger_done (hpost : d.rd (Reg.DM_POST c) = 0) (h : d.waitingAt c = []) :
    d.dmDo c 3 = (d.triggeredTo c 4).logs [(0x050B, 0x40 + c, 0), (0x050C, 0x40 + c, 0)] := by
  have hdone : (d.waitingAt c) = [] ∧ d.rd (Reg.DM_POST c) = 0 := ⟨h, hpost⟩
  show logged (d.trigger c 0) = _
  unfold Dev.trigger
  rw [if_pos ⟨hrole, hpol, hst⟩]
  show logged ((((d.wr _ (if (d.waitingAt c) = [] ∧ d.rd (Reg.DM_POST c) = 0 then 4 else 3)).wr _ _).setDma c _),
    _ :: (if (d.waitingAt c) = [] ∧ d.rd (Reg.DM_POST c) = 0 then _ else _)) = _
  rw [if_pos hdone, if_pos hdone]
  rfl

end

/-! No command on a queue reaches beyond PSRAM. -/

theorem logs_hole (d : Dev) (es : Evs) : (d.logs es).hole = d.hole := by rw [(logs_quiet d es).1]

theorem abortNote_hole (d : Dev) (q r : Nat) : (d.abortNote q r).1.hole = d.hole := by
  unfold Dev.abortNote
  dsimp only
  exact (apply_ite (fun p : Dev × Evs => p.1.hole) _ _ _).trans (ite_self _)

theorem noteRelease_hole (d : Dev) (q a b : Nat) : (d.noteRelease q a b).1.hole = d.hole := by
  unfold Dev.noteRelease
  dsimp only
  exact (apply_ite (fun p : Dev × Evs => p.1.hole) _ _ _).trans (ite_self _)

theorem countAbort_hole (d : Dev) (q r : Nat) : (d.countAbort q r).1.hole = d.hole := by
  have hmark : (d.abortMark q r).hole = d.hole := by
    unfold Dev.abortMark
    dsimp only
    generalize (decide (r = 1) && Dev.stepNames _ q) = b
    cases b <;> rfl
  rw [countAbort_eq, abortNote_hole, hmark]

theorem queueReset_hole (d : Dev) (q r : Nat) : (d.queueReset q r).1.hole = d.hole := by
  unfold Dev.queueReset
  dsimp only
  split
  · exact countAbort_hole d q 5
  · rfl

theorem logged_guardQueue_hole (d : Dev) (q : Nat) : (logged (d.guardQueue q)).hole = d.hole := by
  rw [logged, logs_hole]
  unfold Dev.guardQueue
  split
  · rfl
  · exact queueReset_hole d q 2

theorem releaseTo_hole (d : Dev) (q : Nat) (p : BitVec 32) : (d.releaseTo q p).1.hole = d.hole := by
  unfold Dev.releaseTo
  dsimp only
  split
  · exact logged_guardQueue_hole d q
  · rw [logged, logs_hole, noteRelease_hole]
    exact logged_guardQueue_hole d q

theorem takeOldest_hole (d : Dev) (q : Nat) (k : Pkt) : (d.takeOldest q k).hole = d.hole := by
  unfold Dev.takeOldest
  dsimp only
  split
  · exact logged_guardQueue_hole d q
  · rw [releaseTo_hole]
    exact logged_guardQueue_hole d q

/-! Copies (R235, R236). -/

theorem passOp_rd {d : Dev} {k : Nat} (h : k ≠ Reg.OPS_PEAK) : d.passOp.rd k = d.rd k := by
  rw [Dev.passOp, Dev.wr_rd, if_neg h]

theorem passOp_rd_dma (d : Dev) (c n : Nat) : d.passOp.rd ((0x4410 + c) * 256 + n) = d.rd ((0x4410 + c) * 256 + n) :=
  passOp_rd (by unfold Reg.OPS_PEAK; omega)

theorem mem_ringAddrs {base size off n a : Nat} (hs : 0 < size) (h : a ∈ ringAddrs base size off n) : base ≤ a ∧ a < base + size := by
  obtain ⟨i, -, rfl⟩ := List.mem_map.1 h
  have := Nat.mod_lt (off + i) hs
  omega

section
variable {d : Dev} {m : List Host.Cell} {c q : Nat} {k : Pkt}

theorem captureWrite_hole (hsize : 0 < d.rd (Reg.DM_SIZE c)) (hin : d.rd (Reg.DM_BASE c) + d.rd (Reg.DM_SIZE c) ≤ d.rd Reg.QM_PSRAM_USABLE) :
    (d.captureWrite m c q k).1.hole = d.hole := by
  have hall : ((ringAddrs (d.rd (Reg.DM_BASE c)) (d.rd (Reg.DM_SIZE c)) (d.rd (Reg.DM_WRITE_INDEX c)) (k.stored q).length).all fun a =>
      decide (a < d.rd Reg.QM_PSRAM_USABLE)) = true :=
    List.all_eq_true.2 fun a ha => decide_eq_true (by have := mem_ringAddrs hsize ha; omega)
  unfold Dev.captureWrite
  dsimp only
  rw [Dev.reach, if_pos hall]
  generalize decide (d.rd (Reg.DM_SIZE c) ≤ d.rd (Reg.DM_WRITE_INDEX c) + (k.stored q).length) = b
  cases b <;> rfl

theorem captureWrite_index : (d.captureWrite m c q k).1.rd (Reg.DM_WRITE_INDEX c) =
    (d.rd (Reg.DM_WRITE_INDEX c) + (k.stored q).length) % d.rd (Reg.DM_SIZE c) := by
  have hne {n : Nat} (h : n ≠ 0xA) : (0x4410 + c) * 256 + 0xA ≠ (0x4410 + c) * 256 + n := fun e => h (Nat.add_left_cancel e).symm
  unfold Dev.captureWrite
  dsimp only
  generalize decide (d.rd (Reg.DM_SIZE c) ≤ d.rd (Reg.DM_WRITE_INDEX c) + (k.stored q).length) = b
  cases b
  · rw [Dev.when_false, Dev.wr_rd, if_neg (hne (by decide)), Dev.wr_rd, if_pos rfl]
  · rw [Dev.when_true, Dev.bump_eq, Dev.wr_rd, if_neg (hne (by decide)), Dev.wr_rd, if_neg (hne (by decide)), Dev.wr_rd, if_pos rfl]

theorem captureWrite_outside {a : Nat} (hsize : 0 < d.rd (Reg.DM_SIZE c))
    (ha : a < d.rd (Reg.DM_BASE c) ∨ d.rd (Reg.DM_BASE c) + d.rd (Reg.DM_SIZE c) ≤ a) :
    Memory.byte (d.captureWrite m c q k).2 a = Memory.byte m a :=
  Memory.byte_putRing _ _ _ _ _ _ fun h => by
    have := mem_ringAddrs hsize h
    omega

/-- A packet that a RUNNING channel has room for is written into its ring and leaves the queue. -/
theorem captureCopy_writes {rest : List Pkt} (hq : d.rd (Reg.DM_QUEUE c) = q) (hrole : d.rd (Reg.DM_ROLE c) = 2)
    (hst : d.rd (Reg.DM_STATE c) = 1) (hon : d.queueOn q = true) (hpk : (d.queue q).pkts = k :: rest) (hvoid : k.void = false)
    (hroom : d.rd (Reg.DM_POLICY c) ≠ 0 ∨ ((d.dma c).ring.map (·.2)).sum + k.size ≤ d.rd (Reg.DM_SIZE c)) :
    d.captureCopy m c = ((d.captureWrite m c q k).1.takeOldest q k, (d.captureWrite m c q k).2) := by
  have hfull : (decide (d.rd (Reg.DM_POLICY c) = 0) && decide (d.rd (Reg.DM_SIZE c) < ((d.dma c).ring.map (·.2)).sum + k.size)) = false := by
    rcases hroom with h | h
    · simp [h]
    · simp
      omega
  dsimp only [Dev.captureCopy]
  rw [hq, hpk]
  dsimp only [List.head?]
  rw [hrole, hst, hon, hvoid, hfull]
  rfl

/-- A channel in FULL or DONE drops the packet. -/
theorem captureCopy_drops {rest : List Pkt} (hq : d.rd (Reg.DM_QUEUE c) = q) (hrole : d.rd (Reg.DM_ROLE c) = 2)
    (hst : d.rd (Reg.DM_STATE c) = 2 ∨ d.rd (Reg.DM_STATE c) = 4) (hon : d.queueOn q = true) (hpk : (d.queue q).pkts = k :: rest) :
    d.captureCopy m c = ((d.bump 32 (Reg.DM_DROPPED c)).takeOldest q k, m) := by
  dsimp only [Dev.captureCopy]
  rw [hq, hpk]
  dsimp only [List.head?]
  rw [hrole, hon]
  rcases hst with h | h <;> rw [h] <;> rfl

end

section
variable {s : State} {c : DmaNo} {t : Nat}

/-- CAPTURE_COPY where no address beyond PSRAM is met (R235, R242). -/
theorem captureCopy_goes {e : Dev × List Host.Cell} (hops : s.dev.opsFree = true)
    (he : (({ s.dev with hole := false } : Dev).at t).passOp.captureCopy s.ps c = e) (hhole : e.1.hole = false) :
    exec (.captureCopy c t) s = .next { s with dev := e.1, ps := e.2 } := by
  have hfree : (({ s.dev with hole := false } : Dev).at t).opsFree = true := hops
  show execCaptureCopy c t s = _
  unfold execCaptureCopy State.runStore
  dsimp only
  rw [hfree, if_pos rfl, he, hhole]
  rfl

end

/-! The read of a ring (R237). -/

section
variable {c : Instr} {s : State} {q : Request} {v : Nat} {i : Info} {y D : Dev}

/-- Segment 0 of a read that may take an entry of the operations table, while one is free. -/
theorem obeys_takingRead (hc : exec c s = s.ask q) (hg : s.dev.grants q) (hm : malformed q = none) (hop : q.op = OP_READ) (hseg : q.segment = 0)
    (hdef : s.dev.isDeferred q.ix q.sub false = false) (hfree : s.dev.opsFree = true)
    (hr : (s.dev.arrived q).readNow ⟨s.ps, s.worn⟩ q.ix q.sub q.id = (y, OK, v)) (hi : s.dev.info q.ix q.sub = some i)
    (hy : y.aside = D.aside) (hreq : y.reqs = (s.dev.arrived q).reqs) (hnow : y.now = q.t)
    (hep : y.rd Reg.DR_EPOCH = s.dev.rd Reg.DR_EPOCH) : Obeys c s q (segmentOf 0 (i.ty.length v) v) D := by
  obtain ⟨hs, hacc⟩ := hg
  obtain ⟨rs, he⟩ := arrived_booked s.dev q
  have hinfo : (s.dev.arrived q).info q.ix q.sub = some i := by rw [he]; exact hi
  have hops : (s.dev.arrived q).opsFree = true := by rw [he]; exact hfree
  have hread : (s.dev.arrived q).readValue ⟨s.ps, s.worn⟩ q =
      (y.modReq q.id (Requester.snapped q (i.ty.length v) v), segmentOf 0 (i.ty.length v) v) := by
    unfold Dev.readValue
    rw [hops, hinfo, hr, if_neg (by simp), if_pos hseg]
    rfl
  have hfind (id : Nat) : y.requester id = (s.dev.arrived q).requester id := by rw [Dev.requester, hreq]; rfl
  obtain ⟨p, hp, hlast, -⟩ := arrived_requester s.dev q
  obtain ⟨t, hex, hrest, hans, haside, -⟩ := answered_of_carried (D := D) (p := p.snapped q (i.ty.length v) v) hc hs hm (by rw [hop]; decide)
    ((carryOut_read _ hs hop hacc hdef).trans hread) (fun h => absurd h (by decide : OK ≠ BUSY)) hy
    (by rw [requester_modReq_self _ _ (Requester.snapped q _ v) fun _ => rfl, hfind, hp]; rfl) hlast
    (fun id hne => by rw [requester_modReq_other _ _ (Requester.snapped q _ v) (fun _ => rfl) id hne, hfind, arrived_other s.dev q id hne]) hnow hep
  exact ⟨t, hex, hrest, hans, haside⟩

end

section
variable {d : Dev} {m : List Host.Cell} {c : Nat}

theorem readNow_ring {e : Env} {id : Nat} (hc : c < 16) : d.readNow e (0x4410 + c) 0x0E id = ((d.ringRead e.ps c).1, OK, (d.ringRead e.ps c).2) := by
  obtain ⟨h1, -, -, h4, h5, h6⟩ := dmaObj_ix hc
  dsimp only [Dev.readNow]
  rw [h1, h4, h5, h6]
  rfl

section
variable (hsize : 0 < d.rd (Reg.DM_SIZE c))
  (hgood : ∀ a ∈ d.psBad, a < d.rd (Reg.DM_BASE c) ∨ d.rd (Reg.DM_BASE c) + d.rd (Reg.DM_SIZE c) ≤ a)
include hsize hgood

theorem ringRead_good (n off : Nat) :
    (d.psBad.any fun a => (ringAddrs (d.rd (Reg.DM_BASE c)) (d.rd (Reg.DM_SIZE c)) off n).contains a) = false := by
  refine List.any_eq_false.2 fun a ha hc => ?_
  have hin := mem_ringAddrs hsize (List.contains_iff_mem.1 hc)
  have := hgood a ha
  omega

/-- A word of the ring that lies in usable PSRAM. -/
theorem ringRead_there (hin : d.rd (Reg.DM_BASE c) + d.rd (Reg.DM_SIZE c) ≤ d.rd Reg.QM_PSRAM_USABLE) : d.ringRead m c =
    (d.passOp.wr (Reg.DM_RD_ADDR c) ((d.rd (Reg.DM_RD_ADDR c) + 8) % d.rd (Reg.DM_SIZE c)),
      packLE [(8, ofBytesLE (Memory.ring m (d.rd (Reg.DM_BASE c)) (d.rd (Reg.DM_SIZE c)) (d.rd (Reg.DM_RD_ADDR c)) 8)), (1, 0)]) := by
  have hthere : ((ringAddrs (d.rd (Reg.DM_BASE c)) (d.rd (Reg.DM_SIZE c)) (d.rd (Reg.DM_RD_ADDR c)) 8).all fun a =>
      decide (a < d.rd Reg.QM_PSRAM_USABLE)) = true :=
    List.all_eq_true.2 fun a ha => decide_eq_true (by have := mem_ringAddrs hsize ha; omega)
  dsimp only [Dev.ringRead]
  rw [hthere, ringRead_good hsize hgood]
  rfl

/-- A word of a ring that begins beyond usable PSRAM. -/
theorem ringRead_beyond (hout : d.rd Reg.QM_PSRAM_USABLE ≤ d.rd (Reg.DM_BASE c)) : d.ringRead m c =
    (d.took.passOp.wr (Reg.DM_RD_ADDR c) ((d.rd (Reg.DM_RD_ADDR c) + 8) % d.rd (Reg.DM_SIZE c)), packLE [(8, d.freeNat 64), (1, 0)]) := by
  have hthere : ((ringAddrs (d.rd (Reg.DM_BASE c)) (d.rd (Reg.DM_SIZE c)) (d.rd (Reg.DM_RD_ADDR c)) 8).all fun a =>
      decide (a < d.rd Reg.QM_PSRAM_USABLE)) = false :=
    List.all_eq_false.2 ⟨d.rd (Reg.DM_BASE c) + (d.rd (Reg.DM_RD_ADDR c) + 0) % d.rd (Reg.DM_SIZE c),
      List.mem_map.2 ⟨0, by decide, rfl⟩, by simp only [decide_eq_true_eq]; omega⟩
  dsimp only [Dev.ringRead]
  rw [hthere, ringRead_good hsize hgood]
  rfl

end

end

/-- A granted read of D:0E of a good word, by what the read of the ring is (R237). -/
theorem dmRdData_obeys {s : State} {r : Req} {c : DmaNo} {x v : Nat} {f : Dev → Dev} (hg : s.dev.grants (readReq r (Reg.DM_RD_DATA c)))
    (hfree : s.dev.opsFree = true)
    (hr : ∀ t p rs xs, (s.dev.booked t p rs xs).ringRead s.ps c = ((f (s.dev.booked t p rs xs)).wr (Reg.DM_RD_ADDR c) x, v))
    (hf : f = Dev.passOp ∨ f = fun d => d.took.passOp) :
    Obeys (.dmRdData r c) s (readReq r (Reg.DM_RD_DATA c)) (segmentOf 0 9 v)
      ((f ((s.dev.at r.t).used (readReq r (Reg.DM_RD_DATA c)))).wr (Reg.DM_RD_ADDR c) x) := by
  have hc := c.isLt
  set q := readReq r (Reg.DM_RD_DATA c) with hq
  have hix : q.ix = 0x4410 + c.val := by
    show ((0x4410 + c.val) * 256 + 0xE) / 256 = _
    omega
  have hsub : q.sub = 0x0E := by
    show ((0x4410 + c.val) * 256 + 0xE) % 256 = _
    omega
  obtain ⟨rs, he⟩ := arrived_booked s.dev q
  have hne : Reg.DR_EPOCH ≠ Reg.DM_RD_ADDR c := by
    show Reg.DR_EPOCH ≠ (0x4410 + c.val) * 256 + 0xD
    unfold Reg.DR_EPOCH
    omega
  have hread : (s.dev.arrived q).readNow ⟨s.ps, s.worn⟩ q.ix q.sub q.id =
      ((f (s.dev.booked q.t {} rs (s.dev.used q).txns)).wr (Reg.DM_RD_ADDR c) x, OK, v) := by
    rw [hix, hsub, readNow_ring hc, he, hr]
  refine obeys_takingRead (c := .dmRdData r c) (i := ⟨.record 9, .ro, 0, .vol, false, .any⟩) rfl hg (malformed_readReq r _) rfl rfl ?_ hfree hread ?_ ?_ ?_ ?_ ?_
  · rw [hix, hsub]
    simp [Dev.isDeferred]
    omega
  · rw [hix, hsub, info_dma hc]
    rfl
  · rcases hf with rfl | rfl <;> rfl
  · rw [he]
    rcases hf with rfl | rfl <;> rfl
  · rcases hf with rfl | rfl <;> rfl
  · rw [Dev.wr_rd, if_neg hne]
    rcases hf with rfl | rfl
    · exact passOp_rd (by decide)
    · exact passOp_rd (by decide)

/-- Settles O48: the commands, a trigger, the copies and the read of a ring. -/
theorem captureChannelsAct : Obligations.CaptureChannelsAct := by
  unfold Obligations.CaptureChannelsAct
  intro s r c t base size q d
  refine ⟨fun i v hiv hperm hchk => ?_, fun hst => if_neg (not_not_intro hst), rfl, fun hrole hpol hst => ⟨fun h => ?_, fun hpost hold => ?_⟩,
    fun k rest hops hrole hst hon hpk hvoid hsize hin hroom => ?_, fun k rest hops hrole hst hon hpk => ?_, fun hops => ?_, fun hg hops hsize hgood => ?_⟩
  · have hc : writeOf i = some (writeReq r (Reg.DM_CTRL c) 0 1 v) ∧ v < 2 ^ 8 := by
      simp only [List.mem_cons, Prod.mk.injEq, List.not_mem_nil, or_false] at hiv
      obtain ⟨rfl, rfl⟩ | ⟨rfl, rfl⟩ | ⟨rfl, rfl⟩ := hiv <;> exact ⟨rfl, by decide⟩
    exact dmCtrl_obeys hc.1 hc.2 hperm hchk
  · exact trigger_waits hrole hpol hst (h.symm.imp_right id)
  · exact trigger_done hrole hpol hst hpost hold
  · have hkey (n : Nat) : d.passOp.rd ((0x4410 + c.val) * 256 + n) = s.dev.rd ((0x4410 + c.val) * 256 + n) := passOp_rd_dma d c.val n
    have hq : d.passOp.rd (Reg.DM_QUEUE c) = q := hkey 2
    have hroom' : d.passOp.rd (Reg.DM_POLICY c) ≠ 0 ∨ ((d.passOp.dma c).ring.map (·.2)).sum + k.size ≤ d.passOp.rd (Reg.DM_SIZE c) := by
      rw [hkey 5, hkey 4]
      exact hroom
    have hsize' : 0 < d.passOp.rd (Reg.DM_SIZE c) := by rw [hkey 4]; exact hsize
    have hin' : d.passOp.rd (Reg.DM_BASE c) + d.passOp.rd (Reg.DM_SIZE c) ≤ d.passOp.rd Reg.QM_PSRAM_USABLE := by
      rw [hkey 3, hkey 4, passOp_rd (by decide)]
      exact hin
    have hon' : d.passOp.queueOn q = true := by
      rw [Dev.queueOn, passOp_rd (by show (0x4000 + 0x10 * q) * 256 + 1 ≠ 0x02F002; omega)]
      exact hon
    have hcopy := captureCopy_writes (d := d.passOp) (m := s.ps) (c := c.val) hq ((hkey 1).trans hrole) ((hkey 9).trans hst) hon' hpk hvoid hroom'
    have hindex : (d.passOp.captureWrite s.ps c q k).1.rd (Reg.DM_WRITE_INDEX c) =
        (s.dev.rd (Reg.DM_WRITE_INDEX c) + (k.stored q).length) % size := by
      rw [captureWrite_index, hkey 0xA, hkey 4]
    have hhole : ((d.passOp.captureWrite s.ps c q k).1.takeOldest q k).hole = false := by
      rw [takeOldest_hole, captureWrite_hole hsize' hin']
      rfl
    have hgo := captureCopy_goes hops hcopy hhole
    have hbytes (a : Nat) (ha : a < base ∨ base + size ≤ a) : Memory.byte (d.passOp.captureWrite s.ps c q k).2 a = Memory.byte s.ps a :=
      captureWrite_outside hsize' (by rw [hkey 3, hkey 4]; exact ha)
    exact ⟨hgo, hbytes, hindex⟩
  · have hkey (n : Nat) : d.passOp.rd ((0x4410 + c.val) * 256 + n) = s.dev.rd ((0x4410 + c.val) * 256 + n) := passOp_rd_dma d c.val n
    have hon' : d.passOp.queueOn q = true := by
      rw [Dev.queueOn, passOp_rd (by show (0x4000 + 0x10 * q) * 256 + 1 ≠ 0x02F002; omega)]
      exact hon
    have hcopy := captureCopy_drops (d := d.passOp) (m := s.ps) (c := c.val) (hkey 2 : _ = q) ((hkey 1).trans hrole)
      (hst.imp (hkey 9).trans (hkey 9).trans) hon' hpk
    refine captureCopy_goes hops hcopy ?_
    rw [takeOldest_hole]
    rfl
  · have hfree : d.opsFree = false := hops
    show execCaptureCopy c t s = _
    unfold execCaptureCopy State.runStore
    dsimp only
    rw [show ({ s.dev with hole := false } : Dev).at t = d from rfl, hfree]
    rfl
  · exact ⟨fun hin => dmRdData_obeys hg hops (fun _ _ _ _ => ringRead_there hsize hgood hin) (.inl rfl),
      fun hout => dmRdData_obeys (f := fun d => d.took.passOp) hg hops
        (fun t p rs xs => ringRead_beyond (d := s.dev.booked t p rs xs) hsize hgood hout) (.inr rfl)⟩

end Sys2Proof.Machine
end

/-!
What a handle's own operations leave of the objects below the handles (R95, R96, R119): the modules' and branches' objects stand there.
And the loss of a link with the ends of t_HOLD (R333 to R335): O9.
-/
section
namespace Sys2Proof.Machine

/-- The objects below those of the handles, but for logging's own, are the same in d and e. -/
def LowKept (d e : Dev) : Prop := ∀ k, k < 0x200000 → ¬ logKey k → e.rd k = d.rd k

namespace LowKept

theorem refl (d : Dev) : LowKept d d := fun _ _ _ => rfl

theorem trans {d e f : Dev} (h : LowKept d e) (g : LowKept e f) : LowKept d f := fun k hk hl => (g k hk hl).trans (h k hk hl)

theorem of_obj {d e : Dev} (h : e.obj = d.obj) : LowKept d e := fun k _ _ => by rw [Dev.rd, h]; rfl

theorem wr (d : Dev) {k : Nat} (v : Nat) (hk : 0x200000 ≤ k) : LowKept d (d.wr k v) := fun j hj _ => by
  rw [Dev.wr_rd, if_neg (by omega)]

theorem logs (d : Dev) (es : Evs) : LowKept d (d.logs es) := fun k _ hl => logs_rd d es k hl

theorem log1 (d : Dev) (code src det : Nat) : LowKept d (d.log1 code src det) := logs d _

theorem ite (p : Prop) [Decidable p] {d x y : Dev} (hx : LowKept d x) (hy : LowKept d y) : LowKept d (if p then x else y) := by
  by_cases h : p
  · rw [if_pos h]
    exact hx
  · rw [if_neg h]
    exact hy

theorem when (d : Dev) (b : Bool) (f : Dev → Dev) (h : LowKept d (f d)) : LowKept d (d.when b f) := by
  cases b
  · exact refl d
  · exact h

theorem each {α : Type} (l : List α) {f : Dev → α → Dev} (h : ∀ d, ∀ a ∈ l, LowKept d (f d a)) (d : Dev) : LowKept d (d.each l f) := by
  induction l generalizing d with
  | nil => exact refl d
  | cons a l ih => exact (h d a List.mem_cons_self).trans (ih (fun d b hb => h d b (List.mem_cons_of_mem a hb)) _)

/-! Filter units. -/

theorem unit (d : Dev) (i : Nat) {n : Nat} (v : Nat) : LowKept d (d.wr ((0x5000 + 0x40 * i) * 256 + n) v) := wr d v (by omega)

theorem setBank (d : Dev) (i k st : Nat) : LowKept d (d.setBank i k st) :=
  (wr d (k := (0x5810 + 3 * i + k) * 256 + 0x9) st (by omega)).trans (unit _ i _)

theorem setLoad (d : Dev) (i load fade : Nat) : LowKept d (d.setLoad i load fade) :=
  (of_obj (Dev.setInst_obj d i _)).trans ((unit _ i _).trans (wr _ (k := 0x580002) _ (by decide)))

theorem publish (d : Dev) (i : Nat) : LowKept d (d.publish i) :=
  (((((unit d i _).trans (unit _ i _)).trans (unit _ i _)).trans (unit _ i _)).trans (unit _ i _)).trans ((unit _ i _).trans (unit _ i _))

theorem fadeDone (d : Dev) (i : Nat) : LowKept d (d.fadeDone i) := by
  refine ite _ (refl d) ?_
  refine trans (e := ((((d.setBank i (d.active i) 1).setBank i (d.rd (Reg.FI_FADE_TARGET i)) 2).wr (Reg.FI_ACTIVE i)
    (d.rd (Reg.FI_FADE_TARGET i))).wr (Reg.FI_FADE_TARGET i) 0xFF).wr (Reg.FI_FADE_STATE i) 0) ?_ ?_
  · exact ((((setBank d i _ _).trans (setBank _ i _ _)).trans (unit _ i _)).trans (unit _ i _)).trans (unit _ i _)
  · exact ((unit _ i _).trans (of_obj (Dev.setInst_obj _ i _))).trans (((setLoad _ i _ _).trans (publish _ i)).trans (log1 _ _ _ _))

theorem endFade (d : Dev) (i : Nat) : LowKept d (d.endFade i) := (fadeDone d i).trans (of_obj (Dev.setInst_obj _ i _))

theorem chainReset (d : Dev) (i origin : Nat) : LowKept d (d.chainReset i origin) := (endFade d i).trans (of_obj (Dev.setInst_obj _ i _))

/-! Windows and votes. -/

theorem handle (d : Dev) (k n v : Nat) : LowKept d (d.wr ((0x2000 + 0x40 * k) * 256 + n) v) := wr d v (by omega)

theorem freshResidues (d : Dev) (k : Nat) : LowKept d (d.freshResidues k) := ite _ (of_obj (Dev.setChan_obj d _ _)) (refl d)

theorem gridFrom (d : Dev) (k tick : Nat) : LowKept d (d.gridFrom k tick) :=
  ((of_obj (Dev.setSlot_obj d k _)).trans (of_obj (Dev.setSlot_obj _ k _))).trans (freshResidues _ k)

theorem tRest (d : Dev) (b : Nat) : LowKept d (d.tRest b) :=
  (wr d (k := (0x9010 + b) * 256 + 0x4) _ (by omega)).trans (wr _ (k := (0x9010 + b) * 256 + 0x5) _ (by omega))

theorem plausReset (d : Dev) (k : Nat) : LowKept d (d.plausReset k) :=
  ite _ (((ite _ (tRest d _) (refl d)).trans (handle _ k 0x18 _)).trans (of_obj (Dev.setSlot_obj _ k _))) (refl d)

theorem restart (d : Dev) (k t : Nat) (table keep : Bool) : LowKept d (d.restart k t table keep) := by
  refine trans (e := ((d.when (!(keep && d.rd (Reg.CV_PLAUS_STATE k) = VOTING)) (·.plausReset k)).modSlot k fun x => { x with
    owExtra := x.owExtra || x.testNow, testNow := false, urgNeed := x.urgRun, orgTable := table }).beginGrid k t) ?_ ?_
  · exact ((when d _ _ (plausReset d k)).trans (of_obj (Dev.setSlot_obj _ k _))).trans (gridFrom _ k _)
  · exact ((of_obj (Dev.setSlot_obj _ k _)).trans (chainReset _ _ t)).trans (each _ (fun e j _ => chainReset e _ t) _)

theorem mainsStart (d : Dev) (k : Nat) : LowKept d (d.mainsStart k) :=
  (of_obj (Dev.setSlot_obj d k _)).trans (ite _ (handle _ k 0x13 _) (handle _ k 0x13 _))

theorem unitRun (d : Dev) (k : Nat) : LowKept d (d.unitRun k) :=
  ite _ (refl d) ((((unit d _ _).trans (mainsStart _ k)).trans (restart _ k _ true false)).trans (of_obj (Dev.setSlot_obj _ k _)))

theorem orderPosture (d : Dev) (k : Nat) : LowKept d (d.orderPosture k) := ite _ (of_obj (Dev.setBranch_obj d _ _)) (refl d)

theorem safeTrigger (d : Dev) (k bit : Nat) : LowKept d (d.safeTrigger k bit) := by
  refine (when d (bit ≠ 3 && bit ≠ 6 && d.det && (d.hst k = ARMED || d.hst k = RUNNING || d.hst k = STOPPED)) (·.breach 6) (of_obj rfl)).trans ?_
  exact ite _ ((((handle _ k 0x9 _).trans (of_obj (Dev.setSlot_obj _ k _))).trans (handle _ k 0x3 _)).trans
    ((orderPosture _ k).trans (unitRun _ k))) (ite _ (handle _ k 0x9 _) (refl _))

end LowKept

/-- A microcode graft of another branch goes on. -/
theorem ucAbandon_other {d : Dev} {b reason : Nat} (h : d.graft.ucBranch ≠ some b) : d.ucAbandon b reason = d := if_neg fun hc => h hc.1

/-- A branch whose hold lasts takes its postures (R334). -/
theorem holdOver_due {d : Dev} {w : Worn} {b : Nat} (hh : (d.branch b).holding = true) (hp : (d.branch b).postured = false) :
    d.holdOver w b = (d.modBranch b fun x => { x with postured := true }).allPostures w b :=
  if_pos (by rw [hh, hp]; rfl)

theorem log1_graft (d : Dev) (code src det : Nat) : (d.log1 code src det).graft = d.graft := by rw [(log1_quiet d code src det).1]

/-- Settles O9: the loss on either side and the two ends of t_HOLD. -/
theorem linkLossHolds : Obligations.LinkLossHolds := by
  unfold Obligations.LinkLossHolds
  intro s b t x d
  refine ⟨fun hpow hpark hup ht => ?_, fun hh hu => ?_, fun hhold hpost => ?_, fun hcu hlink hlost hheld => ?_⟩
  · refine Goes.of_eq (c := .branchLinkLost b t) (s := s) rfl ?_
    have hgo : ¬ (decide (x.power = 0) || x.parked || !x.linkUp) = true := by simp [hpow, hpark, hup]
    exact (if_neg hgo).trans (congrArg (fun c : Bool => Dev.when _ c _) (decide_eq_false ht))
  · refine Goes.of_eq (c := .crownLinkLost b t) (s := s) rfl ?_
    refine (if_pos hh).trans (ucAbandon_other ?_)
    rw [log1_graft]
    exact hu
  · exact Goes.of_eq (c := .holdEnd b t) (s := s) rfl (holdOver_due (d := d) hhold hpost)
  · refine Goes.of_eq (c := .crownHoldEnd b t) (s := s) rfl ?_
    have hgo : (s.dev.crownUp && decide (s.dev.link b = 2) && x.crownLost.isSome && !x.crownHeld) = true := by simp [hcu, hlink, hlost, hheld]
    refine (if_pos hgo).trans ?_
    have hb := b.isLt
    set e := d.setBranch b { x with crownHeld := true }
    have hkept : (e.each (s.dev.branchDrivers b) fun e k => e.safeTrigger k 1).rd (Reg.HOLD_TIME b) = e.rd (Reg.HOLD_TIME b) :=
      LowKept.each _ (fun e k _ => LowKept.safeTrigger e k 1) e _ (by show 0x042001 + b.val < _; omega)
        (by show ¬ logKey (0x042001 + b.val); rw [logKey_iff]; omega)
    rw [hkept]
    rfl

end Sys2Proof.Machine
end

/-! A branch is adopted and configured (R336, R337): O10. -/
section
namespace Sys2Proof.Machine

/-! Folds and what they leave. -/

theorem each_leaves {α β : Type} (g : Dev → β) {f : Dev → α → Dev} (l : List α) (h : ∀ d, ∀ a ∈ l, g (f d a) = g d) (d : Dev) : g (d.each l f) = g d := by
  induction l generalizing d with
  | nil => rfl
  | cons a l ih => rw [Dev.each_cons, ih (fun d b hb => h d b (List.mem_cons_of_mem a hb)), h d a List.mem_cons_self]

theorem SameHandles.wr (d : Dev) {k : Nat} (v : Nat) (hk : k < 0x200000 ∨ 0x400000 ≤ k) : SameHandles d (d.wr k v) where
  live := filterMap_tabSet _ _ d.obj k v fun _ => if_neg (by dsimp only; omega)
  rd j i hj hi := by rw [Dev.wr_rd, if_neg (by omega)]

theorem SameHandles.branchHandles {d e : Dev} (h : SameHandles d e) (b : Nat) : e.branchHandles b = d.branchHandles b := by
  unfold Dev.branchHandles
  rw [h.live]
  exact List.filter_congr fun k hk => by rw [h.chanOf (lt_of_mem_liveSlots hk)]

/-! A branch without handles. -/

/-- No handle is bound to branch b, and none of its channels is latched. -/
structure Bare (d : Dev) (b : Nat) : Prop where
  handles : d.branchHandles b = []
  latched : ∀ i, i < 4 → swLatched (d.chan (4 * b + i)).state = false

theorem latchAdopted_free {d : Dev} {b : Nat} (h : ∀ i, i < 4 → swLatched (d.chan (4 * b + i)).state = false) : d.latchAdopted b = d :=
  each_of_fixed _ _ _ fun i hi => by
    dsimp only
    rw [h i (List.mem_range.1 hi), Dev.when_false]

namespace Bare

variable {d e : Dev} {b : Nat} (h : Bare d b)
include h

theorem keep (hs : SameHandles d e) (hc : ∀ n, (e.chan n).state = (d.chan n).state) : Bare e b :=
  ⟨(hs.branchHandles b).trans h.handles, fun i hi => by rw [hc]; exact h.latched i hi⟩

theorem drivers : d.branchDrivers b = [] := by
  refine List.filter_eq_nil_iff.2 fun k hk hc => ?_
  have hmem : k ∈ d.branchHandles b := List.mem_filter.2 ⟨List.mem_of_mem_filter hk, hc⟩
  rw [h.handles] at hmem
  cases hmem

theorem running : d.runningIn b = [] := by
  rw [Dev.runningIn, h.handles]
  rfl

end Bare

/-! The parts of an adoption. -/

/-- A channel's increments reach its life counters. -/
def Dev.collectFour (d : Dev) (b : Nat) : Dev := d.each (List.range 4) fun d i => d.collect (4 * b + i)

theorem collectFour_obj (d : Dev) (b : Nat) : (d.collectFour b).obj = d.obj :=
  each_leaves (·.obj) (List.range 4) (f := fun d i => d.collect (4 * b + i)) (fun _ _ _ => rfl) d

theorem collectFour_branch (d : Dev) (b j : Nat) : (d.collectFour b).branch j = d.branch j :=
  each_leaves (·.branch j) (List.range 4) (f := fun d i => d.collect (4 * b + i)) (fun _ _ _ => rfl) d

theorem collectFour_state (d : Dev) (b n : Nat) : ((d.collectFour b).chan n).state = (d.chan n).state :=
  each_leaves (fun e => (e.chan n).state) _ (fun e i _ => by
    show ((e.setChan (4 * b + i) _).chan n).state = _
    rw [Dev.setChan_chan]
    split
    · next hn => rw [hn]
    · rfl) d

theorem levelsBack_obj (d : Dev) (b : Nat) : (d.levelsBack b).obj = d.obj :=
  each_leaves (·.obj) (List.range 4) (f := fun d i => d.modChan (4 * b + i) fun c => if c.live then c else c.levelStart d.now) (fun _ _ _ => rfl) d

theorem levelsBack_branch (d : Dev) (b j : Nat) : (d.levelsBack b).branch j = d.branch j :=
  each_leaves (·.branch j) (List.range 4) (f := fun d i => d.modChan (4 * b + i) fun c => if c.live then c else c.levelStart d.now) (fun _ _ _ => rfl) d

theorem roleBack_cases (d : Dev) (w : Worn) (b : Nat) : d.roleBack w b = d ∨ ∃ n, d.roleBack w b = d.wr (Reg.BR_T_CHANNEL b) n := by
  unfold Dev.roleBack
  split
  · exact .inl rfl
  · next n _ =>
    by_cases h : d.rd (Reg.BR_T_STATE b) = 3
    · exact .inr ⟨n, if_pos h⟩
    · exact .inl (if_neg h)

theorem readBranch_bare {d : Dev} {b : Nat} (h : d.branchDrivers b = []) :
    d.readBranch b = d.modBranch b fun y => { y with seenStatus := y.supplyFlags, seenPower := y.power } := by
  have h' : (d.modBranch b fun y => { y with seenStatus := y.supplyFlags, seenPower := y.power }).branchDrivers b = [] := h
  unfold Dev.readBranch
  dsimp only
  rw [h']
  rfl

/-- The digest read, the buffer and the crown's hold cleared. -/
def Dev.digestRead (d : Dev) (b : Nat) : Dev :=
  (d.wr (Reg.BR_DIGEST b) (d.branch b).digest).modBranch b fun y => { y with buf := [], crownLost := none, crownHeld := false }

theorem modBranch_branch (d : Dev) (b : Nat) (f : Branch → Branch) : (d.modBranch b f).branch b = f (d.branch b) := by
  rw [Dev.modBranch, Dev.setBranch_branch, if_pos rfl]

theorem modBranch_rd (d : Dev) (b : Nat) (f : Branch → Branch) (k : Nat) : (d.modBranch b f).rd k = d.rd k := rfl

theorem modBranch_chan (d : Dev) (b : Nat) (f : Branch → Branch) (n : Nat) : (d.modBranch b f).chan n = d.chan n := rfl

theorem Bare.modBranch {d : Dev} {b : Nat} (h : Bare d b) (f : Branch → Branch) : Bare (d.modBranch b f) b :=
  h.keep (.of_obj rfl) fun n => by rw [modBranch_chan]

/-- Taking back a branch that reports nothing, held nothing and has no loop handles reads its digest, its counters and its supply. -/
theorem takeBack_bare {d : Dev} {b : Nat} (hb : b < 4) (hbare : Bare d b) (hbuf : (d.branch b).buf = []) (hoff : (d.branch b).offS = none)
    (hhold : (d.branch b).holding = false) (hlost : (d.branch b).crownLost = none) :
    d.takeBack b = ((d.digestRead b).collectFour b).modBranch b fun y => { y with seenStatus := y.supplyFlags, seenPower := y.power } := by
  have hsame : SameHandles d ((d.digestRead b).collectFour b) :=
    (SameHandles.wr d (k := Reg.BR_DIGEST b) _ (by show 0x04200F + b < 0x200000 ∨ 0x400000 ≤ 0x04200F + b; omega)).trans
      (.of_obj (collectFour_obj _ b))
  have hstate (n : Nat) : (((d.digestRead b).collectFour b).chan n).state = (d.chan n).state := collectFour_state _ b n
  rw [← readBranch_bare (hbare.keep hsame hstate).drivers]
  dsimp only [Dev.takeBack]
  rw [hbuf, hoff, hhold, hlost]
  rfl

/-- A branch as it is taken back, before the digests are compared. -/
def Dev.takenBack (d : Dev) (w : Worn) (b : Nat) : Dev := (((d.takeBack b).roleBack w b).unpark b).settleGone w b

/-- What is asked of a branch for its adoption to be a matter of its digest alone. -/
structure Plain (d : Dev) (b : Nat) : Prop where
  branch : b < 4
  bare : Bare d b
  buf : (d.branch b).buf = []
  off : (d.branch b).offS = none
  hold : (d.branch b).holding = false
  lost : (d.branch b).crownLost = none
  parked : (d.branch b).parked = false
  gone : (d.branch b).gone = []

theorem SameHandles.modBranch (d : Dev) (b : Nat) (f : Branch → Branch) : SameHandles d (d.modBranch b f) := .of_obj rfl

theorem Quiet.chan {d e : Dev} (h : Quiet d e) (n : Nat) : e.chan n = d.chan n := by rw [Dev.chan, h.1, Dev.chan]

theorem Quiet.branch {d e : Dev} (h : Quiet d e) (b : Nat) : e.branch b = d.branch b := by rw [Dev.branch, h.1, Dev.branch]

/-! The branch as the crown has collected it. -/

/-- A branch that reports nothing, as the crown takes it back. -/
def Dev.collected (d : Dev) (b : Nat) : Dev :=
  ((d.digestRead b).collectFour b).modBranch b fun y => { y with seenStatus := y.supplyFlags, seenPower := y.power }

theorem collected_obj (d : Dev) (b : Nat) : (d.collected b).obj = (d.wr (Reg.BR_DIGEST b) (d.branch b).digest).obj := by
  show ((d.digestRead b).collectFour b).obj = _
  rw [collectFour_obj]
  rfl

theorem collected_rd (d : Dev) (b k : Nat) : (d.collected b).rd k = if k = Reg.BR_DIGEST b then (d.branch b).digest else d.rd k := by
  rw [← Dev.wr_rd, Dev.rd, collected_obj]
  rfl

theorem collected_state (d : Dev) (b n : Nat) : ((d.collected b).chan n).state = (d.chan n).state := by
  rw [Dev.collected, modBranch_chan, collectFour_state, Dev.digestRead, modBranch_chan, Dev.wr_chan]

theorem collected_handles (d : Dev) {b : Nat} (hb : b < 4) : SameHandles d (d.collected b) :=
  (SameHandles.wr d (k := Reg.BR_DIGEST b) _ (by show 0x04200F + b < 0x200000 ∨ 0x400000 ≤ 0x04200F + b; omega)).trans (.of_obj (collected_obj d b))

theorem collected_branch (d : Dev) (b : Nat) :
    ((d.collected b).branch b).parked = (d.branch b).parked ∧ ((d.collected b).branch b).gone = (d.branch b).gone := by
  rw [Dev.collected, modBranch_branch, collectFour_branch, Dev.digestRead, modBranch_branch, Dev.wr_branch]
  exact ⟨rfl, rfl⟩

/-- A branch that is not parked and lost no channel has nothing more to settle. -/
theorem settleGone_unpark_none {e : Dev} {b : Nat} (w : Worn) (hp : (e.branch b).parked = false) (hg : (e.branch b).gone = []) :
    (e.unpark b).settleGone w b = e.modBranch b fun x => { x with gone := [] } := by
  rw [Dev.unpark, if_neg (by rw [hp]; decide)]
  dsimp only [Dev.settleGone]
  rw [hg, Dev.each_nil]

section
variable {d : Dev} {b : Nat} (h : Plain d b) (w : Worn)
include h

/-- Taking it back writes its digest, and the channel of T where a role was taken. -/
theorem takenBack_plain : Bare (d.takenBack w b) b ∧ (d.takenBack w b).rd (Reg.BR_DIGEST b) = (d.branch b).digest ∧
    (d.takenBack w b).rd (Reg.LINK_STATE b) = d.rd (Reg.LINK_STATE b) := by
  have hb := h.branch
  obtain ⟨hpark, hgone⟩ := collected_branch d b
  rw [h.parked] at hpark
  rw [h.gone] at hgone
  have hbare : Bare (d.collected b) b := h.bare.keep (collected_handles d hb) (collected_state d b)
  have hdig : (d.collected b).rd (Reg.BR_DIGEST b) = (d.branch b).digest := by rw [collected_rd, if_pos rfl]
  have hlink : (d.collected b).rd (Reg.LINK_STATE b) = d.rd (Reg.LINK_STATE b) := by
    rw [collected_rd, if_neg (by show 0x02F201 + b ≠ 0x04200F + b; omega)]
  rw [Dev.takenBack, takeBack_bare hb h.bare h.buf h.off h.hold h.lost]
  change Bare ((((d.collected b).roleBack w b).unpark b).settleGone w b) b ∧
    ((((d.collected b).roleBack w b).unpark b).settleGone w b).rd _ = _ ∧ ((((d.collected b).roleBack w b).unpark b).settleGone w b).rd _ = _
  generalize d.collected b = T at *
  rcases roleBack_cases T w b with he | ⟨n, he⟩
  · rw [he, settleGone_unpark_none w hpark hgone]
    exact ⟨hbare.keep (.modBranch _ _ _) fun _ => rfl, hdig, hlink⟩
  · have hkey : ∀ k, k < 0x100000 → (T.wr (Reg.BR_T_CHANNEL b) n).rd k = T.rd k := fun k hk => by
      rw [Dev.wr_rd, if_neg (by show k ≠ (0x9010 + b) * 256 + 0x5; omega)]
    have hsame : SameHandles T (T.wr (Reg.BR_T_CHANNEL b) n) :=
      SameHandles.wr T n (by show (0x9010 + b) * 256 + 5 < 0x200000 ∨ 0x400000 ≤ (0x9010 + b) * 256 + 5; omega)
    rw [he, settleGone_unpark_none (e := T.wr (Reg.BR_T_CHANNEL b) n) w hpark hgone]
    exact ⟨hbare.keep (hsame.trans (.modBranch _ _ _)) fun _ => rfl, (hkey _ (by show 0x04200F + b < _; omega)).trans hdig,
      (hkey _ (by show 0x02F201 + b < _; omega)).trans hlink⟩

end

/-- The last part of an adoption: the event, the result and the branch's word, by whether the digests match. -/
def Dev.adopted (d : Dev) (b code det result : Nat) (mismatch : Bool) : Dev :=
  (((d.log1 code (0xFFF0 + b) det).wr (Reg.ADOPT_RESULT b) result).modBranch b fun y => { y with mismatch := mismatch }).toBranch b (.config 1)

theorem adopted_handles (d : Dev) {b : Nat} (code det result : Nat) (mismatch : Bool) (hb : b < 4) : SameHandles d (d.adopted b code det result mismatch) := by
  have hk : Reg.ADOPT_RESULT b < 0x200000 := by show 0x042009 + b < _; omega
  rw [Dev.adopted, Dev.toBranch]
  refine SameHandles.trans ?_ (.modBranch _ _ _)
  refine SameHandles.trans ?_ (.modBranch _ _ _)
  exact (SameHandles.log1 d _ _ _).trans (.wr _ _ (.inl hk))

theorem adopted_chan (d : Dev) (b code det result n : Nat) (mismatch : Bool) : (d.adopted b code det result mismatch).chan n = d.chan n := by
  rw [Dev.adopted, Dev.toBranch, modBranch_chan, modBranch_chan, Dev.wr_chan, (log1_quiet d _ _ _).chan]

theorem adopted_rd {d : Dev} {b code det result k : Nat} {mismatch : Bool} (hk : ¬ logKey k) :
    (d.adopted b code det result mismatch).rd k = if k = Reg.ADOPT_RESULT b then result else d.rd k := by
  rw [Dev.adopted, Dev.toBranch, modBranch_rd, modBranch_rd, Dev.wr_rd, log1_rd _ _ _ _ _ hk]

theorem adopted_mismatch {d : Dev} {b code det result : Nat} {mismatch : Bool} : ((d.adopted b code det result mismatch).branch b).mismatch = mismatch := by
  rw [Dev.adopted, Dev.toBranch, modBranch_branch, modBranch_branch]

/-! The adoption as a whole. -/

theorem SameHandles.levelsBack (d : Dev) (b : Nat) : SameHandles d (d.levelsBack b) := .of_obj (levelsBack_obj d b)

theorem levelsBack_state (d : Dev) (b n : Nat) : ((d.levelsBack b).chan n).state = (d.chan n).state :=
  each_leaves (fun e => (e.chan n).state) _ (fun e i _ => by
    rw [Dev.modChan, Dev.setChan_chan]
    split
    · next hn =>
      rw [hn]
      split <;> rfl
    · rfl) d

theorem Bare.latePostures {d : Dev} {b : Nat} (h : Bare d b) : d.latePostures b = d := by
  unfold Dev.latePostures
  rw [h.drivers]
  rfl

theorem Bare.allPostures {d : Dev} {b : Nat} (h : Bare d b) (w : Worn) : d.allPostures w b = d := by
  unfold Dev.allPostures
  rw [h.drivers]
  rfl

theorem Bare.triggers {d : Dev} {b : Nat} (h : Bare d b) (c : Bool) : (d.when c fun d => d.each (d.branchDrivers b) fun d k => d.safeTrigger k 1) = d := by
  cases c with
  | false => rfl
  | true => rw [Dev.when_true, h.drivers, Dev.each_nil]

/-- Without handles nothing is staged and nothing runs. -/
theorem Bare.resumed {d : Dev} {b : Nat} (h : d.branchHandles b = []) :
    (d.stageCommitted b).each ((d.stageCommitted b).runningIn b) (fun d k => d.restart k d.now true) = d := by
  have hd : d.branchDrivers b = [] := by
    refine List.filter_eq_nil_iff.2 fun k hk hc => ?_
    have hmem : k ∈ d.branchHandles b := List.mem_filter.2 ⟨List.mem_of_mem_filter hk, hc⟩
    rw [h] at hmem
    cases hmem
  have hs : d.stageCommitted b = d := by
    unfold Dev.stageCommitted
    rw [hd]
    rfl
  rw [hs, Dev.runningIn, h]
  rfl

/-- The event and the result of an adoption, before the branch is told. -/
theorem noted_bare {d : Dev} {b code det result : Nat} (hb : b < 4) (h : Bare d b) :
    Bare ((d.log1 code (0xFFF0 + b) det).wr (Reg.ADOPT_RESULT b) result) b :=
  have hk : Reg.ADOPT_RESULT b < 0x200000 := by show 0x042009 + b < _; omega
  h.keep ((SameHandles.log1 d _ _ _).trans (.wr _ _ (.inl hk))) fun n => by rw [Dev.wr_chan, (log1_quiet d _ _ _).chan]

theorem adopted_bare {d : Dev} {b code det result : Nat} {mismatch : Bool} (hb : b < 4) (h : Bare d b) : Bare (d.adopted b code det result mismatch) b :=
  h.keep (adopted_handles d code det result mismatch hb) fun n => by rw [adopted_chan]

theorem adopt_match {d : Dev} {b : Nat} (h : Plain d b) (w : Worn) (hm : (d.branch b).digest = d.heartDigest b) :
    d.adopt w b = ((d.takenBack w b).adopted b 0x0213 (nat01 (d.branch b).postured + min 255 (d.branch b).buf.length * 256)
      (if (d.branch b).postured then 2 else 1) false).levelsBack b := by
  have hbare := (takenBack_plain h w).1
  have hnoted := noted_bare (code := 0x0213) (det := nat01 (d.branch b).postured + min 255 (d.branch b).buf.length * 256)
    (result := if (d.branch b).postured then 2 else 1) h.branch hbare
  have hadopted := adopted_bare (code := 0x0213) (det := nat01 (d.branch b).postured + min 255 (d.branch b).buf.length * 256)
    (result := if (d.branch b).postured then 2 else 1) (mismatch := false) h.branch hbare
  have hback := hadopted.keep (.levelsBack _ b) (levelsBack_state _ b)
  dsimp only [Dev.adopt]
  rw [decide_eq_true hm, if_pos rfl]
  rw [Dev.adopted] at *
  rw [Dev.takenBack] at *
  generalize (((d.takeBack b).roleBack w b).unpark b).settleGone w b = T at *
  rw [hnoted.triggers, latchAdopted_free hadopted.latched, hback.latePostures, Bare.resumed hback.handles]

theorem adopt_differs {d : Dev} {b : Nat} (h : Plain d b) (w : Worn) (hm : (d.branch b).digest ≠ d.heartDigest b) :
    d.adopt w b = (d.takenBack w b).adopted b 0x0214 ((d.branch b).digest % 2 ^ 32) 3 true := by
  have hbare := (takenBack_plain h w).1
  have hnoted := (noted_bare (code := 0x0214) (det := (d.branch b).digest % 2 ^ 32) (result := 3) h.branch hbare).modBranch
    (fun y => { y with mismatch := true })
  have hadopted := adopted_bare (code := 0x0214) (det := (d.branch b).digest % 2 ^ 32) (result := 3) (mismatch := true) h.branch hbare
  dsimp only [Dev.adopt]
  rw [decide_eq_false hm, if_neg Bool.false_ne_true]
  rw [Dev.adopted] at *
  rw [Dev.takenBack] at *
  generalize (((d.takeBack b).roleBack w b).unpark b).settleGone w b = T at *
  rw [hnoted.allPostures, hnoted.drivers, Dev.each_nil, hnoted.drivers, Dev.each_nil, Bare.resumed hadopted.handles]

/-- What the crown holds of an adopted branch: its digest, the comparison and the result; the link keeps its state. -/
theorem adopt_holds {d : Dev} {b : Nat} (h : Plain d b) (w : Worn) :
    (d.adopt w b).rd (Reg.LINK_STATE b) = d.rd (Reg.LINK_STATE b) ∧ (d.adopt w b).rd (Reg.BR_DIGEST b) = (d.branch b).digest ∧
    ((d.adopt w b).branch b).mismatch = decide ((d.branch b).digest ≠ d.heartDigest b) ∧
    (d.adopt w b).rd (Reg.ADOPT_RESULT b) = if (d.branch b).digest = d.heartDigest b then (if (d.branch b).postured then 2 else 1) else 3 := by
  obtain ⟨_, hdigest, hlink⟩ := takenBack_plain h w
  have hb := h.branch
  have hl : ¬ logKey (Reg.LINK_STATE b) := by show ¬ logKey (0x02F201 + b); rw [logKey_iff]; omega
  have hg : ¬ logKey (Reg.BR_DIGEST b) := by show ¬ logKey (0x04200F + b); rw [logKey_iff]; omega
  have ha : ¬ logKey (Reg.ADOPT_RESULT b) := by show ¬ logKey (0x042009 + b); rw [logKey_iff]; omega
  have hla : Reg.LINK_STATE b ≠ Reg.ADOPT_RESULT b := by show 0x02F201 + b ≠ 0x042009 + b; omega
  have hga : Reg.BR_DIGEST b ≠ Reg.ADOPT_RESULT b := by show 0x04200F + b ≠ 0x042009 + b; omega
  have hrd (e : Dev) (k : Nat) : (e.levelsBack b).rd k = e.rd k := by rw [Dev.rd, levelsBack_obj, Dev.rd]
  by_cases hm : (d.branch b).digest = d.heartDigest b
  · rw [adopt_match h w hm, hrd, hrd, hrd, levelsBack_branch, adopted_rd hl, adopted_rd hg, adopted_rd ha, adopted_mismatch, if_neg hla,
      if_neg hga, if_pos rfl, if_pos hm]
    exact ⟨hlink, hdigest, (decide_eq_false (not_not_intro hm)).symm, rfl⟩
  · rw [adopt_differs h w hm, adopted_rd hl, adopted_rd hg, adopted_rd ha, adopted_mismatch, if_neg hla, if_neg hga, if_pos rfl, if_neg hm]
    exact ⟨hlink, hdigest, (decide_eq_true hm).symm, rfl⟩

/-- Settles O10: a branch without handles that reports nothing brings only its digest, so the comparison decides its adoption. -/
theorem branchesAreAdopted : Obligations.BranchesAreAdopted := by
  unfold Obligations.BranchesAreAdopted
  intro s b t x up
  have hb := b.isLt
  have hatom : up.atom = s.dev.atom := by
    show bitOf (((s.dev.at t).wr (Reg.LINK_STATE b) 1).rd Reg.GU_MODE) 1 = _
    rw [Dev.wr_rd, if_neg (by show (0x021101 : Nat) ≠ 0x02F201 + b.val; omega)]
    rfl
  have hmode : up.mode = s.dev.mode := by
    show ((s.dev.at t).wr (Reg.LINK_STATE b) 1).rd Reg.DEV_STATE = _
    rw [Dev.wr_rd, if_neg (by show (0x020001 : Nat) ≠ 0x02F201 + b.val; omega)]
    rfl
  refine ⟨fun hcu hrung hpow hlink => ?_, ?_, ?_⟩
  · have hgo : ¬ (!s.dev.crownUp || decide (2 ≤ s.dev.rd Reg.PL_RUNG) || decide (x.power = 0) || decide (s.dev.link b = 1)) = true := by
      simp [hcu, hpow, hlink, Nat.not_le.2 hrung]
    have hinit (h : s.dev.mode = INIT) : Goes (.linkUp b t) s up :=
      Goes.of_eq (c := .linkUp b t) (s := s) rfl ((if_neg hgo).trans (if_pos (hmode.trans h)))
    have hout (h : s.dev.mode ≠ INIT) : Goes (.linkUp b t) s { up.adopt s.worn b with recover := s.dev.recover || s.dev.atom } := by
      rw [← hatom]
      exact Goes.of_eq (c := .linkUp b t) (s := s) rfl ((if_neg hgo).trans (if_neg fun hc => h (hmode.symm.trans hc)))
    refine ⟨hinit, hout, ?_⟩
    intro h hnone hbuf hoff hhold hlost hpark hgone hfree
    have hsame : SameHandles s.dev up := (SameHandles.wr s.dev (k := Reg.LINK_STATE b) 1 (.inl (by show 0x02F201 + b.val < _; omega))).trans (.of_obj rfl)
    have hbranch : up.branch b = { x with linkUp := true } := by rw [Dev.setBranch_branch, if_pos rfl]
    have hbare : Bare up b := Bare.keep ⟨hnone, hfree⟩ hsame fun n => by rw [Dev.setBranch_chan, Dev.wr_chan]; rfl
    have hplain : Plain up b := ⟨hb, hbare, by rw [hbranch]; exact hbuf, by rw [hbranch]; exact hoff, by rw [hbranch]; exact hhold,
      by rw [hbranch]; exact hlost, by rw [hbranch]; exact hpark, by rw [hbranch]; exact hgone⟩
    have hgoes := hout h
    have hholds := adopt_holds hplain s.worn
    rw [hbranch] at hholds
    generalize up.adopt s.worn b = e at hgoes hholds
    obtain ⟨hl, hd, hm, ha⟩ := hholds
    refine ⟨_, hgoes, ⟨rfl, rfl, rfl⟩, hl.trans ?_, hd, hm, ha⟩
    show ((s.dev.at t).wr (Reg.LINK_STATE b) 1).rd (Reg.LINK_STATE b) = 1
    rw [Dev.wr_rd, if_pos rfl]
  · intro hl hm hidle hfree d
    refine Goes.of_eq (c := .branchConfigured b t) (s := s) rfl ?_
    have hgo : (s.dev.linked b && x.mismatch) = true := by rw [hl, hm]; rfl
    refine (if_pos hgo).trans ?_
    have hsame : ((s.dev.at t).each ((s.dev.at t).branchDrivers b) fun d k => d.when (ARMED ≤ d.hst k) fun d => d.branchSettings k) = s.dev.at t :=
      each_of_fixed _ _ _ fun k hk => congrArg (fun c : Bool => (s.dev.at t).when c (·.branchSettings k)) (decide_eq_false (hidle k hk))
    rw [hsame]
    change (Dev.latchAdopted (Dev.log1 (Dev.wr (Dev.modBranch (Dev.wr d _ _) _ _) _ _) _ _ _) b).levelsBack b = _
    rw [latchAdopted_free fun i hi => by
      rw [(log1_quiet _ _ _ _).chan, Dev.wr_chan, modBranch_chan, Dev.wr_chan]
      exact hfree i hi]
    rfl
  · intro h
    refine Goes.of_eq (c := .branchConfigured b t) (s := s) rfl (if_neg ?_)
    change ¬ (s.dev.linked b && x.mismatch) = true
    rcases h with h | h <;> simp [h]

end Sys2Proof.Machine
end

/-! Supply events and the crown's reset (R397 to R413): O23. -/
section
namespace Sys2Proof.Machine

theorem measureVbak_good (d : Dev) {mv : Nat} (hlo : 2200 ≤ mv) (hhi : mv < 65536) :
    d.measureVbak mv = (d.wr Reg.PWR_VBAK mv).wrBit Reg.PWR_FLAGS 3 false := by
  have hlow : decide (mv < 2200) = false := decide_eq_false (Nat.not_lt.2 hlo)
  dsimp only [Dev.measureVbak]
  rw [hlow, Nat.mod_eq_of_lt hhi]
  rfl

/-- The first low measurement is an event (R398). -/
theorem measureVbak_low {d : Dev} {mv : Nat} (hlo : mv < 2200) (hflag : bitOf (d.rd Reg.PWR_FLAGS) 3 = false) :
    d.measureVbak mv = ((d.wr Reg.PWR_VBAK mv).wrBit Reg.PWR_FLAGS 3 true).log1 0x0104 0xFFFF mv := by
  have hlow : decide (mv < 2200) = true := decide_eq_true hlo
  dsimp only [Dev.measureVbak]
  rw [hlow, hflag, Nat.mod_eq_of_lt (by omega)]
  rfl

/-- Settles O23: each supply event is its command's branch for the state named. -/
theorem supplyEventsAct : Obligations.SupplyEventsAct := by
  unfold Obligations.SupplyEventsAct
  intro s t d
  refine ⟨fun hv ha => ?_, fun hv ha => ?_, fun hv hw hc => ?_, fun hv hw hc hcore hr => ?_, fun mv us t0 hv hw ht => ⟨fun hc hr => ?_, fun hc => ?_⟩,
    fun _ _ _ => rfl, fun hv => ?_, ?_, fun ha => ?_, ?_, fun hc hr => ?_, fun mv hc hlo hhi => ?_, fun mv hc hlo hflag => ?_⟩
  · refine Goes.of_eq (c := .vinValid t) (s := s) rfl ?_
    exact (if_neg (ne_true_of_eq_false hv)).trans (if_pos ha)
  · refine Goes.of_eq (c := .vinValid t) (s := s) rfl ?_
    exact (if_neg (ne_true_of_eq_false hv)).trans (if_neg (ne_true_of_eq_false ha))
  · refine Goes.of_eq (c := .pwrWarnSet t) (s := s) rfl ?_
    have hgo : ¬ (!s.dev.vinValid || s.dev.warn) = true := by simp [hv, hw]
    refine (if_neg hgo).trans ?_
    exact congrArg (fun c : Bool => Dev.when _ c _) (show (s.dev.crownUp && s.dev.coreUp && decide (s.dev.rd Reg.PL_RUNG = 0)) = false by rw [hc]; rfl)
  · refine Goes.of_eq (c := .pwrWarnSet t) (s := s) rfl ?_
    have hgo : ¬ (!s.dev.vinValid || s.dev.warn) = true := by simp [hv, hw]
    refine (if_neg hgo).trans ?_
    exact congrArg (fun c : Bool => Dev.when _ c _) (show (s.dev.crownUp && s.dev.coreUp && decide (s.dev.rd Reg.PL_RUNG = 0)) = true by simp [hc, hcore, hr])
  · refine Goes.of_eq (c := .pwrWarnCleared mv us t) (s := s) rfl ?_
    have hgo : ¬ (!s.dev.warn || !s.dev.vinValid) = true := by simp [hv, hw]
    have hup : (s.dev.crownUp && decide (s.dev.rd Reg.PL_RUNG = 0)) = true := by simp [hc, hr]
    refine (if_neg hgo).trans ((if_pos hup).trans ?_)
    rw [show (s.dev.at t).tWarn = some t0 from ht]
    rfl
  · refine Goes.of_eq (c := .pwrWarnCleared mv us t) (s := s) rfl ?_
    have hgo : ¬ (!s.dev.warn || !s.dev.vinValid) = true := by simp [hv, hw]
    have hup : ¬ (s.dev.crownUp && decide (s.dev.rd Reg.PL_RUNG = 0)) = true := by simp [hc]
    refine (if_neg hgo).trans ((if_neg hup).trans ?_)
    rw [show (s.dev.at t).tWarn = some t0 from ht]
    rfl
  · refine Goes.of_eq (c := .brownOut t) (s := s) rfl ?_
    exact if_neg (by rw [show (s.dev.at t).vinValid = true from hv]; decide)
  · exact Goes.of_eq (c := .vinAbsent t) (s := s) rfl rfl
  · refine Goes.of_eq (c := .vbakLost t) (s := s) rfl ?_
    exact congrArg (fun c : Bool => d.when c _) ha
  · exact Goes.of_eq (c := .rstn t) (s := s) rfl rfl
  · refine Goes.of_eq (c := .clockLoss t) (s := s) rfl ?_
    exact congrArg (fun c : Bool => d.when c _) (show (s.dev.crownUp && decide (s.dev.rd Reg.PL_RUNG ≤ 1)) = true by simp [hc, hr])
  · refine Goes.of_eq (c := .vbakMeasure mv t) (s := s) rfl ?_
    refine (congrArg (fun c : Bool => d.when c _) hc).trans ?_
    exact measureVbak_good d hlo hhi
  · refine Goes.of_eq (c := .vbakMeasure mv t) (s := s) rfl ?_
    refine (congrArg (fun c : Bool => d.when c _) hc).trans ?_
    exact measureVbak_low hlo hflag

end Sys2Proof.Machine
end

/-! What a reset of the crown loses and keeps (R207, R254, R264, R413): O24. -/
section
namespace Sys2Proof.Machine

/-- The value of a key after every value of a table was mapped. -/
theorem tabGet_mapVals {α : Type} {d : Nat → α} (f : Nat → α → α) (m : Tab α) (k : Nat) (hd : f k (d k) = d k) :
    tabGet d (m.map fun p => (p.1, f p.1 p.2)) k = f k (tabGet d m k) := by
  induction m with
  | nil => exact hd.symm
  | cons p m ih =>
    show (if p.1 = k then f p.1 p.2 else tabGet d (m.map _) k) = f k (if p.1 = k then p.2 else tabGet d m k)
    by_cases h : p.1 = k
    · rw [if_pos h, if_pos h, h]
    · rw [if_neg h, if_neg h, ih]

theorem tabGet_filter_out {α : Type} {d : Nat → α} (f : Nat × α → Bool) (m : Tab α) {k : Nat} (h : ∀ v, f (k, v) = false) :
    tabGet d (m.filter f) k = d k := by
  induction m with
  | nil => rfl
  | cons p m ih =>
    obtain ⟨a, v⟩ := p
    rw [List.filter_cons]
    split
    · next hf =>
      have ha : a ≠ k := fun ha => Bool.false_ne_true ((h v).symm.trans (ha ▸ hf))
      exact (if_neg ha).trans ih
    · exact ih

/-! What the reset ends before it takes the crown down: measurements of T and reserved slots. -/

/-- From d to e only calibrations, the state of T and slots changed. -/
structure Torn (d e : Dev) : Prop where
  same : e = { d with obj := e.obj, branches := e.branches, slots := e.slots }
  rd : ∀ k, k % 256 ≠ 4 → k % 256 ≠ 5 → e.rd k = d.rd k
  branch : ∀ b, e.branch b = { d.branch b with cal := (e.branch b).cal, calLast := (e.branch b).calLast }

namespace Torn

theorem refl (d : Dev) : Torn d d := ⟨rfl, fun _ _ _ => rfl, fun _ => rfl⟩

theorem trans {d e f : Dev} (h : Torn d e) (g : Torn e f) : Torn d f where
  same := by rw [g.same, h.same]
  rd k h4 h5 := (g.rd k h4 h5).trans (h.rd k h4 h5)
  branch b := by rw [g.branch b, h.branch b]

theorem when (d : Dev) (c : Bool) {f : Dev → Dev} (h : Torn d (f d)) : Torn d (d.when c f) := by
  cases c
  · exact refl d
  · exact h

theorem each {α : Type} (l : List α) {f : Dev → α → Dev} (h : ∀ d, ∀ a ∈ l, Torn d (f d a)) (d : Dev) : Torn d (d.each l f) := by
  induction l generalizing d with
  | nil => exact refl d
  | cons a l ih => exact (h d a List.mem_cons_self).trans (ih (fun d b hb => h d b (List.mem_cons_of_mem a hb)) _)

theorem wr (d : Dev) {k : Nat} (v : Nat) (hk : k % 256 = 4 ∨ k % 256 = 5) : Torn d (d.wr k v) :=
  ⟨rfl, fun j h4 h5 => by rw [Dev.wr_rd, if_neg (by omega)], fun _ => rfl⟩

theorem tRest (d : Dev) (b : Nat) : Torn d (d.tRest b) :=
  (wr d 0 (.inl (by show ((0x9010 + b) * 256 + 4) % 256 = 4; omega))).trans
    (wr _ 0xFF (.inr (by show ((0x9010 + b) * 256 + 5) % 256 = 5; omega)))

theorem modSlot (d : Dev) (k : Nat) (f : Slot → Slot) : Torn d (d.modSlot k f) := ⟨rfl, fun _ _ _ => rfl, fun _ => rfl⟩

theorem uncalibrated (d : Dev) (b : Nat) : Torn d (d.modBranch b fun x => { x with cal := none, calLast := none }) where
  same := rfl
  rd _ _ _ := rfl
  branch j := by
    rw [Dev.modBranch, Dev.setBranch_branch]
    split
    · next h => rw [h]
    · rfl

theorem calAbandon (d : Dev) (b : Nat) : Torn d (d.calAbandon b) := by
  unfold Dev.calAbandon
  split
  · exact refl d
  · exact (uncalibrated d b).trans (when _ _ (tRest _ b))

theorem unreserve (d : Dev) (num : Nat) : Torn d (d.unreserve num) := each _ (fun d k _ => modSlot d k _) d

end Torn

/-! The objects that stay. -/

theorem rd_foldl_outputs (l m : Tab Nat) {k : Nat} (h : ∀ p ∈ l, 0x2000 ≤ p.1 / 256) (hk : k < 0x200000) :
    tabGet dfltOf (l.foldl (fun m p => tabSet dfltOf m p.1 p.2) m) k = tabGet dfltOf m k := by
  induction l generalizing m with
  | nil => rfl
  | cons p l ih =>
    rw [List.foldl_cons, ih _ fun q hq => h q (List.mem_cons_of_mem p hq), tabGet_tabSet]
    have := h p List.mem_cons_self
    rw [if_neg (by omega)]

/-- With outputs alone among the kept and the trimmed objects, what is no output is kept as its row says. -/
theorem tabGet_reset {d : Dev} (ho : d.keepsOutputs) {k : Nat} (hk : k < 0x200000) :
    tabGet dfltOf (d.trimsBack d.keptObjects) k = if d.survives k = true then d.rd k else dfltOf k := by
  have hkept : ∀ p ∈ d.heart.kept, 0x2000 ≤ p.1 / 256 := fun p hp => (ho p (List.mem_append_left _ hp)).1
  have hundo : ∀ p ∈ d.buttons.undo.filter (fun p => d.hst (slotOf (p.1 / 256)) ≠ 0), 0x2000 ≤ p.1 / 256 := fun p hp =>
    (ho p (List.mem_append_right _ (List.mem_of_mem_filter hp))).1
  unfold Dev.trimsBack Dev.keptObjects
  rw [rd_foldl_outputs _ _ hundo hk, rd_foldl_outputs _ _ hkept hk]
  have hplain : isHandleIx (k / 256) = false := by simp [isHandleIx]; omega
  by_cases hs : d.survives k = true
  · rw [if_pos hs, tabGet_filter _ _ fun v => by rw [hs, hplain]; rfl]
    rfl
  · rw [if_neg hs, tabGet_filter_out _ _ fun v => by rw [Bool.not_eq_true _ |>.mp hs]; rfl]

/-! The reset as a whole. -/

/-- The crown taken down, once its measurements have ended. -/
def Dev.lowered (d : Dev) (hk : Nat) (lost : List Txn) (cause : Nat) : Dev :=
  let slots := d.slots.map fun p => (p.1, ({ gen := p.2.gen, prior := p.2.prior, left := p.2.left, held := p.2.held } : Slot))
  let queues := d.queues.map fun p => (p.1, if d.rd (Reg.QU_ENABLE p.1) = 1 then { p.2 with opn := none } else { resets := p.2.resets })
  let g := d.graft
  let active := if hk = 6 then d.otherBank else g.active
  { d with
    obj := d.trimsBack d.keptObjects, crownUp := false, coreUp := false, cause := cause, rungWas := d.rd Reg.PL_RUNG, resp := {},
    slots := slots,
    insts := d.insts.map fun p => (p.1, ({ crc := p.2.crc } : Inst)), queues := queues, dmas := [], wdoLow := false, asleep := false,
    chans := d.chans.map fun p => (p.1, { p.2 with tRise := 0, tFall := 0 }),
    branches := d.branches.map fun p => (p.1, { p.2 with
      toCrown := [], toBranch := [], crownLost := none, crownHeld := false, vf := 0, vfMin := 0, die := 0, seenStatus := 0,
      seenPower := 0, seenRef := 0, hbUp := none, joinT := none }),
    eccLast := [], eccCnt := [], psErrs := [], scrubAt := none,
    staged := [], txns := d.txns.filter fun x => x.st = 2 && x.done, discarded := d.discarded ++ lost.map fun x => (x.num, x.id), deferred := [],
    reqs := [], ops := 0, staging := [], seq := { bound := d.seq.bound }, ring := {}, port := {}, wd0 := {}, wd1 := {},
    canopy := { images := d.canopy.images }, buttons := {}, fails := [], syncClk := none, lockEnd := none,
    graft := { g with
      active := active, unconf := false, rollback := hk = 5 || hk = 6, calSlot := none, calWant := 0, calOn := false, ucBranch := none } }

/-- The measurements of T and the calibrations given up. -/
def Dev.unmeasured (d : Dev) : Dev :=
  d.each [0, 1, 2, 3] fun d b => (d.calAbandon b).when (d.rd (Reg.BR_T_STATE b) = 2) (·.tRest b)

/-- The transactions that a reset drops. -/
def Dev.lostTxns (d : Dev) : List Txn := d.txns.filter fun x => x.st = 1 || (x.st = 2 && !x.done)

/-- The device as a reset leaves it for the crown to go down. -/
def Dev.tornDown (d : Dev) : Dev := d.unmeasured.each d.unmeasured.lostTxns fun d x => d.unreserve x.num

theorem tornDown_torn (d : Dev) : Torn d d.tornDown :=
  (Torn.each [0, 1, 2, 3] (fun e b _ => (Torn.calAbandon e b).trans (Torn.when _ _ (Torn.tRest _ b))) d).trans
    (Torn.each _ (fun e x _ => Torn.unreserve e x.num) _)

theorem crownDown_lowered {d : Dev} (cause : Nat) (hup : d.crownUp = true) (hcal : d.graft.calSlot = none) :
    d.crownDown cause = d.tornDown.lowered (d.rd Reg.GR_HK_STATE) d.unmeasured.lostTxns cause := by
  have hgraft : d.when d.graft.calSlot.isSome (fun d => d.graftLeave) = d := by rw [hcal]; rfl
  have hgo : ¬ (!d.crownUp) = true := by rw [hup]; decide
  rw [Dev.crownDown, if_neg hgo]
  dsimp only
  rw [hgraft, ← Dev.unmeasured, ← Dev.lostTxns, ← Dev.tornDown, Dev.lowered]

/-- What a reset of the crown leaves in the queue q. -/
theorem lowered_queue (d : Dev) (hk : Nat) (lost : List Txn) (cause q : Nat) : (d.lowered hk lost cause).queue q =
    if d.rd (Reg.QU_ENABLE q) = 1 then { d.queue q with opn := none } else { resets := (d.queue q).resets } :=
  tabGet_mapVals (d := fun _ => ({} : Queue)) (fun j (x : Queue) => if d.rd (Reg.QU_ENABLE j) = 1 then { x with opn := none } else { resets := x.resets }) d.queues q
    (by split <;> rfl)

theorem lowered_inst (d : Dev) (hk : Nat) (lost : List Txn) (cause i : Nat) : (d.lowered hk lost cause).inst i = { crc := (d.inst i).crc } :=
  tabGet_mapVals (d := fun _ => ({} : Inst)) (fun _ (x : Inst) => { crc := x.crc }) d.insts i rfl

theorem lowered_chan (d : Dev) (hk : Nat) (lost : List Txn) (cause n : Nat) :
    (d.lowered hk lost cause).chan n = { d.chan n with tRise := 0, tFall := 0 } :=
  tabGet_mapVals (d := fun _ => ({} : Chan)) (fun _ (x : Chan) => { x with tRise := 0, tFall := 0 }) d.chans n rfl

theorem lowered_branch (d : Dev) (hk : Nat) (lost : List Txn) (cause b : Nat) :
    (d.lowered hk lost cause).branch b = { d.branch b with
      toCrown := [], toBranch := [], crownLost := none, crownHeld := false, vf := 0, vfMin := 0, die := 0, seenStatus := 0, seenPower := 0,
      seenRef := 0, hbUp := none, joinT := none } :=
  tabGet_mapVals (d := fun _ => ({} : Branch)) (fun _ (x : Branch) => { x with
    toCrown := [], toBranch := [], crownLost := none, crownHeld := false, vf := 0, vfMin := 0, die := 0, seenStatus := 0, seenPower := 0,
    seenRef := 0, hbUp := none, joinT := none }) d.branches b rfl

section
variable {d e : Dev} (h : Torn d e) (hk : Nat) (lost : List Txn) (cause : Nat)
include h

/-- What a reset leaves of an object that is no output. -/
theorem lowered_rd (ho : d.keepsOutputs) {k : Nat} (hk' : k < 0x200000) (h4 : k % 256 ≠ 4) (h5 : k % 256 ≠ 5)
    (hs : ∀ f : Dev, f.survives k = d.survives k) :
    (e.lowered hk lost cause).rd k = if d.survives k = true then d.rd k else dfltOf k := by
  have ho' : e.keepsOutputs := by
    rw [h.same]
    exact ho
  rw [← h.rd k h4 h5, ← hs e]
  exact tabGet_reset ho' hk'

theorem lowered_mode (ho : d.keepsOutputs) : (e.lowered hk lost cause).mode = INIT :=
  (lowered_rd h hk lost cause ho (k := Reg.DEV_STATE) (by decide) (by decide) (by decide) fun _ => rfl).trans (if_neg (ne_true_of_eq_false rfl))

theorem lowered_epoch (ho : d.keepsOutputs) : (e.lowered hk lost cause).rd Reg.DR_EPOCH = d.rd Reg.DR_EPOCH :=
  (lowered_rd h hk lost cause ho (k := Reg.DR_EPOCH) (by decide) (by decide) (by decide) fun _ => rfl).trans (if_pos rfl)

end

/-! The commanded reset. -/

theorem commitDigest_low (d : Dev) (b : Nat) :
    (d.commitDigest b).crownUp = d.crownUp ∧ (d.commitDigest b).cause = d.cause ∧ (d.commitDigest b).obj = d.obj := by
  dsimp only [Dev.commitDigest]
  generalize Dev.linked _ b = c
  cases c
  · exact ⟨rfl, rfl, rfl⟩
  · exact ⟨rfl, rfl, rfl⟩

theorem withDigests_low (d : Dev) (f : Dev → Dev) :
    (d.withDigests f).crownUp = (f d).crownUp ∧ (d.withDigests f).cause = (f d).cause ∧ (d.withDigests f).obj = (f d).obj := by
  have hone (e : Dev) (b : Nat) : ((e.commitDigest b).crownUp, (e.commitDigest b).cause, (e.commitDigest b).obj) = (e.crownUp, e.cause, e.obj) := by
    obtain ⟨h1, h2, h3⟩ := commitDigest_low e b
    rw [h1, h2, h3]
  have hall := each_leaves (fun e : Dev => (e.crownUp, e.cause, e.obj)) [0, 1, 2, 3]
    (f := fun e b => if (f d).digestContent b = d.digestContent b then e else e.commitDigest b)
    (fun e b _ => by
      split
      · rfl
      · exact hone e b) (f d)
  exact ⟨congrArg (·.1) hall, congrArg (·.2.1) hall, congrArg (·.2.2) hall⟩

theorem outside_resetCmd {d : Dev} {w : Worn} {q : Request} {v : Nat} {x : Entry} (hq : q.ix = 0x0300 ∧ q.sub = 9) (hx : x.ix = 0x0300 ∧ x.sub = 9) :
    d.outside w q v x = (d.withDigests (·.crownDown 5), {}) := by
  obtain ⟨hix, hsub⟩ := hx
  obtain ⟨hqix, hqsub⟩ := hq
  have hcheck : d.entryCheck w x = OK := by
    rw [Dev.entryCheck, hix]
    rfl
  have hact (e : Dev) : e.applyEntry w x = e.crownDown 5 := by
    rw [Dev.applyEntry, Dev.systemWrite, hix, hsub]
    rfl
  have hdirect : d.direct w x = (d.withDigests (·.crownDown 5), {}) := by
    rw [Dev.direct, hcheck, show (fun e : Dev => e.applyEntry w x) = (·.crownDown 5) from funext hact]
    rfl
  have hkey : x.key ≠ Reg.BR_RELEASE := by rw [Entry.key, hix, hsub]; decide
  have hplain : isHandleIx (0x0300 : Nat) = false := by decide
  have hvol : ((d.info 0x0300 9).map (·.persist) = some .kept) = False := by
    rw [show d.info 0x0300 9 = some ⟨.u 2, .wo, 0, .vol, true, .span 23100 23100⟩ from rfl]
    simp
  have h1 : actsAtOnce 0x0300 9 = false := by decide
  have h2 : d.isDeferred 0x0300 9 true = false := by rfl
  have h3 : d.isStagedCommand 0x0300 9 = false := by rfl
  rw [← hdirect, Dev.outside, hqix, hqsub]
  simp only [hkey, h1, h2, h3, hplain, hvol]
  simp

theorem carryOut_write {s : State} {q : Request} (e : Env) (hs : s.dev.serves q.id q.seq) (hop : q.op = OP_WRITE) (htot : q.total = 0) :
    (s.dev.listed q).carryOut e q = (s.dev.arrived q).writeValue e.worn q q.len (q.data % 2 ^ (8 * q.len)) := by
  have hmode := arrived_mode hs
  show (if _ then _ else if ((s.dev.arrived q).mode = INIT && _) = true then _ else if _ then _ else if _ then _ else _) = _
  rw [if_neg (by rw [hop]; decide), if_neg (by simp [hmode]), if_neg (by rw [hop]; decide), if_pos htot]
  rfl

/-- The command is answered, and the crown goes down with cause 5. -/
theorem resetCmd_goes {s : State} {r : Req} {v : Nat} (hp : s.dev.permits (writeReq r Reg.PWR_RESET_CMD 0 2 v))
    (ho : s.dev.keepsOutputs) (hcal : s.dev.graft.calSlot = none) :
    ∃ t, exec (.pwrResetCmd r v) s = .next t ∧ Rest s t ∧ t.dev.crownUp = false ∧ t.dev.cause = 5 ∧ t.dev.mode = INIT ∧
      t.dev.resp = s.dev.respond (writeReq r Reg.PWR_RESET_CMD 0 2 v) {} := by
  have hperm := Permitted.of_writeReq (c := .pwrResetCmd r v) (s := s) rfl (by decide) hp
  have hcarry := carryOut_write ⟨s.ps, s.worn⟩ hp.1 hperm.op hperm.total
  rw [hperm.writeValue, outside_resetCmd ⟨rfl, rfl⟩ ⟨rfl, rfl⟩] at hcarry
  obtain ⟨haside, hresp⟩ := reply_held (x := (s.dev.arrived (writeReq r Reg.PWR_RESET_CMD 0 2 v)).withDigests (·.crownDown 5))
    (q := writeReq r Reg.PWR_RESET_CMD 0 2 v) (a := {}) (by decide)
  have hgoes := exec_of_carried hperm.ask hp.1 hperm.whole (by rw [hperm.op]; decide) hcarry (fun h => absurd h (by decide))
  obtain ⟨rs, harr⟩ := arrived_booked s.dev (writeReq r Reg.PWR_RESET_CMD 0 2 v)
  obtain ⟨hup', hcause, hobj⟩ := withDigests_low (s.dev.arrived (writeReq r Reg.PWR_RESET_CMD 0 2 v)) (·.crownDown 5)
  have hup : (s.dev.arrived (writeReq r Reg.PWR_RESET_CMD 0 2 v)).crownUp = true := by rw [harr]; exact hp.1.1
  rw [crownDown_lowered 5 hup (by rw [harr]; exact hcal)] at hup' hcause hobj
  have htorn := tornDown_torn (s.dev.arrived (writeReq r Reg.PWR_RESET_CMD 0 2 v))
  have hkeeps : (s.dev.arrived (writeReq r Reg.PWR_RESET_CMD 0 2 v)).keepsOutputs := by rw [harr]; exact ho
  have hmode := lowered_mode htorn ((s.dev.arrived (writeReq r Reg.PWR_RESET_CMD 0 2 v)).rd Reg.GR_HK_STATE)
    (s.dev.arrived (writeReq r Reg.PWR_RESET_CMD 0 2 v)).unmeasured.lostTxns 5 hkeeps
  have hepoch := lowered_epoch htorn ((s.dev.arrived (writeReq r Reg.PWR_RESET_CMD 0 2 v)).rd Reg.GR_HK_STATE)
    (s.dev.arrived (writeReq r Reg.PWR_RESET_CMD 0 2 v)).unmeasured.lostTxns 5 hkeeps
  have hep' : (s.dev.arrived (writeReq r Reg.PWR_RESET_CMD 0 2 v)).rd Reg.DR_EPOCH = s.dev.rd Reg.DR_EPOCH := by rw [harr]; rfl
  generalize (s.dev.arrived (writeReq r Reg.PWR_RESET_CMD 0 2 v)).withDigests (·.crownDown 5) = x at *
  refine ⟨_, hgoes, ⟨rfl, rfl, rfl⟩, ?_, ?_, ?_, ?_⟩
  · exact (congrArg Dev.crownUp haside).trans hup'
  · exact (congrArg Dev.cause haside).trans hcause
  · refine (congrArg Dev.mode haside).trans ?_
    rw [← hmode, Dev.mode, Dev.mode, Dev.rd, Dev.rd, ← hobj]
    rfl
  · refine hresp.trans ?_
    rw [Dev.respond, Dev.respond, ← hep', ← hepoch, Dev.rd, Dev.rd, ← hobj]

/-- Settles O24: the reset maps the tables value by value, and of the objects keeps what survives. -/
theorem crownResetForgets : Obligations.CrownResetForgets := by
  unfold Obligations.CrownResetForgets
  refine ⟨fun d cause hup hcal ho => ?_, fun s r v hp ho hcal => resetCmd_goes hp ho hcal⟩
  dsimp only
  rw [crownDown_lowered cause hup hcal]
  have htorn := tornDown_torn d
  generalize d.tornDown = e at htorn ⊢
  generalize d.unmeasured.lostTxns = lost
  generalize d.rd Reg.GR_HK_STATE = hk
  have hinst (i : Nat) : (e.lowered hk lost cause).inst i = { crc := (d.inst i).crc } := by
    rw [lowered_inst, htorn.same]
    rfl
  have hchan (n : Nat) : (e.lowered hk lost cause).chan n = { d.chan n with tRise := 0, tFall := 0 } := by
    rw [lowered_chan, htorn.same]
    rfl
  have htxns : (e.lowered hk lost cause).txns = d.txns.filter fun x => x.st = 2 && x.done := by rw [htorn.same]; rfl
  refine ⟨rfl, rfl, rfl, htorn.rd _ (by decide) (by decide), lowered_mode htorn hk lost cause ho, rfl, rfl, rfl, rfl, rfl, rfl, rfl, rfl, rfl, rfl, rfl,
    rfl, hinst, fun x hx => ?_, fun x hx h2 hdone => ?_, fun q => ?_, hchan, by rw [htorn.same]; rfl, by rw [htorn.same]; rfl,
    by rw [htorn.same]; rfl, by rw [htorn.same]; rfl, fun b => ?_⟩
  · rw [htxns, List.mem_filter] at hx
    obtain ⟨hmem, hc⟩ := hx
    rw [Bool.and_eq_true, decide_eq_true_eq] at hc
    exact ⟨hmem, hc⟩
  · rw [htxns, List.mem_filter]
    exact ⟨hx, by rw [h2, hdone]; rfl⟩
  · have hq : e.queue q = d.queue q := by rw [htorn.same]; rfl
    rw [lowered_queue, hq, htorn.rd _ (by show ((0x4000 + 0x10 * q) * 256 + 2) % 256 ≠ 4; omega) (by show ((0x4000 + 0x10 * q) * 256 + 2) % 256 ≠ 5; omega)]
    split
    · exact ⟨rfl, rfl⟩
    · exact ⟨rfl, rfl⟩
  · rw [lowered_branch, htorn.branch b]
    exact ⟨rfl, rfl, rfl, rfl, rfl, rfl, rfl, rfl, rfl, rfl⟩

end Sys2Proof.Machine
end

/-! The crown's start and the end of the restore (R409 to R412): O25. -/
section
namespace Sys2Proof.Machine

/-! What the restore goes through with no handle live. -/

/-- From d to e the live handles, the coefficients, the dropped transactions, the module state, the epoch and the guards stay. -/
structure Spared (d e : Dev) : Prop where
  live : e.liveSlots = d.liveSlots
  mode : e.rd Reg.DEV_STATE = d.rd Reg.DEV_STATE
  epoch : e.rd Reg.DR_EPOCH = d.rd Reg.DR_EPOCH
  guards : e.rd Reg.GU_MODE = d.rd Reg.GU_MODE
  coef : e.coef = d.coef
  discarded : e.discarded = d.discarded

/-- They stay where no handle lives. -/
def Aloof (d e : Dev) : Prop := d.liveSlots = [] → Spared d e

section
variable {d : Dev} (h : d.liveSlots = [])
include h

theorem drivers_none : d.drivers = [] := by rw [Dev.drivers, h]; rfl

theorem branchDrivers_none (b : Nat) : d.branchDrivers b = [] := by rw [Dev.branchDrivers, drivers_none h]; rfl

theorem runningIn_none (b : Nat) : d.runningIn b = [] := by rw [Dev.runningIn, Dev.branchHandles, h]; rfl

theorem drvP_none (n : Nat) : d.drvP n = none := by rw [Dev.drvP, Dev.landDriver, drivers_none h]; rfl

theorem latchHandle_none (n : Nat) : d.latchHandle n = d := by rw [Dev.latchHandle, drvP_none h]

end

namespace Aloof

theorem refl (d : Dev) : Aloof d d := fun _ => ⟨rfl, rfl, rfl, rfl, rfl, rfl⟩

theorem of_eq {d e : Dev} (h : d.liveSlots = [] → e = d) : Aloof d e := fun hl => (h hl).symm ▸ refl d hl

theorem trans {d e f : Dev} (h : Aloof d e) (g : Aloof e f) : Aloof d f := fun hl =>
  have a := h hl
  have b := g (a.live.trans hl)
  ⟨b.live.trans a.live, b.mode.trans a.mode, b.epoch.trans a.epoch, b.guards.trans a.guards, b.coef.trans a.coef, b.discarded.trans a.discarded⟩

theorem of_obj {d e : Dev} (h : e.obj = d.obj) (hc : e.coef = d.coef) (hd : e.discarded = d.discarded) : Aloof d e := fun _ =>
  have hrd (k : Nat) : e.rd k = d.rd k := by rw [Dev.rd, h, Dev.rd]
  ⟨(SameHandles.of_obj h).live, hrd _, hrd _, hrd _, hc, hd⟩

/-- A write to an object that is neither a handle's nor one of the three. -/
theorem wr (d : Dev) {k : Nat} (v : Nat) (hk : k < 0x200000 ∨ 0x400000 ≤ k) (hm : k ≠ 0x020001) (he : k ≠ 0x024001)
    (hg : k ≠ 0x021101) : Aloof d (d.wr k v) := fun _ =>
  ⟨(SameHandles.wr d v hk).live, by rw [Dev.wr_rd, if_neg hm.symm], by rw [Dev.wr_rd, if_neg he.symm], by rw [Dev.wr_rd, if_neg hg.symm], rfl, rfl⟩

/-- A write to an object of a filter unit, of a bank or of a queue. -/
theorem high (d : Dev) {k : Nat} (v : Nat) (hk : 0x400000 ≤ k) : Aloof d (d.wr k v) := wr d v (.inr hk) (by omega) (by omega) (by omega)

theorem when (d : Dev) (c : Bool) {f : Dev → Dev} (h : Aloof d (f d)) : Aloof d (d.when c f) := by
  cases c
  · exact refl d
  · exact h

theorem ite {d e f : Dev} (c : Prop) [Decidable c] (he : Aloof d e) (hf : Aloof d f) : Aloof d (if c then e else f) := by
  split
  · exact he
  · exact hf

theorem each {α : Type} (l : List α) {f : Dev → α → Dev} (h : ∀ d a, Aloof d (f d a)) (d : Dev) : Aloof d (d.each l f) := by
  induction l generalizing d with
  | nil => exact refl d
  | cons a l ih => exact (h d a).trans (ih _)

theorem each_mem {α : Type} (l : List α) {f : Dev → α → Dev} (h : ∀ d, ∀ a ∈ l, Aloof d (f d a)) (d : Dev) : Aloof d (d.each l f) := by
  induction l generalizing d with
  | nil => exact refl d
  | cons a l ih => exact (h d a List.mem_cons_self).trans (ih (fun d b hb => h d b (List.mem_cons_of_mem a hb)) _)

theorem each_none {α : Type} {l : Dev → List α} (hl : ∀ d, d.liveSlots = [] → l d = []) (d : Dev) (f : Dev → α → Dev) : Aloof d (d.each (l d) f) :=
  of_eq fun h => by rw [hl d h, Dev.each_nil]

theorem log1 (d : Dev) (code src det : Nat) : Aloof d (d.log1 code src det) := fun _ =>
  have h := log1_quiet d code src det
  have hrd {k : Nat} (hk : k ≠ Reg.OPS_EVT_LOST ∧ k ≠ Reg.EV_TOTAL ∧ k ≠ Reg.OPS_PEAK ∧ k < 0x400000) : (d.log1 code src det).rd k = d.rd k :=
    h.2 k fun hc => by rcases hc with h | h | h | h <;> omega
  ⟨(SameHandles.log1 d _ _ _).live, hrd (by decide), hrd (by decide), hrd (by decide), by rw [h.1], by rw [h.1]⟩

theorem logAt (d : Dev) (time code src det : Nat) : Aloof d (d.logAt time code src det) := by
  have hat : Aloof d ({ d with now := time } : Dev) := of_obj rfl rfl rfl
  have hback (e : Dev) : Aloof e ({ e with now := d.now } : Dev) := of_obj rfl rfl rfl
  exact hat.trans ((log1 _ code src det).trans (hback _))

/-! Banks and units. -/

theorem setBank (d : Dev) (i k st : Nat) : Aloof d (d.setBank i k st) :=
  (high d st (by show 0x400000 ≤ (0x5810 + 3 * i + k) * 256 + 9; omega)).trans (high _ _ (by show 0x400000 ≤ (0x5000 + 0x40 * i) * 256 + 7; omega))

theorem bankObj (d : Dev) (i k n v : Nat) : Aloof d (d.wr ((0x5810 + 3 * i + k) * 256 + n) v) := high d v (by omega)

theorem unitObj (d : Dev) (i n v : Nat) : Aloof d (d.wr ((0x5000 + 0x40 * i) * 256 + n) v) := high d v (by omega)

theorem clearBank (d : Dev) (i k : Nat) : Aloof d (d.clearBank i k) := by
  have hall : ∀ a ∈ [Reg.BK_BASE i k, Reg.BK_N2 i k, Reg.BK_M2 i k, Reg.BK_S2 i k, Reg.BK_N3 i k, Reg.BK_M3 i k, Reg.BK_S3 i k,
      Reg.BK_SYM i k, Reg.BK_DELAY_CLK i k, Reg.BK_DCGAIN i k, Reg.BK_CRC i k], 0x400000 ≤ a := by
    simp only [List.forall_mem_cons, Reg.BK_BASE, Reg.BK_N2, Reg.BK_M2, Reg.BK_S2, Reg.BK_N3, Reg.BK_M3, Reg.BK_S3, Reg.BK_SYM,
      Reg.BK_DELAY_CLK, Reg.BK_DCGAIN, Reg.BK_CRC]
    simp
    omega
  exact (each_mem _ (fun d a ha => high d _ (hall a ha)) d).trans (setBank _ i k 0)

theorem publish (d : Dev) (i : Nat) : Aloof d (d.publish i) :=
  (unitObj d i _ _).trans ((unitObj _ i _ _).trans ((unitObj _ i _ _).trans ((unitObj _ i _ _).trans ((unitObj _ i _ _).trans
    ((unitObj _ i _ _).trans (unitObj _ i _ _))))))

theorem refreshUnit (d : Dev) (i : Nat) : Aloof d (d.refreshUnit i) :=
  (each [0, 1, 2] (fun d k => when d _ ((bankObj d i k _ _).trans (bankObj _ i k _ _))) d).trans (publish _ i)

theorem bankAReset (d : Dev) (i : Nat) : Aloof d (d.bankAReset i) := by
  refine trans (e := ((d.clearBank i 0).wr (Reg.FI_ACTIVE i) 0).setBank i 0 2) ?_ ?_
  · exact (clearBank d i 0).trans ((unitObj _ i _ _).trans (setBank _ i 0 2))
  · exact (bankObj _ i 0 _ _).trans ((bankObj _ i 0 _ _).trans (refreshUnit _ i))

theorem restoreBank (d : Dev) (i k : Nat) : Aloof d (d.restoreBank 0 i k) := by
  refine trans (when d _ (setBank d i k 1)) (ite _ (refl _) (trans ?_ (ite _ (refl _) ?_)))
  · exact (setBank _ i k 0).trans (log1 _ _ _ _)
  · exact (bankAReset _ i).trans (refl _)

theorem restoreBanks (d : Dev) (i : Nat) : Aloof d (d.restoreBanks 0 i) := (each [0, 1, 2] (fun d k => restoreBank d i k) d).trans (setBank _ i 0 _)

/-! Switch channels without handles. -/

theorem setBranch (d : Dev) (b : Nat) (x : Branch) : Aloof d (d.setBranch b x) := of_obj rfl rfl rfl

theorem setChan (d : Dev) (n : Nat) (x : Chan) : Aloof d (d.setChan n x) := of_obj rfl rfl rfl

theorem protect (d : Dev) (n code det : Nat) : Aloof d (d.protect n code det) := ite _ (setBranch d _ _) (ite _ (setBranch d _ _) (setBranch d _ _))

theorem swLatch (d : Dev) (n st cause : Nat) : Aloof d (d.swLatch n st cause) :=
  trans (e := d.modChan n fun c => { c with state := st, cause := cause, flags := setBit c.flags 7 false, tOff := some d.now, inSeq := false })
    (setChan d n _) (when _ _ (f := fun d => d.latchHandle n) (of_eq fun h => latchHandle_none h n))

theorem swAttempt (d : Dev) (n : Nat) (fromHold : Bool) : Aloof d (d.swAttempt n fromHold) :=
  ite _ ((swLatch d n _ _).trans (protect _ n _ _)) ((setChan d n _).trans (when _ _ (protect _ n _ _)))

theorem swSequence (d : Dev) (n : Nat) (gapFirst : Bool) : Aloof d (d.swSequence n gapFirst) :=
  ((setChan d n _).trans (protect _ n _ _)).trans (ite _ (refl _) (swAttempt _ n false))

theorem swFromOff (d : Dev) (w : Worn) (n : Nat) : Aloof d (d.swFromOff w n) :=
  ite _ (refl d) (ite _ (setChan d n _) (ite _ (swSequence d n false) (setChan d n _)))

theorem swRequest (d : Dev) (w : Worn) (n : Nat) (v : OutVal) : Aloof d (d.swRequest w n v) :=
  (setChan d n _).trans (ite _ (swFromOff _ w n) (ite _ (ite _ ((setChan _ n _).trans (setChan _ n _)) (refl _)) (ite _ (setChan _ n _) (refl _))))

theorem setOutput (d : Dev) (w : Worn) (n : Nat) (v : OutVal) : Aloof d (d.setOutput w n v) :=
  ite _ (swRequest d w _ v) ((setChan d n _).trans (setChan _ n _))

theorem inactiveChan (d : Dev) (w : Worn) (n : Nat) : Aloof d (d.inactiveChan w n) :=
  (setChan d n _).trans ((setOutput _ w n _).trans (setChan _ n _))

/-! The adoption of a branch. -/

theorem takeProt (d : Dev) (e : ProtEv) : Aloof d (d.takeProt e) := (each _ (fun d m => setChan d m _) d).trans (logAt _ _ _ _ _)

theorem readBranch (d : Dev) (b : Nat) : Aloof d (d.readBranch b) :=
  (setBranch d b _).trans (each_none (l := fun d => (d.branchDrivers b).filter fun k => d.kind k = 1 || d.kind k = 2)
    (fun d h => by rw [branchDrivers_none h]; rfl) _ _)

theorem low (d : Dev) {k : Nat} (v : Nat) (hk : 0x025000 ≤ k) (hk' : k < 0x200000) : Aloof d (d.wr k v) := wr d v (.inl hk') (by omega) (by omega) (by omega)

theorem takeBack (d : Dev) {b : Nat} (hb : b < 4) : Aloof d (d.takeBack b) := by
  dsimp only [Dev.takeBack]
  refine trans ?_ (readBranch _ b)
  refine trans ?_ (each _ (fun d _ => setChan d _ _) _)
  refine trans ?_ (setBranch _ b _)
  refine trans ?_ (low _ _ (by show _ ≤ 0x04200F + b; omega) (by show 0x04200F + b < _; omega))
  refine trans ?_ (when _ _ ((low _ _ (by show _ ≤ 0x042005 + b; omega) (by show 0x042005 + b < _; omega)).trans (log1 _ _ _ _)))
  refine trans ?_ (when _ _ (((wr _ _ (by decide) (by decide) (by decide) (by decide)).trans (logAt _ _ _ _ _)).trans (when _ _ (logAt _ _ _ _ _))))
  split
  · exact each _ (fun d e => takeProt d e) d
  · exact (each _ (fun d e => takeProt d e) d).trans ((setBranch _ b _).trans (log1 _ _ _ _))

theorem roleBack (d : Dev) (w : Worn) (b : Nat) : Aloof d (d.roleBack w b) := by
  rcases roleBack_cases d w b with h | ⟨n, h⟩
  · exact of_eq fun _ => h
  · rw [h]
    exact high d n (by show 0x400000 ≤ (0x9010 + b) * 256 + 5; omega)

theorem unpark (d : Dev) (b : Nat) : Aloof d (d.unpark b) :=
  ite _ ((setBranch d b _).trans (each_none (l := fun d => d.runningIn b) (fun _ h => runningIn_none h b) _ _)) (refl d)

theorem settleGone (d : Dev) (w : Worn) (b : Nat) : Aloof d (d.settleGone w b) := (setBranch d b _).trans (each _ (fun d n => inactiveChan d w n) _)

theorem drivers (b : Nat) (f : Dev → Nat → Dev) (d : Dev) : Aloof d (d.each (d.branchDrivers b) f) :=
  each_none (l := fun d => d.branchDrivers b) (fun _ h => branchDrivers_none h b) d f

theorem someDrivers (b : Nat) (p : Dev → Nat → Bool) (f : Dev → Nat → Dev) (d : Dev) : Aloof d (d.each ((d.branchDrivers b).filter (p d)) f) :=
  each_none (l := fun d => (d.branchDrivers b).filter (p d)) (fun d h => by rw [branchDrivers_none h]; rfl) d f

theorem latchAdopted (d : Dev) (b : Nat) : Aloof d (d.latchAdopted b) :=
  each _ (fun d _ => when d _ (f := fun d => d.latchHandle _) (of_eq fun h => latchHandle_none h _)) d

theorem levelsBack (d : Dev) (b : Nat) : Aloof d (d.levelsBack b) := each _ (fun d _ => setChan d _ _) d

theorem latePostures (d : Dev) (b : Nat) : Aloof d (d.latePostures b) := someDrivers b (fun d k => d.hst k = HSAFE && !(d.chan (d.chanOf k)).safeOn) _ d

theorem allPostures (d : Dev) (w : Worn) (b : Nat) : Aloof d (d.allPostures w b) := someDrivers b (fun d k => d.drivenOutput k && ARMED ≤ d.hst k) _ d

theorem adopt (d : Dev) (w : Worn) {b : Nat} (hb : b < 4) : Aloof d (d.adopt w b) := by
  have hresult (e : Dev) (v : Nat) : Aloof e (e.wr (Reg.ADOPT_RESULT b) v) := low e v (by show _ ≤ 0x042009 + b; omega) (by show 0x042009 + b < _; omega)
  dsimp only [Dev.adopt]
  refine trans ?_ (each_none (l := fun d => d.runningIn b) (fun _ h => runningIn_none h b) _ _)
  refine trans ?_ (drivers b _ _)
  refine trans (((takeBack d hb).trans (roleBack _ w b)).trans ((unpark _ b).trans (settleGone _ w b))) (ite _ ?_ ?_)
  · refine trans ?_ (latePostures _ b)
    refine trans ?_ ((latchAdopted _ b).trans (levelsBack _ b))
    refine trans ?_ (setBranch _ b _)
    refine trans ?_ (setBranch _ b _)
    refine trans ?_ (when _ _ (f := fun d => d.each (d.branchDrivers b) fun d k => d.safeTrigger k 1) (drivers b _ _))
    exact (log1 _ _ _ _).trans (hresult _ _)
  · refine trans ?_ (setBranch _ b _)
    refine trans ?_ (drivers b _ _)
    refine trans ?_ (drivers b _ _)
    refine trans ?_ (allPostures _ w b)
    exact ((log1 _ _ _ _).trans (hresult _ _)).trans (setBranch _ b _)

theorem wd1Start (d : Dev) : Aloof d d.wd1Start := by
  have hback (e : Dev) (x : Wd) : Aloof e { e with wd1 := x } := of_obj rfl rfl rfl
  exact ite _ ((low d (k := Reg.WD1_STATE) 1 (by decide) (by decide)).trans (hback _ _)) (refl d)

theorem setLock (d : Dev) (v T : Nat) : Aloof d (d.setLock v T) :=
  ((wr d v (by decide) (by decide) (by decide) (by decide)).trans (wr _ T (by decide) (by decide) (by decide) (by decide))).trans
    (when _ _ (f := fun d => d.log1 0x0292 0xFFF9 (v + T / 1000 % 2 ^ 24 * 256)) (log1 _ _ _ _))

theorem cyclesBegin (d : Dev) : Aloof d d.cyclesBegin := ite _ (refl d) (ite _ (setLock d _ _) (ite _ (setLock d _ _) (refl d)))

end Aloof

theorem setLock_recover (d : Dev) (v T : Nat) : (d.setLock v T).recover = d.recover := by
  dsimp only [Dev.setLock]
  generalize (_ || _ : Bool) = c
  cases c
  · rfl
  · rw [Dev.when_true, (log1_quiet _ _ _ _).1]
    rfl

theorem started_recover (d : Dev) : (d.wd1Start.cyclesBegin).recover = d.recover := by
  have hwd : d.wd1Start.recover = d.recover := by
    unfold Dev.wd1Start
    split <;> rfl
  rw [← hwd, Dev.cyclesBegin]
  split
  · rfl
  · split
    · rw [setLock_recover]
    · split
      · rw [setLock_recover]
      · rfl

/-- The restore up to the judgement of the branches (R412). -/
def Dev.readopted (d : Dev) (w : Worn) : Dev :=
  let d := d.wr Reg.DR_EPOCH ((d.rd Reg.DR_EPOCH + 1) % 256)
  let d := ({ d with discarded := [] } : Dev).each d.discarded fun d p => d.log1 0x0289 p.2 p.1
  let d := { d with coef := d.coefNor, coefBad := [] }
  let used := d.unitsUsed
  let d := d.each ((List.range 32).filter fun i => !used.contains i) fun d i => d.restoreBanks 0 i
  let d := d.each d.liveSlots fun d k => d.restoreUnit k
  d.each [0, 1, 2, 3] fun d b => if d.link b = 1 then d.adopt w b else d

theorem readopted_holds {d : Dev} (w : Worn) (h : d.liveSlots = []) :
    (d.readopted w).liveSlots = [] ∧ (d.readopted w).rd Reg.DR_EPOCH = (d.rd Reg.DR_EPOCH + 1) % 256 ∧
    (d.readopted w).rd Reg.GU_MODE = d.rd Reg.GU_MODE ∧ (d.readopted w).coef = d.coefNor ∧ (d.readopted w).discarded = [] := by
  have hadopt (e : Dev) : Aloof e (e.each [0, 1, 2, 3] fun d b => if d.link b = 1 then d.adopt w b else d) :=
    Aloof.each_mem [0, 1, 2, 3] (fun d b hb => Aloof.ite _ (Aloof.adopt d w (b := b) (by
      simp only [List.mem_cons, List.not_mem_nil, or_false] at hb
      omega)) (Aloof.refl d)) e
  have hunits (e : Dev) : Aloof e (e.each e.liveSlots fun d k => d.restoreUnit k) := Aloof.each_none (l := fun d => d.liveSlots) (fun _ h => h) e _
  have hlive : (d.wr Reg.DR_EPOCH ((d.rd Reg.DR_EPOCH + 1) % 256)).liveSlots = [] := (SameHandles.wr d _ (.inl (by decide))).live.trans h
  have hepoch : (d.wr Reg.DR_EPOCH ((d.rd Reg.DR_EPOCH + 1) % 256)).rd Reg.DR_EPOCH = (d.rd Reg.DR_EPOCH + 1) % 256 := by rw [Dev.wr_rd, if_pos rfl]
  have hguards : (d.wr Reg.DR_EPOCH ((d.rd Reg.DR_EPOCH + 1) % 256)).rd Reg.GU_MODE = d.rd Reg.GU_MODE := by rw [Dev.wr_rd, if_neg (by decide)]
  have hnor : (d.wr Reg.DR_EPOCH ((d.rd Reg.DR_EPOCH + 1) % 256)).coefNor = d.coefNor := rfl
  dsimp only [Dev.readopted]
  generalize d.wr Reg.DR_EPOCH _ = a at *
  have hlogs : Aloof { a with discarded := [] } (({ a with discarded := [] } : Dev).each a.discarded fun d p => d.log1 0x0289 p.2 p.1) :=
    Aloof.each _ (fun d p => Aloof.log1 d _ _ _) _
  have hkept : (({ a with discarded := [] } : Dev).each a.discarded fun d p => d.log1 0x0289 p.2 p.1).coefNor = a.coefNor :=
    each_leaves (·.coefNor) _ (fun d p _ => by rw [(log1_quiet d _ _ _).1]) _
  generalize ({ a with discarded := [] } : Dev).each a.discarded (fun d p => d.log1 0x0289 p.2 p.1) = b at *
  have hb := hlogs hlive
  have hrest := ((Aloof.each ((List.range 32).filter fun i => !({ b with coef := b.coefNor, coefBad := [] } : Dev).unitsUsed.contains i)
    (fun d i => Aloof.restoreBanks d i) { b with coef := b.coefNor, coefBad := [] }).trans ((hunits _).trans (hadopt _))) (hb.live.trans hlive)
  exact ⟨hrest.live.trans (hb.live.trans hlive), hrest.epoch.trans (hb.epoch.trans hepoch), hrest.guards.trans (hb.guards.trans hguards),
    hrest.coef.trans (hkept.trans hnor), hrest.discarded.trans hb.discarded⟩

/-- The crown's mode and state after a restore that found no driver. -/
def Dev.begun (d : Dev) : Dev :=
  ({ d.log1 0x0100 0xFFFF (d.cause + d.rungWas * 256) with recover := d.atom } : Dev).modSeq fun x => { x with breach := 0 }

theorem restored_begun (d : Dev) (w : Worn) : d.restored w =
    (if (d.readopted w).adoptedDrivers then ((d.readopted w).wr Reg.DEV_STATE HOLD).pdwRun else
      (d.readopted w).wr Reg.DEV_STATE PREOP).begun.wd1Start.cyclesBegin := rfl

theorem begun_holds (d : Dev) : d.begun.rd Reg.DEV_STATE = d.rd Reg.DEV_STATE ∧ d.begun.rd Reg.DR_EPOCH = d.rd Reg.DR_EPOCH ∧ d.begun.coef = d.coef ∧
    d.begun.discarded = d.discarded ∧ d.begun.recover = d.atom ∧ d.begun.liveSlots = d.liveSlots := by
  have hlog := log1_quiet d 0x0100 0xFFFF (d.cause + d.rungWas * 256)
  have hsame := SameHandles.log1 d 0x0100 0xFFFF (d.cause + d.rungWas * 256)
  have hmode := hlog.2 Reg.DEV_STATE (by rw [logKey_iff]; decide)
  have hepoch := hlog.2 Reg.DR_EPOCH (by rw [logKey_iff]; decide)
  have hcoef := congrArg Dev.coef hlog.1
  have hdisc := congrArg Dev.discarded hlog.1
  rw [Dev.begun]
  generalize d.log1 0x0100 0xFFFF (d.cause + d.rungWas * 256) = e at *
  exact ⟨hmode, hepoch, hcoef, hdisc, rfl, hsame.live⟩

/-- The restore of a module without handles ends in PREOP with the epoch counted on (R412). -/
theorem restored_empty {d : Dev} (w : Worn) (h : d.liveSlots = []) :
    (d.restored w).mode = PREOP ∧ (d.restored w).rd Reg.DR_EPOCH = (d.rd Reg.DR_EPOCH + 1) % 256 ∧ (d.restored w).coef = d.coefNor ∧
    (d.restored w).recover = d.atom ∧ (d.restored w).discarded = [] := by
  have hholds := readopted_holds w h
  rw [restored_begun]
  generalize d.readopted w = e at *
  obtain ⟨hlive, hepoch, hguards, hcoef, hdisc⟩ := hholds
  have hnone : e.adoptedDrivers = false := by
    unfold Dev.adoptedDrivers
    refine List.any_eq_false.2 fun b _ => ?_
    rw [branchDrivers_none hlive]
    simp
  have hset : (e.wr Reg.DEV_STATE PREOP).liveSlots = [] := (SameHandles.wr _ _ (.inl (by decide))).live.trans hlive
  have hep : (e.wr Reg.DEV_STATE PREOP).rd Reg.DR_EPOCH = (d.rd Reg.DR_EPOCH + 1) % 256 := by
    rw [Dev.wr_rd, if_neg (by decide), hepoch]
  have hatom : (e.wr Reg.DEV_STATE PREOP).atom = d.atom := by
    rw [Dev.atom, Dev.wr_rd, if_neg (by decide), hguards, Dev.atom]
  obtain ⟨bmode, bepoch, bcoef, bdisc, brecover, blive⟩ := begun_holds (e.wr Reg.DEV_STATE PREOP)
  have hstart := ((Aloof.wd1Start (e.wr Reg.DEV_STATE PREOP).begun).trans (Aloof.cyclesBegin _)) (blive.trans hset)
  rw [hnone, if_neg Bool.false_ne_true]
  refine ⟨hstart.mode.trans (bmode.trans ?_), hstart.epoch.trans (bepoch.trans hep), hstart.coef.trans (bcoef.trans hcoef), ?_,
    hstart.discarded.trans (bdisc.trans hdisc)⟩
  · rw [Dev.wr_rd, if_pos rfl]
  · rw [started_recover, brecover, hatom]

/-! The start of the crown. -/

/-- What logging does not write stays. -/
theorem rd_logClosed {k : Nat} (hk : ¬ noteKey k) : LogClosed fun d e => e.rd k = d.rd k where
  trans h g := g.trans h
  wr d j v hj := by rw [Dev.wr_rd, if_neg fun he : k = j => hk (he ▸ hj)]
  same h := by rw [Dev.rd, h, Dev.rd]

/-- From d to e crown and core keep their state, and so do the images and the four objects that a start leaves for the others to read. -/
structure Booting (d e : Dev) : Prop where
  crown : e.crownUp = d.crownUp
  core : e.coreUp = d.coreUp
  stuck : e.stuck = d.stuck
  graft : e.graft = d.graft
  cause : e.rd Reg.PWR_RESET_CAUSE = d.rd Reg.PWR_RESET_CAUSE
  vio : e.rd Reg.PWR_VIO = d.rd Reg.PWR_VIO
  clock : e.rd Reg.QM_XSPI_CLOCK = d.rd Reg.QM_XSPI_CLOCK
  watchdog : e.rd Reg.WD0_STATE = d.rd Reg.WD0_STATE

namespace Booting

theorem refl (d : Dev) : Booting d d := ⟨rfl, rfl, rfl, rfl, rfl, rfl, rfl, rfl⟩

theorem trans {d e f : Dev} (h : Booting d e) (g : Booting e f) : Booting d f :=
  ⟨g.crown.trans h.crown, g.core.trans h.core, g.stuck.trans h.stuck, g.graft.trans h.graft, g.cause.trans h.cause, g.vio.trans h.vio,
    g.clock.trans h.clock, g.watchdog.trans h.watchdog⟩

theorem of_obj {d e : Dev} (h : e.obj = d.obj) (h1 : e.crownUp = d.crownUp) (h2 : e.coreUp = d.coreUp) (h3 : e.stuck = d.stuck)
    (h4 : e.graft = d.graft) : Booting d e :=
  have hrd (k : Nat) : e.rd k = d.rd k := by rw [Dev.rd, h, Dev.rd]
  ⟨h1, h2, h3, h4, hrd _, hrd _, hrd _, hrd _⟩

/-- A write to another object. -/
theorem wr (d : Dev) {k : Nat} (v : Nat) (h1 : k ≠ 0x030008) (h2 : k ≠ 0x030002) (h3 : k ≠ 0x440008) (h4 : k ≠ 0x040001) : Booting d (d.wr k v) :=
  have hrd {j : Nat} (hj : k ≠ j) : (d.wr k v).rd j = d.rd j := by rw [Dev.wr_rd, if_neg hj.symm]
  ⟨rfl, rfl, rfl, rfl, hrd h1, hrd h2, hrd h3, hrd h4⟩

theorem when (d : Dev) (c : Bool) {f : Dev → Dev} (h : Booting d (f d)) : Booting d (d.when c f) := by
  cases c
  · exact refl d
  · exact h

theorem ite {d e f : Dev} (c : Prop) [Decidable c] (he : Booting d e) (hf : Booting d f) : Booting d (if c then e else f) := by
  split
  · exact he
  · exact hf

theorem each_mem {α : Type} (l : List α) {f : Dev → α → Dev} (h : ∀ d, ∀ a ∈ l, Booting d (f d a)) (d : Dev) : Booting d (d.each l f) := by
  induction l generalizing d with
  | nil => exact refl d
  | cons a l ih => exact (h d a List.mem_cons_self).trans (ih (fun d b hb => h d b (List.mem_cons_of_mem a hb)) _)

theorem of_quiet {d e : Dev} (h : Quiet d e) (hc : e.rd Reg.QM_XSPI_CLOCK = d.rd Reg.QM_XSPI_CLOCK) : Booting d e :=
  have hlow {k : Nat} (hk : ¬ (k = Reg.OPS_EVT_LOST ∨ k = Reg.EV_TOTAL ∨ k = Reg.OPS_PEAK ∨ 0x400000 ≤ k)) : e.rd k = d.rd k :=
    h.2 k fun hc => hk (hc.imp_right fun h => h.imp_right fun h => h.imp_right fun h => h.1)
  ⟨by rw [h.1], by rw [h.1], by rw [h.1], by rw [h.1], hlow (by decide), hlow (by decide), hc, hlow (by decide)⟩

theorem clock_not_noted : ¬ noteKey Reg.QM_XSPI_CLOCK := fun h => h.2 (by decide)

theorem logs (d : Dev) (es : Evs) : Booting d (d.logs es) := of_quiet (logs_quiet d es) ((rd_logClosed clock_not_noted).logs d es)

theorem log1 (d : Dev) (code src det : Nat) : Booting d (d.log1 code src det) := logs d _

theorem queueReset (d : Dev) {q : Nat} (r : Nat) (hq : q < 64) : Booting d (logged (d.queueReset q r)) :=
  (of_quiet (Quiet.queueReset d q r hq) ((rd_logClosed clock_not_noted).queueReset d q r hq)).trans (logs _ _)

theorem modLife (d : Dev) (f : ModLife → ModLife) : Booting d (d.modLife f) := of_obj rfl rfl rfl rfl rfl

theorem restoreLife (d : Dev) : Booting d d.restoreLife := by
  have hheart (e : Dev) (h : Heart) : Booting e { e with heart := h } := of_obj rfl rfl rfl rfl rfl
  have hchan (e : Dev) (n : Nat) (x : Chan) : Booting e (e.setChan n x) := of_obj rfl rfl rfl rfl rfl
  exact (each_mem (List.range 16) (fun e n _ => hchan e n _) d).trans (hheart _ _)

theorem power (d : Dev) {k : Nat} (v : Nat) (h : 0x030003 ≤ k) (h' : k < 0x030008) : Booting d (d.wr k v) := wr d v (by omega) (by omega) (by omega) (by omega)

theorem logDip (d : Dev) (p : Nat × Nat × Nat) : Booting d (d.logDip p) := by
  refine trans ?_ (log1 _ _ _ _)
  refine trans ?_ (modLife _ _)
  exact ((power d (k := Reg.PWR_DIP_MIN) _ (by decide) (by decide)).trans (power _ (k := Reg.PWR_DIP_TIME) _ (by decide) (by decide))).trans
    (power _ (k := Reg.PWR_DIP_AT) _ (by decide) (by decide))

theorem logDips (d : Dev) : Booting d d.logDips :=
  (of_obj rfl rfl rfl rfl rfl : Booting d { d with dipsD0 := [] }).trans (each_mem _ (fun d p _ => logDip d p) _)

theorem measureVbak (d : Dev) (mv : Nat) : Booting d (d.measureVbak mv) :=
  ((power d (k := Reg.PWR_VBAK) _ (by decide) (by decide)).trans (power _ (k := Reg.PWR_FLAGS) _ (by decide) (by decide))).trans
    (when _ _ (f := fun d => d.log1 0x0104 0xFFFF mv) (log1 _ _ _ _))

theorem memory (d : Dev) {k : Nat} (v : Nat) (h : 0x440001 ≤ k) (h' : k < 0x440008) : Booting d (d.wr k v) := wr d v (by omega) (by omega) (by omega) (by omega)

theorem probe (d : Dev) (size psram : Nat) : Booting d (d.probe (some size) psram) := by
  refine ite _ (refl d) (trans (e := (d.wr Reg.QM_NOR_STATE 1).wr Reg.QM_NOR_SIZE (size % 2 ^ 32)) ?_ (ite _ (refl _) (ite _ ?_ ?_)))
  · exact (memory d (k := Reg.QM_NOR_STATE) _ (by decide) (by decide)).trans (memory _ (k := Reg.QM_NOR_SIZE) _ (by decide) (by decide))
  · exact ((memory _ (k := Reg.QM_PSRAM_STATE) _ (by decide) (by decide)).trans (memory _ (k := Reg.QM_PSRAM_RAW) _ (by decide) (by decide))).trans
      (memory _ (k := Reg.QM_PSRAM_USABLE) _ (by decide) (by decide))
  · exact (memory _ (k := Reg.QM_PSRAM_STATE) _ (by decide) (by decide)).trans (log1 _ _ _ _)

theorem restoreQueues (d : Dev) : Booting d d.restoreQueues := by
  have hstate (d : Dev) (q : Nat) : Booting d (d.wr (Reg.QU_STATE q) 1) := by
    have hkey : Reg.QU_STATE q = 0x400000 + 0x1000 * q + 1 := by show (0x4000 + 0x10 * q) * 256 + 1 = _; omega
    rw [hkey]
    exact wr d 1 (by omega) (by omega) (by omega) (by omega)
  refine trans (each_mem _ (fun d q _ => ?_) d) (each_mem _ (fun d q hq => queueReset d 3 (mem_enabledQueues hq)) _)
  exact (of_obj rfl rfl rfl rfl rfl : Booting d (d.modQueue q fun x => { x with cap := d.segSize q })).trans
    ((hstate _ q).trans (memory _ (k := Reg.QM_SRAM_FREE) _ (by decide) (by decide)))

theorem canopy (d : Dev) {k : Nat} (v : Nat) (h : 0x700000 ≤ k) : Booting d (d.wr k v) := wr d v (by omega) (by omega) (by omega) (by omega)

theorem cnRestart (d : Dev) : Booting d d.cnRestart := by
  dsimp only [Dev.cnRestart]
  refine trans ?_ (canopy _ (k := Reg.CN_SELF) _ (by decide))
  refine trans ?_ (canopy _ (k := Reg.CN_DELTA) _ (by decide))
  refine trans ?_ (canopy _ (k := Reg.CN_MINOR) _ (by decide))
  refine trans ?_ (canopy _ (k := Reg.CN_TIME_LOST) _ (by decide))
  refine trans ?_ (canopy _ (k := Reg.CN_TERM) _ (by decide))
  refine trans ?_ (canopy _ (k := Reg.CN_LEADER) _ (by decide))
  refine trans ?_ (canopy _ (k := Reg.CN_ADMITTED) _ (by decide))
  refine trans ?_ (canopy _ (k := Reg.CN_CAUSE) _ (by decide))
  refine trans ?_ (canopy _ (k := Reg.CN_STATE) _ (by decide))
  exact of_obj rfl rfl rfl rfl rfl

end Booting

/-- The crown with its supply back, and the cause of its reset for the host to read (R397). -/
def Dev.powered (d : Dev) (testHigh : Bool) : Dev :=
  let lost := d.rd Reg.CAL_STATE = 0
  let d := { d with crownUp := true, warn := true, tWarn := none, stuck := testHigh, testHigh := testHigh }
  (d.at (if lost then 0 else d.now)).wr Reg.PWR_RESET_CAUSE d.cause

/-- The start up to the supply's measurement (R397, R409). -/
def Dev.wokenUp (d : Dev) (testHigh : Bool) : Dev :=
  ((d.powered testHigh).restoreLife.modLife fun m =>
    if (d.powered testHigh).restoreLife.cause = 1 then { m with powerUps := m.powerUps + 1 } else { m with resets := m.resets + 1 }).when
    (d.rd Reg.CAL_STATE = 0) fun d => d.log1 0x0808 0xFFFD 0

/-- The first watchdog, the queues, the maps and the canopy of a start. -/
def Dev.tablesBack (d : Dev) : Dev :=
  let d := d.wr Reg.WD0_STATE 1
  let d := { d with wd0 := { start := d.now } }
  let d := d.restoreQueues
  ((d.wr Reg.PI_OUT_LEN (d.mapBytes true)).wr Reg.PI_IN_LEN (d.mapBytes false)).cnRestart

/-- The wake and the dips that the start finds noted. -/
def Dev.wakeLogged (d : Dev) : Dev :=
  match d.wakeD0 with
  | none => d.logDips
  | some n => ((({ d with wakeD0 := none }).wr Reg.PL_LAST_WAKE n).log1 0x0109 0xFFFF (5 + n * 256)).logDips

theorem crownBoot_eq (d : Dev) (vio vbak : Nat) (nor : Option Nat) (testHigh : Bool) (psram : Nat) (ok0 ok1 : Bool) :
    d.crownBoot vio vbak nor testHigh psram ok0 ok1 [] =
      (((((d.wokenUp testHigh).measureVio vio).measureVbak vbak).probe nor psram).bootImages ok0 ok1).tablesBack.wakeLogged := rfl

theorem wokenUp_holds (d : Dev) : (d.wokenUp false).crownUp = true ∧ (d.wokenUp false).stuck = false ∧ (d.wokenUp false).graft = d.graft ∧
    (d.wokenUp false).rd Reg.PWR_RESET_CAUSE = d.cause := by
  have h : Booting (d.powered false) (d.wokenUp false) := (Booting.restoreLife _).trans ((Booting.modLife _ _).trans
    (Booting.when _ _ (f := fun d => d.log1 0x0808 0xFFFD 0) (Booting.log1 _ _ _ _)))
  have hcause : (d.powered false).rd Reg.PWR_RESET_CAUSE = d.cause := by
    rw [Dev.powered, Dev.wr_rd, if_pos rfl]
  exact ⟨h.crown, h.stuck, h.graft, h.cause.trans hcause⟩

theorem tablesBack_booting (d : Dev) : Booting (d.wr Reg.WD0_STATE 1) d.tablesBack := by
  have hwd (e : Dev) (x : Wd) : Booting e { e with wd0 := x } := .of_obj rfl rfl rfl rfl rfl
  have hmaps (e : Dev) (m n : Nat) : Booting e ((e.wr Reg.PI_OUT_LEN m).wr Reg.PI_IN_LEN n) :=
    (Booting.canopy e (k := Reg.PI_OUT_LEN) _ (by decide)).trans (Booting.canopy _ (k := Reg.PI_IN_LEN) _ (by decide))
  exact (hwd (d.wr Reg.WD0_STATE 1) _).trans ((Booting.restoreQueues _).trans ((hmaps _ _ _).trans (Booting.cnRestart _)))

theorem wakeLogged_booting (d : Dev) : Booting d d.wakeLogged := by
  have hwake (e : Dev) (x : Option Nat) : Booting e { e with wakeD0 := x } := .of_obj rfl rfl rfl rfl rfl
  unfold Dev.wakeLogged
  split
  · exact Booting.logDips d
  · next n _ =>
    exact (hwake d none).trans ((Booting.wr _ (k := Reg.PL_LAST_WAKE) n (by decide) (by decide) (by decide) (by decide)).trans
      ((Booting.log1 _ _ _ _).trans (Booting.logDips _)))

theorem started_booting (d : Dev) : Booting (d.wr Reg.WD0_STATE 1) d.tablesBack.wakeLogged := (tablesBack_booting d).trans (wakeLogged_booting _)

/-- A start after a roll-back says so (R390). -/
def Dev.rolledBack (d : Dev) : Dev :=
  let back := d.graft.rollback
  let d := { d with graft := { d.graft with rollback := false } }
  if back then
    ((d.wr Reg.GR_HK_STATE 7).wr Reg.GR_HK_REFUSE 7).log1 0x0814 0xFFFE (d.graft.bank d.graft.active).hdr.version
  else d

theorem rolledBack_booting (d : Dev) : Booting { d with graft := { d.graft with rollback := false } } d.rolledBack :=
  Booting.ite _ (((Booting.canopy _ (k := Reg.GR_HK_STATE) _ (by decide)).trans (Booting.canopy _ (k := Reg.GR_HK_REFUSE) _ (by decide))).trans
    (Booting.log1 _ _ _ _)) (Booting.refl _)

/-- With its active image valid the core starts, and nothing else changes (R389). -/
theorem bootImages_valid {d : Dev} {ok0 ok1 : Bool} (h : (ok0 = true ∧ d.graft.active = 0) ∨ (ok1 = true ∧ d.graft.active = 1)) :
    d.bootImages ok0 ok1 = { d.rolledBack with coreUp := true } := by
  have hactive : d.rolledBack.graft.active = d.graft.active := congrArg (·.active) (rolledBack_booting d).graft
  have hok : (if d.rolledBack.graft.active = 0 then ok0 else ok1) = true := by
    rw [hactive]
    rcases h with ⟨hv, ha⟩ | ⟨hv, ha⟩
    · rw [ha, hv]; rfl
    · rw [ha, hv]; rfl
  exact if_pos hok

theorem measureVio_eq (d : Dev) (mv : Nat) : d.measureVio mv =
    (let f := (d.wr Reg.PWR_VIO (mv % 65536)).wrBit Reg.PWR_FLAGS 1 (decide (3000 ≤ mv ∧ mv ≤ 3600))
      if 1650 ≤ mv ∧ mv ≤ 1950 then f.wr Reg.QM_XSPI_CLOCK 200 else if 3000 ≤ mv ∧ mv ≤ 3600 then f.wr Reg.QM_XSPI_CLOCK 100
      else { (f.wrBit Reg.PWR_FLAGS 2 true).log1 0x0103 0xFFFF mv with stuck := true }) := by
  dsimp only [Dev.measureVio]
  simp only [Bool.and_eq_true, decide_eq_true_eq, Bool.decide_and]

/-- A supply voltage in one of its two ranges is kept, with the clock of the memories (R409). -/
theorem measureVio_good {d : Dev} {vio : Nat} (h : (1650 ≤ vio ∧ vio ≤ 1950) ∨ (3000 ≤ vio ∧ vio ≤ 3600)) :
    d.measureVio vio = ((d.wr Reg.PWR_VIO vio).wrBit Reg.PWR_FLAGS 1 (decide (3000 ≤ vio ∧ vio ≤ 3600))).wr Reg.QM_XSPI_CLOCK
      (if vio ≤ 1950 then 200 else 100) := by
  rw [measureVio_eq, Nat.mod_eq_of_lt (by omega)]
  dsimp only
  by_cases hlow : vio ≤ 1950
  · rw [if_pos (by omega), if_pos hlow]
  · rw [if_neg (by omega), if_pos (by omega), if_neg hlow]

/-- A start with a valid image, in range, with the memories read (R409, R410). -/
theorem crownBoot_holds {d : Dev} {vio vbak size psram : Nat} {ok0 ok1 : Bool}
    (himg : (ok0 = true ∧ d.graft.active = 0) ∨ (ok1 = true ∧ d.graft.active = 1))
    (hvio : (1650 ≤ vio ∧ vio ≤ 1950) ∨ (3000 ≤ vio ∧ vio ≤ 3600)) :
    (d.crownBoot vio vbak (some size) false psram ok0 ok1 []).crownUp = true ∧ (d.crownBoot vio vbak (some size) false psram ok0 ok1 []).coreUp = true ∧
    (d.crownBoot vio vbak (some size) false psram ok0 ok1 []).stuck = false ∧
    (d.crownBoot vio vbak (some size) false psram ok0 ok1 []).rd Reg.PWR_RESET_CAUSE = d.cause ∧
    (d.crownBoot vio vbak (some size) false psram ok0 ok1 []).rd Reg.PWR_VIO = vio ∧
    (d.crownBoot vio vbak (some size) false psram ok0 ok1 []).rd Reg.QM_XSPI_CLOCK = (if vio ≤ 1950 then 200 else 100) ∧
    (d.crownBoot vio vbak (some size) false psram ok0 ok1 []).rd Reg.WD0_STATE = 1 := by
  obtain ⟨hup, hstuck, hgraft, hcause⟩ := wokenUp_holds d
  rw [crownBoot_eq, measureVio_good hvio]
  generalize d.wokenUp false = a at *
  have hmeas : (((a.wr Reg.PWR_VIO vio).wrBit Reg.PWR_FLAGS 1 (decide (3000 ≤ vio ∧ vio ≤ 3600))).wr Reg.QM_XSPI_CLOCK
      (if vio ≤ 1950 then 200 else 100)).rd Reg.PWR_RESET_CAUSE = d.cause := by
    rw [Dev.wr_rd, if_neg (by decide), Dev.wrBit, Dev.wr_rd, if_neg (by decide), Dev.wr_rd, if_neg (by decide), hcause]
  have hvio' : (((a.wr Reg.PWR_VIO vio).wrBit Reg.PWR_FLAGS 1 (decide (3000 ≤ vio ∧ vio ≤ 3600))).wr Reg.QM_XSPI_CLOCK
      (if vio ≤ 1950 then 200 else 100)).rd Reg.PWR_VIO = vio := by
    rw [Dev.wr_rd, if_neg (by decide), Dev.wrBit, Dev.wr_rd, if_neg (by decide), Dev.wr_rd, if_pos rfl]
  have hclock : (((a.wr Reg.PWR_VIO vio).wrBit Reg.PWR_FLAGS 1 (decide (3000 ≤ vio ∧ vio ≤ 3600))).wr Reg.QM_XSPI_CLOCK
      (if vio ≤ 1950 then 200 else 100)).rd Reg.QM_XSPI_CLOCK = if vio ≤ 1950 then 200 else 100 := by rw [Dev.wr_rd, if_pos rfl]
  have hlow : (((a.wr Reg.PWR_VIO vio).wrBit Reg.PWR_FLAGS 1 (decide (3000 ≤ vio ∧ vio ≤ 3600))).wr Reg.QM_XSPI_CLOCK
      (if vio ≤ 1950 then 200 else 100)).crownUp = true ∧ (((a.wr Reg.PWR_VIO vio).wrBit Reg.PWR_FLAGS 1
      (decide (3000 ≤ vio ∧ vio ≤ 3600))).wr Reg.QM_XSPI_CLOCK (if vio ≤ 1950 then 200 else 100)).stuck = false ∧
      (((a.wr Reg.PWR_VIO vio).wrBit Reg.PWR_FLAGS 1 (decide (3000 ≤ vio ∧ vio ≤ 3600))).wr Reg.QM_XSPI_CLOCK
      (if vio ≤ 1950 then 200 else 100)).graft = d.graft := ⟨hup, hstuck, hgraft⟩
  generalize Dev.wr _ Reg.QM_XSPI_CLOCK _ = m at *
  obtain ⟨hup', hstuck', hgraft'⟩ := hlow
  have hb := (Booting.measureVbak m vbak).trans (Booting.probe _ size psram)
  generalize (m.measureVbak vbak).probe (some size) psram = e at *
  have hi := rolledBack_booting e
  rw [bootImages_valid (d := e) (by rw [hb.graft, hgraft']; exact himg)]
  generalize e.rolledBack = i at hi ⊢
  have hafter := started_booting { i with coreUp := true }
  generalize Dev.wakeLogged _ = u at hafter ⊢
  have hlow : i.crownUp = true ∧ i.stuck = false := ⟨hi.crown.trans (hb.crown.trans hup'), hi.stuck.trans (hb.stuck.trans hstuck')⟩
  refine ⟨hafter.crown.trans hlow.1, hafter.core, hafter.stuck.trans hlow.2,
    hafter.cause.trans ?_, hafter.vio.trans ?_, hafter.clock.trans ?_, hafter.watchdog.trans ?_⟩
  · rw [Dev.wr_rd, if_neg (by decide)]
    exact hi.cause.trans (hb.cause.trans hmeas)
  · rw [Dev.wr_rd, if_neg (by decide)]
    exact hi.vio.trans (hb.vio.trans hvio')
  · rw [Dev.wr_rd, if_neg (by decide)]
    exact hi.clock.trans (hb.clock.trans hclock)
  · rw [Dev.wr_rd, if_pos rfl]

/-- Settles O25: the start and the restore go through steps that leave one another's results alone. -/
theorem crownStartsAndRestores : Obligations.CrownStartsAndRestores := by
  unfold Obligations.CrownStartsAndRestores
  intro s t d
  refine ⟨fun vio vbak nor testHigh psram bank0 bank1 failed hdown hvin hawake => ⟨?_, fun himg htest hnor hvio hfailed => ?_⟩, measureVio_eq,
    fun hup hmode hcore hstuck => ⟨?_, fun hlive => ?_⟩, fun hup hcore hgraft hstuck => ?_⟩
  · have hgo : ¬ (s.dev.crownUp || !s.dev.vinValid || s.dev.asleep) = true := by simp [hdown, hvin, hawake]
    exact if_neg hgo
  · obtain ⟨size, rfl⟩ := Option.isSome_iff_exists.1 hnor
    subst htest hfailed
    exact crownBoot_holds himg hvio
  · refine Goes.of_eq (c := .restoreComplete t) (s := s) rfl (if_pos ?_)
    show (s.dev.crownUp && decide (s.dev.mode = INIT) && s.dev.coreUp && !s.dev.stuck) = true
    simp [hup, hmode, hcore, hstuck]
  · obtain ⟨h1, h2, h3, h4, h5⟩ := restored_empty (d := d) s.worn hlive
    exact ⟨h1, h2, h3, h4, h5⟩
  · refine Goes.of_eq (c := .housekeepingCoreResetEnd t) (s := s) rfl (if_pos ?_)
    show (s.dev.crownUp && !s.dev.coreUp && decide (s.dev.rd Reg.GR_HK_STATE ≠ 5) && !s.dev.stuck) = true
    simp [hup, hcore, hgraft, hstuck]

end Sys2Proof.Machine
end

/-! A branch's field supply (R399 to R404): O26. -/
section
namespace Sys2Proof.Machine

/-! A channel that loses its supply. -/

/-- A channel switched off with its branch. -/
def Dev.chanOff (d : Dev) (n t : Nat) : Dev := (d.modChan n fun c => c.offState t).alarmMark n

theorem alarmMark_chan (d : Dev) (n j : Nat) : (d.alarmMark n).chan j = { d.chan j with
    alarmAt := ((d.alarmMark n).chan j).alarmAt, alarmNs := ((d.alarmMark n).chan j).alarmNs } := by
  dsimp only [Dev.alarmMark]
  rw [Dev.modChan, Dev.setChan_chan]
  split
  · next h => rw [h]
  · rfl

theorem modChan_chan (d : Dev) (n j : Nat) (f : Chan → Chan) : (d.modChan n f).chan j = if j = n then f (d.chan n) else d.chan j := by
  rw [Dev.modChan, Dev.setChan_chan]

theorem chanOff_other (d : Dev) {n j : Nat} (t : Nat) (h : j ≠ n) : (d.chanOff n t).chan j = d.chan j := by
  dsimp only [Dev.chanOff, Dev.alarmMark]
  rw [modChan_chan, if_neg h, modChan_chan, if_neg h]

theorem chanOff_self (d : Dev) (n t : Nat) : ((d.chanOff n t).chan n).force = {} ∧ ((d.chanOff n t).chan n).set = (d.chan n).set ∧
    ((d.chanOff n t).chan n).state = if swLatched (d.chan n).state then (d.chan n).state else swOFF := by
  rw [Dev.chanOff, alarmMark_chan, modChan_chan, if_pos rfl]
  exact ⟨rfl, rfl, rfl⟩

theorem chanOff_branch (d : Dev) (n t b : Nat) : (d.chanOff n t).branch b = d.branch b := rfl

/-- All four channels of a branch switched off. -/
def Dev.chansOff (d : Dev) (b t : Nat) : Dev := d.each (List.range 4) fun d i => d.chanOff (4 * b + i) t

theorem chansOff_eq (d : Dev) (b t : Nat) :
    d.chansOff b t = ((((d.chanOff (4 * b + 0) t).chanOff (4 * b + 1) t).chanOff (4 * b + 2) t).chanOff (4 * b + 3) t) := by
  rw [Dev.chansOff, show List.range 4 = [0, 1, 2, 3] from rfl, Dev.each_cons, Dev.each_cons, Dev.each_cons, Dev.each_cons, Dev.each_nil]

theorem chansOff_other (d : Dev) (b t : Nat) {n : Nat} (h : n / 4 ≠ b) : (d.chansOff b t).chan n = d.chan n :=
  each_leaves (·.chan n) (List.range 4) (fun e i hi => chanOff_other e t (by have := List.mem_range.1 hi; omega)) d

theorem chansOff_branch (d : Dev) (b t j : Nat) : (d.chansOff b t).branch j = d.branch j :=
  each_leaves (·.branch j) (List.range 4) (fun e _ _ => chanOff_branch e _ t j) d

theorem chansOff_chan (d : Dev) (b t : Nat) {i : Nat} (hi : i < 4) :
    ((d.chansOff b t).chan (4 * b + i)).force = {} ∧ ((d.chansOff b t).chan (4 * b + i)).set = (d.chan (4 * b + i)).set ∧
    ((d.chansOff b t).chan (4 * b + i)).state = if swLatched (d.chan (4 * b + i)).state then (d.chan (4 * b + i)).state else swOFF := by
  have hoff (e : Dev) (h : e.chan (4 * b + i) = d.chan (4 * b + i)) : ((e.chanOff (4 * b + i) t).chan (4 * b + i)).force = {} ∧
      ((e.chanOff (4 * b + i) t).chan (4 * b + i)).set = (d.chan (4 * b + i)).set ∧
      ((e.chanOff (4 * b + i) t).chan (4 * b + i)).state = if swLatched (d.chan (4 * b + i)).state then (d.chan (4 * b + i)).state else swOFF := by
    rw [← h]
    exact chanOff_self e _ t
  rw [chansOff_eq]
  obtain rfl | rfl | rfl | rfl : i = 0 ∨ i = 1 ∨ i = 2 ∨ i = 3 := by omega
  · rw [chanOff_other _ t (by omega), chanOff_other _ t (by omega), chanOff_other _ t (by omega)]
    exact hoff d rfl
  · rw [chanOff_other _ t (by omega), chanOff_other _ t (by omega)]
    exact hoff _ (chanOff_other _ t (by omega))
  · rw [chanOff_other _ t (by omega)]
    exact hoff _ ((chanOff_other _ t (by omega)).trans (chanOff_other _ t (by omega)))
  · exact hoff _ ((chanOff_other _ t (by omega)).trans ((chanOff_other _ t (by omega)).trans (chanOff_other _ t (by omega))))

theorem ucAbandon_chan (d : Dev) (b reason n : Nat) : (d.ucAbandon b reason).chan n = d.chan n := by
  dsimp only [Dev.ucAbandon]
  split
  · rw [(log1_quiet _ _ _ _).chan, Dev.wr_chan]
    rfl
  · rfl

theorem ucAbandon_branch (d : Dev) (b reason j : Nat) : (d.ucAbandon b reason).branch j = d.branch j := by
  dsimp only [Dev.ucAbandon]
  split
  · rw [(log1_quiet _ _ _ _).branch, Dev.wr_branch]
    rfl
  · rfl

theorem calAbandon_chan (d : Dev) (b n : Nat) : (d.calAbandon b).chan n = d.chan n := by
  unfold Dev.calAbandon
  split
  · rfl
  · unfold Dev.when
    split
    · rfl
    · rfl

/-- A branch switched off: what is left of it, of its channels and of the others. -/
theorem branchOff_holds (d : Dev) (x : Branch) (b t : Nat) :
    (((d.setBranch b x).chansOff b t).ucAbandon b 3).branch b = x ∧
    (∀ i, i < 4 → ((((d.setBranch b x).chansOff b t).ucAbandon b 3).chan (4 * b + i)).force = {} ∧
      ((((d.setBranch b x).chansOff b t).ucAbandon b 3).chan (4 * b + i)).set = (d.chan (4 * b + i)).set ∧
      ((((d.setBranch b x).chansOff b t).ucAbandon b 3).chan (4 * b + i)).state =
        if swLatched (d.chan (4 * b + i)).state then (d.chan (4 * b + i)).state else swOFF) ∧
    ∀ n, n / 4 ≠ b → (((d.setBranch b x).chansOff b t).ucAbandon b 3).chan n = d.chan n := by
  refine ⟨?_, fun i hi => ?_, fun n hn => ?_⟩
  · rw [ucAbandon_branch, chansOff_branch, Dev.setBranch_branch, if_pos rfl]
  · rw [ucAbandon_chan]
    exact chansOff_chan (d.setBranch b x) b t hi
  · rw [ucAbandon_chan, chansOff_other _ b t hn, Dev.setBranch_chan]

/-! A power-up posture on a land without a handle (R47). -/

/-- The output of a power-up posture that is no switch's. -/
def pupNano (e : Dev) (n : Nat) : Nat :=
  match e.rd (Reg.PUP_CODE n) with
  | 3 => e.rd (Reg.PUP_VALUE n)
  | 4 => 3600000
  | 5 => 21000000
  | _ => 0

theorem pupApply_free {e : Dev} {w : Worn} {n : Nat} (hd : (e.drvP n).isNone = true) (hoff : (e.chan n).state = swOFF)
    (hc : e.rd (Reg.PUP_CODE n) ∉ [1, 6]) :
    e.pupApply w n = (if e.rd (Reg.PUP_CODE n) = 7 then e.modChan n fun c => { c with pup := true, safeOn := false, due := false } else
      ((e.modChan n fun c => { c with pup := true, safeOn := false, due := false }).modChan n fun c =>
        { c with force := { nA := pupNano e n }, target := pupNano e n, txOn := false, drive := c.driveFor (pupNano e n) }).alarmMark n) := by
  have hnone : e.drvP n = none := Option.isNone_iff_eq_none.1 hd
  have hdrv : (e.modChan n fun c => { c with pup := true, safeOn := false, due := false }).drvP n = none := hnone
  have hstate : ((e.modChan n fun c => { c with pup := true, safeOn := false, due := false }).chan n).state = swOFF := by
    rw [modChan_chan, if_pos rfl, ← hoff]
  have hval : (e.modChan n fun c => { c with pup := true, safeOn := false, due := false }).rd (Reg.PUP_VALUE n) = e.rd (Reg.PUP_VALUE n) := rfl
  unfold Dev.pupApply pupNano
  dsimp only
  generalize (e.modChan n fun c => { c with pup := true, safeOn := false, due := false }) = f at *
  generalize e.rd (Reg.PUP_CODE n) = c at *
  match c, hc with
  | 0, _ => simp [hdrv, hstate]
  | 2, _ => simp [hdrv, hstate]
  | 3, _ => simp [hdrv, hstate, hval]
  | 4, _ => simp [hdrv, hstate]
  | 5, _ => simp [hdrv, hstate]
  | 7, _ => simp
  | k + 8, _ => simp [hdrv, hstate]

/-- Settles O26: the supply's events are their commands' branches, and a branch off switches its four channels off, one after the other. -/
theorem branchSuppliesAct : Obligations.BranchSuppliesAct := by
  unfold Obligations.BranchSuppliesAct
  intro s b t vf x d
  have hb := b.isLt
  refine ⟨fun hp => ?_, fun hp hl => ?_, fun e n hd hoff hc => pupApply_free hd hoff hc, fun hp hl hu => ?_, fun ms hp hu => ⟨fun hpol => ?_, fun hpol => ?_⟩,
    fun hp => ?_, fun hp hw hlt => ?_, fun hp hw hle => ?_, fun hp hh hlt => ?_, fun hp hh hlt => ?_, fun n code src det hn => ⟨fun hh => ?_, fun hh => ?_⟩⟩
  · exact Goes.of_eq (c := .branchStart b t) (s := s) rfl (if_neg (not_not_intro hp))
  · refine Goes.of_eq (c := .vfbValid b t) (s := s) rfl ((if_neg ?_).trans ?_)
    · show ¬ (decide (x.power = 0) || !x.startLock) = true
      simp [hp, hl]
    · rw [show List.range 4 = [0, 1, 2, 3] from rfl, Dev.each_cons, Dev.each_cons, Dev.each_cons, Dev.each_cons, Dev.each_nil]
      rfl
  · refine Goes.of_eq (c := .underVoltageLock b vf t) (s := s) rfl (if_neg ?_)
    show ¬ (decide (x.power = 0) || x.startLock || x.uvlo) = true
    simp [hp, hl, hu]
  · refine Goes.of_eq (c := .lockReleased b ms t) (s := s) rfl ((if_neg ?_).trans ?_)
    · show ¬ (decide (x.power = 0) || !x.uvlo) = true
      simp [hp, hu]
    · exact congrArg (fun f => Dev.each _ _ f) (funext fun f => funext fun n => if_pos hpol)
  · refine Goes.of_eq (c := .lockReleased b ms t) (s := s) rfl ((if_neg ?_).trans ?_)
    · show ¬ (decide (x.power = 0) || !x.uvlo) = true
      simp [hp, hu]
    · exact congrArg (fun f => Dev.each _ _ f) (funext fun f => funext fun n => if_neg hpol)
  · have hgoes := Goes.of_eq (c := .branchOff b t) (s := s) rfl (if_neg hp)
    obtain ⟨hbranch, hchan, hother⟩ := branchOff_holds (d.calAbandon b) { x with
      power := 0, startLock := false, valid := false, uvlo := false, warn := false, high := false, tOff := some t, linkUp := false,
      holding := false, postured := false, parked := false, configured := false, buf := [], toCrown := [], toBranch := [], nackUp := 0,
      nackDown := 0, refReady := false, refinFault := false, refEnd := false, tempWarn := false, gone := [], trim := 0,
      refMeasA := 0, refMeasB := 0, refT := 0, zeroT := 0, cal := none, calLast := none, driftDue := none, joinT := none } b t
    refine ⟨_, hgoes, ⟨rfl, rfl, rfl⟩, ?_, ?_, ?_, ?_, ?_, fun i hi => ?_, fun n hn => ?_⟩
    · exact congrArg Branch.power hbranch
    · exact congrArg Branch.linkUp hbranch
    · exact congrArg Branch.tOff hbranch
    · exact congrArg Branch.toCrown hbranch
    · exact congrArg Branch.toBranch hbranch
    · have h := hchan i hi
      rw [calAbandon_chan] at h
      exact h
    · exact (hother n hn).trans (calAbandon_chan d b n)
  · refine Goes.of_eq (c := .vfWarn b true vf t) (s := s) rfl (if_neg ?_)
    show ¬ (decide (x.power = 0) || decide (x.warn = true) || decide (x.warnLvl ≤ vf)) = true
    simp [hp, hw, hlt]
  · refine Goes.of_eq (c := .vfWarn b false vf t) (s := s) rfl (if_neg ?_)
    show ¬ (decide (x.power = 0) || decide (x.warn = false) || decide (vf < x.warnLvl + 50)) = true
    simp [hp, hw, hle]
  · refine Goes.of_eq (c := .vfHigh b true vf t) (s := s) rfl (if_neg ?_)
    show ¬ (decide (x.power = 0) || decide (x.high = true) || decide (vf ≤ 6100)) = true
    simp [hp, hh, hlt]
  · refine Goes.of_eq (c := .vfHigh b false vf t) (s := s) rfl (if_neg ?_)
    show ¬ (decide (x.power = 0) || decide (x.high = false) || decide (6000 ≤ vf)) = true
    simp [hp, hh, hlt]
  · exact if_pos (by rw [hn]; exact hh)
  · exact if_neg (by rw [hn]; exact ne_true_of_eq_false hh)

end Sys2Proof.Machine
end

/-! The power ladder (R414 to R420): O27. -/
section
namespace Sys2Proof.Machine

/-- Wherever it starts, a reset leaves the crown down with its cause. -/
theorem crownDown_down (d : Dev) (cause : Nat) : (d.crownDown cause).crownUp = false ∧ (d.crownDown cause).cause = cause := by
  cases hup : d.crownUp with
  | false =>
    rw [Dev.crownDown, if_pos (by rw [hup]; rfl)]
    exact ⟨hup, rfl⟩
  | true =>
    rw [Dev.crownDown, if_neg (by rw [hup]; decide)]
    exact ⟨rfl, rfl⟩

theorem descend_keep {d : Dev} (h : d.rd Reg.PL_TARGET = 5) : d.descend.asleep = true ∧ d.descend.crownUp = false ∧ d.descend.cause = 6 := by
  dsimp only [Dev.descend]
  rw [h, if_pos rfl]
  generalize Dev.wr _ Reg.PL_RUNG 5 = e
  obtain ⟨hup, hcause⟩ := crownDown_down e 6
  exact ⟨rfl, hup, hcause⟩

/-- The descent to the first rung keeps the measurement and the field side (R417). -/
theorem descend_idle {d : Dev} (h : d.rd Reg.PL_TARGET = 1) :
    let e := (d.bump 32 Reg.PL_DESCENTS).log1 0x0108 0xFFFF 1
    d.descend = (({ e with
      maskD0 := e.rd Reg.PL_WAKE_MASK, timeD0 := e.rd Reg.PL_WAKE_TIME, wd0 := { e.wd0 with paused := true }, faultD0 := e.faultLand } : Dev).stopCycles).wr
        Reg.PL_RUNG 1 := by
  intro e
  dsimp only [Dev.descend]
  rw [h, if_neg (by decide)]
  rfl

/-- A wake from the first rung brings the core back and a new cycle (R418, R419). -/
theorem wakeTo_idle (d : Dev) (src : Nat) : d.wakeTo 1 src =
    ((({ ((d.wr Reg.PL_RUNG 0).wr Reg.PL_LAST_WAKE src).wr Reg.WD0_STATE 1 with
        coreUp := true, wd0 := { start := d.now, armed := false, lastC := d.wd0.lastC, lastT := d.wd0.lastT } } : Dev).log1 0x0109 0xFFFF
        (1 + src * 256)).logDips.cyclesBegin) := rfl

/-- Settles O27: descents and wakes are their commands' branches, and what each rung adds follows from the rung. -/
theorem ladderDescendsAndWakes : Obligations.LadderDescendsAndWakes := by
  unfold Obligations.LadderDescendsAndWakes
  intro s t d
  refine ⟨fun hup hmode hrung hblock => ?_, fun ht => descend_idle (d := d) ht, fun ht _ _ => descend_keep (d := d) ht, fun src hw ha => ?_,
    fun src hw ha hup hrung => ?_, fun src hrung hdips => wakeTo_idle d src, ?_, ?_, ?_, ?_, ?_, ?_⟩
  · refine Goes.of_eq (c := .descent t) (s := s) rfl (if_pos ?_)
    show (s.dev.crownUp && decide (s.dev.mode ≠ INIT) && decide (s.dev.rd Reg.PL_RUNG = 0) && decide (d.ladderBlock = 0)) = true
    simp [hup, hmode, hrung, hblock]
  · refine Goes.of_eq (c := .wake src t) (s := s) rfl ((if_neg ?_).trans (if_pos ha))
    show ¬ (!d.wakes src) = true
    rw [hw]
    decide
  · refine Goes.of_eq (c := .wake src t) (s := s) rfl ((if_neg ?_).trans ((if_neg (ne_true_of_eq_false ha)).trans (if_pos ?_)))
    · show ¬ (!d.wakes src) = true
      rw [hw]
      decide
    · show (s.dev.crownUp && decide (s.dev.rd Reg.PL_RUNG ≠ 0)) = true
      simp [hup, hrung]
  · show (bitOf s.dev.maskD0 0 && true && true) = _
    rw [Bool.and_true, Bool.and_true]
  · show (bitOf s.dev.maskD0 1 && true && true) = _
    rw [Bool.and_true, Bool.and_true]
  · show (bitOf s.dev.maskD0 2 && (false || decide (s.dev.rd Reg.SY_LAND_MODE = 0)) && true) = _
    rw [Bool.and_true, Bool.false_or]
  · show (bitOf s.dev.maskD0 3 && true && (false || (decide (s.dev.timeD0 ≠ 0) && decide (s.dev.timeD0 ≤ t)))) = _
    rw [Bool.and_true, Bool.false_or]
  · rfl
  · rfl

end Sys2Proof.Machine
end

/-! The task watchdogs (R323 to R332, R341): O28. -/
section
namespace Sys2Proof.Machine

/-! The procedures of a violation, a check-in, a key and a service. -/

section
variable {d : Dev} {w1 : Bool} {c tick : Nat}

theorem wdViolate_else (h : d.rd (wdState w1) ≠ 1) :
    d.wdViolate w1 c tick = d.setWd w1 { d.wd w1 with viols := ((d.wd w1).viols + 1) % 2 ^ 32, lastC := c, lastT := tick } := by
  dsimp only [Dev.wdViolate]
  rw [if_neg h, if_neg h]

theorem wdViolate_first (h : d.rd Reg.WD0_STATE = 1) : d.wdViolate false c tick =
    ((({ d with wd0 := { d.wd0 with viols := (d.wd0.viols + 1) % 2 ^ 32, lastC := c, lastT := tick, tViol := d.now } } : Dev).wr
      Reg.WD0_STATE 2).log1 (0x01FF + c) 0xFFF4 (d.wdDetail false)).bump 32 Reg.WD0_WARNINGS := by
  have h' : d.rd (wdState false) = 1 := h
  dsimp only [Dev.wdViolate]
  rw [if_pos h', if_pos h']
  rfl

theorem wdViolate_host (h : d.rd Reg.WD1_STATE = 1) :
    let e := (({ d with wd1 := { d.wd1 with viols := (d.wd1.viols + 1) % 2 ^ 32, lastC := c, lastT := tick, tViol := d.now } } : Dev).wr
      Reg.WD1_STATE 2).log1 (0x01FF + c) 0xFFF5 (d.wdDetail true)
    d.wdViolate true c tick = { e with port := { e.port with pend := setBit e.port.pend 5 true } } := by
  have h' : d.rd (wdState true) = 1 := h
  dsimp only [Dev.wdViolate]
  rw [if_pos h', if_pos h']
  rfl

theorem wdCheckIn_still (h : d.wdRuns w1 = false) (id : Nat) : d.wdCheckIn w1 id = d := if_pos (by rw [h]; rfl)

theorem wdKey_still (h : d.wdRuns w1 = false) (v : Nat) : d.wdKey w1 v tick = d := if_pos (by rw [h]; rfl)

variable (h : d.wdRuns w1 = true)
include h

theorem wdCheckIn_fresh {id : Nat} (hs : bitOf (d.wd w1).seen id = false) :
    d.wdCheckIn w1 id = d.setWd w1 { d.wd w1 with seen := setBit (d.wd w1).seen id true } :=
  (if_neg (by rw [h]; decide)).trans (if_neg (ne_true_of_eq_false hs))

theorem wdCheckIn_again {id : Nat} (hs : bitOf (d.wd w1).seen id = true) :
    let e := d.setWd w1 { d.wd w1 with rep := setBit (d.wd w1).rep id true }
    d.wdCheckIn w1 id = e.when (e.wdRepeatFault w1) fun d => d.wdViolate w1 3 (d.wdTick w1) :=
  (if_neg (by rw [h]; decide)).trans (if_pos hs)

theorem wdKey_first (ha : (d.wd w1).armed = false) : d.wdKey w1 0x3C5A tick = d.setWd w1 { d.wd w1 with armed := true } :=
  (if_neg (by rw [h]; decide)).trans (if_pos ⟨rfl, ha⟩)

theorem wdKey_second (ha : (d.wd w1).armed = true) :
    d.wdKey w1 0xA5C3 tick = (d.setWd w1 { d.wd w1 with armed := false }).wdService w1 tick :=
  (if_neg (by rw [h]; decide)).trans ((if_neg fun hc => absurd hc.1 (by decide)).trans (if_pos ⟨rfl, ha⟩))

theorem wdKey_wrong {v : Nat} (h1 : v ≠ 0x3C5A ∨ (d.wd w1).armed = true) (h2 : v ≠ 0xA5C3 ∨ (d.wd w1).armed = false) :
    d.wdKey w1 v tick = (d.setWd w1 { d.wd w1 with armed := false }).wdViolate w1 2 tick := by
  refine (if_neg (by rw [h]; decide)).trans ((if_neg fun hc => ?_).trans (if_neg fun hc => ?_))
  · exact h1.elim (fun hv => hv hc.1) fun ha => Bool.false_ne_true (hc.2.symm.trans ha)
  · exact h2.elim (fun hv => hv hc.1) fun ha => Bool.false_ne_true (ha.symm.trans hc.2)

end

section
variable {d : Dev} {w1 : Bool} {tick : Nat}

theorem wdService_missing (h : d.wdMissing w1 ≠ 0) : d.wdService w1 tick = d.setWd w1 { d.wd w1 with inc := ((d.wd w1).inc + 1) % 2 ^ 32 } :=
  if_pos h

variable (hm : d.wdMissing w1 = 0)
include hm

theorem wdService_early (h1 : d.rd (wdState w1) = 1) (ht : tick < d.wdOpen w1) : d.wdService w1 tick = d.wdViolate w1 1 tick :=
  (if_neg (not_not_intro hm)).trans (if_pos ⟨h1, ht⟩)

theorem wdService_good (h1 : d.rd (wdState w1) = 1) (ht : d.wdOpen w1 ≤ tick) :
    d.wdService w1 tick = (d.wr (wdState w1) 1).setWd w1 { d.wd w1 with start := d.now, seen := 0, rep := 0 } := by
  dsimp only [Dev.wdService]
  rw [if_neg (not_not_intro hm), if_neg fun hc => absurd hc.2 (Nat.not_lt.2 ht), h1]
  rfl

theorem wdService_return (h : d.rd (wdState w1) = 2 ∨ d.rd (wdState w1) = 3) :
    let x := d.wd w1
    let b := if d.rd (wdState w1) = 3 then 1 else 0
    let e := if d.rd (wdState w1) = 2 then d.bump 32 (if w1 then Reg.WD1_RETURNS else Reg.WD0_RETURNS) else d
    let f := e.log1 0x0205 (wdSrc w1) (min (2 ^ 24 - 1) ((d.now - x.tViol) / 1000) + b * 2 ^ 24)
    d.wdService w1 tick = (f.wr (wdState w1) 1).setWd w1 { x with start := d.now, seen := 0, rep := 0 } := by
  have hnow (e : Dev) (code src det : Nat) : (e.log1 code src det).now = e.now := by rw [(log1_quiet _ _ _ _).1]
  rcases h with h | h
  · simp [Dev.wdService, hm, h, hnow, nat01, Wd.cycle, Dev.bump]
  · simp [Dev.wdService, hm, h, hnow, nat01, Wd.cycle]

end

/-! The engine's bookkeeping beside them. -/

/-- The module with its answer, its requesters, its transactions and the noted tick of a key set. -/
def Dev.booking (d : Dev) (p : Resp) (rs : List Requester) (xs : List Txn) (k : Option Nat) : Dev :=
  { d with resp := p, reqs := rs, txns := xs, wd1 := { d.wd1 with cap := k } }

section
variable (d : Dev) (p : Resp) (rs : List Requester) (xs : List Txn) (k : Option Nat)

theorem booking_log1 (code src det : Nat) : (d.booking p rs xs k).log1 code src det = (d.log1 code src det).booking p rs xs k := by
  have hbeside : d.booking p rs xs k = d.beside ⟨p, rs, xs, d.ring, { d.wd1 with cap := k }⟩ := rfl
  have hkept : (d.log1 code src det).ring = d.ring ∧ (d.log1 code src det).wd1 = d.wd1 := by
    rw [(log1_quiet d code src det).1]
    exact ⟨rfl, rfl⟩
  obtain ⟨hring, hwd⟩ := hkept
  rw [hbeside, beside_log1, ← hring, ← hwd]
  rfl

theorem booking_ite (c : Prop) [Decidable c] (e f : Dev) :
    (if c then e.booking p rs xs k else f.booking p rs xs k) = (if c then e else f).booking p rs xs k := (apply_ite (fun x : Dev => x.booking p rs xs k) c e f).symm

theorem booking_wdViolate (c tick : Nat) : (d.booking p rs xs k).wdViolate true c tick = (d.wdViolate true c tick).booking p rs xs k := by
  by_cases h : d.rd Reg.WD1_STATE = 1
  · have h' : (d.booking p rs xs k).rd Reg.WD1_STATE = 1 := h
    rw [wdViolate_host h, wdViolate_host h']
    have hset : (({ d.booking p rs xs k with wd1 := { (d.booking p rs xs k).wd1 with
        viols := ((d.booking p rs xs k).wd1.viols + 1) % 2 ^ 32, lastC := c, lastT := tick, tViol := (d.booking p rs xs k).now } } : Dev).wr
        Reg.WD1_STATE 2) = (({ d with wd1 := { d.wd1 with
          viols := (d.wd1.viols + 1) % 2 ^ 32, lastC := c, lastT := tick, tViol := d.now } } : Dev).wr Reg.WD1_STATE 2).booking p rs xs k := rfl
    dsimp only
    rw [hset, booking_log1]
    rfl
  · have h' : (d.booking p rs xs k).rd (wdState true) ≠ 1 := h
    rw [wdViolate_else (w1 := true) h, wdViolate_else h']
    rfl

theorem booking_when (c : Bool) (f : Dev → Dev) (hf : f (d.booking p rs xs k) = (f d).booking p rs xs k) :
    (d.booking p rs xs k).when c f = (d.when c f).booking p rs xs k := by
  cases c
  · rfl
  · exact hf

/-- A service that is not turned away, by the watchdog's state. -/
theorem wdService_served (e : Dev) {tick : Nat} (hm : e.wdMissing true = 0) (h : ¬ (e.rd Reg.WD1_STATE = 1 ∧ tick < e.wdOpen true)) :
    e.wdService true tick = (fun u : Dev => (u.wr Reg.WD1_STATE 1).setWd true (e.wd1.cycle u.now))
      ((e.when (e.rd Reg.WD1_STATE = 2) fun d => d.bump 32 Reg.WD1_RETURNS).when (e.rd Reg.WD1_STATE = 2 || e.rd Reg.WD1_STATE = 3) fun d =>
        d.log1 0x0205 0xFFF5 (min (2 ^ 24 - 1) ((d.now - e.wd1.tViol) / 1000) + nat01 (e.rd Reg.WD1_STATE = 3) * 2 ^ 24)) :=
  (if_neg (not_not_intro hm)).trans (if_neg h)

theorem booking_wdService (tick : Nat) : (d.booking p rs xs k).wdService true tick = (d.wdService true tick).booking p rs xs k := by
  by_cases hm : d.wdMissing true = 0
  · by_cases h : d.rd Reg.WD1_STATE = 1 ∧ tick < d.wdOpen true
    · have h' : (d.booking p rs xs k).rd Reg.WD1_STATE = 1 ∧ tick < (d.booking p rs xs k).wdOpen true := h
      rw [wdService_early (w1 := true) hm h.1 h.2, wdService_early (d := d.booking p rs xs k) (w1 := true) hm h'.1 h'.2, booking_wdViolate]
    · rw [wdService_served d hm h, wdService_served (d.booking p rs xs k) hm h]
      refine congrArg (fun u : Dev => (u.wr Reg.WD1_STATE 1).setWd true ((d.booking p rs xs k).wd1.cycle u.now)) (?_ : _ = Dev.booking _ p rs xs k)
      have hbump : (d.booking p rs xs k).when (d.rd Reg.WD1_STATE = 2) (fun d => d.bump 32 Reg.WD1_RETURNS) =
          (d.when (d.rd Reg.WD1_STATE = 2) fun d => d.bump 32 Reg.WD1_RETURNS).booking p rs xs k := booking_when d p rs xs k _ _ rfl
      refine (congrArg (fun e : Dev => e.when (d.rd Reg.WD1_STATE = 2 || d.rd Reg.WD1_STATE = 3) fun u =>
        u.log1 0x0205 0xFFF5 (min (2 ^ 24 - 1) ((u.now - d.wd1.tViol) / 1000) + nat01 (d.rd Reg.WD1_STATE = 3) * 2 ^ 24)) hbump).trans ?_
      exact booking_when _ p rs xs k _ _ (booking_log1 _ p rs xs k _ _ _)
  · rw [wdService_missing (w1 := true) hm, wdService_missing (d := d.booking p rs xs k) (w1 := true) hm]
    rfl

theorem booking_wdKey (v tick : Nat) : (d.booking p rs xs k).wdKey true v tick = (d.wdKey true v tick).booking p rs xs k := by
  have hset : (d.booking p rs xs k).setWd true { (d.booking p rs xs k).wd true with armed := false } =
      (d.setWd true { d.wd true with armed := false }).booking p rs xs k := rfl
  cases hr : d.wdRuns true with
  | false =>
    have hr' : (d.booking p rs xs k).wdRuns true = false := hr
    rw [wdKey_still hr, wdKey_still hr']
  | true =>
    have hr' : (d.booking p rs xs k).wdRuns true = true := hr
    by_cases h1 : v = 0x3C5A ∧ d.wd1.armed = false
    · rw [h1.1, wdKey_first hr h1.2, wdKey_first hr' h1.2]
      rfl
    · by_cases h2 : v = 0xA5C3 ∧ d.wd1.armed = true
      · rw [h2.1, wdKey_second hr h2.2, wdKey_second hr' h2.2, hset, booking_wdService]
      · have h1' : v ≠ 0x3C5A ∨ d.wd1.armed = true := by
          rw [not_and_or, Bool.not_eq_false] at h1
          exact h1
        have h2' : v ≠ 0xA5C3 ∨ d.wd1.armed = false := by
          rw [not_and_or, Bool.not_eq_true] at h2
          exact h2
        rw [wdKey_wrong hr h1' h2', wdKey_wrong hr' h1' h2', hset, booking_wdViolate]

theorem booking_wd1Start : (d.booking p rs xs k).wd1Start = d.wd1Start.booking p rs xs k := by
  by_cases h : d.rd Reg.WD1_ENABLE = 1 ∧ d.mode ≠ INIT ∧ d.rd Reg.WD1_STATE = 0
  · rw [Dev.wd1Start, Dev.wd1Start, if_pos h]
    exact if_pos h
  · rw [Dev.wd1Start, Dev.wd1Start, if_neg h]
    exact if_neg h

theorem booking_wdCheckIn (id : Nat) : (d.booking p rs xs k).wdCheckIn true id = (d.wdCheckIn true id).booking p rs xs k := by
  have hset : (d.booking p rs xs k).setWd true { (d.booking p rs xs k).wd true with rep := setBit ((d.booking p rs xs k).wd true).rep id true } =
      (d.setWd true { d.wd true with rep := setBit (d.wd true).rep id true }).booking p rs xs k := rfl
  cases hr : d.wdRuns true with
  | false =>
    have hr' : (d.booking p rs xs k).wdRuns true = false := hr
    rw [wdCheckIn_still hr, wdCheckIn_still hr']
  | true =>
    have hr' : (d.booking p rs xs k).wdRuns true = true := hr
    cases hs : bitOf d.wd1.seen id with
    | false =>
      rw [wdCheckIn_fresh (w1 := true) hr hs, wdCheckIn_fresh (d := d.booking p rs xs k) (w1 := true) hr' hs]
      rfl
    | true =>
      rw [wdCheckIn_again (w1 := true) hr hs, wdCheckIn_again (d := d.booking p rs xs k) (w1 := true) hr' hs]
      dsimp only
      rw [hset]
      exact booking_when _ p rs xs k _ _ (booking_wdViolate _ p rs xs k _ _)

end

/-! What the watchdogs leave of the digests, the instant and the epoch. -/

theorem SameHandles.digestCovers {d e : Dev} (h : SameHandles d e) (ks : List Nat) (b : Nat) : e.digestCovers ks b = d.digestCovers ks b := by
  funext p
  by_cases hp : 0x2000 ≤ p.1 / 256 ∧ p.1 / 256 < 0x4000
  · have hrows : rowsAt (fun k => e.kind k) (p.1 / 256) = rowsAt (fun k => d.kind k) (p.1 / 256) := by
      unfold rowsAt
      rw [if_pos hp, if_pos hp]
      dsimp only
      rw [h.kind (show (p.1 / 256 - 0x2000) / 0x40 < 128 by omega)]
    unfold Dev.digestCovers objInfo
    rw [hrows]
  · rw [digestCovers_plain hp, digestCovers_plain hp]

/-- From d to e the instant, the epoch and the digests stay. -/
structure Lasting (d e : Dev) : Prop where
  now : e.now = d.now
  epoch : e.rd Reg.DR_EPOCH = d.rd Reg.DR_EPOCH
  digest : ∀ b, b < 4 → e.digestContent b = d.digestContent b

namespace Lasting

theorem refl (d : Dev) : Lasting d d := ⟨rfl, rfl, fun _ _ => rfl⟩

theorem trans {d e f : Dev} (h : Lasting d e) (g : Lasting e f) : Lasting d f :=
  ⟨g.now.trans h.now, g.epoch.trans h.epoch, fun b hb => (g.digest b hb).trans (h.digest b hb)⟩

theorem of_obj {d e : Dev} (h : e.obj = d.obj) (hn : e.now = d.now) : Lasting d e := by
  have hs := SameHandles.of_obj h
  refine ⟨hn, by rw [Dev.rd, h, Dev.rd], fun b _ => ?_⟩
  rw [digestContent_eq, digestContent_eq, hs.branchDrivers b, hs.digestCovers, h]

theorem setWd (d : Dev) (w1 : Bool) (x : Wd) : Lasting d (d.setWd w1 x) := by
  cases w1
  · exact of_obj rfl rfl
  · exact of_obj rfl rfl

/-- A write to an object of a watchdog. -/
theorem wr (d : Dev) {k : Nat} (v : Nat) (hk : 0x040000 ≤ k ∧ k < 0x040200) : Lasting d (d.wr k v) := by
  have hs := SameHandles.wr d (k := k) v (.inl (by omega))
  refine ⟨rfl, by rw [Dev.wr_rd, if_neg (by show (0x024001 : Nat) ≠ k; omega)], fun b _ => ?_⟩
  rw [digestContent_eq, digestContent_eq, hs.branchDrivers b, hs.digestCovers]
  refine filter_tabSet dfltOf _ d.obj k v fun u => ?_
  rw [digestCovers_plain (by dsimp only; omega)]
  simp only [Bool.or_eq_false_iff, Bool.and_eq_false_iff, decide_eq_false_iff_not]
  refine ⟨?_, ?_⟩
  · left; left
    omega
  · show ¬ k = 0x042001 + b
    omega

theorem log1 (d : Dev) (code src det : Nat) : Lasting d (d.log1 code src det) :=
  have h : QueueOnly d (d.log1 code src det) := QueueOnly.logs d _
  ⟨h.now, h.quiet.2 _ fun hk => absurd (logKey_iff.1 hk) (by decide), fun _ hb => h.digestContent hb⟩

theorem when (d : Dev) (c : Bool) {f : Dev → Dev} (h : Lasting d (f d)) : Lasting d (d.when c f) := by
  cases c
  · exact refl d
  · exact h

theorem ite {d e f : Dev} (c : Prop) [Decidable c] (he : Lasting d e) (hf : Lasting d f) : Lasting d (if c then e else f) := by
  split
  · exact he
  · exact hf

theorem wdViolate (d : Dev) (c tick : Nat) : Lasting d (d.wdViolate true c tick) := by
  have hport (e : Dev) (x : Port) : Lasting e { e with port := x } := of_obj rfl rfl
  exact (setWd d true _).trans (ite _ (((wr _ (k := Reg.WD1_STATE) 2 (by decide)).trans (log1 _ _ _ _)).trans (hport _ _)) (refl _))

theorem wdCheckIn (d : Dev) (id : Nat) : Lasting d (d.wdCheckIn true id) :=
  ite _ (refl d) (ite _ ((setWd d true _).trans (when _ _ (f := fun d => d.wdViolate true 3 (d.wdTick true)) (wdViolate _ _ _))) (setWd d true _))

theorem wdService (d : Dev) (tick : Nat) : Lasting d (d.wdService true tick) := by
  refine ite _ (setWd d true _) (ite _ (wdViolate d 1 tick) ?_)
  refine trans ?_ ((wr _ (k := Reg.WD1_STATE) 1 (by decide)).trans (setWd _ true _))
  exact (when d _ (f := fun d => d.bump 32 Reg.WD1_RETURNS) (wr d (k := Reg.WD1_RETURNS) _ (by decide))).trans
    (when _ _ (f := fun u => u.log1 0x0205 0xFFF5 (min (2 ^ 24 - 1) ((u.now - d.wd1.tViol) / 1000) + nat01 (d.rd Reg.WD1_STATE = 3) * 2 ^ 24))
      (log1 _ _ _ _))

theorem wdKey (d : Dev) (v tick : Nat) : Lasting d (d.wdKey true v tick) :=
  ite _ (refl d) (ite _ (setWd d true _) (ite _ ((setWd d true _).trans (wdService _ tick)) ((setWd d true _).trans (wdViolate _ 2 tick))))

theorem wd1Set (d : Dev) (v : Nat) : Lasting d (d.wd1Set v) := by
  have hwd (e : Dev) (x : Wd) : Lasting e { e with wd1 := x } := of_obj rfl rfl
  refine (wr d (k := Reg.WD1_ENABLE) v (by decide)).trans (ite _ (ite _ ?_ (refl _)) ?_)
  · exact (wr _ (k := Reg.WD1_STATE) 1 (by decide)).trans (hwd _ _)
  · exact (wr _ (k := Reg.WD1_STATE) 0 (by decide)).trans (hwd _ _)

end Lasting

/-! A WRITE of the host's watchdog's objects. -/

section
variable {c : Instr} {s : State} {q : Request} {op : Dev → Dev}

theorem outside_watch {d : Dev} {w : Worn} {v : Nat} {x : Entry} (hix : q.ix = 0x0401) (hx : x.ix = 0x0401) (hsub : x.sub = 1 ∨ x.sub = 8 ∨ x.sub = 9) :
    d.outside w q v x = (d.withDigests (·.applyEntry w x), {}) := by
  have hcheck : d.entryCheck w x = OK := by
    unfold Dev.entryCheck
    rw [hx]
    rcases hsub with h | h | h <;> rw [h] <;> rfl
  have hdirect : d.direct w x = (d.withDigests (·.applyEntry w x), {}) := by
    rw [Dev.direct, hcheck]
    rfl
  have hkey : x.key ≠ Reg.BR_RELEASE := by
    rw [Entry.key, hx]
    show (0x0401 * 256 + x.sub : Nat) ≠ 0x04200D
    omega
  have h1 : actsAtOnce q.ix q.sub = true := by rw [hix]; rfl
  rw [← hdirect, Dev.outside]
  simp only [hix, hkey]
  rw [hix] at h1
  simp [h1]

/-- An effect that goes through the engine's bookkeeping untouched and leaves every digest is what the command does. -/
theorem Permitted.watch_acts (hp : Permitted c s q) (hix : q.ix = 0x0401) (hsub : q.sub = 1 ∨ q.sub = 8 ∨ q.sub = 9) (hl : ∀ d, Lasting d (op d))
    (hb : ∀ d p rs xs k, op (d.booking p rs xs k) = (op d).booking p rs xs k)
    (hact : ∀ rs xs, (s.dev.booked q.t {} rs xs).applyEntry s.worn (s.dev.entryOf q) = op (s.dev.booked q.t {} rs xs)) :
    Obeys c s q {} (op (s.dev.at q.t)) := by
  obtain ⟨rs, he⟩ := arrived_booked s.dev q
  have hself : op (s.dev.at q.t) = (op (s.dev.at q.t)).booking s.dev.resp s.dev.reqs s.dev.txns s.dev.wd1.cap :=
    hb (s.dev.at q.t) s.dev.resp s.dev.reqs s.dev.txns s.dev.wd1.cap
  have htxns : (op (s.dev.at q.t)).txns = s.dev.txns := by rw [hself]; rfl
  have hcap : (op (s.dev.at q.t)).wd1 = { (op (s.dev.at q.t)).wd1 with cap := s.dev.wd1.cap } := by rw [hself]; rfl
  have hlast := hl (s.dev.booked q.t {} rs (s.dev.used q).txns)
  have hwd : (s.dev.booked q.t {} rs (s.dev.used q).txns).withDigests (·.applyEntry s.worn (s.dev.entryOf q)) =
      op (s.dev.booked q.t {} rs (s.dev.used q).txns) := by
    rw [withDigests_of_same _ (·.applyEntry s.worn (s.dev.entryOf q)) fun b hb => by rw [hact]; exact hlast.digest b hb]
    exact hact rs _
  have hbook : op (s.dev.booked q.t {} rs (s.dev.used q).txns) =
      (op (s.dev.at q.t)).booked (op (s.dev.at q.t)).now {} rs (s.dev.used q).txns := by
    refine (hb (s.dev.at q.t) {} rs (s.dev.used q).txns s.dev.wd1.cap).trans ?_
    rw [Dev.booking, ← hcap]
    rfl
  refine hp.obeys (x := op (s.dev.booked q.t {} rs (s.dev.used q).txns)) (by rw [he, outside_watch hix hix hsub, hwd]) (fun h => absurd h (by decide))
    ?_ ?_ hlast.now hlast.epoch
  · show (op _).aside = _
    rw [hbook]
    exact booked_aside s.dev (op (s.dev.at q.t)) q (op (s.dev.at q.t)).now {} rs htxns
  · rw [he, hbook]
    rfl

end

section
variable {s : State} {r : Req}

theorem checkIn_obeys {id : Nat} (hid : id < 16) (hp : s.dev.permits (writeReq r Reg.WD1_CHECKIN 0 1 id)) :
    Obeys (.wdCheckin true r id) s (writeReq r Reg.WD1_CHECKIN 0 1 id) {} ((s.dev.at r.t).wdCheckIn true id) := by
  have hperm := Permitted.of_writeReq (c := .wdCheckin true r id) (s := s) rfl (by decide) hp
  refine hperm.watch_acts rfl (.inr (.inl rfl)) (Lasting.wdCheckIn · id) (fun d p rs xs k => booking_wdCheckIn d p rs xs k id) fun rs xs => ?_
  have hval : (s.dev.entryOf (writeReq r Reg.WD1_CHECKIN 0 1 id)).val = id := by
    exact masked_small (v := id) (ix := 0x0401) (sub := 8) rfl (by omega)
  show (s.dev.booked _ {} rs xs).wdCheckIn true (s.dev.entryOf (writeReq r Reg.WD1_CHECKIN 0 1 id)).val = _
  rw [hval]

/-- The module with the tick of a key noted, or forgotten. -/
def Dev.capped (d : Dev) (k : Option Nat) : Dev := { d with wd1 := { d.wd1 with cap := k } }

theorem wdKey_capped (d : Dev) (v tick : Nat) (k : Option Nat) : ((d.capped k).wdKey true v tick).capped none = (d.wdKey true v tick).capped none := by
  have hself : d.wdKey true v tick = (d.wdKey true v tick).booking d.resp d.reqs d.txns d.wd1.cap := booking_wdKey d d.resp d.reqs d.txns d.wd1.cap v tick
  have hcap : (d.capped k).wdKey true v tick = (d.wdKey true v tick).booking d.resp d.reqs d.txns k := booking_wdKey d d.resp d.reqs d.txns k v tick
  rw [hcap]
  conv_rhs => rw [hself]
  rfl

/-- A key of the host's watchdog, written while its tick is noted (R326). -/
theorem key_obeys {v tick : Nat} {c : Instr} (hv : v < 65536) (hc : exec c s = s.key true r v tick) (hp : s.dev.permits (writeReq r Reg.WD1_KEY 0 2 v)) :
    Obeys c s (writeReq r Reg.WD1_KEY 0 2 v) {} (((s.dev.at r.t).wdKey true v tick).capped none) := by
  have hp' : (s.dev.capped (some tick)).permits (writeReq r Reg.WD1_KEY 0 2 v) := hp
  have hperm := Permitted.of_writeReq (c := .registerWrite (writeReq r Reg.WD1_KEY 0 2 v)) (s := { s with dev := s.dev.capped (some tick) })
    rfl (show 2 ≤ 16 by decide) hp'
  obtain ⟨t, hex, hrest, hans, haside⟩ := hperm.watch_acts (op := fun d => d.wdKey true v tick) rfl (.inr (.inr rfl)) (Lasting.wdKey · v tick)
    (fun d p rs xs k => booking_wdKey d p rs xs k v tick) fun rs xs => by
      have hval : (Dev.entryOf (s.dev.capped (some tick)) (writeReq r Reg.WD1_KEY 0 2 v)).val = v := by
        exact masked_small (v := v) (ix := 0x0401) (sub := 9) rfl (by omega)
      show Dev.wdKey _ true (Dev.entryOf (s.dev.capped (some tick)) (writeReq r Reg.WD1_KEY 0 2 v)).val tick = _
      rw [hval]
  obtain ⟨hpending, hps, hworn⟩ := hrest
  obtain ⟨hnow, hresp, hself, hothers⟩ := hans
  refine ⟨{ t with dev := t.dev.capped none }, ?_, ⟨hpending, hps, hworn⟩, ⟨hnow, hresp, hself, hothers⟩, ?_⟩
  · have ht : { s with dev := (((s.dev.capped (some tick)).at r.t).request ⟨s.ps, s.worn⟩ (writeReq r Reg.WD1_KEY 0 2 v)) } = t := Host.Outcome.next.inj hex
    rw [hc, ← ht]
    rfl
  · show t.dev.aside.capped none = _
    rw [haside]
    exact congrArg Dev.aside (wdKey_capped (s.dev.at r.t) v tick (some tick))

theorem wd1Set_entry (d : Dev) {v : Nat} (hv : v < 256) : d.applyEntry s.worn (s.dev.entryOf (writeReq r Reg.WD1_ENABLE 0 1 v)) = d.wd1Set v := by
  have hval : (s.dev.entryOf (writeReq r Reg.WD1_ENABLE 0 1 v)).val = v := by
    exact masked_small (v := v) (ix := 0x0401) (sub := 1) rfl (by omega)
  show d.wd1Set (s.dev.entryOf (writeReq r Reg.WD1_ENABLE 0 1 v)).val = _
  rw [hval]

theorem enable_obeys (hp : s.dev.permits (writeReq r Reg.WD1_ENABLE 0 1 1)) (h0 : s.dev.rd Reg.WD1_STATE = 0) :
    Obeys (.wd1Enable r) s (writeReq r Reg.WD1_ENABLE 0 1 1) {}
      { (s.dev.wr Reg.WD1_ENABLE 1).wr Reg.WD1_STATE 1 with wd1 := { s.dev.wd1 with start := r.t, seen := 0, rep := 0, armed := false } } := by
  have hperm := Permitted.of_writeReq (c := .wd1Enable r) (s := s) rfl (by decide) hp
  have hmode : s.dev.mode ≠ INIT := hp.1.2.2.1
  have h := hperm.watch_acts (op := fun d => d.wd1Set 1) rfl (.inl rfl) (Lasting.wd1Set · 1) (fun d p rs xs k => booking_wd1Start (d.wr Reg.WD1_ENABLE 1) p rs xs k)
    fun rs xs => wd1Set_entry _ (by decide)
  have hset : (s.dev.at r.t).wd1Set 1 =
      { (s.dev.wr Reg.WD1_ENABLE 1).wr Reg.WD1_STATE 1 with now := r.t, wd1 := { s.dev.wd1 with start := r.t, seen := 0, rep := 0, armed := false } } := by
    have hmode' : ((s.dev.at r.t).wr Reg.WD1_ENABLE 1).mode ≠ INIT := by
      rw [Dev.mode, Dev.wr_rd, if_neg (by decide)]
      exact hmode
    have hgo : ((s.dev.at r.t).wr Reg.WD1_ENABLE 1).rd Reg.WD1_ENABLE = 1 ∧ ((s.dev.at r.t).wr Reg.WD1_ENABLE 1).mode ≠ INIT ∧
        ((s.dev.at r.t).wr Reg.WD1_ENABLE 1).rd Reg.WD1_STATE = 0 :=
      ⟨by rw [Dev.wr_rd, if_pos rfl], hmode', by rw [Dev.wr_rd, if_neg (by decide)]; exact h0⟩
    exact (rfl : (s.dev.at r.t).wd1Set 1 = ((s.dev.at r.t).wr Reg.WD1_ENABLE 1).wd1Start).trans (if_pos hgo)
  have h' : Obeys (.wd1Enable r) s (writeReq r Reg.WD1_ENABLE 0 1 1) {} ((s.dev.at r.t).wd1Set 1) := h
  rw [hset] at h'
  exact h'

theorem disable_obeys (hp : s.dev.permits (writeReq r Reg.WD1_ENABLE 0 1 0)) :
    Obeys (.wd1Disable r) s (writeReq r Reg.WD1_ENABLE 0 1 0) {}
      { (s.dev.wr Reg.WD1_ENABLE 0).wr Reg.WD1_STATE 0 with wd1 := { s.dev.wd1 with armed := false } } := by
  have hperm := Permitted.of_writeReq (c := .wd1Disable r) (s := s) rfl (by decide) hp
  exact hperm.watch_acts (op := fun d => d.wd1Set 0) rfl (.inl rfl) (Lasting.wd1Set · 0) (fun d p rs xs k => rfl) fun rs xs => wd1Set_entry _ (by decide)

theorem checkIn_refused {id : Nat} (h16 : 16 ≤ id) (h256 : id < 256) (hs : s.dev.serves r.id r.seq) (ho : s.dev.openTxn r.id = none) :
    Obeys (.wdCheckin true r id) s (writeReq r Reg.WD1_CHECKIN 0 1 id) { status := RANGE } s.dev := by
  have hst : s.dev.writeAccess (s.dev.serviceOf r.id) false 0x0401 8 0 1 id = RANGE := by
    have hmask : s.dev.masked 0x0401 8 id = id := masked_small rfl (by omega)
    have hrow : s.dev.info 0x0401 8 = some ⟨.u 1, .wo, 0, .vol, false, .span 0 15⟩ := rfl
    have hex : indexExists 0x0401 = true := by decide
    have hrng : Rng.holds (.span 0 15) (id : Int) = false := by
      simp [Rng.holds]
      omega
    unfold Dev.writeAccess
    simp only [hex, hrow, hmask]
    simp [Dev.needsService, Dev.observerRefuses, isHandleIx, Ty.check, Ty.size, Dev.needsTxn, actsAtOnce, Ty.value, hrng]
  have hdata : (writeReq r Reg.WD1_CHECKIN 0 1 id).data % 2 ^ (8 * (writeReq r Reg.WD1_CHECKIN 0 1 id).len) = id := Nat.mod_eq_of_lt h256
  have hcheck : s.dev.writeAccess (s.dev.serviceOf (writeReq r Reg.WD1_CHECKIN 0 1 id).id) false (writeReq r Reg.WD1_CHECKIN 0 1 id).ix
      (writeReq r Reg.WD1_CHECKIN 0 1 id).sub (writeReq r Reg.WD1_CHECKIN 0 1 id).hnd (writeReq r Reg.WD1_CHECKIN 0 1 id).len
      ((writeReq r Reg.WD1_CHECKIN 0 1 id).data % 2 ^ (8 * (writeReq r Reg.WD1_CHECKIN 0 1 id).len)) = RANGE := by
    rw [hdata]
    exact hst
  have h := obeys_checked (c := .wdCheckin true r id) (s := s) (q := writeReq r Reg.WD1_CHECKIN 0 1 id) rfl hs
    (malformed_writeReq r _ 0 1 id hs.2.2.2.1 (by decide)) rfl rfl ho (by rw [hcheck]; decide)
  rw [hcheck] at h
  exact h

end

/-! The commands. -/

section
variable {s : State} {t : Nat}

theorem windowClose_goes {w1 : Bool} (hr : s.dev.wdRuns w1 = true) (h1 : s.dev.rd (wdState w1) = 1) :
    Goes (.wdWindowClose w1 t) s ((s.dev.at t).wdViolate w1 (if s.dev.wdMissing w1 ≠ 0 then 4 else 5) (s.dev.wdClose w1)) := by
  have hgo : (s.dev.wdRuns w1 && decide (s.dev.rd (wdState w1) = 1)) = true := by rw [hr, decide_eq_true h1]; rfl
  exact Goes.of_eq (c := .wdWindowClose w1 t) (s := s) rfl (if_pos hgo)

theorem windowClose_idle {w1 : Bool} (h : s.dev.wdRuns w1 = false ∨ s.dev.rd (wdState w1) ≠ 1) : Goes (.wdWindowClose w1 t) s (s.dev.at t) := by
  have hgo : ¬ (s.dev.wdRuns w1 && decide (s.dev.rd (wdState w1) = 1)) = true := by rcases h with h | h <;> simp [h]
  exact Goes.of_eq (c := .wdWindowClose w1 t) (s := s) rfl (if_neg hgo)

theorem stage2_idle {w1 : Bool} (h : s.dev.wdRuns w1 = false ∨ s.dev.rd (wdState w1) ≠ 2) : Goes (.wdStage2 w1 t) s (s.dev.at t) := by
  have hgo : ¬ (s.dev.wdRuns w1 && decide (s.dev.rd (wdState w1) = 2)) = true := by rcases h with h | h <;> simp [h]
  exact Goes.of_eq (c := .wdStage2 w1 t) (s := s) rfl (if_neg hgo)

theorem stage2_first (hr : s.dev.wdRuns false = true) (h2 : s.dev.rd Reg.WD0_STATE = 2) : Goes (.wdStage2 false t) s
    { (((s.dev.at t).wr Reg.WD0_STATE 3).log1 0x0206 0xFFF4 ((s.dev.at t).wdDetail false)).bump 32 Reg.WD0_RESETS with coreUp := false } := by
  have hgo : (s.dev.wdRuns false && decide (s.dev.rd Reg.WD0_STATE = 2)) = true := by rw [hr, decide_eq_true h2]; rfl
  exact Goes.of_eq (c := .wdStage2 false t) (s := s) rfl (if_pos hgo)

theorem stage2_host (hr : s.dev.wdRuns true = true) (h2 : s.dev.rd Reg.WD1_STATE = 2) :
    let f := ((((s.dev.at t).wr Reg.WD1_STATE 3).log1 0x0206 0xFFF5 ((s.dev.at t).wdDetail true)).bump 32 Reg.WD1_STAGE2).wdoPulse
    Goes (.wdStage2 true t) s (f.when (bitOf (f.rd Reg.WD1_POLICY) 0) (·.moduleSafe 4)) := by
  have hgo : (s.dev.wdRuns true && decide (s.dev.rd Reg.WD1_STATE = 2)) = true := by rw [hr, decide_eq_true h2]; rfl
  exact Goes.of_eq (c := .wdStage2 true t) (s := s) rfl (if_pos hgo)

theorem checkIn_goes {r : Req} {id : Nat} (hid : id < 16) : Goes (.wdCheckin false r id) s ((s.dev.at r.t).wdCheckIn false id) :=
  Goes.of_eq (c := .wdCheckin false r id) (s := s) rfl (if_pos hid)

theorem checkIn_idle {r : Req} {id : Nat} (h : s.dev.wdRuns false = false) : Goes (.wdCheckin false r id) s (s.dev.at r.t) := by
  refine Goes.of_eq (c := .wdCheckin false r id) (s := s) rfl ?_
  have hstill : (s.dev.at r.t).wdCheckIn false id = s.dev.at r.t := wdCheckIn_still (d := s.dev.at r.t) h id
  dsimp only
  rw [hstill, ite_self]

end

/-- Settles O28: a check-in, a key, a service and a violation are said case by case, and each command is one of them. -/
theorem watchdogsJudge : Obligations.WatchdogsJudge := by
  unfold Obligations.WatchdogsJudge
  refine ⟨fun s r t => ?_, fun d w1 c tick => ?_, fun s r => ?_⟩
  · intro d e
    refine ⟨fun id hid hr => ⟨fun hs => ?_, fun hs => ?_⟩, fun tick hr ha => ⟨?_, ?_⟩, fun tick hr ha => ⟨?_, ?_⟩, fun id tick hr => ⟨checkIn_idle hr, ?_, ?_⟩,
      fun w1 h => windowClose_idle h, fun w1 h => stage2_idle h, fun w1 hr h1 => ⟨fun hm => ?_, fun hm => ?_⟩, fun hr h2 => stage2_first hr h2,
      fun hr h2 => ⟨fun hp => ?_, fun hp => ?_⟩, Goes.of_eq (c := .wdoPulseEnd t) (s := s) rfl rfl, fun hl => ?_, fun hl => ?_⟩
    · exact (checkIn_goes hid).of_eq (wdCheckIn_fresh (d := d) (w1 := false) hr hs)
    · exact (checkIn_goes hid).of_eq (wdCheckIn_again (d := d) (w1 := false) hr hs)
    · exact Goes.of_eq (c := .wdKey1 false r tick) (s := s) rfl (wdKey_first (d := d) (w1 := false) hr ha)
    · exact Goes.of_eq (c := .wdKey2 false r tick) (s := s) rfl (wdKey_wrong (d := d) (w1 := false) hr (.inl (by decide)) (.inr ha))
    · exact Goes.of_eq (c := .wdKey1 false r tick) (s := s) rfl (wdKey_wrong (d := d) (w1 := false) hr (.inr ha) (.inl (by decide)))
    · exact Goes.of_eq (c := .wdKey2 false r tick) (s := s) rfl (wdKey_second (d := d) (w1 := false) hr ha)
    · exact Goes.of_eq (c := .wdKey1 false r tick) (s := s) rfl (wdKey_still (d := d) (w1 := false) hr _)
    · exact Goes.of_eq (c := .wdKey2 false r tick) (s := s) rfl (wdKey_still (d := d) (w1 := false) hr _)
    · have h := windowClose_goes (t := t) hr h1
      rw [if_neg (not_not_intro hm)] at h
      exact h
    · have h := windowClose_goes (t := t) hr h1
      rw [if_pos hm] at h
      exact h
    · exact (stage2_host hr h2).of_eq (congrArg (fun c : Bool => Dev.when _ c _) hp)
    · exact (stage2_host hr h2).of_eq (congrArg (fun c : Bool => Dev.when _ c _) hp)
    · exact if_neg (ne_true_of_eq_false hl)
    · exact if_pos hl
  · refine ⟨wdViolate_else, wdViolate_first, wdViolate_host, fun hr => ⟨wdCheckIn_still hr, wdKey_still hr⟩,
      fun hr => ⟨fun id hs => wdCheckIn_fresh hr hs, fun id hs => ⟨fun hw hp => ?_, fun hc => ?_⟩, wdKey_first hr, wdKey_second hr,
        fun v h1 h2 => wdKey_wrong hr h1 h2⟩, wdService_missing, wdService_early, wdService_good, wdService_return⟩
    · subst hw
      exact (wdCheckIn_again hr hs).trans (congrArg (fun c : Bool => Dev.when _ c _) hp)
    · refine (wdCheckIn_again hr hs).trans ?_
      cases w1 with
      | false => rfl
      | true => exact congrArg (fun c : Bool => Dev.when _ c _) (hc.resolve_left (by decide))
  · refine ⟨fun id hid hp hr hs => ?_, fun id hid hp => checkIn_obeys hid hp, fun tick hp => key_obeys (by decide) rfl hp,
      fun tick hp => key_obeys (by decide) rfl hp, fun id h16 h256 hs ho => checkIn_refused h16 h256 hs ho, fun tick hp hr ha => ?_,
      fun tick hp hr ha h1 hm ht => ?_, fun hp h0 => enable_obeys hp h0, fun hp => disable_obeys hp⟩
    · have h := checkIn_obeys hid hp
      rw [wdCheckIn_fresh (d := s.dev.at r.t) (w1 := true) hr hs] at h
      exact h
    · have h := key_obeys (s := s) (r := r) (v := 0x3C5A) (c := .wdKey1 true r tick) (tick := tick) (by decide) rfl hp
      rw [wdKey_first (d := s.dev.at r.t) (w1 := true) hr ha] at h
      exact h
    · have h := key_obeys (s := s) (r := r) (v := 0xA5C3) (c := .wdKey2 true r tick) (tick := tick) (by decide) rfl hp
      rw [wdKey_second (d := s.dev.at r.t) (w1 := true) hr ha,
        wdService_good (d := (s.dev.at r.t).setWd true { (s.dev.at r.t).wd true with armed := false }) (w1 := true) hm h1 ht] at h
      exact h

end Sys2Proof.Machine
end

/-! Heartwood: the fold, the flushes, the counter reports and the calendar (R367 to R384). -/
section
namespace Sys2Proof.Machine

/-- A channel's share of a counter report: what its branch kept is added, the time at alarm is counted. -/
def Dev.tally (d : Dev) (n : Nat) : Dev := (d.collect n).countAlarm n

/-- The time at alarm that a channel has when it is counted at an instant. -/
def Chan.alarmTime (c : Chan) (now : Nat) : Nat := c.alarmNs + match c.alarmAt with
  | none => 0
  | some t => now - t

theorem tally_chan_other {d : Dev} {n j : Nat} (h : j ≠ n) : (d.tally n).chan j = d.chan j := by
  rw [Dev.tally, Dev.countAlarm, modChan_chan, if_neg h, Dev.alarmMark, modChan_chan, if_neg h, Dev.collect, modChan_chan, if_neg h]

theorem alarmMark_life (d : Dev) (n j : Nat) : ((d.alarmMark n).chan j).life = (d.chan j).life := by rw [alarmMark_chan]

theorem alarmMark_alarmNs (d : Dev) (n : Nat) : ((d.alarmMark n).chan n).alarmNs = (d.chan n).alarmTime d.now := by
  rw [Dev.alarmMark, modChan_chan, if_pos rfl]
  cases h : (d.chan n).alarmAt <;> simp only [Chan.alarmTime, h]

theorem collect_chan (d : Dev) (n : Nat) : (d.collect n).chan n = { d.chan n with life := (d.chan n).life.add (d.chan n).inc, inc := {} } := by
  rw [Dev.collect, modChan_chan, if_pos rfl]

theorem collect_now (d : Dev) (n : Nat) : (d.collect n).now = d.now := by rw [Dev.collect, Dev.modChan, Dev.setChan_now]

theorem tally_now (d : Dev) (n : Nat) : (d.tally n).now = d.now := by
  rw [Dev.tally, Dev.countAlarm, Dev.modChan, Dev.setChan_now, Dev.alarmMark, Dev.modChan, Dev.setChan_now, collect_now]

theorem collect_alarmTime (d : Dev) (n t : Nat) : ((d.collect n).chan n).alarmTime t = (d.chan n).alarmTime t := by
  rw [collect_chan]
  rfl

theorem tally_alarmNs (d : Dev) (n : Nat) : ((d.tally n).chan n).alarmNs = (d.chan n).alarmTime d.now % 1000000000 := by
  rw [Dev.tally, Dev.countAlarm, modChan_chan, if_pos rfl]
  dsimp only
  rw [alarmMark_alarmNs, collect_alarmTime, collect_now]

theorem tally_life (d : Dev) (n : Nat) : ((d.tally n).chan n).life =
    ((d.chan n).life.add (d.chan n).inc).add { alarm := (d.chan n).alarmTime d.now / 1000000000 } := by
  rw [Dev.tally, Dev.countAlarm, modChan_chan, if_pos rfl]
  dsimp only
  rw [alarmMark_alarmNs, alarmMark_life, collect_alarmTime, collect_now, collect_chan]

/-- What a row of tallies on channels of their own leaves on one of them. -/
theorem tallies_chan (l : List Nat) (n : Nat) (hl : l.Nodup) (hn : n ∈ l) (d : Dev) : ∃ e : Dev, e.now = d.now ∧ e.chan n = d.chan n ∧
    (d.each l fun d i => d.tally i).chan n = (e.tally n).chan n := by
  induction l generalizing d with
  | nil => cases hn
  | cons i l ih =>
    rw [Dev.each_cons]
    obtain ⟨hi, hl⟩ := List.nodup_cons.mp hl
    by_cases h : n = i
    · subst h
      refine ⟨d, rfl, rfl, ?_⟩
      have keep : ∀ (l : List Nat) (d : Dev), n ∉ l → (d.each l fun d i => d.tally i).chan n = d.chan n := by
        intro l
        induction l with
        | nil => exact fun _ _ => rfl
        | cons i l ih =>
          intro d hn
          obtain ⟨hne, hn⟩ := not_or.mp (mt List.mem_cons.mpr hn)
          rw [Dev.each_cons, ih _ hn, tally_chan_other hne]
      exact keep l _ hi
    · obtain ⟨e, hnow, hchan, he⟩ := ih hl ((List.mem_cons.mp hn).resolve_left h) (d.tally i)
      exact ⟨e, hnow.trans (tally_now d i), hchan.trans (tally_chan_other h), he⟩

/-- The four channels of a branch, tallied in their order. -/
def Dev.tallied (d : Dev) (b : Nat) : Dev := d.each (List.range 4) fun d i => d.tally (4 * b + i)

theorem tallied_eq (d : Dev) (b : Nat) : d.tallied b = d.each [4 * b, 4 * b + 1, 4 * b + 2, 4 * b + 3] fun d i => d.tally i := by
  rw [Dev.tallied, show List.range 4 = [0, 1, 2, 3] from rfl]
  simp only [Dev.each_cons, Dev.each_nil, Nat.add_zero]

theorem tallied_chan (d : Dev) {b n : Nat} (h : n / 4 = b) : ((d.tallied b).chan n).alarmNs = (d.chan n).alarmTime d.now % 1000000000 ∧
    ((d.tallied b).chan n).life = ((d.chan n).life.add (d.chan n).inc).add { alarm := (d.chan n).alarmTime d.now / 1000000000 } := by
  obtain ⟨e, hnow, hchan, he⟩ := tallies_chan [4 * b, 4 * b + 1, 4 * b + 2, 4 * b + 3] n (by simp) (by simp; omega) d
  rw [tallied_eq, he, tally_alarmNs, tally_life, hnow, hchan]
  exact ⟨rfl, rfl⟩

/-- The counters of a channel that one report adds to. -/
theorem Life.add_reported (l : Life) (a on cyc en tcyc : Nat) (pk : Int) :
    let m := ((l.add {}).add { alarm := a }).add { onTime := on, cycles := cyc, energy := en, peak := pk, tcyc := tcyc }
    m.alarm = min (2 ^ 32 - 1) (min (2 ^ 32 - 1) l.alarm + a) ∧ m.onTime = min (2 ^ 32 - 1) (min (2 ^ 32 - 1) l.onTime + on) ∧
      m.peak = max (max l.peak 0) pk := by
  dsimp only [Life.add]
  refine ⟨?_, ?_, ?_⟩ <;> omega

theorem report_goes {s : State} {b : BranchNo} {t : Nat} (incs : List LifeInc) (h : s.dev.linked b = true) :
    Goes (.counterReport b incs t) s (((s.dev.at t).tallied b).each (incs.filter fun x => x.chan.val / 4 = b.val) fun d x =>
      d.modChan x.chan fun c => { c with
        life := c.life.add { onTime := x.onTime, cycles := x.cycles, energy := x.energy, peak := x.peakTemp, tcyc := x.tcycles } }) :=
  Goes.of_eq (c := .counterReport b incs t) (s := s) rfl (if_pos h)

theorem report_adds {s : State} {b : BranchNo} {x : LifeInc} {t : Nat} (hl : s.dev.linked b = true) (hx : x.chan.val / 4 = b.val)
    (hinc : (s.dev.chan x.chan).inc = {}) : ∃ u, exec (.counterReport b [x] t) s = .next u ∧ Rest s u ∧
      (u.dev.chan x.chan).alarmNs = (s.dev.chan x.chan).alarmTime t % 1000000000 ∧
      (u.dev.chan x.chan).life = (((s.dev.chan x.chan).life.add {}).add { alarm := (s.dev.chan x.chan).alarmTime t / 1000000000 }).add
        { onTime := x.onTime, cycles := x.cycles, energy := x.energy, peak := x.peakTemp, tcyc := x.tcycles } := by
  have h := report_goes (t := t) [x] hl
  obtain ⟨hns, hlife⟩ := tallied_chan (s.dev.at t) hx
  rw [List.filter_cons_of_pos (by simpa using hx), List.filter_nil, Dev.each_cons, Dev.each_nil] at h
  refine ⟨_, h, ⟨rfl, rfl, rfl⟩, ?_⟩
  generalize (s.dev.at t).tallied b = e at hns hlife
  rw [show ((s.dev.at t).chan x.chan).inc = {} from hinc] at hlife
  dsimp only
  rw [modChan_chan, if_pos rfl]
  exact ⟨hns, by dsimp only; rw [hlife]; rfl⟩

theorem fold_both {d : Dev} (h0 : d.heart.bank0 = true) (h1 : d.heart.bank1 = true) : d.fold =
    (({ d with heart := { d.heart with folded0 := d.rd Reg.GU_ATOM_LAST_TXN, folded1 := d.rd Reg.GU_ATOM_LAST_TXN } } : Dev).wrote
      [regionLine 1, regionLine 1 + 896]).wr Reg.HW_FOLDED (d.rd Reg.GU_ATOM_LAST_TXN) := by
  simp only [Dev.fold, h0, h1, if_true, List.cons_append, List.nil_append]

/-- Settles O29: by the commands' definitions; a report's counters by the tally of the branch's channels, each touched once. -/
theorem heartwoodKeeps : Obligations.HeartwoodKeeps := by
  intro s t d
  refine ⟨fun hu hm h0 h1 => ?_, fun hu hc hm => ?_, fun b incs hl hx => ?_, fun b x hl hx hinc => ?_, fun year late hu hc hr hm hl => ?_,
    fun cal hu hc hr => ?_, fun h => ?_, fun h => ?_⟩
  · refine Goes.of_eq (c := .fold t) (s := s) rfl ((if_pos ?_).trans (fold_both (d := s.dev.at t) h0 h1))
    show (s.dev.crownUp && s.dev.mayWrite) = true
    rw [hu, hm]
    rfl
  · refine Goes.of_eq (c := .lifeFlush t) (s := s) rfl (if_pos ?_)
    show (s.dev.crownUp && s.dev.coreUp && s.dev.mayWrite) = true
    rw [hu, hc, hm]
    rfl
  · have h := report_goes (t := t) incs hl
    rwa [List.filter_eq_nil_iff.mpr (by simpa using hx)] at h
  · have hi : (s.dev.chan x.chan).inc = {} := by
      have h := hinc (x.chan % 4) (Nat.mod_lt _ (by decide))
      rwa [← hx, Nat.div_add_mod] at h
    obtain ⟨u, hu, hr, hns, hlife⟩ := report_adds (t := t) hl hx hi
    obtain ⟨ha, ho, hp⟩ := Life.add_reported (s.dev.chan x.chan).life ((s.dev.chan x.chan).alarmTime t / 1000000000) x.onTime x.cycles
      x.energy x.tcycles x.peakTemp
    refine ⟨u, hu, hr, hns.trans ?_, ?_, ?_, ?_⟩
    · rw [Chan.alarmTime] <;> rfl
    · rw [hlife, ha, Chan.alarmTime] <;> rfl
    · rw [hlife, ho]
    · rw [hlife, hp]
  · refine Goes.of_eq (c := .ringRecord year late t) (s := s) rfl (if_pos ?_)
    show (s.dev.crownUp && s.dev.coreUp && decide (s.dev.rd Reg.PL_RUNG = 0) && s.dev.mayWrite &&
      (!late || decide (s.dev.rd Reg.CAL_STATE ≠ 0))) = true
    cases late with
    | false => simp [hu, hc, hr, hm]
    | true => simp [hu, hc, hr, hm, hl rfl]
  · intro diff e
    constructor <;> intro hd <;> refine Goes.of_eq (c := .calCompare cal t) (s := s) rfl ((if_pos (by simp [hu, hc, hr])).trans ?_)
    · exact congrArg (fun d : Dev => (d.wr Reg.CAL_STATE 2).wr Reg.CAL_LAST_DISC t) (if_pos hd)
    · exact congrArg (fun d : Dev => (d.wr Reg.CAL_STATE 2).wr Reg.CAL_LAST_DISC t) (if_neg (Nat.not_lt.mpr hd))
  · exact Goes.of_eq (c := .calFree t) (s := s) rfl (if_pos h)
  · exact Goes.of_eq (c := .calFree t) (s := s) rfl (if_neg h)

end Sys2Proof.Machine
end

/-! The event log and its read (R30, R380 to R382). -/
section
namespace Sys2Proof.Machine

/-! Writing the staging buffer out. -/

section
variable {d : Dev}

theorem drain_idle (h : d.mayWrite = false ∨ d.staging = []) : d.drain = d := by
  unfold Dev.drain
  refine if_neg ?_
  rcases h with h | h <;> simp [h]

theorem drain_flushes (hm : d.mayWrite = true) (hs : d.staging ≠ []) : d.drain =
    { d.wrote (d.staging.map fun r => regionLine 6 + r.num % 16384 / 4) with
      log := (d.log ++ d.staging).drop ((d.log ++ d.staging).length - 16384), staging := [] } := by
  unfold Dev.drain
  exact if_pos (by simp [hm, hs])

theorem drain_staging (hm : d.mayWrite = true) : d.drain.staging = [] := by
  by_cases hs : d.staging = []
  · rw [drain_idle (.inr hs), hs]
  · rw [drain_flushes hm hs]

theorem drain_short (h : d.staging.length < 64) : d.drain.staging.length < 64 := by
  by_cases hm : d.mayWrite = true
  · rw [drain_staging hm]
    decide
  · rwa [drain_idle (.inl (Bool.not_eq_true _ ▸ hm))]

theorem drain_obj (d : Dev) : d.drain.obj = d.obj ∨ ∃ v, d.drain.obj = tabSet dfltOf d.obj Reg.OPS_PEAK v := by
  unfold Dev.drain
  split
  · dsimp only [Dev.wrote]
    generalize decide (d.staging.map (fun r : EvRec => regionLine 6 + r.num % 16384 / 4) ≠ []) = b
    cases b
    · exact .inl rfl
    · exact .inr ⟨_, rfl⟩
  · exact .inl rfl

theorem drain_now (d : Dev) : d.drain.now = d.now := by rw [(Quiet.drain d).1]

theorem drain_total (d : Dev) : d.drain.rd Reg.EV_TOTAL = d.rd Reg.EV_TOTAL := by
  rcases drain_obj d with h | ⟨v, h⟩
  · rw [Dev.rd, h]
    rfl
  · rw [Dev.rd, h]
    exact Dev.wr_rd d _ v _ |>.trans (if_neg (by decide))

theorem drain_port (d : Dev) : d.drain.port = d.port := by
  unfold Dev.drain
  split
  · dsimp only [Dev.wrote]
    generalize decide (d.staging.map (fun r : EvRec => regionLine 6 + r.num % 16384 / 4) ≠ []) = b
    cases b <;> rfl
  · rfl

theorem wr_enabledQueues {k : Nat} (v : Nat) (hk : k < 0x400000 ∨ 0x440000 ≤ k) : (d.wr k v).enabledQueues = d.enabledQueues :=
  filterMap_tabSet _ _ _ _ _ fun _ => if_neg fun h => by obtain ⟨-, h1, h2, -⟩ := h; omega

theorem wr_armedBy {k code : Nat} (v : Nat) (hk : k < 0x441000 ∨ 0x442000 ≤ k) : (d.wr k v).armedBy code = d.armedBy code :=
  filterMap_tabSet _ _ _ _ _ fun _ => if_neg fun h => by obtain ⟨-, h1, h2, -⟩ := h; omega

theorem drain_enabledQueues (d : Dev) : d.drain.enabledQueues = d.enabledQueues := by
  rcases drain_obj d with h | ⟨v, h⟩
  · rw [Dev.enabledQueues, h]
    rfl
  · rw [Dev.enabledQueues, h]
    exact wr_enabledQueues v (.inl (by decide))

theorem drain_armedBy (d : Dev) (code : Nat) : d.drain.armedBy code = d.armedBy code := by
  rcases drain_obj d with h | ⟨v, h⟩
  · rw [Dev.armedBy, h]
    rfl
  · rw [Dev.armedBy, h]
    exact wr_armedBy v (.inl (by decide))

end

/-! One event that no queue carries and no capture channel waits for. -/

section
variable {d : Dev} {code src det : Nat}

theorem log1_dropped (h : 64 ≤ d.staging.length) (hm : d.mayWrite = false) : d.log1 code src det = d.bump 32 Reg.OPS_EVT_LOST := by
  have hone : d.logOne (code, src, det) = (d.bump 32 Reg.OPS_EVT_LOST, []) := by
    unfold Dev.logOne
    rw [drain_idle (.inl hm)]
    exact if_pos h
  show Dev.logAll 7 (d.logOne (code, src, det)).1 (d.logOne (code, src, det)).2 = _
  rw [hone]
  rfl

/-- The staged record of an event, on a device whose buffer was written out. -/
theorem numbered_drain (d : Dev) (code src det : Nat) : d.drain.numbered (code, src, det) =
    { d.drain.bump 32 Reg.EV_TOTAL with
      staging := d.drain.staging ++ [⟨d.rd Reg.EV_TOTAL, d.now, code, src, det % 2 ^ 32⟩],
      port := { d.port with pend := setBit d.port.pend 3 true } } := by
  rw [Dev.numbered, drain_total, drain_now, drain_port]

theorem log1_alone (hq : d.enabledQueues = []) (ha : d.armedBy code = []) (hl : d.drain.staging.length < 64) :
    d.log1 code src det = (d.drain.numbered (code, src, det)).drain := by
  have hone : d.logOne (code, src, det) = ((d.drain.numbered (code, src, det)).drain, []) := by
    have hq' : (d.drain.numbered (code, src, det)).enabledQueues = [] :=
      (wr_enabledQueues (d := d.drain) (k := Reg.EV_TOTAL) _ (.inr (by decide))).trans ((drain_enabledQueues d).trans hq)
    have ha' : (d.drain.numbered (code, src, det)).armedBy code = [] :=
      (wr_armedBy (d := d.drain) (k := Reg.EV_TOTAL) _ (.inr (by decide))).trans ((drain_armedBy d code).trans ha)
    have hp : ∀ r, (d.drain.numbered (code, src, det)).eventPacket r = (d.drain.numbered (code, src, det), []) := fun r => by
      rw [Dev.eventPacket, hq']
      rfl
    unfold Dev.logOne
    rw [if_neg (Nat.not_le.mpr hl)]
    generalize hn : d.drain.numbered (code, src, det) = n at ha' hp
    unfold Dev.numbered at hn
    simp only [hn, ha', List.foldl_nil, hp, List.append_nil]
  show Dev.logAll 7 (d.logOne (code, src, det)).1 (d.logOne (code, src, det)).2 = _
  rw [hone]
  rfl

end

/-- Logging does not decide whether heartwood may be written. -/
theorem Quiet.mayWrite {d e : Dev} (h : Quiet d e) : e.mayWrite = d.mayWrite := by
  obtain ⟨he, hrd⟩ := h
  have hw : e.warn = d.warn := by rw [he]
  have ho : e.ops = d.ops := by rw [he]
  have hd : e.deferred = d.deferred := by rw [he]
  have h1 := hrd Reg.PL_RUNG (by unfold logKey; decide)
  have h2 := hrd Reg.GR_HK_STATE (by unfold logKey; decide)
  have h3 := hrd Reg.GR_UC_STATE (by unfold logKey; decide)
  have h4 := hrd Reg.GR_CAL_STATE (by unfold logKey; decide)
  unfold Dev.mayWrite Dev.opsFree Dev.opsInUse Dev.graftStep
  rw [hw, ho, hd, h1, h2, h3, h4]

theorem drain_mayWrite (d : Dev) : d.drain.mayWrite = d.mayWrite := (Quiet.drain d).mayWrite

theorem numbered_mayWrite (d : Dev) (e : Nat × Nat × Nat) : (d.numbered e).mayWrite = d.mayWrite :=
  ((Quiet.wr d Reg.EV_TOTAL _ logKey_total).trans (Quiet.numbered d e)).mayWrite

/-- The log after one event on an empty staging buffer keeps the newest 16 384 records (R380). -/
theorem log1_appends {d : Dev} {code src det : Nat} (hq : d.enabledQueues = []) (ha : d.armedBy code = []) (hm : d.mayWrite = true)
    (hs : d.staging = []) : (d.log1 code src det).log =
      (d.log ++ ([⟨d.rd Reg.EV_TOTAL, d.now, code, src, det % 2 ^ 32⟩] : List EvRec)).drop (d.log.length + 1 - 16384) := by
  have hd := drain_idle (d := d) (.inr hs)
  have hst : (d.numbered (code, src, det)).staging = [⟨d.rd Reg.EV_TOTAL, d.now, code, src, det % 2 ^ 32⟩] := by
    rw [Dev.numbered, hs]
    rfl
  have hlog : (d.numbered (code, src, det)).log = d.log := rfl
  have hm' := (numbered_mayWrite d (code, src, det)).trans hm
  rw [log1_alone hq ha (by rw [hd, hs]; decide), hd]
  generalize d.numbered (code, src, det) = n at hst hlog hm'
  rw [drain_flushes hm' (by rw [hst]; exact List.cons_ne_nil _ _), hst, hlog]
  dsimp only
  rw [List.length_append]
  rfl

theorem eventsNumbered (d : Dev) (code src det : Nat) (hq : d.enabledQueues = []) (ha : d.armedBy code = []) :
    (d.mayWrite = true → d.log1 code src det = (d.drain.numbered (code, src, det)).drain ∧ (d.log1 code src det).staging = []) ∧
    (d.staging.length < 64 → d.mayWrite = false → d.log1 code src det = d.drain.numbered (code, src, det)) := by
  refine ⟨fun hm => ?_, fun hl hm => ?_⟩
  · have h := log1_alone (src := src) (det := det) hq ha (by rw [drain_staging hm]; decide)
    refine ⟨h, ?_⟩
    rw [h]
    exact drain_staging ((numbered_mayWrite _ _).trans ((drain_mayWrite d).trans hm))
  · rw [log1_alone hq ha (drain_short hl)]
    exact drain_idle (.inl ((numbered_mayWrite _ _).trans ((drain_mayWrite d).trans hm)))

/-! The deferred read. -/

section
variable {c : Instr} {s : State} {q : Request}

/-- The operations table with one more deferred request. -/
def Dev.withOp (d : Dev) (f : Deferred) : Dev :=
  ({ d with deferred := d.deferred ++ [f] } : Dev).wr Reg.OPS_PEAK (max (d.rd Reg.OPS_PEAK) (d.opsInUse + 1))

theorem accept_free {d : Dev} {f : Deferred} (h : d.opsFree = true) : d.accept f = (d.withOp f, { status := DEFERRED }) := by
  have huse : ({ d with deferred := d.deferred ++ [f] } : Dev).opsInUse = d.opsInUse + 1 := by
    show d.ops + (d.deferred ++ [f]).length + nat01 d.graftStep = d.ops + d.deferred.length + nat01 d.graftStep + 1
    rw [List.length_append]
    simp only [List.length_singleton]
    omega
  dsimp only [Dev.accept]
  rw [h, huse]
  rfl

theorem booked_withOp (d : Dev) (f : Deferred) (t : Nat) (p : Resp) (rs : List Requester) (xs : List Txn) :
    (d.booked t p rs xs).withOp f = (d.withOp f).booked t p rs xs := rfl

/-- A READ of an object that is deferred takes an entry of the operations table (R268, R28). -/
theorem obeys_deferredRead (hc : exec c s = s.ask q) (hg : s.dev.grants q) (hm : malformed q = none) (hop : q.op = OP_READ)
    (hdef : s.dev.isDeferred q.ix q.sub false = true) (hfree : s.dev.opsInUse < 256) : Obeys c s q { status := DEFERRED }
      ((s.dev.used q).withOp { q := q, e := { id := q.id, seq := q.seq, ix := q.ix, sub := q.sub, hnd := q.hnd } }) := by
  generalize hf : ({ q := q, e := { id := q.id, seq := q.seq, ix := q.ix, sub := q.sub, hnd := q.hnd } } : Deferred) = f
  obtain ⟨hs, hacc⟩ := hg
  have hmode := arrived_mode hs
  obtain ⟨p, hp, hlast, -⟩ := arrived_requester s.dev q
  have hother := arrived_other s.dev q
  obtain ⟨rs, he⟩ := arrived_booked s.dev q
  have hacc' : (s.dev.arrived q).readAccess q.ix q.sub q.hnd = OK := by rw [he]; exact hacc
  have hdef' : (s.dev.arrived q).isDeferred q.ix q.sub false = true := by rw [he]; exact hdef
  have hfree' : (s.dev.arrived q).opsFree = true := by rw [he]; exact decide_eq_true hfree
  have hcarry : (s.dev.listed q).carryOut ⟨s.ps, s.worn⟩ q = ((s.dev.arrived q).withOp f, { status := DEFERRED }) := by
    rw [← accept_free hfree', ← hf]
    show (if _ then _ else if ((s.dev.arrived q).mode = INIT && _) = true then _ else if _ then
      (if (s.dev.arrived q).readAccess q.ix q.sub q.hnd ≠ OK then _ else if (s.dev.arrived q).isDeferred q.ix q.sub false = true then _ else _)
      else _) = _
    rw [if_neg (by rw [hop]; decide), if_neg (by simp [hmode]), if_pos hop, if_neg (not_not_intro hacc'), if_pos hdef']
    rfl
  have hreq : ∀ id, ((s.dev.arrived q).withOp f).requester id = (s.dev.arrived q).requester id := fun _ => rfl
  obtain ⟨t, hex, hrest, hans, haside, -⟩ := answered_of_carried (p := p) (D := (s.dev.used q).withOp f) hc hs hm (by rw [hop]; decide) hcarry
    (fun h => absurd h (by decide : DEFERRED ≠ BUSY)) (by rw [he]; rfl) ((hreq _).trans hp) hlast (fun id hid => (hreq id).trans (hother id hid))
    (by rw [he]; rfl) (by rw [he, booked_withOp, Dev.withOp]; exact (Dev.wr_rd _ _ _ _).trans (if_neg (by decide)))
  exact ⟨t, hex, hrest, hans, haside⟩

end

/-- The next deferred read completes while the core works. -/
theorem completeRead_goes {s : State} {kind : Deferred → Bool} {t : Nat} {f : Deferred} (hcore : s.dev.coreWorks = true)
    (hnext : s.dev.nextDeferred = some f) (hop : f.q.op = OP_READ) (hkind : kind f = true) :
    s.complete kind t = .next { s with dev :=
      ((s.dev.at t).readValue ⟨s.ps, s.worn⟩ f.q).1.finish f ((s.dev.at t).readValue ⟨s.ps, s.worn⟩ f.q).2 } := by
  have hnext' : (s.dev.at t).nextDeferred = some f := hnext
  have hcore' : (s.dev.at t).coreWorks = true := hcore
  have hdip : f.waitsDip = false := by simp [Deferred.waitsDip, hop, OP_READ, OP_WRITE]
  rw [State.complete, State.run, Dev.completeNext, hnext']
  simp only [hcore', hkind, hop, hdip]
  simp

section
variable {d : Dev} {e : Env} {q : Request}

theorem readNow_event {id : Nat} : d.readNow e 0x8010 4 id = match d.evFind (d.rd Reg.EV_READ_NUM) with
    | none => (d, RANGE, 0)
    | some r => (d.wr Reg.EV_READ_NUM ((d.rd Reg.EV_READ_NUM + 1) % 2 ^ 32), OK, ofBytesLE r.bytes) := by
  unfold Dev.readNow
  rw [if_neg (by simp [isHandleIx]), if_neg (by simp [isHandleIx])] <;> rfl

theorem readValue_noEvent (hseg : q.segment = 0) (hix : q.ix = 0x8010) (hsub : q.sub = 4) (hnone : d.evFind (d.rd Reg.EV_READ_NUM) = none) :
    d.readValue e q = (d, { status := RANGE }) := by
  unfold Dev.readValue
  rw [hseg, hix, hsub, readNow_event, hnone]
  rfl

theorem readValue_event {x : EvRec} (hseg : q.segment = 0) (hix : q.ix = 0x8010) (hsub : q.sub = 4)
    (hx : d.evFind (d.rd Reg.EV_READ_NUM) = some x) : ∃ f : Requester → Requester, d.readValue e q =
      ((d.wr Reg.EV_READ_NUM ((d.rd Reg.EV_READ_NUM + 1) % 2 ^ 32)).modReq q.id f, segmentOf 0 16 (ofBytesLE x.bytes)) := by
  unfold Dev.readValue
  rw [hseg, hix, hsub, readNow_event, hx]
  exact ⟨_, rfl⟩

end

/-- The end of a deferred operation, on an empty staging buffer. -/
theorem finish_unstaged {d : Dev} {f : Deferred} {a : Answer} (hs : d.staging = []) (ha : a.status = OK) : f ∉ (d.finish f a).deferred ∧
    (d.finish f a).log = d.log ∧ (d.finish f a).resp = d.respond f.q a ∧ ∀ k, (d.finish f a).rd k = d.rd k := by
  have hd := drain_idle (d := ({ d with deferred := d.deferred.filter fun g => !(g.q.id = f.q.id && g.q.seq = f.q.seq) } : Dev)) (.inr hs)
  dsimp only [Dev.finish]
  rw [hd]
  unfold Dev.reply
  rw [ha]
  refine ⟨fun h => ?_, rfl, rfl, fun _ => rfl⟩
  simpa using (List.mem_filter.1 h).2

/-- Settles O30: by the flush of the staging buffer, one event that nothing carries on, and the deferred read of a record. -/
theorem eventsAreKept : Obligations.EventsAreKept := by
  refine ⟨fun d code src det hq ha => ?_, fun s r => ⟨fun hg hfree => ?_, fun t f hcore hnext hop hseg hix hsub => ?_⟩⟩
  · obtain ⟨hw, hk⟩ := eventsNumbered d code src det hq ha
    rw [numbered_drain] at hw hk
    refine ⟨log1_dropped, fun hm => ⟨(hw hm).1, (hw hm).2, fun hs hl => ?_, fun hs hl => ?_⟩, hk⟩
    · rw [log1_appends hq ha hm hs, Nat.sub_eq_zero_of_le hl, List.drop_zero]
    · rw [log1_appends hq ha hm hs, hl, List.drop_append_of_le_length (by omega)]
  · exact obeys_deferredRead rfl hg (malformed_readReq r _) rfl rfl hfree
  · refine ⟨fun x hx hs => ?_, fun hnone => ?_⟩
    · obtain ⟨g, hr⟩ := readValue_event (d := s.dev.at t) (e := ⟨s.ps, s.worn⟩) hseg hix hsub hx
      refine ⟨_, completeRead_goes (kind := fun _ => true) hcore hnext hop rfl, ⟨rfl, rfl, rfl⟩, ?_⟩
      rw [hr]
      generalize hd : ((s.dev.at t).wr Reg.EV_READ_NUM (((s.dev.at t).rd Reg.EV_READ_NUM + 1) % 2 ^ 32)).modReq f.q.id g = d
      have hrd : ∀ k, d.rd k = if k = Reg.EV_READ_NUM then (s.dev.rd Reg.EV_READ_NUM + 1) % 2 ^ 32 else s.dev.rd k := fun k => by
        rw [← hd]
        exact Dev.wr_rd (s.dev.at t) _ _ k
      obtain ⟨h1, h2, h3, h4⟩ := finish_unstaged (d := d) (f := f) (a := segmentOf 0 16 (ofBytesLE x.bytes)) (by rw [← hd]; exact hs) rfl
      refine ⟨h1, h2.trans (by rw [← hd]; rfl), (h4 _).trans ((hrd _).trans (if_pos rfl)), h3.trans ?_⟩
      rw [Dev.respond, hrd, if_neg (by decide)]
      rfl
    · have h := completeRead_goes (t := t) (kind := fun _ => true) hcore hnext hop rfl
      rwa [readValue_noEvent (d := s.dev.at t) hseg hix hsub hnone] at h

end Sys2Proof.Machine
end

/-! Grafts of converters and of microcode (R391 to R396). -/
section
namespace Sys2Proof.Machine

theorem wrote_rd {d : Dev} {l : List Nat} {k : Nat} (hk : k ≠ Reg.OPS_PEAK) : (d.wrote l).rd k = d.rd k := by
  dsimp only [Dev.wrote]
  generalize decide (l ≠ []) = b
  cases b
  · rfl
  · exact (Dev.wr_rd d _ _ _).trans (if_neg hk)

theorem wrote_graft (d : Dev) (l : List Nat) : (d.wrote l).graft = d.graft := by
  dsimp only [Dev.wrote]
  generalize decide (l ≠ []) = b
  cases b <;> rfl

/-- A commit outside a graft of the channel writes the calibration lines, waits for its time and is logged with the change of gain (R391). -/
theorem calCommit_loose {e : Dev} {k : Nat} {c : Cal} (hk : Reg.HND_ID k ≠ Reg.OPS_PEAK) (h : e.graft.calSlot = none) :
    e.calCommit k c = ({ e.wrote [regionLine 3, regionLine 3 + 128] with graft :=
      { e.graft with calDue := some (k, decide (e.rd Reg.GR_CAL_CONV = 1), c) } } : Dev).log1 0x0818 (e.rd (Reg.HND_ID k))
        ((if e.rd Reg.GR_CAL_CONV = 1 then 1 else 0) +
          ofInt 24 ((gainDelta c (e.cals k (decide (e.rd Reg.GR_CAL_CONV = 1))).1).mul (1000000, 1)).round * 256) := by
  have hc : nat01 (decide (e.rd Reg.GR_CAL_CONV = 1)) = if e.rd Reg.GR_CAL_CONV = 1 then 1 else 0 := by
    by_cases h : e.rd Reg.GR_CAL_CONV = 1 <;> simp [nat01, h]
  dsimp only [Dev.calCommit]
  rw [h, Option.isSome_none, Dev.when_false, wrote_graft, wrote_rd hk, ← hc, h]

theorem each_kept {α : Type} {d : Dev} {l : List α} {f : Dev → α → Dev} (h : ∀ x ∈ l, f d x = d) : d.each l f = d := by
  induction l with
  | nil => rfl
  | cons x l ih => rw [Dev.each_cons, h x List.mem_cons_self, ih fun y hy => h y (List.mem_cons_of_mem _ hy)]

theorem duePostures_none {d : Dev} (w : Worn) {b : Nat} (h : ∀ i, i < 4 → (d.chan (4 * b + i)).due = false) : d.duePostures w b = d := by
  refine each_kept fun n hn => ?_
  obtain ⟨i, hi, rfl⟩ := List.mem_map.1 hn
  rw [h i (List.mem_range.1 hi)]
  rfl

/-- A branch that comes back from a microcode swap with nothing running, no posture due and the digest it should have (R394, R395). -/
theorem ucBack_quiet {e : Dev} (w : Worn) {b : Nat} (ms st code det : Nat) (hrun : e.runningIn b = [])
    (hdig : (e.branch b).digest = e.heartDigest b) (hdue : ∀ i, i < 4 → (e.chan (4 * b + i)).due = false) :
    e.ucBack w b ms st code det = ((({ e with graft := { e.graft with ucBranch := none } } : Dev).wr Reg.GR_UC_STATE st).wr
      Reg.GR_UC_HOLD_MS (min 65535 ms)).log1 code (0xFFF0 + b) det := by
  dsimp only [Dev.ucBack]
  rw [hrun, Dev.each_nil, Dev.each_nil]
  generalize hd : (({ e with graft := { e.graft with ucBranch := none } } : Dev).wr Reg.GR_UC_STATE st).wr Reg.GR_UC_HOLD_MS (min 65535 ms) = d
  have hq := log1_quiet d code (0xFFF0 + b) det
  have hchan : ∀ n, (d.log1 code (0xFFF0 + b) det).chan n = e.chan n := fun n => (hq.chan n).trans (by rw [← hd]; rfl)
  have hbranch : (d.log1 code (0xFFF0 + b) det).branch b = e.branch b := (hq.branch b).trans (by rw [← hd]; rfl)
  have hheart : (d.log1 code (0xFFF0 + b) det).heartDigest b = e.heartDigest b := by
    rw [Dev.heartDigest, hq.1, ← hd]
    rfl
  rw [duePostures_none w fun i hi => by rw [hchan]; exact hdue i hi, hbranch, hheart, if_pos hdig]

/-- Settles O32: by the commands' definitions, a commit outside a graft and a quiet return of a branch. -/
theorem convertersAndMicrocodeAreGrafted : Obligations.ConvertersAndMicrocodeAreGrafted := by
  refine ⟨fun s t e => ?_, fun s b t ms version e => ?_⟩
  · intro k n
    refine ⟨rfl, rfl, rfl, fun c hc => ?_, rfl, rfl, fun h => ?_, fun h => ?_, fun c h => ?_⟩
    · exact congrArg (fun o : Option Cal => match o with
        | none => ({ e with graft := { e.graft with calLast := e.now } } : Dev)
        | some c => ({ e with graft := { e.graft with calLast := e.now } } : Dev).calCommit k c) hc
    · exact Goes.of_eq (c := .calGraftTimeout t) (s := s) rfl (if_pos h)
    · exact Goes.of_eq (c := .calGraftTimeout t) (s := s) rfl (if_neg (Nat.not_le.mpr h))
    · refine calCommit_loose ?_ h
      show Reg.HND_ID (e.rd Reg.GR_CAL_HANDLE % 128) ≠ Reg.OPS_PEAK
      unfold Reg.HND_ID Reg.OPS_PEAK
      omega
  · intro d
    refine ⟨?_, rfl, fun hb hst => ⟨?_, ?_⟩, fun st code det => ucBack_quiet s.worn ms st code det, fun hb hst => ?_,
      fun h => ?_, fun h => ⟨?_, ?_⟩⟩
    · unfold Dev.ucCheck
      cases e.graftStep <;> cases e.hears b.val <;> decide
    · exact Goes.of_eq (c := .ucSwitched b version ms t) (s := s) rfl (if_pos ⟨hb, hst⟩)
    · exact Goes.of_eq (c := .ucReverted b ms t) (s := s) rfl (if_pos ⟨hb, hst⟩)
    · refine Goes.of_eq (c := .ucAbandoned b t) (s := s) rfl ((if_pos hst).trans (if_pos ⟨hb, ?_, ?_⟩))
      · show 1 ≤ s.dev.rd Reg.GR_UC_STATE
        omega
      · show s.dev.rd Reg.GR_UC_STATE ≤ 3
        omega
    · exact Goes.of_eq (c := .ucAbandoned b t) (s := s) rfl (if_neg h)
    · exact Goes.of_eq (c := .ucSwitched b version ms t) (s := s) rfl (if_neg fun hs => h hs.2)
    · exact Goes.of_eq (c := .ucReverted b ms t) (s := s) rfl (if_neg fun hs => h hs.2)

end Sys2Proof.Machine
end

/-! Mains tracking, the references and the calibration cycle (R69, R77, R78, R84 to R86). -/
section
namespace Sys2Proof.Machine

theorem modSlot_modSlot (d : Dev) (k : Nat) (f g : Slot → Slot) : (d.modSlot k f).modSlot k g = d.modSlot k fun x => g (f x) := by
  rw [Dev.modSlot, Dev.modSlot, Dev.setSlot_slot, if_pos rfl, Dev.setSlot_setSlot]
  rfl

/-! A calibration cycle: what ends and what begins. -/

theorem driftOf_far {a b : Int} (h : 2000 < (a - b).natAbs) : driftOf a b = some (a - b, decide (a.natAbs < b.natAbs)) := if_pos (by omega)

theorem driftOf_near {a b : Int} (h : (a - b).natAbs ≤ 2000) : driftOf a b = none := if_neg (by omega)

section
variable {e : Dev} {w : Worn} {b : Nat} {c : CalRun}

theorem calSettle_idle (hd : (e.branch b).driftDue = none) (hc : (e.branch b).cal = none) : e.calSettle w b = (e, w) := by
  unfold Dev.calSettle
  simp only [hd, hc]

/-- The device with the reference measurement of a cycle entered. -/
def Dev.measured (e : Dev) (b : Nat) (c : CalRun) : Dev := (e.setBranch b { e.branch b with
  refMeasA := 2500000 * (10000000 + c.devA) / 10000000, refMeasB := 2500000 * (10000000 + c.devB) / 10000000,
  refT := c.start + 60000000, zeroT := c.zero }).wrI 32 (Reg.BR_REF_RATIO b) (c.devA - c.devB)

theorem calSettle_measures (hd : (e.branch b).driftDue = none) (hc : (e.branch b).cal = some c) (hdone : c.done = false) :
    e.calSettle w b = if e.now < c.start + 60000000 then (e, w) else match driftOf c.devA c.devB with
      | some (r, bd) => (e.measured b c).driftEnter w b r bd
      | none => ((e.measured b c).calTurn b 0 c, w) := by
  unfold Dev.calSettle
  dsimp only
  split
  · next h => exact absurd (hd.symm.trans h) nofun
  · next h => exact absurd (hc.symm.trans h) nofun
  · next c' _ h =>
    obtain rfl := Option.some.inj (hc.symm.trans h)
    rw [if_neg (ne_true_of_eq_false hdone)] <;> rfl

end

section
variable {e : Dev} {b : Nat} {devA devB zero : Int}

/-- A calibration cycle is due: none ran yet, or the period is over (R84). -/
def Dev.calDue (e : Dev) (b : Nat) : Prop := (e.branch b).calLast = none ∨
  ∃ u, (e.branch b).calLast = some u ∧ u + e.rd (Reg.BR_CAL_PERIOD b) * 1000000000 ≤ e.now

/-- The same, as calBegin asks it. -/
def Dev.calDueNow (e : Dev) (b : Nat) : Bool := match (e.branch b).calLast with
  | none => true
  | some t => t + e.rd (Reg.BR_CAL_PERIOD b) * 1000000000 ≤ e.now

theorem calDueNow_iff : e.calDueNow b = true ↔ e.calDue b := by
  unfold Dev.calDueNow Dev.calDue
  cases (e.branch b).calLast <;> simp

theorem calBegin_eq : e.calBegin b devA devB zero =
    if (e.rd (Reg.BR_CAL_PERIOD b) = 0 || !(e.branch b).refReady || !e.calDueNow b) = true then e
    else if e.rd (Reg.BR_T_STATE b) = 2 then
      (match driftOf devA devB with
      | none => e
      | some q => e.setBranch b { e.branch b with driftDue := some q })
    else if (e.rd (Reg.BR_T_STATE b) = 0 && (e.branch b).cal.isNone) = true then
      ((e.setBranch b { e.branch b with cal := some { start := e.now, devA := devA, devB := devB, zero := zero }, calLast := some e.now }).wr
        (Reg.BR_T_STATE b) 1).wr (Reg.BR_T_CHANNEL b) 0xFF
    else e := by
  unfold Dev.calBegin Dev.calDueNow <;> rfl

theorem calBegin_waits (h : e.rd (Reg.BR_CAL_PERIOD b) = 0 ∨ (e.branch b).refReady = false ∨ ¬ e.calDue b) : e.calBegin b devA devB zero = e := by
  rw [calBegin_eq, if_pos]
  rw [← calDueNow_iff] at h
  rcases h with h | h | h <;> simp [h]

theorem calBegin_due (h0 : e.rd (Reg.BR_CAL_PERIOD b) ≠ 0) (hr : (e.branch b).refReady = true) (hd : e.calDue b) :
    ¬ (e.rd (Reg.BR_CAL_PERIOD b) = 0 || !(e.branch b).refReady || !e.calDueNow b) = true := by
  rw [calDueNow_iff.2 hd, hr, decide_eq_false h0]
  decide

end

section
variable {e : Dev} {b j : Nat} {want : Int}

theorem calStep1_eq (hj : j % 2 = 0) (hn : (e.chan (4 * b + j / 2)).nextP = none) : e.calStep1 b j want =
    if 3355 < ((e.chan (4 * b + j / 2)).corrP + clampInt (-16) 16 (want - (e.chan (4 * b + j / 2)).corrP)).natAbs then
      e.report (4 * b + j / 2) 0x040D (0xFFF0 + b) (j + ofInt 24 want * 256)
    else e.modChan (4 * b + j / 2) fun c => { c with
      nextP := some ((e.chan (4 * b + j / 2)).corrP + clampInt (-16) 16 (want - (e.chan (4 * b + j / 2)).corrP)) } := by
  dsimp only [Dev.calStep1]
  rw [if_pos hj, if_pos hj, hn, Option.getD_none]
  generalize (e.chan (4 * b + j / 2)).corrP + clampInt (-16) 16 (want - (e.chan (4 * b + j / 2)).corrP) = next
  by_cases h : 3355 < next.natAbs
  · rw [if_pos h, if_pos (by omega)]
  · rw [if_neg h, if_neg (by omega)]
    rfl

end

theorem mainsLost_again {d : Dev} {k : Nat} (h : d.rd (Reg.CV_MAINS_STATE k) = 3) : d.mainsLost k = d.modSlot k fun x => { x with mGood := 0 } :=
  if_pos h

theorem mainsLost_first {d : Dev} {k : Nat} (h : d.rd (Reg.CV_MAINS_STATE k) ≠ 3) : d.mainsLost k =
    ((d.modSlot k fun x => { x with mGood := 0 }).wr (Reg.CV_MAINS_STATE k) 3).log1 0x040B (d.rd (Reg.HND_ID k)) ((d.slot k).mPeriod / 1000) :=
  if_neg h

/-- Settles O51: by the commands' definitions, with what a calibration cycle settles and begins. -/
theorem referencesAct : Obligations.ReferencesAct := by
  intro s b h mv t d x tracks
  refine ⟨fun ht hst => ?_, fun ht hst => ?_, fun ht => ?_, fun hv hr => ?_, fun hr hf => ?_, fun hr => ?_, fun hf => ?_, fun hf => ?_,
    fun _ _ _ => rfl, fun e w hd => ⟨calSettle_idle hd, fun c hc hdone => ?_⟩, fun e devA devB zero => ?_, fun e j want hj hn => ?_⟩
  · refine Goes.of_eq (c := .mainsTimeout h t) (s := s) rfl ((if_pos ?_).trans ?_)
    · show (usesPair (s.dev.kind h) && (decide (s.dev.rd (Reg.CV_WINDOW h) = 2) || decide (s.dev.rd (Reg.CV_WINDOW h) = 3))) = true
      simpa using (show _ ∧ _ from ht)
    · exact congrArg (fun e : Dev => e.modSlot h fun x => { x with mLast := 0 }) (mainsLost_first (d := s.dev.at t) hst)
  · refine Goes.of_eq (c := .mainsTimeout h t) (s := s) rfl ((if_pos ?_).trans ?_)
    · show (usesPair (s.dev.kind h) && (decide (s.dev.rd (Reg.CV_WINDOW h) = 2) || decide (s.dev.rd (Reg.CV_WINDOW h) = 3))) = true
      simpa using (show _ ∧ _ from ht)
    · refine (congrArg (fun e : Dev => e.modSlot h fun x => { x with mLast := 0 }) (mainsLost_again (d := s.dev.at t) hst)).trans ?_
      exact modSlot_modSlot _ _ _ _
  · refine Goes.of_eq (c := .mainsTimeout h t) (s := s) rfl (if_neg ?_)
    show ¬ (usesPair (s.dev.kind h) && (decide (s.dev.rd (Reg.CV_WINDOW h) = 2) || decide (s.dev.rd (Reg.CV_WINDOW h) = 3))) = true
    simpa using (show ¬ (_ ∧ _) from ht)
  · refine Goes.of_eq (c := .refReady b t) (s := s) rfl (if_pos ?_)
    show (x.valid && !(decide (s.dev.rd (Reg.BR_REF_SEL b) = 1) && x.refinFault)) = true
    rcases hr with hr | hr <;> simp [hv, hr]
  · exact Goes.of_eq (c := .refinFault b mv t) (s := s) rfl (if_pos ⟨hr, hf⟩)
  · exact Goes.of_eq (c := .refinFault b mv t) (s := s) rfl (if_neg fun h => hr h.1)
  · exact Goes.of_eq (c := .refinRestored b mv t) (s := s) rfl (if_pos hf)
  · exact Goes.of_eq (c := .refinRestored b mv t) (s := s) rfl (if_neg (ne_true_of_eq_false hf))
  · intro f
    have he := calSettle_measures (w := w) hd hc hdone
    refine ⟨fun hn => he.trans (if_pos hn), fun hn hr => ?_, fun hn hr => ?_⟩
    · rw [if_neg (Nat.not_lt.2 hn), driftOf_near hr] at he
      exact he
    · rw [if_neg (Nat.not_lt.2 hn), driftOf_far hr] at he
      exact he
  · intro y period due
    refine ⟨calBegin_waits, fun h0 hr hd hst hc => ?_, fun h0 hr hd hst => ⟨fun hn => ?_, fun hf => ?_⟩⟩
    · rw [calBegin_eq, if_neg (calBegin_due h0 hr hd), hst, if_neg (by decide), if_pos (by rw [hc]; rfl)]
    · rw [calBegin_eq, if_neg (calBegin_due h0 hr hd), if_pos hst, driftOf_near hn]
    · rw [calBegin_eq, if_neg (calBegin_due h0 hr hd), if_pos hst, driftOf_far hf]
  · intro now next
    exact ⟨fun hle => (calStep1_eq hj hn).trans (if_neg (Nat.not_lt.2 hle)), fun hlt => (calStep1_eq hj hn).trans (if_pos hlt)⟩

end Sys2Proof.Machine
end

/-! Urgent conversions (R90 to R93). -/
section
namespace Sys2Proof.Machine

/-! The request. -/

section
variable {d : Dev} {f : Deferred} {k : Nat}

theorem withOp_rd (hk : k ≠ Reg.OPS_PEAK) : (d.withOp f).rd k = d.rd k := (Dev.wr_rd _ _ _ _).trans (if_neg hk)

theorem handleKey_ne_peak (k c : Nat) : (0x2000 + 0x40 * k) * 256 + c ≠ Reg.OPS_PEAK := by
  unfold Reg.OPS_PEAK
  omega

theorem withOp_master : (d.withOp f).master k = d.master k := by
  unfold Dev.master Dev.isObserver
  rw [withOp_rd (handleKey_ne_peak k _), withOp_rd (handleKey_ne_peak k _)]

theorem withOp_chanOf : (d.withOp f).chanOf k = d.chanOf k := by
  unfold Dev.chanOf
  rw [withOp_rd (handleKey_ne_peak k _)]

theorem withOp_det : (d.withOp f).det = d.det := by
  unfold Dev.det
  rw [withOp_rd (by decide)]

end

section
variable {d : Dev} {w : Worn} {q : Request} {v : Nat} {x : Entry} {k : Nat}

/-- A request of an urgent conversion comes down to its acceptance. -/
theorem outside_urgent (hix : q.ix = 0x2000 + 0x40 * k) (hsub : q.sub = 0x1E) (hx : x.ix = q.ix ∧ x.sub = q.sub) (hk : k < 128)
    (hm : measuring (d.kind k) = true) : d.outside w q v x = d.acceptUrgent q x := by
  have hslot : slotOf q.ix = k := by rw [hix, slotOf]; omega
  have hat : actsAtOnce q.ix q.sub = false := by
    rw [hix, hsub]
    simp [actsAtOnce]
    omega
  have hrel : x.key ≠ Reg.BR_RELEASE := by
    rw [Entry.key, hx.1, hx.2, hix, hsub]
    unfold Reg.BR_RELEASE
    omega
  have hhnd : isHandleIx q.ix = true := by
    rw [hix]
    simp [isHandleIx]
    omega
  unfold Dev.outside
  rw [if_neg (by omega), if_neg (by omega), if_neg (by omega), if_neg (by omega), if_neg (by omega), if_neg hrel, hat,
    if_neg (by decide), if_pos (by rw [hhnd, hslot, hm, hsub]; decide)]

end

section
variable {r : Req} {s : State} {h : Nat}

/-- What an accepted urgent request leaves: staged under DET, else its word on the way to the branch (R90). -/
theorem acceptUrgent_staged {d : Dev} {q : Request} {x : Entry} {k : Nat} (hx : slotOf x.ix = k) (hok : d.urgentOk k = true)
    (hfree : d.opsFree = true) (hdet : d.det = true) :
    d.acceptUrgent q x = ({ d.withOp ⟨q, x⟩ with staged := d.staged ++ [x] }, { status := DEFERRED }) := by
  unfold Dev.acceptUrgent
  rw [hx, hok, accept_free hfree, hdet]
  rfl

theorem acceptUrgent_sent {d : Dev} {q : Request} {x : Entry} {k : Nat} (hx : slotOf x.ix = k) (hok : d.urgentOk k = true)
    (hfree : d.opsFree = true) (hdet : d.det = false) :
    d.acceptUrgent q x = ((d.withOp ⟨q, x⟩).urgentRequest k x.id x.seq, { status := DEFERRED }) := by
  unfold Dev.acceptUrgent
  rw [hx, hok, accept_free hfree, hdet]
  rfl

theorem acceptUrgent_busy {d : Dev} {q : Request} {x : Entry} {k : Nat} (hx : slotOf x.ix = k) (hok : d.urgentOk k = false) :
    d.acceptUrgent q x = (d, { status := BUSY }) := by
  unfold Dev.acceptUrgent
  rw [hx, hok]
  rfl

/-- The first urgent request of a driver asks its branch (R90). -/
theorem urgentRequest_first {d : Dev} {f : Deferred} {k id seq t : Nat} (hrun : (d.slot (d.master k)).urgRun = false)
    (hreqs : (d.slot (d.master k)).urgReqs = []) : (d.withOp f).urgentRequest k id seq t =
      ((d.withOp f).modSlot (d.master k) fun x => { x with urgReqs := [(id, seq)] }).toBranch (d.chanOf (d.master k) / 4)
        (.conv (d.master k) 1 t) := by
  unfold Dev.urgentRequest Dev.urgentTarget
  rw [withOp_master]
  generalize d.master k = j at *
  refine (if_neg ?_).trans ?_
  · show ¬ ((d.slot j).urgRun || decide ((d.slot j).urgReqs ≠ [])) = true
    rw [hrun, hreqs]
    decide
  · have hc : ((d.withOp f).modSlot j fun x => { x with urgReqs := [(id, seq)] }).chanOf j = d.chanOf j := withOp_chanOf
    rw [← hc]
    rfl

theorem urgentRequest_asks (hp : s.dev.permits (writeReq r (Reg.CV_URGENT_REQ (h % 128)) h 1 1)) (hm : measuring (s.dev.kind (h % 128)) = true) :
    let k := h % 128
    let q := writeReq r (Reg.CV_URGENT_REQ k) h 1 1
    let f := ((s.dev.at r.t).used q).withOp ⟨q, s.dev.entryOf q⟩
    (s.dev.urgentOk k = true → s.dev.opsInUse < 256 →
      (s.dev.det = true → Obeys (.cvUrgentReq r h) s q { status := DEFERRED } { f with staged := s.dev.staged ++ [s.dev.entryOf q] }) ∧
      (s.dev.det = false → (s.dev.slot (s.dev.master k)).urgRun = false → (s.dev.slot (s.dev.master k)).urgReqs = [] →
        Obeys (.cvUrgentReq r h) s q { status := DEFERRED }
          ((f.modSlot (s.dev.master k) fun x => { x with urgReqs := [(r.id, r.seq)] }).toBranch (s.dev.chanOf (s.dev.master k) / 4)
            (.conv (s.dev.master k) 1 r.t)))) ∧
    (s.dev.urgentOk k = false → Obeys (.cvUrgentReq r h) s q { status := BUSY } (s.dev.bump 32 Reg.OPS_BUSY_COUNT)) := by
  intro k q f
  have hP : Permitted (.cvUrgentReq r h) s q := .of_writeReq rfl (by decide) hp
  have hk : k < 128 := Nat.mod_lt _ (by decide)
  have hix : q.ix = 0x2000 + 0x40 * k := by
    show ((0x2000 + 0x40 * k) * 256 + 0x1E) / 256 = _
    omega
  have hsub : q.sub = 0x1E := by
    show ((0x2000 + 0x40 * k) * 256 + 0x1E) % 256 = _
    omega
  have hslot : slotOf (s.dev.entryOf q).ix = k := by
    show slotOf q.ix = k
    rw [hix, slotOf]
    omega
  have hout : ∀ rs xs, (s.dev.booked q.t {} rs xs).outside s.worn q q.data (s.dev.entryOf q) =
      (s.dev.booked q.t {} rs xs).acceptUrgent q (s.dev.entryOf q) := fun rs xs => outside_urgent hix hsub ⟨rfl, rfl⟩ hk hm
  obtain ⟨rs, he⟩ := arrived_booked s.dev q
  refine ⟨fun hok hfree => ⟨fun hdet => ?_, fun hdet hrun hreqs => ?_⟩, fun hok => ?_⟩
  · have hacc : (s.dev.arrived q).outside s.worn q q.data (s.dev.entryOf q) =
        ({ (s.dev.arrived q).withOp ⟨q, s.dev.entryOf q⟩ with staged := s.dev.staged ++ [s.dev.entryOf q] }, { status := DEFERRED }) := by
      rw [he, hout, acceptUrgent_staged (d := s.dev.booked q.t {} rs (s.dev.used q).txns) hslot hok (decide_eq_true hfree) hdet]
      rfl
    refine hP.obeys hacc (fun h => absurd h (by decide)) (by rw [he]; rfl) rfl (by rw [he]; rfl) ?_
    exact (withOp_rd (by decide)).trans (arrived_rd _)
  · have hacc : (s.dev.arrived q).outside s.worn q q.data (s.dev.entryOf q) =
        ((((s.dev.arrived q).withOp ⟨q, s.dev.entryOf q⟩).modSlot (s.dev.master k) fun x => { x with urgReqs := [(r.id, r.seq)] }).toBranch
          (s.dev.chanOf (s.dev.master k) / 4) (.conv (s.dev.master k) 1 r.t), { status := DEFERRED }) := by
      rw [he, hout, acceptUrgent_sent (d := s.dev.booked q.t {} rs (s.dev.used q).txns) hslot hok (decide_eq_true hfree) hdet]
      exact congrArg (fun d : Dev => (d, ({ status := DEFERRED } : Answer))) (urgentRequest_first (d := s.dev.booked q.t {} rs (s.dev.used q).txns) hrun hreqs)
    refine hP.obeys hacc (fun h => absurd h (by decide)) (by rw [he]; rfl) rfl (by rw [he]; rfl) ?_
    exact (withOp_rd (d := s.dev.arrived q) (f := ⟨q, s.dev.entryOf q⟩) (k := Reg.DR_EPOCH) (by decide)).trans (arrived_rd _)
  · have h := hP.refused BUSY fun rs xs => (hout rs xs).trans (acceptUrgent_busy hslot hok)
    rwa [decide_eq_true rfl, Dev.when_true] at h

end

/-! The results. -/

theorem freeOp_slots (d : Dev) : d.freeOp.slots = d.slots := drain_slots _

theorem urgentDone_slots (d : Dev) (l : List (Nat × Nat)) (st : Nat) : (d.urgentDone l st).slots = d.slots := by
  refine each_keeps Dev.slots _ (fun e p => ?_) _ _
  split
  · exact finish_slots _ _ _
  · split
    · exact freeOp_slots _
    · rfl

theorem storeUrgent_slots (d : Dev) (k : Nat) (code : Int) (f : RecFlags) (time : Nat) : (d.storeUrgent k code f time).slots = d.slots := by
  dsimp only [Dev.storeUrgent]
  exact Dev.wr_slots d _ _

/-- With no further request waiting, an urgent conversion has run (R91). -/
theorem urgentServed_last {d : Dev} {k : Nat} (fast : Bool) (h : (d.slot k).urgNext = []) :
    ((d.urgentServed k fast).slot k).urgRun = false ∧ ((d.urgentServed k fast).slot k).urgReqs = [] := by
  dsimp only [Dev.urgentServed]
  rw [Dev.slot, urgentDone_slots]
  show ((d.setSlot k _).slot k).urgRun = false ∧ ((d.setSlot k _).slot k).urgReqs = []
  rw [Dev.setSlot_slot, if_pos rfl]
  dsimp only
  rw [h]
  exact ⟨rfl, rfl⟩

/-- Settles O52: the request as its acceptance says, the results by the commands' definitions. -/
theorem urgentConversionsAct : Obligations.UrgentConversionsAct := by
  intro s r h k q e f
  refine ⟨urgentRequest_asks, fun g m t hn => ?_, fun g m t hrun hkind hfast hhear hobs => ?_, fun g mon t hrun hkind hhear => ?_,
    fun g mon t hn => ?_⟩
  · refine Goes.of_eq (c := .urgentResult g m t) (s := s) rfl (if_pos ?_)
    show (!(s.dev.slot g).urgRun || decide (s.dev.kind g = 7) || s.dev.fast g || !s.dev.hears (s.dev.chanOf g / 4)) = true
    rcases hn with h | h | h | h <;> simp [h]
  · intro d y
    have hgo : Goes (.urgentResult g m t) s ((d.keepUrgent s.worn g y.1 y.2 m (s.dev.slot g).urgMid).urgentServed g false) := by
      refine Goes.of_eq (c := .urgentResult g m t) (s := s) rfl ((if_neg ?_).trans ?_)
      · show ¬ (!(s.dev.slot g).urgRun || decide (s.dev.kind g = 7) || s.dev.fast g || !s.dev.hears (s.dev.chanOf g / 4)) = true
        simp [hrun, hkind, hfast, hhear]
      · have hobs' : (s.dev.at t).observers g = [] := hobs
        dsimp only
        rw [hobs', Dev.each_cons, Dev.each_nil]
        rfl
    refine ⟨hgo, fun id seq _ hnext => ⟨_, hgo, ⟨rfl, rfl, rfl⟩, urgentServed_last false ?_⟩⟩
    rw [Dev.slot, Dev.keepUrgent, storeUrgent_slots]
    exact hnext
  · refine Goes.of_eq (c := .monitorUrgentDone g mon t) (s := s) rfl (if_neg ?_)
    show ¬ (!(s.dev.slot g).urgRun || decide (s.dev.kind g ≠ 7) || !s.dev.hears (s.dev.chanOf g / 4)) = true
    simp [hrun, hkind, hhear]
  · refine Goes.of_eq (c := .monitorUrgentDone g mon t) (s := s) rfl (if_pos ?_)
    show (!(s.dev.slot g).urgRun || decide (s.dev.kind g ≠ 7) || !s.dev.hears (s.dev.chanOf g / 4)) = true
    rcases hn with h | h <;> simp [h]

end Sys2Proof.Machine
end

/-! The end of a window and of a fast block (R65 to R70, R78 to R82, R88). -/
section
namespace Sys2Proof.Machine

/-! What the end of a window leaves alone: the grafts, the slots, a branch at rest in its calibration, and every object outside K. -/

structure Steady (K : Nat → Prop) (b : Nat) (d e : Dev) : Prop where
  graft : e.graft = d.graft
  slots : e.slots = d.slots
  idle : (d.branch b).cal = none ∧ (d.branch b).driftDue = none → (e.branch b).cal = none ∧ (e.branch b).driftDue = none
  rd : ∀ key, ¬ K key → e.rd key = d.rd key

namespace Steady

variable {K : Nat → Prop} {b : Nat} {d e f : Dev}

theorem refl (d : Dev) : Steady K b d d := ⟨rfl, rfl, id, fun _ _ => rfl⟩

theorem trans (h : Steady K b d e) (g : Steady K b e f) : Steady K b d f :=
  ⟨g.graft.trans h.graft, g.slots.trans h.slots, fun hi => g.idle (h.idle hi), fun k hk => (g.rd k hk).trans (h.rd k hk)⟩

theorem when {f : Dev → Dev} (c : Bool) (h : Steady K b d (f d)) : Steady K b d (d.when c f) := by
  cases c
  · exact refl d
  · exact h

theorem ite {p : Prop} [Decidable p] (h : Steady K b d e) (g : Steady K b d f) : Steady K b d (if p then e else f) := by
  split
  · exact h
  · exact g

theorem wr {k : Nat} (v : Nat) (hk : K k) : Steady K b d (d.wr k v) :=
  ⟨rfl, rfl, id, fun key h => (Dev.wr_rd d k v key).trans (if_neg fun he : key = k => h (by rwa [he]))⟩

theorem modChan (n : Nat) (f : Chan → Chan) : Steady K b d (d.modChan n f) := ⟨rfl, rfl, id, fun _ _ => rfl⟩

theorem setBranch {j : Nat} {x : Branch} (hc : x.cal = (d.branch j).cal)
    (hd : x.driftDue = none ∨ x.driftDue = (d.branch j).driftDue) : Steady K b d (d.setBranch j x) := by
  refine ⟨rfl, rfl, fun hi => ?_, fun _ _ => rfl⟩
  rw [Dev.setBranch_branch]
  split
  · next h =>
    subst h
    refine ⟨hc.trans hi.1, ?_⟩
    rcases hd with h | h
    · exact h
    · exact h.trans hi.2
  · exact hi

theorem modBranch {j : Nat} {g : Branch → Branch} (hc : ∀ x, (g x).cal = x.cal) (hd : ∀ x, (g x).driftDue = none ∨ (g x).driftDue = x.driftDue) :
    Steady K b d (d.modBranch j g) := setBranch (hc _) (hd _)

theorem toCrown (j : Nat) (w : LWord) : Steady K b d (d.toCrown j w) := modBranch (fun _ => rfl) fun _ => .inr rfl

theorem sendResult (n : Nat) (r : Role) (m : Meas) : Steady K b d (d.sendResult n r m) := when (f := fun d => d.toCrown (n / 4) (.result r m)) _ (toCrown _ _)

theorem log1 (hK : ∀ k, logKey k → K k) (code src det : Nat) : Steady K b d (d.log1 code src det) := by
  have h := log1_quiet d code src det
  refine ⟨by rw [h.1], by rw [h.1], fun hi => ?_, fun k hk => h.2 k fun hl => hk (hK k hl)⟩
  rwa [h.branch]

theorem protect (n code det : Nat) : Steady K b d (d.protect n code det) :=
  ite (toCrown _ _) (ite (setBranch rfl (.inr rfl)) (setBranch rfl (.inr rfl)))

theorem report (hK : ∀ k, logKey k → K k) (n code src det : Nat) : Steady K b d (d.report n code src det) :=
  ite (log1 hK _ _ _) (protect _ _ _)

theorem setMaint (hK : ∀ k, logKey k → K k) (hm : K Reg.SPR_MAINT) (bit : Nat) : Steady K b d (d.setMaint bit) :=
  ite (refl d) ((wr _ hm).trans (log1 hK _ _ _))

theorem loopFlags {k : Nat} (hk : K (Reg.LP_STATUS k)) (m : WinMeas) : Steady K b d (d.loopFlags k m) :=
  ite (refl d) ((modChan _ _).trans (when (f := fun d => d.wr (Reg.LP_STATUS k) _) _ (wr _ hk)))

theorem kind (h : Steady K b d e) {k : Nat} (hk : ¬ K (Reg.HND_KIND k)) : e.kind k = d.kind k := h.rd _ hk

theorem slot (h : Steady K b d e) (k : Nat) : e.slot k = d.slot k := by rw [Dev.slot, h.slots]; rfl

end Steady

/-- The objects that the end of a window of slot k may write beside the plausibility state and those of T. -/
def windowKey (k key : Nat) : Prop := key = Reg.LP_STATUS k ∨ key = Reg.SPR_T_FREE ∨ key = Reg.SPR_MAINT ∨ logKey key

theorem logKey_windowKey {k : Nat} (key : Nat) (h : logKey key) : windowKey k key := .inr (.inr (.inr h))

theorem handle_not_windowKey {k : Nat} (hk : k < 128) {c : Nat} (hc : c < 64) (hne : c ≠ 0x22) : ¬ windowKey k ((0x2000 + 0x40 * k) * 256 + c) := by
  unfold windowKey logKey Reg.LP_STATUS Reg.SPR_T_FREE Reg.SPR_MAINT Reg.OPS_EVT_LOST Reg.EV_TOTAL Reg.OPS_PEAK
  omega

theorem branch_not_windowKey {k b : Nat} (hk : k < 128) {c : Nat} (hc : c < 64) : ¬ windowKey k ((0x9010 + b) * 256 + c) := by
  unfold windowKey logKey Reg.LP_STATUS Reg.SPR_T_FREE Reg.SPR_MAINT Reg.OPS_EVT_LOST Reg.EV_TOTAL Reg.OPS_PEAK
  omega

/-! The end of a window of a pair, once its verdict stands, in three steps. -/

/-- The results go to the crown, and a graft takes its share (R70, R391). -/
def Dev.resultsSent (d : Dev) (w : Worn) (k n : Nat) (m : WinMeas) (block : Bool) (r rc : Meas) : Dev :=
  let d := d.when (!block) fun d => d.sendResult n .p r
  let d := d.when (d.kind k = 2) fun d => d.sendResult n .c rc
  d.when (d.graft.calSlot = some k && !block) fun d =>
    if d.graft.calOn then d.graftWindow w k m (!r.settle && !r.abort && !r.test) else { d with graft := { d.graft with calOn := true } }

/-- The residues are carried over and a calibration takes its share (R67, R85). -/
def Dev.residuesCarried (d : Dev) (k n : Nat) (m : WinMeas) (block judged tRan : Bool) (yf : Triple) : Dev :=
  let d := (d.carry n m (!block) (tRan && !block)).loopFlags k m
  let d := d.when (judged && d.rd (Reg.CV_PLAUS_STATE k) = VOTING && !tRan) fun d => d.modChan n fun c => { c with resT := none }
  d.when (!block) fun d => d.calWindow k yf m.vf true true

/-- The next window opens (R65, R87). -/
def Dev.reopened (d : Dev) (w : Worn) (k n : Nat) : Dev × Worn :=
  let d := (d.modSlot k fun x => { x with
    settleNext := x.settleNext && ((d.branch (n / 4)).refinFault || (d.branch (n / 4)).refEnd), urgNeed := x.urgRun }).openWindow k
  ((d.calibrate k).nextTest k).calSettle w (n / 4)

/-- The settings of a window that nothing disturbs. -/
structure Undisturbed (d : Dev) (w : Worn) (k : Nat) : Prop where
  settle : (d.slot k).settleNext = false
  test : (d.slot k).testNow = false
  urgent : (d.slot k).urgNeed = false
  fault : (d.branch (d.chanOf k / 4)).refinFault = false
  faultEnd : (d.branch (d.chanOf k / 4)).refEnd = false
  role : roleOf w (d.chanOf k) = 0
  graft : d.graft.calSlot = none
  due : d.graft.calDue = none
  kind : d.kind k = 1 ∨ d.kind k = 3
  calm : (d.branch (d.chanOf k / 4)).cal = none ∧ (d.branch (d.chanOf k / 4)).driftDue = none

namespace Undisturbed

variable {d : Dev} {w : Worn} {k : Nat} (h : Undisturbed d w k)
include h

theorem standsIn (c : Bool) : d.standsIn k c = false := by
  rw [Dev.standsIn, h.graft]
  rfl

theorem tAsP : d.tAsP w k = false := by
  rw [Dev.tAsP, h.role, h.standsIn]
  rfl

variable {m : WinMeas} {sp : Spans} {block : Bool} {tEnd : Nat} {d1 : Dev}
  (hsp : (decide (d.rd (Reg.CV_PLAUS_STATE k) = VOTING) && decide (sp.t = 0)) = false)
include hsp

/-- With no verdict, the end of a window sends P's value. -/
theorem pairWindow_keeps (hq : d.plausible w k ⟨(d.triple w k m sp).p, (d.triple w k m sp).c, (d.triple w k m sp).t⟩ m.vf = (d1, none)) :
    ∃ rc yf, d.pairWindow w k m sp block tEnd = ((d1.resultsSent w k (d.chanOf k) m block {
      slot := k, num := (d.triple w k m sp).p.1, den := (d.triple w k m sp).p.2, sat := m.ovP, wire := (d1.slot k).wire, plaus := d1.disagrees k,
      degr := degradedChan w (d.chanOf k), limit := m.limiter || bitOf (d1.lpSt k) 0, clocks := sp.p, vf := m.vf, tEnd := tEnd } rc).residuesCarried k
        (d.chanOf k) m block true (d.tWorks w k) yf).reopened w k (d.chanOf k) := by
  unfold Dev.pairWindow
  simp only [h.settle, h.test, h.urgent, h.fault, h.faultEnd, h.role, h.standsIn, hsp, Bool.false_or, Bool.or_false, Bool.false_and,
    Bool.and_false, Bool.not_false, Bool.and_true, Bool.true_and, Dev.when_false, Bool.false_eq_true, if_false,
    (by decide : decide (0 = 1) = false), (by decide : decide (0 = 2) = false), hq]
  exact ⟨_, _, rfl⟩

/-- With a verdict, the converter is retired first. -/
theorem pairWindow_retires {which : Nat}
    (hq : d.plausible w k ⟨(d.triple w k m sp).p, (d.triple w k m sp).c, (d.triple w k m sp).t⟩ m.vf = (d1, some which)) :
    ∃ r rc yf, d.pairWindow w k m sp block tEnd = (((d1.retire k which).resultsSent (w.retire (d.chanOf k) which) k (d.chanOf k) m block r
      rc).residuesCarried k (d.chanOf k) m block false (d.tWorks w k) yf).reopened (w.retire (d.chanOf k) which) k (d.chanOf k) := by
  unfold Dev.pairWindow
  simp only [h.settle, h.test, h.urgent, h.fault, h.faultEnd, h.role, h.standsIn, hsp, Bool.false_or, Bool.or_false, Bool.false_and,
    Bool.and_false, Bool.not_false, Bool.and_true, Bool.true_and, Dev.when_false, Bool.false_eq_true, if_false,
    (by decide : decide (0 = 1) = false), (by decide : decide (0 = 2) = false), hq]
  exact ⟨_, _, _, rfl⟩

end Undisturbed

/-! The three steps where no graft and no calibration runs. -/

section
variable {d : Dev} {w : Worn} {k n : Nat} {m : WinMeas}

theorem resultsSent_calm (block : Bool) (r rc : Meas) (hk : k < 128) (hkind : d.kind k ≠ 2) (hg : d.graft.calSlot = none) :
    d.resultsSent w k n m block r rc = d.when (!block) fun d => d.sendResult n .p r := by
  unfold Dev.resultsSent
  have h : Steady (windowKey k) 0 d (d.when (!block) fun d => d.sendResult n .p r) :=
    .when (f := fun d => d.sendResult n .p r) _ (.sendResult _ _ _)
  generalize (d.when (!block) fun d => d.sendResult n .p r) = e at h
  have hkind' : e.kind k ≠ 2 := by rwa [h.kind (handle_not_windowKey hk (by decide) (by decide))]
  have hg' : e.graft.calSlot = none := by rw [h.graft, hg]
  simp only [hkind', hg', decide_false, Dev.when_false, reduceCtorEq, Bool.false_and]

theorem calWindow_calm {yf : Triple} {vf : Nat} {a b : Bool} (h : (d.branch (d.chanOf k / 4)).cal = none) : d.calWindow k yf vf a b = d := by
  unfold Dev.calWindow
  simp only [h]

theorem residuesCarried_calm {block judged tRan : Bool} {yf : Triple} (hk : k < 128) (hn : d.chanOf k = n)
    (hcal : (d.branch (n / 4)).cal = none ∧ (d.branch (n / 4)).driftDue = none)
    (hj : judged = false ∨ d.rd (Reg.CV_PLAUS_STATE k) ≠ VOTING) :
    d.residuesCarried k n m block judged tRan yf = (d.carry n m (!block) (tRan && !block)).loopFlags k m := by
  unfold Dev.residuesCarried
  have h : Steady (windowKey k) (n / 4) d ((d.carry n m (!block) (tRan && !block)).loopFlags k m) :=
    (Steady.modChan _ _).trans (.loopFlags (.inl rfl) m)
  generalize (d.carry n m (!block) (tRan && !block)).loopFlags k m = e at h
  have hv : (judged && decide (e.rd (Reg.CV_PLAUS_STATE k) = VOTING) && !tRan) = false := by
    rw [h.rd _ (handle_not_windowKey hk (by decide) (by decide))]
    rcases hj with hj | hj <;> simp [hj]
  have hn' : e.chanOf k = n := by rw [Dev.chanOf, h.rd _ (handle_not_windowKey hk (by decide) (by decide))]; exact hn
  dsimp only
  rw [hv, Dev.when_false]
  cases block
  · exact calWindow_calm (by rw [hn']; exact (h.idle hcal).1)
  · rfl

theorem nextTest_branch (b : Nat) : (d.nextTest k).branch b = d.branch b := by
  dsimp only [Dev.nextTest]
  split <;> rfl

theorem nextTest_rd (key : Nat) : (d.nextTest k).rd key = d.rd key := by
  dsimp only [Dev.nextTest]
  split <;> rfl

theorem calibrate_calm (h : d.graft.calDue = none) : d.calibrate k = d := by
  unfold Dev.calibrate
  simp only [h]

theorem reopened_calm (hs : (d.slot k).settleNext = false) (hdue : d.graft.calDue = none)
    (hcal : (d.branch (n / 4)).cal = none ∧ (d.branch (n / 4)).driftDue = none) : d.reopened w k n =
      (((d.modSlot k fun z => { z with settleNext := false, urgNeed := z.urgRun }).openWindow k).nextTest k, w) := by
  unfold Dev.reopened
  have hm : (d.modSlot k fun x => { x with
      settleNext := x.settleNext && ((d.branch (n / 4)).refinFault || (d.branch (n / 4)).refEnd), urgNeed := x.urgRun }) =
      d.modSlot k fun z => { z with settleNext := false, urgNeed := z.urgRun } := by
    unfold Dev.modSlot
    dsimp only
    rw [hs, Bool.false_and]
  dsimp only
  rw [hm]
  have hb : ((d.modSlot k fun z => { z with settleNext := false, urgNeed := z.urgRun }).openWindow k).branch (n / 4) = d.branch (n / 4) := rfl
  have hd : ((d.modSlot k fun z => { z with settleNext := false, urgNeed := z.urgRun }).openWindow k).graft.calDue = none := hdue
  generalize (d.modSlot k fun z => { z with settleNext := false, urgNeed := z.urgRun }).openWindow k = e at hb hd
  rw [calibrate_calm hd, calSettle_idle (by rw [nextTest_branch, hb]; exact hcal.2) (by rw [nextTest_branch, hb]; exact hcal.1)]

/-- The end of an undisturbed window or block after its results: residues, flags, the next window. -/
def Dev.nextWindow (d : Dev) (k n : Nat) (m : WinMeas) (block tRan : Bool) : Dev :=
  ((((d.carry n m (!block) (tRan && !block)).loopFlags k m).modSlot k fun z =>
    { z with settleNext := false, urgNeed := z.urgRun }).openWindow k).nextTest k

theorem reopened_steady {block judged tRan : Bool} {r rc : Meas} {yf : Triple} (hk : k < 128) (hkind : d.kind k ≠ 2) (hn : d.chanOf k = n)
    (hg : d.graft.calSlot = none) (hdue : d.graft.calDue = none)
    (hcal : (d.branch (n / 4)).cal = none ∧ (d.branch (n / 4)).driftDue = none)
    (hj : judged = false ∨ d.rd (Reg.CV_PLAUS_STATE k) ≠ VOTING) (hs : (d.slot k).settleNext = false) :
    ((d.resultsSent w k n m block r rc).residuesCarried k n m block judged tRan yf).reopened w k n =
      ((d.when (!block) fun d => d.sendResult n .p r).nextWindow k n m block tRan, w) := by
  rw [resultsSent_calm block r rc hk hkind hg]
  have h : Steady (windowKey k) (n / 4) d (d.when (!block) fun d => d.sendResult n .p r) :=
    .when (f := fun d => d.sendResult n .p r) _ (.sendResult _ _ _)
  generalize (d.when (!block) fun d => d.sendResult n .p r) = e at h
  have hkey : ∀ c, c < 64 → c ≠ 0x22 → e.rd ((0x2000 + 0x40 * k) * 256 + c) = d.rd ((0x2000 + 0x40 * k) * 256 + c) :=
    fun c hc hne => h.rd _ (handle_not_windowKey hk hc hne)
  rw [residuesCarried_calm hk (by rw [Dev.chanOf, hkey _ (by decide) (by decide)]; exact hn) (h.idle hcal)
    (hj.imp id fun hj => by rwa [hkey _ (by decide) (by decide)])]
  have h2 : Steady (windowKey k) (n / 4) d ((e.carry n m (!block) (tRan && !block)).loopFlags k m) :=
    h.trans ((Steady.modChan _ _).trans (.loopFlags (.inl rfl) m))
  unfold Dev.nextWindow
  generalize (e.carry n m (!block) (tRan && !block)).loopFlags k m = g at h2
  exact reopened_calm (by rw [h2.slot]; exact hs) (by rw [h2.graft]; exact hdue) (h2.idle hcal)

end

/-! The verdict (R82). -/

/-- The distance of two fractions in counts of the slot's format. -/
def Dev.apart (d : Dev) (k : Nat) (a b : Frac) : Int := ((d.counts k a - d.counts k b).natAbs : Int)

/-- The pair agrees. -/
def Dev.agreed (d : Dev) (k : Nat) : Dev := (d.modSlot k fun z => { z with cnt := 0 }).wr (Reg.CV_PLAUS_STATE k) AGREE

section
variable {d : Dev} {w : Worn} {k vf : Nat} {y : Triple}

theorem plausible_agrees (hv : d.rd (Reg.CV_PLAUS_STATE k) ≠ VOTING) (hd : d.apart k y.p (d.ratioOf k vf y.c) ≤ d.plausLimit k) :
    d.plausible w k y vf = (d.agreed k, none) := by
  unfold Dev.plausible
  dsimp only
  split
  · next h => exact absurd h hv
  · exact if_pos hd
  · exact if_pos hd
  · exact if_pos hd

/-- The device of a vote that found a culprit, before T takes its place. -/
def Dev.voted (d : Dev) (k : Nat) : Dev :=
  ((d.modSlot k fun x => { x with votes := (d.slot k).votes + 1 }).bump 32 (Reg.BR_VOTES (d.chanOf k / 4))).agreed k

theorem plausible_votes (hv : d.rd (Reg.CV_PLAUS_STATE k) = VOTING) (ht : d.tAsP w k = false)
    (hd : d.plausLimit k < d.apart k y.p (d.ratioOf k vf y.c)) {which : Nat}
    (hw : (which = 1 ∧ d.apart k y.p (d.ratioOf k vf y.t) ≤ d.plausLimit k ∧ d.plausLimit k < d.apart k (d.ratioOf k vf y.c) (d.ratioOf k vf y.t)) ∨
      (which = 0 ∧ d.apart k (d.ratioOf k vf y.c) (d.ratioOf k vf y.t) ≤ d.plausLimit k ∧ d.plausLimit k < d.apart k y.p (d.ratioOf k vf y.t))) :
    d.plausible w k y vf = (d.voted k, some which) := by
  unfold Dev.plausible
  rw [ht]
  dsimp only
  split
  · refine (if_neg (Int.not_le.2 hd)).trans ?_
    rcases hw with ⟨rfl, hp, hc⟩ | ⟨rfl, hc, hp⟩
    · exact if_pos ⟨hp, hc⟩
    · exact (if_neg fun h => absurd hc (Int.not_le.2 h.2)).trans (if_pos ⟨hc, hp⟩)
  · next h => rw [hv] at h; exact absurd h (by decide)
  · next h => rw [hv] at h; exact absurd h (by decide)
  · next h _ _ => exact absurd hv h

end

/-! T takes the place of a retired converter (R82). -/

section
variable {d : Dev} {w : Worn} {k : Nat}

/-- T named for the channel of the slot. -/
def Dev.tTaken (d : Dev) (k : Nat) : Dev := ((d.wr (Reg.BR_T_STATE (d.chanOf k / 4)) 3).wr (Reg.BR_T_CHANNEL (d.chanOf k / 4)) (d.chanOf k)).modBranch
  (d.chanOf k / 4) fun x => { x with driftDue := none }

theorem retire_steady (which b : Nat) : Steady (windowKey k) b (d.tTaken k) (d.retire k which) := by
  have h1 : Steady (windowKey k) b (d.tTaken k) ((d.tTaken k).wrBit Reg.SPR_T_FREE (d.chanOf k / 4) false) := .wr _ (.inr (.inl rfl))
  exact (h1.trans (.setMaint logKey_windowKey (.inr (.inr (.inl rfl))) _)).trans (.report logKey_windowKey _ _ _ _)

theorem tTaken_rd {key : Nat} (h : key ≠ Reg.BR_T_STATE (d.chanOf k / 4)) (h' : key ≠ Reg.BR_T_CHANNEL (d.chanOf k / 4)) :
    (d.tTaken k).rd key = d.rd key := by
  show ((d.wr _ _).wr _ _).rd key = _
  rw [Dev.wr_rd, if_neg h', Dev.wr_rd, if_neg h]

theorem tTaken_state : (d.tTaken k).rd (Reg.BR_T_STATE (d.chanOf k / 4)) = 3 := by
  show ((d.wr _ _).wr _ _).rd _ = _
  rw [Dev.wr_rd, if_neg (by unfold Reg.BR_T_STATE Reg.BR_T_CHANNEL; omega), Dev.wr_rd, if_pos rfl]

theorem tTaken_channel : (d.tTaken k).rd (Reg.BR_T_CHANNEL (d.chanOf k / 4)) = d.chanOf k := by
  show ((d.wr _ _).wr _ _).rd _ = _
  rw [Dev.wr_rd, if_pos rfl]

theorem agreed_rd {key : Nat} (h : key ≠ Reg.CV_PLAUS_STATE k) : (d.agreed k).rd key = d.rd key :=
  (Dev.wr_rd _ _ _ _).trans (if_neg h)

theorem agreed_state : (d.agreed k).rd (Reg.CV_PLAUS_STATE k) = AGREE := (Dev.wr_rd _ _ _ _).trans (if_pos rfl)

theorem agreed_slot : (d.agreed k).slot k = { d.slot k with cnt := 0 } := by
  rw [Dev.agreed, Dev.slot, Dev.wr_slots]
  exact (Dev.setSlot_slot d k _ k).trans (if_pos rfl)

theorem agreed_chanOf : (d.agreed k).chanOf k = d.chanOf k := by
  rw [Dev.chanOf, agreed_rd (by unfold Reg.HND_BIND Reg.CV_PLAUS_STATE; omega)]
  rfl

theorem voted_rd {key : Nat} (h : key ≠ Reg.CV_PLAUS_STATE k) (h' : key ≠ Reg.BR_VOTES (d.chanOf k / 4)) : (d.voted k).rd key = d.rd key := by
  rw [Dev.voted, agreed_rd h]
  exact (Dev.wr_rd _ _ _ _).trans (if_neg h')

theorem voted_chanOf : (d.voted k).chanOf k = d.chanOf k := by
  unfold Dev.chanOf
  rw [voted_rd (by unfold Reg.HND_BIND Reg.CV_PLAUS_STATE; omega) (by unfold Reg.HND_BIND Reg.BR_VOTES; omega)]

theorem voted_settle : ((d.voted k).slot k).settleNext = (d.slot k).settleNext := by
  rw [Dev.voted, agreed_slot]
  show ((d.setSlot k _).slot k).settleNext = _
  rw [Dev.setSlot_slot, if_pos rfl]

theorem nextWindow_rd {n key : Nat} {m : WinMeas} {block tRan : Bool} (h : ¬ windowKey k key) : (d.nextWindow k n m block tRan).rd key = d.rd key := by
  have hs : Steady (windowKey k) 0 d ((d.carry n m (!block) (tRan && !block)).loopFlags k m) :=
    (Steady.modChan _ _).trans (.loopFlags (.inl rfl) m)
  rw [Dev.nextWindow, nextTest_rd]
  exact hs.rd _ h

/-- An object that the end of a window does not write keeps its value through its three steps. -/
theorem reopened_rd {n : Nat} {m : WinMeas} {block judged tRan : Bool} {r rc : Meas} {yf : Triple} (hk : k < 128) (hkind : d.kind k ≠ 2)
    (hn : d.chanOf k = n) (hg : d.graft.calSlot = none) (hdue : d.graft.calDue = none)
    (hcal : (d.branch (n / 4)).cal = none ∧ (d.branch (n / 4)).driftDue = none)
    (hj : judged = false ∨ d.rd (Reg.CV_PLAUS_STATE k) ≠ VOTING) (hs : (d.slot k).settleNext = false) :
    (((d.resultsSent w k n m block r rc).residuesCarried k n m block judged tRan yf).reopened w k n).2 = w ∧ ∀ key, ¬ windowKey k key →
      (((d.resultsSent w k n m block r rc).residuesCarried k n m block judged tRan yf).reopened w k n).1.rd key = d.rd key := by
  rw [reopened_steady hk hkind hn hg hdue hcal hj hs]
  refine ⟨rfl, fun key hkey => (nextWindow_rd hkey).trans ?_⟩
  exact (Steady.when (K := windowKey k) (b := 0) (f := fun d => d.sendResult n .p r) _ (.sendResult _ _ _)).rd key hkey

/-- What a retirement on a device leaves for the rest of the window. -/
theorem retired_calm (which : Nat) (hk : k < 128) (hcal : (d.branch (d.chanOf k / 4)).cal = none) :
    (∀ c, c < 64 → c ≠ 0x22 → (d.retire k which).rd ((0x2000 + 0x40 * k) * 256 + c) = d.rd ((0x2000 + 0x40 * k) * 256 + c)) ∧
    (d.retire k which).rd (Reg.BR_T_STATE (d.chanOf k / 4)) = 3 ∧ (d.retire k which).rd (Reg.BR_T_CHANNEL (d.chanOf k / 4)) = d.chanOf k ∧
    (d.retire k which).graft = d.graft ∧ (d.retire k which).slot k = d.slot k ∧
    ((d.retire k which).branch (d.chanOf k / 4)).cal = none ∧ ((d.retire k which).branch (d.chanOf k / 4)).driftDue = none := by
  have hst := retire_steady (d := d) (k := k) which (d.chanOf k / 4)
  refine ⟨fun c hc hne => (hst.rd _ (handle_not_windowKey hk hc hne)).trans
    (tTaken_rd (by unfold Reg.BR_T_STATE; omega) (by unfold Reg.BR_T_CHANNEL; omega)), (hst.rd _ (branch_not_windowKey hk (by decide))).trans tTaken_state,
    (hst.rd _ (branch_not_windowKey hk (by decide))).trans tTaken_channel, hst.graft, hst.slot k, hst.idle ?_⟩
  show ((Dev.setBranch _ _ _).branch _).cal = none ∧ ((Dev.setBranch _ _ _).branch _).driftDue = none
  rw [Dev.setBranch_branch, if_pos rfl]
  exact ⟨hcal, rfl⟩

end

namespace Undisturbed

variable {d : Dev} {w : Worn} {k : Nat} {m : WinMeas} {sp : Spans} {block : Bool} {tEnd : Nat} (h : Undisturbed d w k)
include h

theorem tWorks (hv : d.rd (Reg.CV_PLAUS_STATE k) ≠ VOTING) : d.tWorks w k = false := by
  simp [Dev.tWorks, h.role, h.graft, hv, h.calm.1]

theorem modChan (n : Nat) (f : Chan → Chan) : Undisturbed (d.modChan n f) w k :=
  ⟨h.settle, h.test, h.urgent, h.fault, h.faultEnd, h.role, h.graft, h.due, h.kind, h.calm⟩

theorem loopOutEnd : d.loopOutEnd w k m sp = d := if_pos (by rcases h.kind with h | h <;> rw [h] <;> decide)

/-- A pair that agrees sends P's value and goes on. -/
theorem pairWindow_agrees (hk : k < 128) (hv : d.rd (Reg.CV_PLAUS_STATE k) ≠ VOTING)
    (hd : d.apart k (d.triple w k m sp).p (d.ratioOf k m.vf (d.triple w k m sp).c) ≤ d.plausLimit k) :
    d.pairWindow w k m sp block tEnd = (((d.agreed k).when (!block) fun e => e.sendResult (d.chanOf k) .p {
      slot := k, num := (d.triple w k m sp).p.1, den := (d.triple w k m sp).p.2, sat := m.ovP, wire := (d.slot k).wire,
      degr := degradedChan w (d.chanOf k), limit := m.limiter || bitOf (d.lpSt k) 0, clocks := sp.p, vf := m.vf, tEnd := tEnd }).nextWindow k
        (d.chanOf k) m block false, w) := by
  obtain ⟨rc, yf, hw⟩ := h.pairWindow_keeps (sp := sp) (block := block) (tEnd := tEnd) (m := m) (by rw [decide_eq_false hv]; rfl)
    (plausible_agrees hv hd)
  have hst := agreed_state (d := d) (k := k)
  have hkind : (d.agreed k).kind k = d.kind k := agreed_rd (by unfold Reg.HND_KIND Reg.CV_PLAUS_STATE; omega)
  have hlp : (d.agreed k).lpSt k = d.lpSt k := by rw [Dev.lpSt, agreed_chanOf]; rfl
  have hwire : ((d.agreed k).slot k).wire = (d.slot k).wire := by rw [agreed_slot]
  have hdis : (d.agreed k).disagrees k = false := by rw [Dev.disagrees, hst]; rfl
  rw [hw, reopened_steady hk (by rw [hkind]; rcases h.kind with h | h <;> rw [h] <;> decide) agreed_chanOf h.graft h.due h.calm
    (.inr (by rw [hst]; decide)) (by rw [agreed_slot]; exact h.settle), hlp, hwire, hdis, h.tWorks hv]

/-- A vote that finds a culprit gives T its place, and leaves the pair in agreement. -/
theorem pairWindow_votes (hk : k < 128) (hsp : sp.t ≠ 0) (hv : d.rd (Reg.CV_PLAUS_STATE k) = VOTING)
    {which : Nat} (hq : d.plausible w k ⟨(d.triple w k m sp).p, (d.triple w k m sp).c, (d.triple w k m sp).t⟩ m.vf = (d.voted k, some which)) :
    (d.pairWindow w k m sp false tEnd).2 = w.retire (d.chanOf k) which ∧
    (d.pairWindow w k m sp false tEnd).1.rd (Reg.CV_PLAUS_STATE k) = AGREE ∧
    (d.pairWindow w k m sp false tEnd).1.rd (Reg.BR_T_STATE (d.chanOf k / 4)) = 3 ∧
    (d.pairWindow w k m sp false tEnd).1.rd (Reg.BR_T_CHANNEL (d.chanOf k / 4)) = d.chanOf k := by
  obtain ⟨r, rc, yf, hw⟩ := h.pairWindow_retires (sp := sp) (block := false) (tEnd := tEnd) (m := m)
    (by rw [hv, decide_eq_false hsp]; rfl) hq
  have hchan := voted_chanOf (d := d) (k := k)
  have hset := (voted_settle (d := d) (k := k)).trans h.settle
  have hkind : (d.voted k).rd (Reg.HND_KIND k) ≠ 2 := by
    rw [voted_rd (by unfold Reg.HND_KIND Reg.CV_PLAUS_STATE; omega) (by unfold Reg.HND_KIND Reg.BR_VOTES; omega)]
    rcases h.kind with h | h <;> rw [Dev.kind] at h <;> rw [h] <;> decide
  have hagree : (d.voted k).rd (Reg.CV_PLAUS_STATE k) = AGREE := agreed_state
  have hgraft : (d.voted k).graft = d.graft := rfl
  have hcal : ((d.voted k).branch ((d.voted k).chanOf k / 4)).cal = none := by rw [hchan]; exact h.calm.1
  generalize d.voted k = d1 at *
  obtain ⟨hkey, hstate, hto, hg, hslot, hidle⟩ := retired_calm which hk hcal
  rw [hchan] at hstate hto hidle
  generalize d1.retire k which = d2 at *
  obtain ⟨hw2, hrd⟩ := reopened_rd (w := w.retire (d.chanOf k) which) (n := d.chanOf k) (m := m) (block := false) (judged := false)
    (tRan := d.tWorks w k) (r := r) (rc := rc) (yf := yf) hk (by rw [Dev.kind, hkey _ (by decide) (by decide)]; exact hkind)
    (by rw [Dev.chanOf, hkey _ (by decide) (by decide)]; exact hchan) (by rw [hg, hgraft, h.graft]) (by rw [hg, hgraft, h.due]) hidle (.inl rfl)
    (by rw [hslot]; exact hset)
  rw [hw]
  refine ⟨hw2, ?_, ?_, ?_⟩
  · rw [hrd _ (handle_not_windowKey hk (by decide) (by decide)), hkey _ (by decide) (by decide), hagree]
  · rw [hrd _ (branch_not_windowKey hk (by decide)), hstate]
  · rw [hrd _ (branch_not_windowKey hk (by decide)), hto]

end Undisturbed

theorem roleOf_retire {n which : Nat} (w : Worn) (hn : n < 16) (hw : which < 2) : roleOf (w.retire n which) n ≠ 0 := by
  have hbit : (w.retire n which).conv.toNat.testBit (2 * n + which) = true := by
    show (w.conv ||| BitVec.ofNat 32 (2 ^ (2 * n + which))).toNat.testBit (2 * n + which) = true
    rw [BitVec.toNat_or, Nat.testBit_or, BitVec.toNat_ofNat, Nat.mod_eq_of_lt (Nat.pow_lt_pow_right (by decide) (by omega)),
      Nat.testBit_two_pow_self, Bool.or_true]
  unfold roleOf
  rcases (by omega : which = 0 ∨ which = 1) with rfl | rfl
  · rw [Nat.add_zero] at hbit
    rw [if_pos hbit]
    decide
  · rw [if_pos hbit]
    split <;> decide

theorem carry_chan (e : Dev) (n : Nat) (m : WinMeas) (p t : Bool) : (e.carry n m p t).chan n = { e.chan n with
    resP := if p then some m.rP else none, resC := some m.rC, resT := if t then some m.rT else none,
    corrP := (e.chan n).nextP.getD (e.chan n).corrP, corrC := (e.chan n).nextC.getD (e.chan n).corrC, nextP := none, nextC := none } := by
  rw [Dev.carry, modChan_chan, if_pos rfl]

/-- The branch tick and the ideal end at which the next window of a slot stops (R68). -/
def Dev.nextStop (e : Dev) (k : Nat) : Nat × Nat :=
  if e.rd (Reg.CV_WINDOW k) = 1 ∨ (e.rd (Reg.CV_WINDOW k) = 3 ∧ ¬ e.rd (Reg.CV_MAINS_STATE k) = 2) then
    (tickNear ((e.slot k).ideal + 256 * 16666667), (e.slot k).ideal + 256 * 16666667)
  else
    let stop := (e.slot k).winEnd + (if e.rd (Reg.CV_WINDOW k) = 4 then 4096 * e.rd (Reg.CV_WINDOW_N k) else if e.rd (Reg.CV_WINDOW k) = 5 then 65536
      else if (e.rd (Reg.CV_WINDOW k) = 2 ∨ e.rd (Reg.CV_WINDOW k) = 3) ∧ e.rd (Reg.CV_MAINS_STATE k) = 2 then tickNear (256 * (e.slot k).mPeriod)
      else 327680)
    (stop, 15625 * stop)

theorem openWindow_slot (e : Dev) (k : Nat) : (e.openWindow k).slot k = { e.slot k with
    winTick := (e.slot k).winEnd, winEnd := (e.nextStop k).1, ideal := (e.nextStop k).2, blkP := (0, 0), blkC := (0, 0), blkT := (0, 0) } :=
  (Dev.setSlot_slot e k _ k).trans (if_pos rfl)

theorem openWindow_stops (e : Dev) (k : Nat) :
    let x := e.slot k
    let z := (e.openWindow k).slot k
    let code := e.rd (Reg.CV_WINDOW k)
    let locked := e.rd (Reg.CV_MAINS_STATE k) = 2
    z.winTick = x.winEnd ∧
    (code = 0 ∨ (code = 2 ∧ ¬ locked) → z.winEnd = x.winEnd + 327680) ∧
    (code = 1 ∨ (code = 3 ∧ ¬ locked) → z.ideal = x.ideal + 256 * 16666667 ∧ z.winEnd = tickNear z.ideal) ∧
    ((code = 2 ∨ code = 3) ∧ locked → z.winEnd = x.winEnd + tickNear (256 * x.mPeriod)) ∧
    (code = 4 → z.winEnd = x.winEnd + 4096 * e.rd (Reg.CV_WINDOW_N k)) ∧
    (code = 5 → z.winEnd = x.winEnd + 65536) := by
  intro x z code locked
  obtain ⟨htick, hend, hideal⟩ : z.winTick = x.winEnd ∧ z.winEnd = (e.nextStop k).1 ∧ z.ideal = (e.nextStop k).2 := by
    show ((e.openWindow k).slot k).winTick = _ ∧ ((e.openWindow k).slot k).winEnd = _ ∧ ((e.openWindow k).slot k).ideal = _
    rw [openWindow_slot]
    exact ⟨rfl, rfl, rfl⟩
  have hstop : e.nextStop k = if code = 1 ∨ (code = 3 ∧ ¬ locked) then (tickNear (x.ideal + 256 * 16666667), x.ideal + 256 * 16666667)
      else (x.winEnd + (if code = 4 then 4096 * e.rd (Reg.CV_WINDOW_N k) else if code = 5 then 65536
        else if (code = 2 ∨ code = 3) ∧ locked then tickNear (256 * x.mPeriod) else 327680),
        15625 * (x.winEnd + (if code = 4 then 4096 * e.rd (Reg.CV_WINDOW_N k) else if code = 5 then 65536
        else if (code = 2 ∨ code = 3) ∧ locked then tickNear (256 * x.mPeriod) else 327680))) := rfl
  rw [hend, hideal, hstop]
  clear_value x z code
  refine ⟨htick, ?_, ?_, ?_, ?_, ?_⟩
  · rintro (rfl | ⟨rfl, hl⟩)
    · simp
    · simp [hl]
  · intro h
    rw [if_pos h]
    exact ⟨rfl, rfl⟩
  · rintro ⟨rfl | rfl, hl⟩ <;> simp [hl]
  · rintro rfl
    simp
  · rintro rfl
    simp

/-! The commands. -/

section
variable {s : State} {h : SlotNo} {m : WinMeas} {t : Nat}

theorem windowEnd_idle (hn : s.dev.windowRuns h = false ∨ s.dev.fast h = true ∨ (s.dev.at t).windowDue h t = false) :
    Goes (.windowEnd h m t) s (s.dev.at t) := by
  refine if_pos ?_
  show (!s.dev.windowRuns h || s.dev.fast h || !(s.dev.at t).windowDue h t) = true
  rcases hn with h | h | h <;> simp [h]

theorem windowEnd_monitor (hr : s.dev.windowRuns h = true) (hd : (s.dev.at t).windowDue h t = true) (hf : s.dev.fast h = false)
    (hk : s.dev.kind h = 7)
    (hcalm : ((s.dev.at t).branch ((s.dev.at t).chanOf h / 4)).cal = none ∧ ((s.dev.at t).branch ((s.dev.at t).chanOf h / 4)).driftDue = none) :
    Goes (.windowEnd h m t) s ((s.dev.at t).monitorWindow s.worn h m ((s.dev.at t).windowStop h t)) := by
  refine (if_neg ?_).trans ?_
  · show ¬ (!s.dev.windowRuns h || s.dev.fast h || !(s.dev.at t).windowDue h t) = true
    rw [hr, hd, hf]
    decide
  · dsimp only
    rw [calSettle_idle hcalm.2 hcalm.1]
    exact if_pos hk

theorem windowEnd_pair {p : Dev × Worn} (hu : Undisturbed (s.dev.at t) s.worn h) (hr : s.dev.windowRuns h = true)
    (hd : (s.dev.at t).windowDue h t = true) (hf : s.dev.fast h = false)
    (hp : (s.dev.at t).pairWindow s.worn h m (Spans.all ((s.dev.at t).windowTicks h)) false ((s.dev.at t).windowStop h t) = p) :
    exec (.windowEnd h m t) s = .next { s with dev := p.1, worn := p.2 } := by
  have hk : (s.dev.at t).kind h ≠ 7 := by rcases hu.kind with h | h <;> rw [h] <;> decide
  refine (if_neg ?_).trans ?_
  · show ¬ (!s.dev.windowRuns h || s.dev.fast h || !(s.dev.at t).windowDue h t) = true
    rw [hr, hd, hf]
    decide
  · dsimp only
    rw [calSettle_idle hu.calm.2 hu.calm.1, if_neg hk]
    dsimp only
    rw [hu.loopOutEnd, hp]

theorem fastBlockEnd_idle (hn : s.dev.windowRuns h = false ∨ s.dev.fast h = false ∨ s.dev.kind h = 7 ∨ (s.dev.at t).windowDue h t = false) :
    Goes (.fastBlockEnd h m t) s (s.dev.at t) := by
  refine if_pos ?_
  show (!s.dev.windowRuns h || !s.dev.fast h || decide (s.dev.kind h = 7) || !(s.dev.at t).windowDue h t) = true
  rcases hn with h | h | h | h <;> simp [h]

theorem fastBlockEnd_runs (hu : Undisturbed (s.dev.at t) s.worn h) (hr : s.dev.windowRuns h = true) (hd : (s.dev.at t).windowDue h t = true)
    (hf : s.dev.fast h = true) {q : WinMeas × Spans} (hq : ((s.dev.at t).slot h).blockMeas m = q) {f : Dev} {p : Dev × Worn}
    (hf' : (s.dev.at t).modChan ((s.dev.at t).chanOf h) (fun c => { c with resP := none, resC := none, resT := none }) = f)
    (hp : f.pairWindow s.worn h q.1 q.2 true ((s.dev.at t).windowStop h t) = p) :
    exec (.fastBlockEnd h m t) s = if q.2.p = 0 ∨ q.2.c = 0 then .next { s with dev := (s.dev.at t).openWindow h }
      else .next { s with dev := p.1, worn := p.2 } := by
  have hkind : (s.dev.at t).kind h ≠ 7 := by rcases hu.kind with h | h <;> rw [h] <;> decide
  refine (if_neg ?_).trans ?_
  · show ¬ (!s.dev.windowRuns h || !s.dev.fast h || decide ((s.dev.at t).kind h = 7) || !(s.dev.at t).windowDue h t) = true
    rw [hr, hd, hf, decide_eq_false hkind]
    decide
  · have huf : Undisturbed f s.worn h := hf' ▸ hu.modChan _ _
    dsimp only
    rw [hq, hu.role, hu.standsIn, hu.standsIn, hf', huf.loopOutEnd, hp]
    rfl

end

theorem sendResult_linked {d : Dev} {n : Nat} {r : Role} {m : Meas} (h : (d.branch (n / 4)).linkUp = true) :
    d.sendResult n r m = d.toCrown (n / 4) (.result r m) := by
  rw [Dev.sendResult, h]
  rfl

theorem sendResult_unlinked {d : Dev} {n : Nat} {r : Role} {m : Meas} (h : (d.branch (n / 4)).linkUp = false) : d.sendResult n r m = d := by
  rw [Dev.sendResult, h]
  rfl

/-- Settles O50: an undisturbed window by its three steps, a vote by the retirement it ends in, the next window by its stop. -/
theorem windowsEnd : Obligations.WindowsEnd := by
  refine ⟨fun s h m t => ?_, fun w e n which m p tt hn hw => ⟨roleOf_retire w hn hw, carry_chan e n m p tt⟩, openWindow_stops⟩
  intro d n x y q f z dist calm undisturbed agrees next
  have hund : undisturbed → Undisturbed d s.worn h := by
    rintro ⟨hk, h1, h2, h3, h4, h5, h6, h7, h8, h9⟩
    exact ⟨h1, h2, h3, h4, h5, h6, h7, h8, hk, h9⟩
  refine ⟨windowEnd_idle, fastBlockEnd_idle, fun hr hd hf hk hup hc => ?_, fun hu hr hd hf hv hdist => ?_, fun hu hr hd hf hp hc hv hdist => ?_,
    fun hu hr hd hf hpc => ?_, fun hu hr hd ht hf hv hdist => ?_⟩
  · have hgo := windowEnd_monitor (m := m) hr hd hf hk hc
    rw [Dev.monitorWindow, sendResult_linked hup] at hgo
    exact hgo
  · intro r
    have hgo := windowEnd_pair (hund hu) hr hd hf ((hund hu).pairWindow_agrees h.isLt hv hdist)
    rw [Bool.not_false, Dev.when_true] at hgo
    refine ⟨fun hup => ?_, fun hup => ?_⟩
    · rw [sendResult_linked (d := d.agreed h) hup] at hgo
      exact hgo
    · rw [sendResult_unlinked (d := d.agreed h) hup] at hgo
      exact hgo
  · have hgo := fastBlockEnd_runs (hund hu) hr hd hf (q := q) rfl (f := f) rfl
      (((hund hu).modChan n fun c => { c with resP := none, resC := none, resT := none }).pairWindow_agrees h.isLt hv hdist)
    rw [if_neg (by rintro (h | h); exacts [hp h, hc h]), Bool.not_true, Dev.when_false] at hgo
    exact hgo
  · have hgo := fastBlockEnd_runs (hund hu) hr hd hf (q := q) rfl (f := f) rfl rfl
    exact hgo.trans (if_pos hpc)
  · intro yc yt which hw
    obtain ⟨h1, h2, h3, h4⟩ := (hund hu).pairWindow_votes (tEnd := d.windowStop h t) h.isLt (sp := Spans.all (d.windowTicks h)) ht hv
      (plausible_votes (y := ⟨y.p, y.c, y.t⟩) hv (hund hu).tAsP hdist hw)
    exact ⟨_, windowEnd_pair (hund hu) hr hd hf rfl, rfl, rfl, h1, h2, h3, h4⟩

end Sys2Proof.Machine
end

/-! Limiter, transmitter supply and compliance of the loop channels (R131, R132, R137, R138, R405). -/
section
namespace Sys2Proof.Machine

/-! The status of a loop (R151, R154). -/

section
variable {d : Dev} {k v : Nat}

theorem setLp_lpSt : ((d.setLp k v).chan (d.chanOf k)).lpSt = v := by
  have h : ((d.modChan (d.chanOf k) fun c => { c with lpSt := v }).chan (d.chanOf k)).lpSt = v := by rw [modChan_chan, if_pos rfl]
  dsimp only [Dev.setLp]
  generalize (d.modChan (d.chanOf k) fun c => { c with lpSt := v }) = e at h
  generalize e.hears _ = b
  cases b <;> exact h

theorem setLp_heard (h : d.hears (d.chanOf k / 4) = true) : (d.setLp k v).rd (Reg.LP_STATUS k) = v := by
  have h' : (d.modChan (d.chanOf k) fun c => { c with lpSt := v }).hears ((d.modChan (d.chanOf k) fun c => { c with lpSt := v }).chanOf k / 4) = true := h
  dsimp only [Dev.setLp]
  rw [h', Dev.when_true, Dev.wr_rd, if_pos rfl]

theorem setLp_unheard (h : d.hears (d.chanOf k / 4) = false) : (d.setLp k v).obj = d.obj := by
  have h' : (d.modChan (d.chanOf k) fun c => { c with lpSt := v }).hears ((d.modChan (d.chanOf k) fun c => { c with lpSt := v }).chanOf k / 4) = false := h
  dsimp only [Dev.setLp]
  rw [h']
  rfl

theorem setLp_rd {key : Nat} (h : key ≠ Reg.LP_STATUS k) : (d.setLp k v).rd key = d.rd key :=
  (Steady.trans (K := (· = Reg.LP_STATUS k)) (b := 0) (.modChan _ _)
    (.when (f := fun d => d.wr (Reg.LP_STATUS k) v) _ (.wr _ rfl))).rd key h

theorem report_rd {n code src det key : Nat} (h : ¬ logKey key) : (d.report n code src det).rd key = d.rd key :=
  (Steady.report (K := logKey) (b := 0) (fun _ => id) n code src det).rd key h

end

/-! The driver of a transmitter supply. -/

section
variable {s : State} {n : ChanNo} {t k : Nat}

theorem txDriver_none (h : s.dev.drvP n = none) : (s.dev.at t).txDriver n = none := by
  have h' : (s.dev.at t).drvP n = none := h
  rw [Dev.txDriver, h']

theorem txDriver_some {e : Dev} {n : Nat} (h : e.drvP n = some k) (hk : e.kind k = 1) : e.txDriver n = some k := by
  rw [Dev.txDriver, h]
  exact if_pos hk

theorem txsupCurrentLimit_goes (act : Bool) (h : s.dev.drvP n = some k) (hk : s.dev.kind k = 1) : Goes (.txsupCurrentLimit n act t) s
    (((s.dev.at t).modChan n fun c => { c with txLim := act && (s.dev.chan n).txOn }).when (act && (s.dev.chan n).txOn) fun d =>
      d.setLp k (setBit (d.lpSt k) 1 true)) := by
  have h' := txDriver_some (e := s.dev.at t) h hk
  refine Goes.of_eq (c := .txsupCurrentLimit n act t) (s := s) rfl ?_
  dsimp only
  rw [h'] <;> rfl

theorem txsupLimitTimeout_goes (h : s.dev.drvP n = some k) (hk : s.dev.kind k = 1) : Goes (.txsupLimitTimeout n t) s
    (if (s.dev.chan n).txLim then
      let d := (s.dev.at t).modChan n fun c => { c with txOff := true, txOn := false, txLim := false }
      (d.setLp k (setBit (d.lpSt k) 2 true)).report n 0x0385 (d.rd (Reg.HND_ID k)) (min 65535 (d.branch (n.val / 4)).vf)
    else s.dev.at t) := by
  have h' := txDriver_some (e := s.dev.at t) h hk
  refine Goes.of_eq (c := .txsupLimitTimeout n t) (s := s) rfl ?_
  dsimp only
  rw [h'] <;> rfl

theorem txsupOffEnd_goes (h : s.dev.drvP n = some k) (hk : s.dev.kind k = 1) (hoff : (s.dev.chan n).txOff = true) :
    Goes (.txsupOffEnd n t) s
      (let d := (s.dev.at t).modChan n fun c => { c with txOff := false, txOn := decide (c.force.tx = 1) }
      d.setLp k (setBit (d.lpSt k) 2 false)) := by
  have h' : ((s.dev.at t).modChan n fun c => { c with txOff := false, txOn := decide (c.force.tx = 1) }).txDriver n = some k :=
    txDriver_some (e := s.dev.at t) h hk
  refine Goes.of_eq (c := .txsupOffEnd n t) (s := s) rfl ((if_pos hoff).trans ?_)
  dsimp only
  rw [h']

end

/-! The compliance judgement of a parked branch (R137, R405). -/

section
variable {d : Dev} {k : Nat} {amps : Int} {sat : Nat} {ever : Bool}

theorem compliance_quiet (hst : bitOf (d.lpSt k) 3 = false) : d.compliance k amps 20000000 0 ever = d := by
  unfold Dev.compliance
  dsimp only
  rw [if_neg (by omega), hst]
  rfl

theorem compliance_ends (hst : bitOf (d.lpSt k) 3 = true) (hp : d.rd (Reg.LP_COMPLIANCE_POLICY k) = 0) :
    d.compliance k amps 20000000 0 false = (d.setLp k (d.lpSt k &&& 0xFFC7)).report (d.chanOf k) 0x0387 (d.rd (Reg.HND_ID k)) (ofInt 32 amps) := by
  unfold Dev.compliance
  dsimp only
  rw [if_neg (by omega), hst, hp]
  rfl

theorem handle_not_logKey {k c : Nat} (hk : k < 128) (hc : c < 64) : ¬ logKey ((0x2000 + 0x40 * k) * 256 + c) := by
  unfold logKey Reg.OPS_EVT_LOST Reg.EV_TOTAL Reg.OPS_PEAK
  omega

theorem compliance_lost (hk : k < 128) (hsat : 1000000 ≤ sat) (hst : bitOf (d.lpSt k) 3 = false) (hp : d.rd (Reg.LP_COMPLIANCE_POLICY k) = 1)
    (hsub : (d.chan (d.chanOf k)).subst = false) (hlow : (d.chan (d.chanOf k)).target < d.rd (Reg.LP_ALARM_HIGH k))
    (hsafe : (d.chan (d.chanOf k)).safeOn = false) (hamps : 500000 ≤ amps) :
    d.compliance k amps 20000000 sat ever = ((d.report (d.chanOf k) 0x0386 (d.rd (Reg.HND_ID k)) (ofInt 32 amps)).setLp k
      (setBit (d.lpSt k) 3 true)).modChan (d.chanOf k) fun y => { y with subDue := true } := by
  have htarget : d.loopTarget k = (d.chan (d.chanOf k)).target := by
    rw [Dev.loopTarget]
    exact if_neg (ne_true_of_eq_false hsub)
  unfold Dev.compliance
  dsimp only
  rw [if_pos (.inl hsat), hst, Bool.not_false, Dev.when_true, htarget, hsafe, hsub]
  have hrd : ∀ c, c < 64 → (d.report (d.chanOf k) 0x0386 (d.rd (Reg.HND_ID k)) (ofInt 32 amps)).rd ((0x2000 + 0x40 * k) * 256 + c) =
      d.rd ((0x2000 + 0x40 * k) * 256 + c) := fun c hc => report_rd (handle_not_logKey hk hc)
  generalize d.report (d.chanOf k) 0x0386 (d.rd (Reg.HND_ID k)) (ofInt 32 amps) = e at hrd
  have hhigh : (decide (e.rd (Reg.LP_ALARM_HIGH k) ≤ (d.chan (d.chanOf k)).target) || false && decide ((d.chan (d.chanOf k)).post = 5)) = false := by
    rw [hrd _ (by decide), decide_eq_false (Nat.not_le.2 hlow)]
    rfl
  have hopen : (decide (amps < 500000) && decide (1000000 ≤ (d.chan (d.chanOf k)).target)) = false := by
    rw [decide_eq_false (Int.not_lt.2 hamps)]
    rfl
  rw [hhigh, hopen]
  simp only [Bool.false_and, Dev.when_false, Bool.false_eq_true, if_false]
  rw [setLp_rd (by unfold Reg.LP_COMPLIANCE_POLICY Reg.LP_STATUS; omega), hrd _ (by decide), hp]
  rfl

end

theorem complianceAct_acknowledged {e : Dev} {k : Nat} (h : (e.chan (e.chanOf k)).ackDue = true) : e.complianceAct k =
    ((e.modChan (e.chanOf k) fun y => { y with subst := false, subDue := false, ackDue := false }).setLp k (e.lpSt k &&& 0xFF87)).aim k := if_pos h

theorem complianceAct_substitutes {e : Dev} {k : Nat} (h : (e.chan (e.chanOf k)).ackDue = false) (hs : (e.chan (e.chanOf k)).subDue = true) :
    e.complianceAct k = ((e.modChan (e.chanOf k) fun y => { y with subst := true, subDue := false }).setLp k (setBit (e.lpSt k) 6 true)).aim k :=
  (if_neg (ne_true_of_eq_false h)).trans (if_pos hs)

/-- Settles O53: by the commands' definitions, with the driver of the supply and the three cases of the judgement. -/
theorem loopsAct : Obligations.LoopsAct := by
  intro s h n t d c
  refine ⟨fun mv hd hk hb => ?_, fun mv hn => ?_, fun k hdrv hk => ?_, fun hoff => ?_, fun hnone a => ⟨?_, ?_⟩,
    fun sat ever hd hk hp => ?_, fun sat ever hn => ?_, fun e k => complianceAct_acknowledged, fun e k => complianceAct_substitutes,
    fun e k v => ⟨setLp_lpSt, setLp_heard, setLp_unheard⟩⟩
  · refine Goes.of_eq (c := .limiterAct h mv t) (s := s) rfl (if_pos ?_)
    show (s.dev.isDriver h && decide (s.dev.kind h = 1) && !bitOf (s.dev.rd (Reg.HND_BIND h)) 11) = true
    simp [hd, hk, hb]
  · refine Goes.of_eq (c := .limiterAct h mv t) (s := s) rfl (if_neg ?_)
    show ¬ (s.dev.isDriver h && decide (s.dev.kind h = 1) && !bitOf (s.dev.rd (Reg.HND_BIND h)) 11) = true
    rcases hn with h | h | h <;> simp [h]
  · intro lim off on
    have hcur := fun a => txsupCurrentLimit_goes (t := t) a hdrv hk
    refine ⟨fun hon => ?_, fun hon => ?_, hcur false, fun hl => ?_, fun hl => ?_, fun hoff => txsupOffEnd_goes hdrv hk hoff⟩
    · have hgo := hcur true
      rw [hon] at hgo
      exact hgo
    · have hgo := hcur true
      rw [hon] at hgo
      exact hgo
    · exact Goes.of_eq (txsupLimitTimeout_goes hdrv hk) (if_pos hl)
    · exact Goes.of_eq (txsupLimitTimeout_goes hdrv hk) (if_neg (ne_true_of_eq_false hl))
  · exact Goes.of_eq (c := .txsupOffEnd n t) (s := s) rfl (if_neg (ne_true_of_eq_false hoff))
  · refine Goes.of_eq (c := .txsupCurrentLimit n a t) (s := s) rfl ?_
    dsimp only
    rw [txDriver_none hnone]
  · refine Goes.of_eq (c := .txsupLimitTimeout n t) (s := s) rfl ?_
    dsimp only
    rw [txDriver_none hnone]
  · intro m st amps hsub hack
    have hgo : Goes (.watchComplianceJudgement h sat ever t) s (d.compliance h amps 20000000 sat ever) := by
      refine Goes.of_eq (c := .watchComplianceJudgement h sat ever t) (s := s) rfl ((if_pos ?_).trans ?_)
      · show (s.dev.isDriver h && decide (s.dev.kind h = 2) && (s.dev.branch (s.dev.chanOf h / 4)).parked) = true
        simp [hd, hk, hp]
      · have hnone : (((s.dev.at t).chan ((s.dev.at t).chanOf h)).subDue || ((s.dev.at t).chan ((s.dev.at t).chanOf h)).ackDue) = false := by
          rw [show ((s.dev.at t).chan ((s.dev.at t).chanOf h)).subDue = false from hsub,
            show ((s.dev.at t).chan ((s.dev.at t).chanOf h)).ackDue = false from hack]
          rfl
        dsimp only
        rw [hnone]
        rfl
    refine ⟨fun h0 hst => ?_, fun h0 hst hpol hev => ?_, fun hsat hst hpol hs hlow hsafe hamps => ?_⟩
    · rw [h0, compliance_quiet (d := d) hst] at hgo
      rwa [h0]
    · rw [h0, hev, compliance_ends (d := d) hst hpol] at hgo
      rwa [h0, hev]
    · rw [compliance_lost (d := d) h.isLt hsat hst hpol hs hlow hsafe hamps] at hgo
      exact hgo
  · refine Goes.of_eq (c := .watchComplianceJudgement h sat ever t) (s := s) rfl (if_neg ?_)
    show ¬ (s.dev.isDriver h && decide (s.dev.kind h = 2) && (s.dev.branch (s.dev.chanOf h / 4)).parked) = true
    rcases hn with h | h | h <;> simp [h]

end Sys2Proof.Machine
end

/-! Trims and their buttons (R139 to R144, R151). -/
section
namespace Sys2Proof.Machine

/-! The objects of the buttons lie beside the handles and what decides on heartwood. -/

section
variable {d : Dev} {k v : Nat}

theorem wr_mayWrite (hk : 0x900000 ≤ k ∧ k < 0xA00000) : (d.wr k v).mayWrite = d.mayWrite := by
  have hrd : ∀ j, j < 0x900000 ∨ 0xA00000 ≤ j → (d.wr k v).rd j = d.rd j := fun j hj => (Dev.wr_rd d k v j).trans (if_neg (by omega))
  unfold Dev.mayWrite Dev.opsFree Dev.opsInUse Dev.graftStep
  rw [hrd Reg.PL_RUNG (by decide), hrd Reg.GR_HK_STATE (by decide), hrd Reg.GR_UC_STATE (by decide), hrd Reg.GR_CAL_STATE (by decide)]
  rfl

theorem isLive_lands (v h : Nat) : (d.wr Reg.TB_LANDS v).isLive h = d.isLive h := by
  have hs := SameHandles.wr d (k := Reg.TB_LANDS) v (.inr (by decide))
  have hk : h % 128 < 128 := Nat.mod_lt _ (by decide)
  have hid : (d.wr Reg.TB_LANDS v).rd (Reg.HND_ID (h % 128)) = d.rd (Reg.HND_ID (h % 128)) := hs.rd _ 1 hk (by decide)
  unfold Dev.isLive
  dsimp only
  rw [hs.hst hk, hid]

theorem buttonSlot_lands (v : Nat) : (d.wr Reg.TB_LANDS v).buttonSlot = d.buttonSlot := by
  have hs := SameHandles.wr d (k := Reg.TB_LANDS) v (.inr (by decide))
  have hh : (d.wr Reg.TB_LANDS v).rd Reg.TB_HANDLE = d.rd Reg.TB_HANDLE := (Dev.wr_rd _ _ _ _).trans (if_neg (by decide))
  have hk : d.rd Reg.TB_HANDLE % 128 < 128 := Nat.mod_lt _ (by decide)
  unfold Dev.buttonSlot
  dsimp only
  rw [hh, isLive_lands, hs.isDriver hk, hs.kind hk]

theorem buttonSlot_lt (h : d.buttonSlot = some k) : k < 128 := by
  unfold Dev.buttonSlot at h
  dsimp only at h
  split at h
  · rw [← Option.some.inj h]
    exact Nat.mod_lt _ (by decide)
  · cases h

theorem lands_rd {key : Nat} (v : Nat) (h : key ≠ Reg.TB_LANDS) : (d.wr Reg.TB_LANDS v).rd key = d.rd key := (Dev.wr_rd _ _ _ _).trans (if_neg h)

theorem lands_kind (v : Nat) (hk : k < 128) : (d.wr Reg.TB_LANDS v).kind k = d.kind k :=
  (SameHandles.wr d (k := Reg.TB_LANDS) v (.inr (by decide))).kind hk

theorem lands_capturing (v : Nat) : (d.wr Reg.TB_LANDS v).capturing = d.capturing := by
  unfold Dev.capturing
  rw [lands_rd v (by decide)]

end

/-! A press (R141, R142). -/

/-- The lands as a press leaves them. -/
def Dev.pressedLands (d : Dev) (span trd : Bool) : Nat := setBit (setBit (d.rd Reg.TB_LANDS) (if span then 1 else 0) true) 2 trd

section
variable {s : State} {span trd : Bool} {t k : Nat}

theorem press_goes : Goes (.buttonPress span trd t) s
    (let e := (s.dev.at t).wr Reg.TB_LANDS (s.dev.pressedLands span trd)
    if (bitOf (s.dev.pressedLands span trd) 0 && bitOf (s.dev.pressedLands span trd) 1) = true then
      { e with buttons := { s.dev.buttons with lock := true, held := none } }
    else if (decide (s.dev.rd Reg.TB_ENABLE ≠ 1) || s.dev.buttons.lock) = true then e
    else match s.dev.buttonSlot with
      | none => e
      | some k =>
        if e.kind k = 1 then
          if s.dev.capturing then e
          else ({ e with buttons := { s.dev.buttons with
              last := t, capN := 0, capAll := 0, capSum := 0, capDen := 1, held := some span } } : Dev).wr Reg.TB_STATUS (if span then 2 else 1)
        else (({ e with buttons := { s.dev.buttons with last := t, held := some span } } : Dev).wr Reg.TB_LAST_DELTA 0).stageTrim k span
          (if trd then -100 else 100) 2) := by
  have h1 : ((s.dev.at t).wr Reg.TB_LANDS (s.dev.pressedLands span trd)).rd Reg.TB_ENABLE = s.dev.rd Reg.TB_ENABLE := lands_rd _ (by decide)
  have h2 : ((s.dev.at t).wr Reg.TB_LANDS (s.dev.pressedLands span trd)).buttonSlot = s.dev.buttonSlot := buttonSlot_lands _
  have h3 : ((s.dev.at t).wr Reg.TB_LANDS (s.dev.pressedLands span trd)).capturing = s.dev.capturing := lands_capturing _
  rw [← h1, ← h2, ← h3] <;> rfl

theorem press_single (hb : ¬ (bitOf (s.dev.pressedLands span trd) 0 = true ∧ bitOf (s.dev.pressedLands span trd) 1 = true)) :
    ¬ (bitOf (s.dev.pressedLands span trd) 0 && bitOf (s.dev.pressedLands span trd) 1) = true := by
  rwa [Bool.and_eq_true]

theorem press_open (hen : s.dev.rd Reg.TB_ENABLE = 1) (hl : s.dev.buttons.lock = false) :
    ¬ (decide (s.dev.rd Reg.TB_ENABLE ≠ 1) || s.dev.buttons.lock) = true := by simp [hen, hl]

/-! A repeat and a release (R142 to R144, R151). -/

theorem repeat_goes : Goes (.buttonRepeat trd t) s (let e := (s.dev.at t).wrBit Reg.TB_LANDS 2 trd
    match s.dev.buttons.held, s.dev.buttonSlot with
    | some span, some k => if e.kind k = 2 ∧ s.dev.rd Reg.TB_ENABLE = 1 ∧ s.dev.buttons.lock = false then e.stageTrim k span (if trd then -100 else 100) 2 else e
    | _, _ => e) := by
  have h1 : ((s.dev.at t).wrBit Reg.TB_LANDS 2 trd).rd Reg.TB_ENABLE = s.dev.rd Reg.TB_ENABLE := lands_rd _ (by decide)
  have h2 : ((s.dev.at t).wrBit Reg.TB_LANDS 2 trd).buttonSlot = s.dev.buttonSlot := buttonSlot_lands _
  rw [← h1, ← h2] <;> rfl

end

/-- A step of a trim by a button, waiting to become part of a transaction. -/
def buttonEntry (x : Entry) : Bool := x.aux = 2 && isHandleIx x.ix

theorem buttonTxn_none {d : Dev} (hu : d.buttons.undo = []) (hl : d.staged.filter buttonEntry = []) : d.buttonTxn = d := if_pos ⟨hu, hl⟩

/-- The end of a button sequence is one transaction of its trims, journalled at once (R144). -/
theorem buttonTxn_issues {d : Dev} (h : d.buttons.undo ≠ [] ∨ d.staged.filter buttonEntry ≠ []) (hm : d.mayWrite = true) : d.buttonTxn =
    ((({ d.wr Reg.TX_NEXT (if d.rd Reg.TX_NEXT = 2 ^ 32 - 1 then 1 else d.rd Reg.TX_NEXT + 1) with
      staged := d.staged.filter fun x => !buttonEntry x,
      txns := d.txns ++ [{
        num := d.rd Reg.TX_NEXT, id := 0, st := 2, entries := d.staged.filter buttonEntry, last := d.now,
        cyc := (d.rd Reg.SQ_CYCLE_INDEX + 2 ^ 32 - 1) % 2 ^ 32, done := true }],
      buttons := { d.buttons with undo := [] } } : Dev).journalPut (d.rd Reg.TX_NEXT) 0 2).pruneTxns) := by
  have hm' : (d.wr Reg.TX_NEXT (if d.rd Reg.TX_NEXT = 2 ^ 32 - 1 then 1 else d.rd Reg.TX_NEXT + 1)).mayWrite = true := (mayWrite_next _).trans hm
  have hc : (d.wr Reg.TX_NEXT (if d.rd Reg.TX_NEXT = 2 ^ 32 - 1 then 1 else d.rd Reg.TX_NEXT + 1)).rd Reg.SQ_CYCLE_INDEX = d.rd Reg.SQ_CYCLE_INDEX :=
    (Dev.wr_rd _ _ _ _).trans (if_neg (by decide))
  rw [← hc]
  refine (if_neg fun hn => h.elim (absurd hn.1) (absurd hn.2)).trans ?_
  dsimp only [Dev.issueTxn]
  rw [hm']
  rfl

/-- The buttons let go. -/
def Dev.released (d : Dev) : Dev := { d.wr Reg.TB_LANDS (d.rd Reg.TB_LANDS &&& 4) with buttons := { d.buttons with held := none, lock := false } }

theorem released_noUndo {d : Dev} (h : d.buttons.undo = []) : d.released =
    { d.wr Reg.TB_LANDS (d.rd Reg.TB_LANDS &&& 4) with buttons := { d.buttons with held := none, lock := false, undo := [] } } := by
  unfold Dev.released
  dsimp only
  rw [h]

theorem release_goes {s : State} {t : Nat} : Goes (.buttonRelease t) s (s.dev.at t).released.buttonTxn := rfl

/-! The trim itself (R139, R151). -/

theorem toInt_ofInt32 {v : Int} (h : -(2 ^ 31) ≤ v ∧ v < 2 ^ 31) : toInt 32 (ofInt 32 v) = v := by
  unfold toInt ofInt
  dsimp only
  split <;> omega

theorem trimFits_range {span : Bool} {v : Int} (h : trimFits span v = true) : -(2 ^ 31) ≤ v ∧ v < 2 ^ 31 := by
  have h' := of_decide_eq_true h
  cases span <;> simp only [trimLimit] at h' <;> constructor <;> norm_num at h' ⊢ <;> omega

theorem clamp_fits (span : Bool) (v : Int) : trimFits span (clampInt (-(trimLimit span)) (trimLimit span) v) = true := by
  have hl : 0 < trimLimit span := by cases span <;> decide
  refine decide_eq_true ?_
  unfold clampInt
  split
  · omega
  · split <;> omega

theorem trimKey_eq (k : Nat) (span : Bool) : trimKey k span = (0x2000 + 0x40 * k) * 256 + (if span then 0x29 else 0x28) := by
  cases span <;> rfl

section
variable {f : Dev} {k t0 : Nat} {span : Bool}

/-- What a change of a trim leaves in its object. -/
theorem applyTrim_rd (hk : k < 128) (v : Int) (source : Nat) {new : Int}
    (hnew : (if source = 2 then clampInt (-(trimLimit span)) (trimLimit span) (f.rdI 32 (trimKey k span) + v) else v) = new)
    (hfit : trimFits span new = true) :
    (f.applyTrim k span v source t0).rdI 32 (trimKey k span) = new ∧ (f.applyTrim k span v source t0).rd (Reg.LP_TRIM_TIME k) = t0 := by
  have hkey : trimKey k span ≠ Reg.TB_LAST_DELTA ∧ trimKey k span ≠ Reg.LP_TRIM_TIME k ∧ ¬ logKey (trimKey k span) := by
    rw [trimKey_eq]
    refine ⟨?_, ?_, handle_not_logKey hk (by split <;> decide)⟩
    · unfold Reg.TB_LAST_DELTA
      split <;> omega
    · unfold Reg.LP_TRIM_TIME
      split <;> omega
  have htime : Reg.LP_TRIM_TIME k ≠ Reg.TB_LAST_DELTA := by
    unfold Reg.LP_TRIM_TIME Reg.TB_LAST_DELTA
    omega
  have hwhen : ∀ (g : Dev) (c : Bool) (x : Dev → Int) (key : Nat), key ≠ Reg.TB_LAST_DELTA →
      (g.when c fun d => d.wrI 32 Reg.TB_LAST_DELTA (x d)).rd key = g.rd key := fun g c x key h => by
    cases c
    · rfl
    · exact (Dev.wr_rd _ _ _ _).trans (if_neg h)
  dsimp only [Dev.applyTrim]
  rw [hnew, Dev.rdI, log1_rd _ _ _ _ _ hkey.2.2, hwhen _ _ _ _ hkey.1, Dev.wr_rd, if_neg hkey.2.1, Dev.wrI, Dev.wr_rd, if_pos rfl,
    log1_rd _ _ _ _ _ (handle_not_logKey hk (c := 0x2A) (by decide)), hwhen _ _ _ _ htime, Dev.wr_rd, if_pos rfl]
  exact ⟨toInt_ofInt32 (trimFits_range hfit), rfl⟩

end

/-! A reset in the middle of a sequence (R151). -/

theorem trimKey_slot (k : Nat) (span : Bool) : slotOf (trimKey k span / 256) = k := by
  rw [trimKey_eq, slotOf]
  split <;> omega

theorem lowered_obj (d : Dev) (hk : Nat) (lost : List Txn) (cause : Nat) : (d.lowered hk lost cause).obj = d.trimsBack d.keptObjects := rfl

theorem trimsBack_one {d : Dev} {m : Tab Nat} {k v : Nat} {span : Bool} (hu : d.buttons.undo = [(trimKey k span, v)]) (hh : d.hst k ≠ 0) :
    d.trimsBack m = tabSet dfltOf m (trimKey k span) v := by
  rw [Dev.trimsBack, hu, List.filter_cons_of_pos (by rw [trimKey_slot]; exact decide_eq_true hh)]
  rfl

theorem trim_comes_back {f : Dev} {cause k v : Nat} {span : Bool} (hup : f.crownUp = true) (hg : f.graft.calSlot = none)
    (hu : f.buttons.undo = [(trimKey k span, v)]) (hh : f.hst k ≠ 0) : (f.crownDown cause).rd (trimKey k span) = v := by
  have ht := tornDown_torn f
  have hst : f.tornDown.hst k = f.hst k := ht.rd (Reg.HND_STATE k) (by unfold Reg.HND_STATE; omega) (by unfold Reg.HND_STATE; omega)
  have hun : f.tornDown.buttons = f.buttons := by rw [ht.same]
  rw [crownDown_lowered cause hup hg]
  generalize f.tornDown = e at hst hun
  rw [Dev.rd, lowered_obj, trimsBack_one (by rw [hun]; exact hu) (by rwa [hst]), tabGet_tabSet, if_pos rfl]

/-! A capture in progress (R141). -/

theorem captureRecord_unclean {f : Dev} {k : Nat} {o : UnitOut} (hc : f.capturing = true) (hh : f.rd Reg.TB_HANDLE = f.rd (Reg.HND_ID k))
    (hk : f.kind k = 1) (ho : o.flags.clean = false) (hn : f.buttons.capN ≠ 4) : f.captureRecord k o =
      if f.buttons.capAll + 1 = 16 then (({ f with buttons := { f.buttons with capAll := f.buttons.capAll + 1 } } : Dev).wr Reg.TB_STATUS 5).log1
        0x038A (f.rd Reg.TB_HANDLE) 2
      else { f with buttons := { f.buttons with capAll := f.buttons.capAll + 1 } } := by
  unfold Dev.captureRecord
  rw [if_neg (by simp [hc, hh, hk]), ho]
  exact if_neg hn

/-! TB_ENABLE (R142). -/

/-- A write beside the handles, the power-up postures and the hold times leaves the digests. -/
theorem digestContent_wr {d : Dev} {k b : Nat} (v : Nat) (hk : 0x400000 ≤ k) (hb : b < 4) : (d.wr k v).digestContent b = d.digestContent b := by
  have hs := SameHandles.wr d (k := k) v (.inr hk)
  rw [digestContent_eq, digestContent_eq, hs.branchDrivers b, hs.digestCovers]
  refine filter_tabSet dfltOf _ d.obj k v fun u => ?_
  rw [digestCovers_plain (by dsimp only; omega)]
  simp only [Bool.or_eq_false_iff, Bool.and_eq_false_iff, decide_eq_false_iff_not]
  refine ⟨?_, ?_⟩
  · left; left
    omega
  · show ¬ k = 0x042001 + b
    omega

section
variable {s : State} {r : Req}

/-- The buttons opened. -/
def Dev.enabledButtons (d : Dev) : Dev := { d.wr Reg.TB_ENABLE 1 with buttons := { d.buttons with last := d.now } }

theorem outside_tbEnable {d : Dev} {w : Worn} {q : Request} {v : Nat} {x : Entry} (hq : q.ix = 0x9020 ∧ q.sub = 1) (hx : x.ix = 0x9020 ∧ x.sub = 1)
    (hv : x.val = 1) : d.outside w q v x = (d.enabledButtons, {}) := by
  have hcheck : d.entryCheck w x = OK := by
    unfold Dev.entryCheck
    rw [hx.1, hx.2]
    rfl
  have happly : ∀ e : Dev, e.applyEntry w x = e.enabledButtons := fun e => by
    unfold Dev.applyEntry Dev.systemWrite
    rw [hx.1, hx.2, hv, Entry.key, hx.1, hx.2]
    rfl
  have hdigest : ∀ b, b < 4 → d.enabledButtons.digestContent b = d.digestContent b := fun b hb =>
    ((Lasting.of_obj (d := d.wr Reg.TB_ENABLE 1) (e := d.enabledButtons) rfl rfl).digest b hb).trans (digestContent_wr 1 (by decide) hb)
  have hdirect : d.direct w x = (d.enabledButtons, {}) := by
    rw [Dev.direct, hcheck, ← happly d]
    exact congrArg (fun e : Dev => (e, ({} : Answer))) (withDigests_of_same d (·.applyEntry w x) fun b hb => by rw [happly]; exact hdigest b hb)
  have hkey : x.key ≠ Reg.BR_RELEASE := by
    rw [Entry.key, hx.1, hx.2]
    decide
  rw [← hdirect, Dev.outside]
  simp only [hq.1, hq.2, hkey]
  rfl

theorem tbEnable_obeys (hp : s.dev.permits (writeReq r Reg.TB_ENABLE 0 1 1)) : Obeys (.tbEnable r) s (writeReq r Reg.TB_ENABLE 0 1 1) {}
    { s.dev.wr Reg.TB_ENABLE 1 with buttons := { s.dev.buttons with last := r.t } } := by
  have hperm := Permitted.of_writeReq (c := .tbEnable r) (s := s) rfl (by decide) hp
  have hval : (s.dev.entryOf (writeReq r Reg.TB_ENABLE 0 1 1)).val = 1 := masked_small (v := 1) (ix := 0x9020) (sub := 1) rfl (by decide)
  refine hperm.obeys_booked rfl ?_ (by decide) fun rs xs => outside_tbEnable ⟨rfl, rfl⟩ ⟨rfl, rfl⟩ hval
  exact (Dev.wr_rd s.dev Reg.TB_ENABLE 1 Reg.DR_EPOCH).trans (if_neg (by decide))

end

/-- Settles O54: by the commands' definitions, the transaction of a sequence, and what a trim and a reset leave in the objects of trims. -/
theorem buttonsTrim : Obligations.ButtonsTrim := by
  intro s r span trd t d lands e both
  refine ⟨tbEnable_obeys, fun hb => ?_, fun hb hn => ?_, fun k hb hen hl hs => ?_, fun k hheld hs => ?_, fun hheld => ?_, ?_,
    fun f cause k v _ hup hg hu hh => trim_comes_back hup hg hu hh, fun h => ?_, fun h => ?_, fun f k v t0 hk hfit => ?_, fun f k v t0 hk => ?_,
    fun f k o hc hh hk ho hn => ?_⟩
  · exact Goes.of_eq press_goes (if_pos (by rw [Bool.and_eq_true]; exact hb))
  · refine Goes.of_eq press_goes ((if_neg (press_single hb)).trans ?_)
    by_cases hopen : (decide (s.dev.rd Reg.TB_ENABLE ≠ 1) || s.dev.buttons.lock) = true
    · exact if_pos hopen
    · refine (if_neg hopen).trans ?_
      have hs : s.dev.buttonSlot = none := by
        rcases hn with h | h | h
        · exact absurd (by simp [h]) hopen
        · exact absurd (by simp [h]) hopen
        · exact h
      rw [hs] <;> rfl
  · have hgo := Goes.of_eq (press_goes (span := span) (trd := trd) (t := t)) ((if_neg (press_single hb)).trans (if_neg (press_open hen hl)))
    rw [hs] at hgo
    have hkind : e.kind k = s.dev.kind k := lands_kind _ (buttonSlot_lt hs)
    refine ⟨fun hk hc => ?_, fun hk hc => ?_, fun hk => ?_⟩
    · exact Goes.of_eq hgo ((if_pos (hkind.trans hk)).trans (if_neg (ne_true_of_eq_false hc)))
    · exact Goes.of_eq hgo ((if_pos (hkind.trans hk)).trans (if_pos hc))
    · exact Goes.of_eq hgo (if_neg fun h => absurd (hkind.symm.trans h) (by rw [hk]; decide))
  · have hgo := repeat_goes (s := s) (trd := trd) (t := t)
    rw [hheld, hs] at hgo
    have hkind : ((s.dev.at t).wrBit Reg.TB_LANDS 2 trd).kind k = s.dev.kind k := lands_kind _ (buttonSlot_lt hs)
    refine ⟨fun hk hen hl => ?_, fun hk => ?_⟩
    · exact Goes.of_eq hgo (if_pos ⟨hkind.trans hk, hen, hl⟩)
    · exact Goes.of_eq hgo (if_neg fun h => absurd (hkind.symm.trans h.1) (by rw [hk]; decide))
  · have hgo := repeat_goes (s := s) (trd := trd) (t := t)
    rw [hheld] at hgo
    exact hgo
  · intro step n f
    have hgo := release_goes (s := s) (t := t)
    refine ⟨fun hu hl => ?_, fun h hm => ?_⟩
    · rw [buttonTxn_none (d := (s.dev.at t).released) hu hl, released_noUndo (d := s.dev.at t) hu] at hgo
      exact hgo
    · have hn : (s.dev.at t).released.rd Reg.TX_NEXT = s.dev.rd Reg.TX_NEXT := lands_rd _ (by decide)
      have hc : (s.dev.at t).released.rd Reg.SQ_CYCLE_INDEX = s.dev.rd Reg.SQ_CYCLE_INDEX := lands_rd _ (by decide)
      have hm' : (s.dev.at t).released.mayWrite = true := (wr_mayWrite (d := s.dev.at t) (k := Reg.TB_LANDS) (by decide)).trans hm
      rw [buttonTxn_issues (d := (s.dev.at t).released) h hm', hn, hc] at hgo
      exact hgo
  · exact Goes.of_eq (c := .tbEnableTimeout t) (s := s) rfl (if_pos h)
  · exact Goes.of_eq (c := .tbEnableTimeout t) (s := s) rfl (if_neg (Nat.not_le.2 h))
  · exact applyTrim_rd hk v 1 rfl hfit
  · rw [(applyTrim_rd hk v 2 rfl (clamp_fits span _)).1]
    exact clamp_fits span _
  · exact ⟨fun hne => (captureRecord_unclean hc hh hk ho hn).trans (if_neg hne), fun heq => by
      rw [captureRecord_unclean hc hh hk ho hn, if_pos heq, heq]⟩

end Sys2Proof.Machine
end

/-! Level inputs: debounce, edges and line faults (R145 to R150). -/
section
namespace Sys2Proof.Machine

/-! The raw level (R146). -/

section
variable {c : Chan} {t : Nat}

theorem debounceRaw_fault (h : c.comp = true) : c.debounceRaw t = { c with cand := c.level } := if_pos h

theorem debounceRaw_same (h : c.comp = false) (hr : c.raw = c.cand) : c.debounceRaw t = c :=
  (if_neg (ne_true_of_eq_false h)).trans (if_neg (not_not_intro hr))

theorem debounceRaw_moves (h : c.comp = false) (hr : c.raw ≠ c.cand) : c.debounceRaw t = { c with cand := c.raw, tc := t } :=
  (if_neg (ne_true_of_eq_false h)).trans (if_pos hr)

/-- The raw level as it arrives at the terminal. -/
def Chan.sensed (c : Chan) (raw : Bool) : Chan := { c with inp := raw, raw := raw != c.invert }

theorem sensed_comp (raw : Bool) : (c.sensed raw).comp = c.comp := rfl

end

section
variable {s : State} {n : ChanNo} {t : Nat} {raw : Bool}

theorem rawChange_goes : Goes (.levelRawChange n raw t) s ((s.dev.at t).setChan n
    (if s.dev.lvJudged n then ((s.dev.chan n).sensed raw).debounceRaw t else (s.dev.chan n).sensed raw)) := rfl

/-- An edge that is due to be accepted (R147). -/
def State.edgeReady (s : State) (n : ChanNo) (t : Nat) : Prop := s.dev.lvJudged n = true ∧ s.dev.ucSwitching (n.val / 4) = false ∧
  (s.dev.chan n).comp = false ∧ (s.dev.chan n).fault = false ∧ (s.dev.chan n).cand ≠ (s.dev.chan n).level ∧
  (s.dev.chan n).tc + (s.dev.chan n).debounce * 1000 ≤ t

theorem edgeReady_iff : (s.dev.lvJudged n && !s.dev.ucSwitching (n.val / 4) && !(s.dev.chan n).comp && !(s.dev.chan n).fault &&
    (s.dev.chan n).cand != (s.dev.chan n).level && decide ((s.dev.chan n).tc + (s.dev.chan n).debounce * 1000 ≤ t)) = true ↔ s.edgeReady n t := by
  simp only [State.edgeReady, Bool.and_eq_true, Bool.not_eq_true', bne_iff_ne, decide_eq_true_eq, and_assoc]

/-- The channel after a rising, or a falling edge. -/
def Chan.risen (c : Chan) : Chan :=
  { c with level := true, rises := (c.rises + 1) % 2 ^ 32, tRise := edgeStamp c.tc, newRise := c.newRise + 1 }

def Chan.fallen (c : Chan) : Chan :=
  { c with level := false, falls := (c.falls + 1) % 2 ^ 32, tFall := edgeStamp c.tc, newFall := c.newFall + 1 }

theorem edge_falls (h : s.edgeReady n t) (hc : (s.dev.chan n).cand = false) :
    Goes (.levelEdgeAccepted n t) s ((s.dev.at t).setChan n (s.dev.chan n).fallen) :=
  Goes.of_eq (c := .levelEdgeAccepted n t) (s := s) rfl ((if_pos (edgeReady_iff.2 h)).trans (if_neg (ne_true_of_eq_false hc)))

theorem edge_rises {k : Nat} (h : s.edgeReady n t) (hc : (s.dev.chan n).cand = true) (hk : s.dev.lvDriver n = some k) :
    Goes (.levelEdgeAccepted n t) s
      (((s.dev.at t).setChan n (s.dev.chan n).risen).each (s.dev.trackers k) fun d j => d.mainsEdge j (edgeStamp (s.dev.chan n).tc)) := by
  refine Goes.of_eq (c := .levelEdgeAccepted n t) (s := s) rfl ((if_pos (edgeReady_iff.2 h)).trans ((if_pos hc).trans ?_))
  have hk' : ((s.dev.at t).setChan n (s.dev.chan n).risen).lvDriver n = some k := hk
  show (match ((s.dev.at t).setChan n (s.dev.chan n).risen).lvDriver n with
    | none => (s.dev.at t).setChan n (s.dev.chan n).risen
    | some k => ((s.dev.at t).setChan n (s.dev.chan n).risen).each (((s.dev.at t).setChan n (s.dev.chan n).risen).trackers k) fun d j =>
      d.mainsEdge j (edgeStamp (s.dev.chan n).tc)) = _
  rw [hk'] <;> rfl

end

/-! Mains tracking by the edges (R69). -/

section
variable {d : Dev} {k : Nat}

theorem log1_slot (d : Dev) (code src det k : Nat) : (d.log1 code src det).slot k = d.slot k := by rw [Dev.slot, log1_slots]; rfl

theorem mainsLost_mLast : ((d.mainsLost k).slot k).mLast = (d.slot k).mLast := by
  have hm : ((d.modSlot k fun x => { x with mGood := 0 }).slot k).mLast = (d.slot k).mLast := by
    rw [Dev.modSlot, Dev.setSlot_slot, if_pos rfl]
  unfold Dev.mainsLost
  dsimp only
  split
  · exact hm
  · rw [log1_slot]
    exact hm

theorem mainsEdge_mLast (tc : Nat) : ((d.mainsEdge k tc).slot k).mLast = tc := by
  have hset : ∀ x : Slot, x.mLast = tc → ((d.setSlot k x).slot k).mLast = tc := fun x hx => by rwa [Dev.setSlot_slot, if_pos rfl]
  have hmod : ∀ (e : Dev) g, (e.slot k).mLast = tc → ((e.modSlot k fun x => { x with mGood := g }).slot k).mLast = tc := fun e g he => by
    rwa [Dev.modSlot, Dev.setSlot_slot, if_pos rfl]
  unfold Dev.mainsEdge
  dsimp only
  split
  · exact hset _ rfl
  · have he := hset { d.slot k with mLast := tc, mPeriod := tc - (d.slot k).mLast } rfl
    generalize d.setSlot k { d.slot k with mLast := tc, mPeriod := tc - (d.slot k).mLast } = e at he
    split
    · have hg := hmod e (min 4 ((d.slot k).mGood + 1)) he
      generalize (e.modSlot k fun x => { x with mGood := min 4 ((d.slot k).mGood + 1) }) = g at hg
      split
      · exact hg
      · generalize decide (g.rd (Reg.CV_MAINS_STATE k) = 3) = b
        cases b
        · exact hg
        · rw [Dev.when_true, log1_slot]
          exact hg
    · rw [mainsLost_mLast]
      exact he

theorem log1_channel (d : Dev) (code src det n : Nat) : (d.log1 code src det).chan n = d.chan n := (log1_quiet d code src det).chan n

theorem mainsLost_chan (n : Nat) : (d.mainsLost k).chan n = d.chan n := by
  unfold Dev.mainsLost
  dsimp only
  split
  · rfl
  · exact log1_channel _ _ _ _ _

theorem mainsEdge_chan (tc n : Nat) : (d.mainsEdge k tc).chan n = d.chan n := by
  unfold Dev.mainsEdge
  dsimp only
  split
  · rfl
  · split
    · split
      · rfl
      · generalize decide (_ = 3) = b
        cases b
        · rfl
        · exact log1_channel _ _ _ _ _
    · exact mainsLost_chan _

end

/-! Line faults (R148, R150). -/

section
variable {s : State} {n : ChanNo} {t k : Nat}

theorem comparator_goes (short active : Bool) (hk : s.dev.lvDriver n = some k) : Goes (.lineFaultComparator n short active t) s
    (if s.dev.lvType k = 2 then (s.dev.at t).setChan n
      ((if short then { s.dev.chan n with compShort := active } else { s.dev.chan n with compWire := active }).debounceRaw t)
    else s.dev.at t) := by
  have hk' : (s.dev.at t).lvDriver n = some k := hk
  refine Goes.of_eq (c := .lineFaultComparator n short active t) (s := s) rfl ?_
  dsimp only
  rw [hk'] <;> rfl

theorem declared_goes (short : Bool) (na : Nat) (hk : s.dev.lvDriver n = some k) : Goes (.lineFaultDeclared n short na t) s
    (if short then
      if ((s.dev.chan n).compShort && bitOf (s.dev.chan n).detect 1 && !(s.dev.chan n).short) = true then
        ((s.dev.at t).setChan n { s.dev.chan n with short := true, na := na }).report n 0x0391 (s.dev.rd (Reg.HND_ID k)) na
      else s.dev.at t
    else if ((s.dev.chan n).compWire && bitOf (s.dev.chan n).detect 0 && !(s.dev.chan n).wireBrk) = true then
      ((s.dev.at t).setChan n { s.dev.chan n with wireBrk := true, na := na }).report n 0x0390 (s.dev.rd (Reg.HND_ID k)) na
    else s.dev.at t) := by
  have hk' : (s.dev.at t).lvDriver n = some k := hk
  refine Goes.of_eq (c := .lineFaultDeclared n short na t) (s := s) rfl ?_
  dsimp only
  rw [hk'] <;> rfl

theorem faultEnd_wire {na : Nat} (hk : s.dev.lvDriver n = some k) (hw : (s.dev.chan n).wireBrk = true) (hc : (s.dev.chan n).compWire = false)
    (hs : (s.dev.chan n).short = false) : Goes (.lineFaultEnd n na t) s
      (((s.dev.at t).setChan n { s.dev.chan n with wireBrk := false, na := na }).report n 0x0392 (s.dev.rd (Reg.HND_ID k)) na) := by
  have hnew : ({ s.dev.chan n with
      wireBrk := (s.dev.chan n).wireBrk && (s.dev.chan n).compWire, short := (s.dev.chan n).short && (s.dev.chan n).compShort, na := na } : Chan) = { s.dev.chan n with wireBrk := false, na := na } := by
    dsimp only
    rw [hw, hc, hs]
    rfl
  refine Goes.of_eq (c := .lineFaultEnd n na t) (s := s) rfl ((if_pos ?_).trans ?_)
  · show ((s.dev.chan n).fault && (((s.dev.chan n).wireBrk && (s.dev.chan n).compWire) != (s.dev.chan n).wireBrk ||
      ((s.dev.chan n).short && (s.dev.chan n).compShort) != (s.dev.chan n).short)) = true
    rw [Chan.fault, hw, hc, hs]
    rfl
  · have hk' : ((s.dev.at t).setChan n { s.dev.chan n with wireBrk := false, na := na }).lvDriver n = some k := hk
    dsimp only
    rw [show (s.dev.at t).chan n = s.dev.chan n from rfl, hnew, hk'] <;> rfl

theorem faultEnd_none {na : Nat} (hw : (s.dev.chan n).wireBrk = true → (s.dev.chan n).compWire = true)
    (hs : (s.dev.chan n).short = true → (s.dev.chan n).compShort = true) : Goes (.lineFaultEnd n na t) s (s.dev.at t) := by
  refine Goes.of_eq (c := .lineFaultEnd n na t) (s := s) rfl (if_neg ?_)
  show ¬ ((s.dev.chan n).fault && (((s.dev.chan n).wireBrk && (s.dev.chan n).compWire) != (s.dev.chan n).wireBrk ||
    ((s.dev.chan n).short && (s.dev.chan n).compShort) != (s.dev.chan n).short)) = true
  have hw' : ((s.dev.chan n).wireBrk && (s.dev.chan n).compWire) = (s.dev.chan n).wireBrk := by
    cases h : (s.dev.chan n).wireBrk
    · rfl
    · rw [hw h]
      rfl
  have hs' : ((s.dev.chan n).short && (s.dev.chan n).compShort) = (s.dev.chan n).short := by
    cases h : (s.dev.chan n).short
    · rfl
    · rw [hs h]
      rfl
  rw [hw', hs']
  simp

end

/-- Settles O55: by the commands' definitions, with what debouncing and an edge of a mains source do. -/
theorem levelsAct : Obligations.LevelsAct := by
  intro s n t d c
  refine ⟨fun raw hj => ?_, fun raw hj hc => ⟨fun hr => ?_, fun hr => ?_⟩, fun raw hj hc => ?_, ?_, fun k hk => ?_,
    fun na => faultEnd_none, fun e k tOut => rfl⟩
  · have hgo := rawChange_goes (s := s) (n := n) (t := t) (raw := raw)
    rw [hj] at hgo
    exact hgo
  · have hgo := rawChange_goes (s := s) (n := n) (t := t) (raw := raw)
    rw [hj, if_pos rfl, debounceRaw_same ((sensed_comp raw).trans hc) hr] at hgo
    exact hgo
  · have hgo := rawChange_goes (s := s) (n := n) (t := t) (raw := raw)
    rw [hj, if_pos rfl, debounceRaw_moves ((sensed_comp raw).trans hc) hr] at hgo
    exact hgo
  · have hgo := rawChange_goes (s := s) (n := n) (t := t) (raw := raw)
    rw [hj, if_pos rfl, debounceRaw_fault ((sensed_comp raw).trans hc)] at hgo
    exact hgo
  · intro ready
    refine ⟨fun hn => ?_, edge_falls, fun k hr hc hk hnone => ?_, fun k j hr hc hk hone => ?_⟩
    · exact Goes.of_eq (c := .levelEdgeAccepted n t) (s := s) rfl (if_neg fun h => hn (edgeReady_iff.1 h))
    · have hgo := edge_rises hr hc hk
      rw [hnone, Dev.each_nil] at hgo
      exact hgo
    · have hgo := edge_rises hr hc hk
      rw [hone, Dev.each_cons, Dev.each_nil] at hgo
      refine ⟨_, hgo, ⟨rfl, rfl, rfl⟩, ?_, ?_, mainsEdge_mLast _⟩
      · rw [mainsEdge_chan, Dev.setChan_chan, if_pos rfl]
        rfl
      · rw [mainsEdge_chan, Dev.setChan_chan, if_pos rfl]
        rfl
  · have hcomp := fun a b => comparator_goes (t := t) a b hk
    have hdecl := fun a na => declared_goes (t := t) a na hk
    refine ⟨fun hty hb => ?_, fun hty hb => ?_, fun hty hb hs hr => ?_, fun hty hd hr a => ⟨?_, ?_⟩, fun hty a b => ?_, fun na h1 h2 h3 => ?_,
      fun na h1 h2 h3 => ?_, fun na hn => ?_, fun na => faultEnd_wire hk⟩
    · refine Goes.of_eq (hcomp true true) ((if_pos hty).trans (congrArg _ (debounceRaw_fault ?_)))
      show (c.compWire && bitOf c.detect 0 || true && bitOf c.detect 1) = true
      simp [hb]
    · refine Goes.of_eq (hcomp false true) ((if_pos hty).trans (congrArg _ (debounceRaw_fault ?_)))
      show (true && bitOf c.detect 0 || c.compShort && bitOf c.detect 1) = true
      simp [hb]
    · refine Goes.of_eq (hcomp false false) ((if_pos hty).trans (congrArg _ (debounceRaw_same ?_ hr)))
      show (false && bitOf c.detect 0 || c.compShort && bitOf c.detect 1) = false
      simp [hs]
    · refine Goes.of_eq (hcomp false a) ((if_pos hty).trans (congrArg _ (debounceRaw_same ?_ hr)))
      show (a && bitOf c.detect 0 || c.compShort && bitOf c.detect 1) = false
      simp [hd, bitOf]
    · refine Goes.of_eq (hcomp true a) ((if_pos hty).trans (congrArg _ (debounceRaw_same ?_ hr)))
      show (c.compWire && bitOf c.detect 0 || a && bitOf c.detect 1) = false
      simp [hd, bitOf]
    · exact Goes.of_eq (hcomp a b) (if_neg hty)
    · exact Goes.of_eq (hdecl false na) ((if_neg (by decide)).trans (if_pos (by simp [c, h1, h2, h3])))
    · exact Goes.of_eq (hdecl true na) ((if_pos rfl).trans (if_pos (by simp [c, h1, h2, h3])))
    · exact Goes.of_eq (hdecl false na) ((if_neg (by decide)).trans (if_neg (by rcases hn with h | h | h <;> simp [c, h])))

end Sys2Proof.Machine
end

/-! Load switches: the trips (R161 to R170, R178). -/
section
namespace Sys2Proof.Machine

section
variable {d : Dev} {n j : Nat}

theorem protect_chan (n code det j : Nat) : (d.protect n code det).chan j = d.chan j := by
  unfold Dev.protect
  dsimp only
  split
  · rfl
  · split <;> rfl

theorem latchHandle_chan : (d.latchHandle n).chan j = d.chan j := by
  unfold Dev.latchHandle
  split
  · rfl
  · dsimp only
    split
    · rfl
    · split <;> rfl

/-- A channel latched off: its state, and with the crown hearing the branch its handle's (R163). -/
def Chan.latched (c : Chan) (st cause now : Nat) : Chan :=
  { c with state := st, cause := cause, flags := setBit c.flags 7 false, tOff := some now, inSeq := false }

theorem swLatch_eq (d : Dev) (n st cause : Nat) : d.swLatch n st cause =
    (d.setChan n ((d.chan n).latched st cause d.now)).when (d.hears (n / 4)) (·.latchHandle n) := rfl

theorem swLatch_chan (d : Dev) (n st cause j : Nat) : (d.swLatch n st cause).chan j =
    if j = n then (d.chan n).latched st cause d.now else d.chan j := by
  rw [swLatch_eq]
  cases d.hears (n / 4)
  · rw [Dev.when_false, Dev.setChan_chan]
  · rw [Dev.when_true, latchHandle_chan, Dev.setChan_chan]

theorem swLatch_unheard {st cause : Nat} (h : d.hears (n / 4) = false) : (d.swLatch n st cause).obj = d.obj := by
  rw [swLatch_eq, h]
  rfl

theorem latchHandle_hst {k : Nat} (hk : d.drvP n = some k) (hs : d.hst k = RUNNING ∨ d.hst k = STOPPED ∨ d.hst k = HSAFE) :
    (d.latchHandle n).hst k = LATCHED := by
  have hwr : ∀ e : Dev, (e.wr (Reg.HND_STATE k) LATCHED).hst k = LATCHED := fun e => (Dev.wr_rd _ _ _ _).trans (if_pos rfl)
  unfold Dev.latchHandle
  rw [hk]
  dsimp only
  split
  · exact hwr _
  · next hn =>
    rcases hs with h | h | h
    · exact absurd (by simp [h]) hn
    · exact absurd (by simp [h]) hn
    · rw [if_pos h]
      exact hwr _

theorem swLatch_hst {k st cause : Nat} (hk : d.drvP n = some k) (hh : d.hears (n / 4) = true)
    (hs : d.hst k = RUNNING ∨ d.hst k = STOPPED ∨ d.hst k = HSAFE) : (d.swLatch n st cause).hst k = LATCHED := by
  rw [swLatch_eq, hh, Dev.when_true]
  exact latchHandle_hst (d := d.setChan n ((d.chan n).latched st cause d.now)) hk hs

theorem protect_linked {code det : Nat} (hh : d.hears (n / 4) = true) (hl : (d.branch (n / 4)).linkUp = true) : d.protect n code det =
    d.toCrown (n / 4) (.prot { chan := n, code := code, det := det, state := (d.chan n).state, time := d.now }) :=
  if_pos (by rw [hh, hl]; rfl)

theorem protect_buffered {code det : Nat} (hh : d.hears (n / 4) = false) (hb : (d.branch (n / 4)).buf.length < 32) : d.protect n code det =
    d.modBranch (n / 4) fun x => { x with
      buf := x.buf ++ [{ chan := n, code := code, det := det, state := (d.chan n).state, time := d.now }] } :=
  (if_neg (by rw [hh, Bool.false_and]; decide)).trans (if_pos hb)

end

/-! A trip of a channel (R163). -/

section
variable {d : Dev} {n code cause det : Nat}

theorem meetsOff_state {c : Chan} {t : Nat} (h : c.meetsOff t = true) : ¬ (c.state = swON ∨ c.state = swPWM) := by
  simp only [Chan.meetsOff, Bool.and_eq_true, decide_eq_true_eq] at h
  rw [h.1.1.1]
  decide

theorem meetsThermal_state {c : Chan} {t : Nat} (h : c.state ≠ swTHERMAL_HOLD ∧ c.state ≠ swTHERMAL_LATCH) : c.meetsThermal t = false := by
  simp [Chan.meetsThermal, h.1, h.2]

theorem swTrip_on (h : (d.chan n).state = swON ∨ (d.chan n).state = swPWM) : d.swTrip n code cause det =
    (let e := (d.setChan n { d.chan n with prev := (d.chan n).state }).protect n code (det + (d.chan n).state * 2 ^ 24)
    if (d.chan n).set.lamp then (e.swOff n swRETRYING).swSequence n true else e.swLatch n swOC_LATCH cause) := if_pos h

/-- A short circuit of a channel that is on, with the time-out's count taken first (R164). -/
theorem swTrip_took (h : (d.chan n).state = swON ∨ (d.chan n).state = swPWM) : d.took.swTrip n 0x0301 2 0 =
    (let e := (d.setChan n { d.chan n with prev := (d.chan n).state }).took.protect n 0x0301 ((d.chan n).state * 2 ^ 24)
    if (d.chan n).set.lamp then (e.swOff n swRETRYING).swSequence n true else e.swLatch n swOC_LATCH 2) := by
  rw [swTrip_on (d := d.took) h, Nat.zero_add]
  rfl

theorem swTrip_meets (h : (d.chan n).meetsOff d.now = true) : d.swTrip n code cause det =
    (let e := d.protect n code (det + (d.chan n).prev * 2 ^ 24)
    if (d.chan n).set.lamp then e else e.swLatch n swOC_LATCH cause) := (if_neg (meetsOff_state h)).trans (if_pos h)

theorem swTrip_none (h : ¬ ((d.chan n).state = swON ∨ (d.chan n).state = swPWM)) (hm : (d.chan n).meetsOff d.now = false) :
    d.swTrip n code cause det = d := (if_neg h).trans (if_neg (ne_true_of_eq_false hm))

end

section
variable {s : State} {n : ChanNo} {t ma : Nat}

theorem overcurrent_goes (h : s.dev.iTrip s.worn (s.dev.lead n) < ma) : Goes (.overcurrentTrip n ma t) s
    ((s.dev.at t).swTrip (s.dev.lead n) 0x0300 1 (min 65535 (ma / 10))) :=
  Goes.of_eq (c := .overcurrentTrip n ma t) (s := s) rfl (if_pos h)

theorem shortCircuit_trips (h : (s.dev.chan (s.dev.lead n)).state ≠ swRETRYING)
    (hm : (s.dev.chan (s.dev.lead n)).meetsThermal t = false) : Goes (.shortCircuit n t) s ((s.dev.at t).took.swTrip (s.dev.lead n) 0x0301 2 0) :=
  Goes.of_eq (c := .shortCircuit n t) (s := s) rfl ((if_neg h).trans (if_neg (ne_true_of_eq_false hm)))

/-- A thermal trip as the branch acts on it: the code of R163 kept, the instant noted, the report (R168). -/
def Dev.thermalHit (d : Dev) (m t : Nat) (c : Chan) : Dev :=
  ((d.modChan m fun y => { y with prev := y.state }).modChan m fun y => { y with tTherm := some t }).protect m 0x0305
    (c.left % 256 + c.set.thermal * 256 + ofInt 16 ((d.modChan m fun y => { y with prev := y.state }).swTemp m) * 65536)

/-- What a change of the sensor of one channel leaves of another's switch. -/
theorem temp_chan (d : Dev) (n m : Nat) (temp : Int) : ((d.modChan n fun y => { y with temp := temp }).chan m) =
    { d.chan m with temp := ((d.modChan n fun y => { y with temp := temp }).chan m).temp } := by
  rw [modChan_chan]
  split
  · next h => rw [h]
  · rfl

theorem thermal_goes {temp : Int} (h : (s.dev.chan (s.dev.lead n)).state = swON ∨ (s.dev.chan (s.dev.lead n)).state = swPWM ∨
      ((s.dev.chan (s.dev.lead n)).state = swRETRYING ∧ bitOf (s.dev.chan (s.dev.lead n)).flags 7 = true)) :
    Goes (.thermalTrip n temp t) s ((((s.dev.at t).modChan n fun y => { y with temp := temp }).thermalHit (s.dev.lead n) t
      (s.dev.chan (s.dev.lead n))).swThermal (s.dev.lead n)) := by
  have hc := temp_chan (s.dev.at t) n (s.dev.lead n) temp
  refine Goes.of_eq (c := .thermalTrip n temp t) (s := s) rfl ((if_pos ?_).trans ?_)
  · show ((_ : Dev).chan (s.dev.lead n)).state = swON ∨ ((_ : Dev).chan (s.dev.lead n)).state = swPWM ∨
      (((_ : Dev).chan (s.dev.lead n)).state = swRETRYING ∧ bitOf ((_ : Dev).chan (s.dev.lead n)).flags 7 = true)
    rw [hc]
    exact h
  · have hleft := congrArg Chan.left hc
    have hset := congrArg (fun c : Chan => c.set) hc
    dsimp only at hleft hset
    show Dev.swThermal (Dev.thermalHit _ _ _ (((s.dev.at t).modChan n fun y => { y with temp := temp }).chan (s.dev.lead n))) _ = _
    unfold Dev.thermalHit
    rw [hleft, hset]
    rfl

theorem shortCircuit_on (h : (s.dev.chan (s.dev.lead n)).state = swON ∨ (s.dev.chan (s.dev.lead n)).state = swPWM) :
    Goes (.shortCircuit n t) s ((s.dev.at t).took.swTrip (s.dev.lead n) 0x0301 2 0) := by
  refine shortCircuit_trips (fun hr => ?_) (meetsThermal_state ?_)
  · rcases h with h | h <;> exact absurd (h.symm.trans hr) (by decide)
  · rcases h with h | h <;> (rw [h]; decide)

theorem shortCircuit_retrying (h : (s.dev.chan (s.dev.lead n)).state = swRETRYING)
    (hb : bitOf (s.dev.chan (s.dev.lead n)).flags 7 = true) : Goes (.shortCircuit n t) s
    (((s.dev.at t).took.protect (s.dev.lead n) 0x0301 ((s.dev.chan (s.dev.lead n)).state * 2 ^ 24)).swFail (s.dev.lead n)
      (shortThreshold s.worn n + s.dev.freeNat 16)) :=
  Goes.of_eq (c := .shortCircuit n t) (s := s) rfl ((if_pos h).trans (if_pos hb))

/-- A thermal trip of a channel that is off finds nothing to do but the sensor's value (R168). -/
theorem thermal_off {temp : Int} (h : (s.dev.chan (s.dev.lead n)).state = swOFF) :
    Goes (.thermalTrip n temp t) s ((s.dev.at t).modChan n fun y => { y with temp := temp }) := by
  have hs : (((s.dev.at t).modChan n fun y => { y with temp := temp }).chan (s.dev.lead n)).state = swOFF := by
    rw [temp_chan]
    exact h
  refine Goes.of_eq (c := .thermalTrip n temp t) (s := s) rfl
    ((if_neg ?_).trans ((if_neg (fun x => ?_)).trans (if_neg (fun x => ?_))))
  · rintro (x | x | x)
    · exact absurd (hs.symm.trans x) (by decide)
    · exact absurd (hs.symm.trans x) (by decide)
    · exact absurd (hs.symm.trans x.1) (by decide)
  · exact absurd (hs.symm.trans x.2) (by decide)
  · exact absurd (hs.symm.trans x.2) (by decide)

theorem thermalHit_chan_set {d : Dev} {m t : Nat} {c : Chan} : ((d.thermalHit m t c).chan m).set = (d.chan m).set := by
  unfold Dev.thermalHit
  rw [protect_chan, modChan_chan, modChan_chan, if_pos rfl, if_pos rfl]

end

/-- Settles O56: only a channel that is on, or that meets an OFF of the same instant, trips; a LAMP channel retries and
    another latches. -/
theorem switchesTrip : Obligations.SwitchesTrip := by
  unfold Obligations.SwitchesTrip
  intro s n t d m c on hit
  have hset (temp : Int) : (((d.modChan n fun y => { y with temp := temp }).thermalHit m t c).chan m).set = c.set := by
    rw [thermalHit_chan_set]
    have hc := congrArg (fun c : Chan => c.set) (temp_chan d n m temp)
    exact hc
  refine ⟨fun ma h => Goes.of_eq (c := .overcurrentTrip n ma t) (s := s) rfl (if_neg (Nat.not_lt.2 h)),
    fun ma h => ⟨fun hon hm => (overcurrent_goes h (t := t)).of_eq (swTrip_none (d := d) hon hm),
      fun hm hl => (overcurrent_goes h (t := t)).of_eq ((swTrip_meets (d := d) hm).trans (if_neg (ne_true_of_eq_false hl))),
      fun hm hl => (overcurrent_goes h (t := t)).of_eq ((swTrip_meets (d := d) hm).trans (if_pos hl)),
      fun hon hl => (overcurrent_goes h (t := t)).of_eq ((swTrip_on (d := d) hon).trans (if_neg (ne_true_of_eq_false hl))),
      fun hon hl => (overcurrent_goes h (t := t)).of_eq ((swTrip_on (d := d) hon).trans (if_pos hl))⟩,
    ?_, ?_, ?_, fun hr hb => shortCircuit_retrying hr hb, fun temp hon => ?_, fun temp h => thermal_off h,
    fun e st cause => ⟨(swLatch_chan e m st cause m).trans (if_pos rfl),
      fun j hj => (swLatch_chan e m st cause j).trans (if_neg hj),
      fun k hk hh hs => swLatch_hst hk hh hs, fun hh => swLatch_unheard hh⟩,
    fun e code det hh hl => protect_linked hh hl, fun e code det hh hb => protect_buffered hh hb⟩
  · exact fun hon hl => (shortCircuit_on hon).of_eq ((swTrip_took (d := d) hon).trans (if_neg (ne_true_of_eq_false hl)))
  · exact fun hon hl => (shortCircuit_on hon).of_eq ((swTrip_took (d := d) hon).trans (if_pos hl))
  · exact fun hoff hm => (shortCircuit_trips (fun h => absurd (hoff.symm.trans h) (by decide))
      (meetsThermal_state (by rw [hoff]; decide))).of_eq (swTrip_none (d := d.took) (by
        rintro (h | h) <;> exact absurd (hoff.symm.trans h) (by decide)) hm)
  · have hgo := thermal_goes (t := t) (temp := temp) (n := n) (s := s) (by
      rcases hon with (h | h) | h
      · exact .inl h
      · exact .inr (.inl h)
      · exact .inr (.inr h))
    exact ⟨fun h => hgo.of_eq (if_pos ((congrArg SwSet.thermal (hset temp)).trans h)),
      fun h => hgo.of_eq (if_neg fun x => h ((congrArg SwSet.thermal (hset temp)).symm.trans x))⟩

end Sys2Proof.Machine
end

/-! Load switches: attempts, gaps, cooling, restored counts, the temperature warning (R163, R167 to R170). -/
section
namespace Sys2Proof.Machine

section
variable {d : Dev} {n ma : Nat}

theorem swFail_gap (h : (d.chan n).state = swRETRYING ∧ bitOf (d.chan n).flags 7 = true) (hl : 0 < (d.chan n).left) :
    d.swFail n ma = (d.setChan n { d.chan n with iFail := ma, prev := swRETRYING }).swOff n swRETRYING :=
  (if_pos h).trans (if_neg (Nat.pos_iff_ne_zero.1 hl))

theorem swFail_last (h : (d.chan n).state = swRETRYING ∧ bitOf (d.chan n).flags 7 = true) (hl : (d.chan n).left = 0) :
    d.swFail n ma = (d.setChan n { d.chan n with iFail := ma, prev := swRETRYING }).swExhaust n ma :=
  (if_pos h).trans (if_pos hl)

theorem swFail_on (h : (d.chan n).state = swON) : d.swFail n ma = d := by
  refine (if_neg fun x => absurd (h.symm.trans x.1) (by decide)).trans (if_neg ?_)
  rw [meetsThermal_state (by rw [h]; decide)]
  exact Bool.false_ne_true

/-- A channel y as an attempt of c starts, with the limits then in force (R168, R170). -/
def Chan.attempting (y c : Chan) (now : Nat) : Chan :=
  { y with
    left := c.left - 1, state := swRETRYING, flags := setBit c.flags 7 true, tries := c.tries + 1, limRun := c.set.iLim,
    timRun := c.set.tLim, tTry := now }

theorem swAttempt_starts (h : 0 < (d.chan n).left) : d.swAttempt n false = d.setChan n ((d.chan n).attempting (d.chan n) d.now) :=
  if_neg (Nat.pos_iff_ne_zero.1 h)

theorem swAttempt_resumes (h : 0 < (d.chan n).left) : d.swAttempt n true =
    (let f := d.setChan n ((d.chan n).attempting (d.chan n) d.now)
    f.protect n 0x0306 (ofInt 16 (f.swTemp n) + ((d.chan n).left - 1) * 65536)) :=
  if_neg (Nat.pos_iff_ne_zero.1 h)

end

/-! Cooling and the end of a gap (R163), with the channel known but for its sensor. -/

section
variable {d : Dev} {w : Worn} {n : Nat} {c : Chan} {temp : Int}

theorem attempting_known (hc : d.chan n = { c with temp := temp }) (now : Nat) :
    (d.chan n).attempting (d.chan n) now = (d.chan n).attempting c now := by
  rw [hc]
  rfl

theorem swResume_gap (hc : d.chan n = { c with temp := temp }) (hs : c.state = swRETRYING) (hb : bitOf c.flags 7 = false)
    (hcool : d.cool n = true) (hcmd : c.force.cmd ≠ 0) (hg : gapPast c.gapRun d.now c.tOff = true) (hl : 0 < c.left) :
    d.swResume w n = d.setChan n ((d.chan n).attempting c d.now) := by
  unfold Dev.swResume
  dsimp only
  rw [if_neg, if_pos, swAttempt_starts, attempting_known hc]
  · rw [hc]
    exact hl
  · rw [hc]
    exact ⟨hs, hb, hcool, hcmd, hg⟩
  · rw [hc]
    exact fun x => absurd (hs.symm.trans x.1) (by decide)

section
variable (hc : d.chan n = { c with temp := temp }) (hs : c.state = swTHERMAL_HOLD) (hcool : d.cool n = true)
  (hcmd : c.force.cmd ≠ 0) (hg : gapPast c.gapRun d.now c.tTherm = true) (hm : d.mayConduct n = true)
  (hh : halvesGone w (d.pairChans n) = false)
include hc hs hcool hcmd hg hm hh

theorem swResume_held : d.swResume w n =
    if c.set.lamp then
      if c.inSeq then d.swAttempt n true
      else ((d.setChan n { d.chan n with inSeq := true, tries := 0 }).protect n 0x0302 (d.chan n).left).swAttempt n true
    else (d.swConduct n).protect n 0x0306 (ofInt 16 (d.swTemp n) + c.left * 65536) := by
  unfold Dev.swResume
  dsimp only
  rw [if_pos]
  · rw [hc]
  · rw [hc]
    exact ⟨hs, hcool, hcmd, hg, hm, hh⟩

theorem swResume_conducts (hl : c.set.lamp = false) : d.swResume w n =
    (d.swConduct n).protect n 0x0306 (ofInt 16 (d.swTemp n) + c.left * 65536) := by
  rw [swResume_held hc hs hcool hcmd hg hm hh, if_neg (ne_true_of_eq_false hl)]

theorem swResume_resumes (hl : c.set.lamp = true) (hi : c.inSeq = true) (hn : 0 < c.left) : d.swResume w n =
    (let f := d.setChan n ((d.chan n).attempting c d.now)
    f.protect n 0x0306 (ofInt 16 (f.swTemp n) + (c.left - 1) * 65536)) := by
  have hleft : (d.chan n).left = c.left := by rw [hc]
  rw [swResume_held hc hs hcool hcmd hg hm hh, if_pos hl, if_pos hi, swAttempt_resumes (by rw [hleft]; exact hn),
    attempting_known hc, hleft]

end

theorem swResume_waits (hc : d.chan n = { c with temp := temp })
    (h : d.cool n = false ∨ c.force.cmd = 0 ∨ (c.state ≠ swTHERMAL_HOLD ∧ c.state ≠ swRETRYING)) : d.swResume w n = d := by
  unfold Dev.swResume
  dsimp only
  rw [if_neg, if_neg]
  · rw [hc]
    rintro ⟨hs, -, hcool, hcmd, -⟩
    rcases h with h | h | h
    · exact absurd hcool (ne_true_of_eq_false h)
    · exact hcmd h
    · exact h.2 hs
  · rw [hc]
    rintro ⟨hs, hcool, hcmd, -⟩
    rcases h with h | h | h
    · exact absurd hcool (ne_true_of_eq_false h)
    · exact hcmd h
    · exact h.1 hs

end

theorem cool_goes (s : State) (n : ChanNo) (temp : Int) (t : Nat) :
    Goes (.cool n temp t) s (((s.dev.at t).modChan n fun c => { c with temp := temp }).swResume s.worn (s.dev.lead n)) := rfl

theorem retryGapEnd_goes (s : State) (n : ChanNo) (temp : Int) (t : Nat) :
    Goes (.retryGapEnd n temp t) s (((s.dev.at t).modChan n fun c => { c with temp := temp }).swResume s.worn (s.dev.lead n)) := rfl

/-- What the cooling of a channel and the end of its gap both do (R163). -/
theorem resumes {s : State} {n : ChanNo} {temp : Int} {t : Nat} {e : Dev}
    (h : ((s.dev.at t).modChan n fun c => { c with temp := temp }).swResume s.worn (s.dev.lead n) = e) :
    Goes (.cool n temp t) s e ∧ Goes (.retryGapEnd n temp t) s e :=
  ⟨(cool_goes s n temp t).of_eq h, (retryGapEnd_goes s n temp t).of_eq h⟩

/-- Settles O57: an attempt ends by success, failure or exhaustion; a gap or a hold ends when the channel is cool. -/
theorem switchesRetry : Obligations.SwitchesRetry := by
  unfold Obligations.SwitchesRetry
  intro s n t d m c trying
  have due {ma : Nat} {e : Dev} (ht : c.tTry + c.timRun * 100000 ≤ t) (he : d.swFail m ma = e) : Goes (.tLimExpiry n ma t) s e :=
    Goes.of_eq (c := .tLimExpiry n ma t) (s := s) rfl ((if_pos ht).trans he)
  have early {ma : Nat} (ht : ¬ c.tTry + c.timRun * 100000 ≤ t) : Goes (.tLimExpiry n ma t) s d :=
    Goes.of_eq (c := .tLimExpiry n ma t) (s := s) rfl (if_neg ht)
  refine ⟨fun h => Goes.of_eq (c := .attemptSuccess n t) (s := s) rfl (if_pos h),
    fun h => Goes.of_eq (c := .attemptSuccess n t) (s := s) rfl (if_neg h), fun ma h => early (Nat.not_le.2 h),
    fun ma h ht hl => due ht (swFail_gap (d := d) h hl), fun ma h ht hl => due ht (swFail_last (d := d) h hl),
    fun ma h => ?_, fun h => ?_, fun h1 h2 => ?_, ?_, ?_, fun e => (modChan_chan e m m _).trans (if_pos rfl)⟩
  · by_cases ht : c.tTry + c.timRun * 100000 ≤ t
    · exact due ht (swFail_on (d := d) h)
    · exact early ht
  · exact Goes.of_eq (c := .retryRestore n t) (s := s) rfl (congrArg (d.setChan m) (if_pos h))
  · exact Goes.of_eq (c := .retryRestore n t) (s := s) rfl (congrArg (d.setChan m) (if_neg (not_or.2 ⟨h1, h2⟩)))
  · intro temp e f held
    have hc := temp_chan d n m temp
    refine ⟨fun hs hb hcool hcmd hg hl => resumes ?_, fun hh hl => resumes ?_, fun hh hl hi hn => resumes ?_, fun h => resumes ?_⟩
    · exact swResume_gap hc hs hb hcool hcmd hg hl
    · obtain ⟨hs, hcool, hcmd, hg, hm, hh⟩ := hh
      exact swResume_conducts hc hs hcool hcmd hg hm hh hl
    · obtain ⟨hs, hcool, hcmd, hg, hm, hh⟩ := hh
      exact swResume_resumes hc hs hcool hcmd hg hm hh hl hi hn
    · exact swResume_waits hc h
  · intro b temp who x
    refine ⟨fun h => ?_, fun h => ?_, ?_⟩
    · exact Goes.of_eq (c := .tempWarn b true temp who t) (s := s) rfl (if_pos (by
        show (true && !x.tempWarn) = true
        rw [h]
        rfl))
    · refine Goes.of_eq (c := .tempWarn b true temp who t) (s := s) rfl ((if_neg ?_).trans ?_)
      · show ¬ (true && !x.tempWarn) = true
        rw [h]
        decide
      · exact congrArg (d.setBranch b) (show { x with tempWarn := true } = x by rw [← h])
    · exact Goes.of_eq (c := .tempWarn b false temp who t) (s := s) rfl (if_neg Bool.false_ne_true)

end Sys2Proof.Machine
end

/-! Load switches: the period's duty, clamp events, off-state load tests, current sense (R161, R171, R173 to R176). -/
section
namespace Sys2Proof.Machine

theorem periodDuty_plain {q : SwSet} {duty vf warn : Nat} (h : q.lamp = false) :
    periodDuty q duty vf warn = ((((duty : Int), 65536) : Frac), false) := by
  unfold periodDuty
  rw [h]
  rfl

section
variable {q : SwSet} {duty vf warn : Nat} (h : q.lamp = true)
include h

theorem periodDuty_lamp : periodDuty q duty vf warn =
    if vf < warn then ((1, 1), true)
    else if ((compDuty duty q.compK q.vref vf).2 : Int) ≤ (compDuty duty q.compK q.vref vf).1 then ((1, 1), true)
    else (compDuty duty q.compK q.vref vf, false) := by
  unfold periodDuty
  rw [h]
  rfl

theorem periodDuty_low (hv : vf < warn) : periodDuty q duty vf warn = ((1, 1), true) :=
  (periodDuty_lamp h).trans (if_pos hv)

theorem periodDuty_full (hv : warn ≤ vf)
    (hq : ((compDuty duty q.compK q.vref vf).2 : Int) ≤ (compDuty duty q.compK q.vref vf).1) :
    periodDuty q duty vf warn = ((1, 1), true) :=
  (periodDuty_lamp h).trans ((if_neg (Nat.not_lt.2 hv)).trans (if_pos hq))

theorem periodDuty_part (hv : warn ≤ vf)
    (hq : (compDuty duty q.compK q.vref vf).1 < (compDuty duty q.compK q.vref vf).2) :
    periodDuty q duty vf warn = (compDuty duty q.compK q.vref vf, false) :=
  (periodDuty_lamp h).trans ((if_neg (Nat.not_lt.2 hv)).trans (if_neg (Int.not_le.2 hq)))

end

/-- An on-time is never below the 60 µs where the period has room for twice as much (R161). -/
theorem onTicks_least {q : Frac} {freq : Nat} (h : 2 * 984 ≤ (roundDiv 16384000 freq).toNat) : 984 ≤ onTicks q freq := by
  unfold onTicks
  dsimp only
  split
  · omega
  · exact Nat.le_max_right _ _

/-- A channel whose period starts with a duty (R161, R171, R186). -/
def Chan.periodStarted (c : Chan) (q : Frac) (sat : Bool) : Chan :=
  { c with dAct := dutyShown q, onTicks := Machine.onTicks q c.force.freq, flags := setBit c.flags 6 sat }

section
variable {s : State} {n : ChanNo} {vf t : Nat}

theorem pwm_goes (hs : (s.dev.chan (s.dev.lead n)).state = swPWM) (hf : (s.dev.chan (s.dev.lead n)).force.cmd ≠ 1) {q : Frac} {sat : Bool}
    (hq : periodDuty (s.dev.chan (s.dev.lead n)).set (s.dev.chan (s.dev.lead n)).force.duty vf (s.dev.branch (n.val / 4)).warnLvl = (q, sat)) :
    Goes (.pwmPeriodStart n vf t) s ((s.dev.at t).setChan (s.dev.lead n) ((s.dev.chan (s.dev.lead n)).periodStarted q sat)) := by
  refine Goes.of_eq (c := .pwmPeriodStart n vf t) (s := s) rfl (congrArg ((s.dev.at t).setChan (s.dev.lead n))
    ((if_neg (not_not.2 hs)).trans ((if_neg hf).trans ?_)))
  exact congrArg (fun p : Frac × Bool => (s.dev.chan (s.dev.lead n)).periodStarted p.1 p.2) hq

end

theorem setChan_modChan (d : Dev) (n : Nat) (c : Chan) (f : Chan → Chan) : (d.setChan n c).modChan n f = d.setChan n (f c) := by
  unfold Dev.modChan
  rw [Dev.setChan_setChan, Dev.setChan_chan, if_pos rfl]

section
variable {s : State} {n : ChanNo} {energy tStart t : Nat} {tempStart : Int}

/-- The device as a clamp event leaves its channel before it is judged (R173). -/
def Dev.clamped (d : Dev) (n energy t : Nat) : Dev :=
  d.setChan n { d.chan n with
    clampLast := energy, clampEnd := some t, inc := { (d.chan n).inc with clamp := (d.chan n).inc.clamp + energy } }

theorem clampEvent_within (h1 : energy * 1500 ≤ clampLimit (s.dev.chan (s.dev.lead n)).set.clampS tempStart)
    (h2 : energy ≤ (s.dev.chan (s.dev.lead n)).set.clampR * 1000) :
    Goes (.clampEvent n energy tempStart tStart t) s ((s.dev.at t).clamped n energy t) := by
  refine Goes.of_eq (c := .clampEvent n energy tempStart tStart t) (s := s) rfl (if_neg fun h => ?_)
  rcases Bool.or_eq_true_iff.1 h with h | h
  · exact Nat.not_lt.2 h1 (of_decide_eq_true h)
  · exact Nat.not_lt.2 h2 (of_decide_eq_true (Bool.and_eq_true_iff.1 h).1)

theorem clampEvent_beyond (h : clampLimit (s.dev.chan (s.dev.lead n)).set.clampS tempStart < energy * 1500 ∨
      ((s.dev.chan (s.dev.lead n)).set.clampR * 1000 < energy ∧
        ∃ t0, (s.dev.chan n).clampEnd = some t0 ∧ tStart < t0 + 1000000000)) :
    Goes (.clampEvent n energy tempStart tStart t) s
      ((((s.dev.at t).clamped n energy t).modChan (s.dev.lead n) fun y => { y with flags := setBit y.flags 3 true }).report
        (s.dev.lead n) 0x030C (s.dev.chanSrc (s.dev.lead n)) (min (2 ^ 32 - 1) energy)) := by
  refine Goes.of_eq (c := .clampEvent n energy tempStart tStart t) (s := s) rfl (if_pos (Bool.or_eq_true_iff.2 ?_))
  rcases h with h | ⟨h, t0, he, ht⟩
  · exact .inl (decide_eq_true h)
  · refine .inr (Bool.and_eq_true_iff.2 ⟨decide_eq_true h, ?_⟩)
    split
    · next hn => exact absurd (hn.symm.trans he) nofun
    · next e hs =>
      cases hs.symm.trans he
      exact decide_eq_true ht

end

section
variable {s : State} {n : ChanNo} {vS vO t : Nat}

/-- The load test of a channel runs: it is off or in PWM, leads its pair, and its branch may conduct (R174). -/
def Dev.tests (d : Dev) (n : Nat) : Prop :=
  ((d.chan n).state = swOFF ∨ (d.chan n).state = swPWM) ∧ d.lead n = n ∧ d.mayConduct n = true

/-- A channel after a test that found a short, an open load or neither: three in a row decide (R174, R175). -/
def Chan.foundShort (c : Chan) : Chan := { c with short3 := min 3 (c.short3 + 1), open3 := 0, ok3 := 0 }

def Chan.foundOpen (c : Chan) : Chan := { c with open3 := min 3 (c.open3 + 1), short3 := 0, ok3 := 0 }

def Chan.foundGood (c : Chan) : Chan := { c with ok3 := min 3 (c.ok3 + 1), short3 := 0, open3 := 0 }

theorem foundShort_early {c : Chan} (h : c.short3 < 2) :
    c.foundShort = { c with short3 := c.short3 + 1, open3 := 0, ok3 := 0 } := by
  unfold Chan.foundShort
  rw [Nat.min_eq_right (by omega)]

theorem foundShort_third {c : Chan} (h : 2 ≤ c.short3) : c.foundShort = { c with short3 := 3, open3 := 0, ok3 := 0 } := by
  unfold Chan.foundShort
  rw [Nat.min_eq_left (by omega)]

theorem foundOpen_third {c : Chan} (h : 2 ≤ c.open3) : c.foundOpen = { c with open3 := 3, short3 := 0, ok3 := 0 } := by
  unfold Chan.foundOpen
  rw [Nat.min_eq_left (by omega)]

theorem foundGood_third {c : Chan} (h : 2 ≤ c.ok3) : c.foundGood = { c with ok3 := 3, short3 := 0, open3 := 0 } := by
  unfold Chan.foundGood
  rw [Nat.min_eq_left (by omega)]

section
variable (h : s.dev.tests n)
include h

theorem loadTest_short (hv : (s.dev.chan n).set.vOl < vS) : Goes (.loadTest n vS vO t) s
    (if (s.dev.chan n).short3 + 1 ≥ 3 ∧ bitOf (s.dev.chan n).set.test 1 = true ∧ bitOf (s.dev.chan n).flags 1 = false then
      ((s.dev.at t).setChan n { (s.dev.chan n).foundShort with flags := setBit (s.dev.chan n).flags 1 true }).report n
        0x030A (s.dev.chanSrc n) (min 65535 vS)
    else (s.dev.at t).setChan n (s.dev.chan n).foundShort) := by
  refine Goes.of_eq (c := .loadTest n vS vO t) (s := s) rfl ((if_pos h).trans ((if_pos hv).trans ?_))
  dsimp only
  rw [setChan_modChan]
  rfl

theorem loadTest_open (hv : vS ≤ (s.dev.chan n).set.vOl) (ho : (s.dev.chan n).set.vOl < vO) : Goes (.loadTest n vS vO t) s
    (if (s.dev.chan n).open3 + 1 ≥ 3 ∧ bitOf (s.dev.chan n).set.test 0 = true ∧ bitOf (s.dev.chan n).flags 0 = false then
      ((s.dev.at t).setChan n { (s.dev.chan n).foundOpen with flags := setBit (s.dev.chan n).flags 0 true }).report n
        0x0309 (s.dev.chanSrc n) (min 65535 vO)
    else (s.dev.at t).setChan n (s.dev.chan n).foundOpen) := by
  refine Goes.of_eq (c := .loadTest n vS vO t) (s := s) rfl
    ((if_pos h).trans ((if_neg (Nat.not_lt.2 hv)).trans ((if_pos ho).trans ?_)))
  dsimp only
  rw [setChan_modChan]
  rfl

theorem loadTest_good (hv : vS ≤ (s.dev.chan n).set.vOl) (ho : vO ≤ (s.dev.chan n).set.vOl) : Goes (.loadTest n vS vO t) s
    (if (s.dev.chan n).ok3 + 1 ≥ 3 ∧ (s.dev.chan n).flags % 4 ≠ 0 ∧ s.dev.mayClear n = true then
      ((s.dev.at t).setChan n { (s.dev.chan n).foundGood with
        flags := setBit (setBit (s.dev.chan n).flags 0 false) 1 false }).report n
        0x030B (s.dev.chanSrc n) ((s.dev.chan n).flags % 4)
    else (s.dev.at t).setChan n (s.dev.chan n).foundGood) := by
  refine Goes.of_eq (c := .loadTest n vS vO t) (s := s) rfl
    ((if_pos h).trans ((if_neg (Nat.not_lt.2 hv)).trans ((if_neg (Nat.not_lt.2 ho)).trans ?_)))
  dsimp only
  rw [setChan_modChan]
  rfl

end

end

/-- Settles O58: the duty is fixed at the period's start, a clamp event is stored and judged, three tests in a row decide a load flag. -/
theorem switchesJudgeLoads : Obligations.SwitchesJudgeLoads := by
  unfold Obligations.SwitchesJudgeLoads
  intro s n t d m c x pwm
  refine ⟨fun vf h1 h2 => ?_, fun vf h1 h2 hl => pwm_goes h1 h2 (periodDuty_plain hl),
    fun vf h1 h2 hl hv => pwm_goes h1 h2 (periodDuty_low hl hv),
    fun vf h1 h2 hl hv => ⟨fun hq => pwm_goes h1 h2 (periodDuty_full hl hv hq), fun hq => pwm_goes h1 h2 (periodDuty_part hl hv hq)⟩,
    fun vf h => ?_, fun q freq h => onTicks_least h, ?_, ?_, fun vS vO h1 h2 => ?_, fun b sel => rfl⟩
  · exact Goes.of_eq (c := .pwmPeriodStart n vf t) (s := s) rfl
      (congrArg (d.setChan m) ((if_neg (not_not.2 h1)).trans (if_pos h2)))
  · exact Goes.of_eq (c := .pwmPeriodStart n vf t) (s := s) rfl (congrArg (d.setChan m) (if_pos h))
  · exact fun energy tempStart tStart => ⟨fun h1 h2 => clampEvent_within h1 h2, fun h => clampEvent_beyond h⟩
  · intro hs hm hc
    have hrun : s.dev.tests n := ⟨hs, hm, hc⟩
    refine ⟨fun vS vO hv h3 => ?_, fun vS vO hv h3 ht hf => ?_, fun vS vO hv ho h3 ht hf => ?_, fun vS vO hv ho h3 hf hk => ?_,
      fun vS vO hv ho h3 hf hk => ?_⟩
    · refine (loadTest_short hrun hv).of_eq ((if_neg (fun y => absurd y.1 ?_)).trans ?_)
      · exact Nat.not_le.2 (Nat.succ_lt_succ h3)
      · rw [foundShort_early h3]
    · refine (loadTest_short hrun hv).of_eq ((if_pos ⟨Nat.succ_le_succ h3, ht, hf⟩).trans ?_)
      rw [foundShort_third h3]
    · refine (loadTest_open hrun hv ho).of_eq ((if_pos ⟨Nat.succ_le_succ h3, ht, hf⟩).trans ?_)
      rw [foundOpen_third h3]
    · refine (loadTest_good hrun hv ho).of_eq ((if_neg (fun y => absurd y.2.2 (ne_true_of_eq_false hk))).trans ?_)
      rw [foundGood_third h3]
    · refine (loadTest_good hrun hv ho).of_eq ((if_pos ⟨Nat.succ_le_succ h3, hf, hk⟩).trans ?_)
      rw [foundGood_third h3]
  · exact Goes.of_eq (c := .loadTest n vS vO t) (s := s) rfl (if_neg fun x => x.1.elim h1 h2)

end Sys2Proof.Machine
end

/-! Load switches: failed halves and the coverage limit (R179 to R182). -/
section
namespace Sys2Proof.Machine

theorem nat01_le (b : Bool) : nat01 b ≤ 1 := by cases b <;> decide

section
variable (w : Worn) {n j : Nat} (half : Bool)

/-- The used spares with one half of a channel retired as failed open. -/
def Worn.retireHalf (w : Worn) (n : Nat) (half : Bool) : Worn :=
  { w with halves := w.halves ||| BitVec.ofNat 32 (2 ^ (2 * n + nat01 half)) }

theorem retireHalf_testBit (hn : n < 16) (i : Nat) : (w.retireHalf n half).halves.toNat.testBit i =
    (w.halves.toNat.testBit i || decide (2 * n + nat01 half = i)) := by
  have hb : 2 * n + nat01 half < 32 := by have := nat01_le half; omega
  have hp : 2 ^ (2 * n + nat01 half) < 2 ^ 32 := Nat.pow_lt_pow_right (by omega) hb
  unfold Worn.retireHalf
  rw [BitVec.toNat_or, BitVec.toNat_ofNat, Nat.mod_eq_of_lt hp, Nat.testBit_or, Nat.testBit_two_pow]

/-- A channel with a retired half has the lower threshold (R179). -/
theorem retireHalf_own (hn : n < 16) : shortThreshold (w.retireHalf n half) n = 6000 := by
  unfold shortThreshold
  rw [retireHalf_testBit w half hn, retireHalf_testBit w half hn]
  cases half <;> simp [nat01]

theorem retireHalf_other (hn : n < 16) (hj : j ≠ n) : shortThreshold (w.retireHalf n half) j = shortThreshold w j := by
  have h0 : ¬ 2 * n + nat01 half = 2 * j := by have := nat01_le half; omega
  have h1 : ¬ 2 * n + nat01 half = 2 * j + 1 := by have := nat01_le half; omega
  unfold shortThreshold
  rw [retireHalf_testBit w half hn, retireHalf_testBit w half hn, decide_eq_false h0, decide_eq_false h1, Bool.or_false, Bool.or_false]

end

/-! The last half lost (R181). -/

theorem foldl_bits (l : List Nat) (a j : Nat) : (l.foldl (fun a m => a ||| 2 ^ m) a).testBit j = (a.testBit j || decide (j ∈ l)) := by
  induction l generalizing a with
  | nil => simp
  | cons x xs ih =>
    rw [List.foldl_cons, ih, Nat.testBit_or, Nat.testBit_two_pow]
    by_cases h : x = j
    · simp [h]
    · simp [h, Ne.symm h]

theorem loseHalves_gone (w : Worn) {l : List Nat} (h : ∀ j ∈ l, j < 16) : halvesGone (w.loseHalves l) l = true := by
  refine List.all_eq_true.2 fun j hj => ?_
  have hb : (l.foldl (fun a m => a ||| 2 ^ m) 0).testBit j = true := by
    rw [foldl_bits]
    simp [hj]
  unfold Worn.loseHalves
  dsimp only
  rw [BitVec.toNat_or, BitVec.toNat_ofNat, Nat.testBit_or, Nat.testBit_mod_two_pow, hb, decide_eq_true (h j hj)]
  exact Bool.or_true _

theorem testBit_setBit_false (v i j : Nat) : (setBit v i false).testBit j = (v.testBit j && decide (i ≠ j)) := by
  unfold setBit
  by_cases h : i = j
  · subst h
    cases hv : v.testBit i <;> simp [hv, Nat.testBit_xor, Nat.testBit_two_pow_self]
  · cases hv : v.testBit i <;> simp [Nat.testBit_xor, h]

theorem each_wrBit_testBit (k : Nat) (l : List Nat) (d : Dev) (j : Nat) :
    ((d.each l fun d i => d.wrBit k i false).rd k).testBit j = ((d.rd k).testBit j && decide (j ∉ l)) := by
  induction l generalizing d with
  | nil => simp [Dev.each_nil]
  | cons x xs ih =>
    have hx : (d.wrBit k x false).rd k = setBit (d.rd k) x false := (Dev.wr_rd d k _ k).trans (if_pos rfl)
    rw [Dev.each_cons, ih, hx, testBit_setBit_false]
    by_cases h : x = j
    · simp [h]
    · simp [h, Ne.symm h]

theorem each_wrBit_chan (k : Nat) (l : List Nat) (d : Dev) (j : Nat) :
    (d.each l fun d i => d.wrBit k i false).chan j = d.chan j :=
  each_keeps (fun e => e.chan j) (fun d i => d.wrBit k i false) (fun _ _ => rfl) d l

/-- The device after the last halves of the channels of a switch are lost (R181). -/
def Dev.withoutHalves (d : Dev) (n m : Nat) : Dev :=
  (((d.protect n 0x030E (n * 256)).each (d.pairChans m) fun d j => d.wrBit Reg.SPR_HALVES j false).modChan m fun c =>
    { c with cause := 6 }).swOff m swOFF

section
variable {s : State} {n : ChanNo} {t : Nat}

theorem halvesLost_goes (h : halvesGone s.worn (s.dev.pairChans (s.dev.lead n)) = false) : exec (.halvesLost n t) s =
    .next { s with
      dev := (s.dev.at t).withoutHalves n (s.dev.lead n), worn := s.worn.loseHalves (s.dev.pairChans (s.dev.lead n)) } :=
  if_neg (ne_true_of_eq_false h)

theorem withoutHalves_off (d : Dev) (n m : Nat) :
    ((d.withoutHalves n m).chan m).state = swOFF ∧ ((d.withoutHalves n m).chan m).cause = 6 := by
  unfold Dev.withoutHalves Dev.swOff
  rw [modChan_chan, if_pos rfl, modChan_chan, if_pos rfl]
  exact ⟨rfl, rfl⟩

theorem withoutHalves_other (d : Dev) (n : Nat) {m j : Nat} (h : j ≠ m) : (d.withoutHalves n m).chan j = d.chan j := by
  unfold Dev.withoutHalves Dev.swOff
  rw [modChan_chan, if_neg h, modChan_chan, if_neg h, each_wrBit_chan, protect_chan]

/-- Neither half of any of the channels is a spare any longer. -/
theorem withoutHalves_spares (d : Dev) (n : Nat) {m j : Nat} (h : j ∈ d.pairChans m) :
    bitOf ((d.withoutHalves n m).rd Reg.SPR_HALVES) j = false := by
  refine (each_wrBit_testBit Reg.SPR_HALVES (d.pairChans m) (d.protect n 0x030E (n * 256)) j).trans ?_
  rw [decide_eq_false (not_not.2 h), Bool.and_false]

end

/-- A channel without a half that can conduct ignores a request from OFF (R181). -/
theorem swRequest_gone {d : Dev} {w : Worn} {n : Nat} {v : OutVal} (h : halvesGone w (d.pairChans n) = true)
    (hs : (d.chan n).state = swOFF) (hv : v.cmd ≠ 0) :
    d.swRequest w n v = d.setChan n { d.chan n with force := v, stayOff := false } := by
  have hc : (d.setChan n { d.chan n with force := v, stayOff := false }).chan n =
      { d.chan n with force := v, stayOff := false } := (Dev.setChan_chan _ _ _ _).trans (if_pos rfl)
  have hp : (d.setChan n { d.chan n with force := v, stayOff := false }).pairChans n = d.pairChans n := by
    unfold Dev.pairChans
    rw [hc]
    rfl
  unfold Dev.swRequest
  dsimp only
  rw [if_pos hs, decide_eq_false hv, Bool.and_false]
  unfold Dev.swFromOff
  exact if_pos (.inr (.inr (.inl (by rw [hp]; exact h))))

/-- Settles O59: a retired half lowers one threshold; the last half lost turns the channel off for good; a stuck switch latches. -/
theorem switchHalvesFail : Obligations.SwitchHalvesFail := by
  unfold Obligations.SwitchHalvesFail
  intro s n half t d m c
  refine ⟨fun h1 h2 => if_pos ⟨h1, h2⟩, fun h => if_neg fun x => ?_,
    ⟨retireHalf_own s.worn half n.isLt, fun j _ hj => retireHalf_other s.worn half n.isLt hj⟩,
    fun h => ⟨_, halvesLost_goes h, rfl, rfl, rfl, (withoutHalves_off d n m).1, (withoutHalves_off d n m).2,
      fun j hj => withoutHalves_other d n hj, fun j hj => withoutHalves_spares d n hj⟩, fun h => if_pos h,
    fun w l h => loseHalves_gone w h, fun ma h1 h2 => ?_, fun ma h => ?_, fun e w v h hs hv => ?_⟩
  · obtain ⟨hon, h2⟩ := x
    rcases h with h | h
    · exact hon.elim h.1 h.2
    · exact Nat.ne_of_lt h h2
  · exact Goes.of_eq (c := .stuckOn n half ma t) (s := s) rfl (if_neg (not_or.2 ⟨h1, Nat.not_le.2 h2⟩))
  · exact Goes.of_eq (c := .stuckOn n half ma t) (s := s) rfl (if_pos h)
  · rw [swRequest_gone h hs hv]
    exact (Dev.setChan_chan _ _ _ _).trans (if_pos rfl)

end Sys2Proof.Machine
end

/-! The canopy: a lost rank and lost canopy time (R353, R357). -/
section
namespace Sys2Proof.Machine

/-! The comparison of cycle numbers modulo 2^32 (R353). -/

section
variable {c a : Nat}

theorem later_beyond (hc : c < 2 ^ 32) (h : a + 2 ≤ c) (hw : c < a + 2 ^ 31) : later 32 c (a + 1) = true := by
  have hx : (c + 2 ^ 32 - (a + 1) % 2 ^ 32) % 2 ^ 32 = c - (a + 1) := by omega
  unfold later
  dsimp only
  rw [hx, Bool.and_eq_true_iff]
  exact ⟨decide_eq_true (by omega), decide_eq_true (by omega)⟩

theorem later_within (hc : c < 2 ^ 32) (h : c ≤ a + 1) (hw : a < c + 2 ^ 31) : later 32 c (a + 1) = false := by
  have hx : (c + 2 ^ 32 - (a + 1) % 2 ^ 32) % 2 ^ 32 = 0 ∨ 2 ^ 31 ≤ (c + 2 ^ 32 - (a + 1) % 2 ^ 32) % 2 ^ 32 := by omega
  unfold later
  dsimp only
  rw [Bool.and_eq_false_iff]
  rcases hx with hx | hx
  · exact .inl (decide_eq_false (by omega))
  · exact .inr (decide_eq_false (by omega))

end

theorem log1_canopy (d : Dev) (code src det : Nat) : (d.log1 code src det).canopy = d.canopy := by
  rw [(log1_quiet d code src det).1]

/-! The loss of a rank (R353). -/

section
variable {d : Dev} {r : Nat} {b : Beacon}

/-- The canopy that has lost a rank, expelled by the one that judges. -/
def Dev.rankLost (d : Dev) (r : Nat) : Dev :=
  (d.modCn fun c => { c with lost := setBit c.lost r true }).when d.cnJudges fun d => d.modCn fun c =>
    { c.expel r with verdicts := rankSet c.verdicts r 0 }

theorem cnLose_fresh (hb : d.canopy.beacon r = some b) (h : later 32 d.canopy.cyc (b.cycle + 1) = false) : d.cnLose r = d := by
  unfold Dev.cnLose
  rw [hb]
  dsimp only
  rw [h]
  exact if_pos (Bool.or_true _)

theorem cnLose_lost (hb : d.canopy.beacon r = some b) (hl : bitOf d.canopy.lost r = false)
    (h : later 32 d.canopy.cyc (b.cycle + 1) = true) (hr : r ≠ d.cnRank) :
    d.cnLose r = (d.rankLost r).log1 0x0702 (0xFFE0 + r) b.cycle := by
  unfold Dev.cnLose
  rw [hb]
  dsimp only
  rw [h, hl, if_neg (by decide)]
  have hrank : (d.rankLost r).cnRank = d.cnRank := by
    unfold Dev.rankLost
    cases d.cnJudges <;> rfl
  exact if_pos (decide_eq_true (by
    show r ≠ (d.rankLost r).cnRank
    rw [hrank]
    exact hr))

theorem rankLost_watched (h : d.cnJudges = false) : d.rankLost r = d.modCn fun c => { c with lost := setBit c.lost r true } := by
  unfold Dev.rankLost
  rw [h, Dev.when_false]

theorem rankLost_judged (h : d.cnJudges = true) :
    bitOf (d.rankLost r).canopy.lost r = true ∧ bitOf (d.rankLost r).canopy.admitted r = false := by
  unfold Dev.rankLost
  rw [h, Dev.when_true]
  refine ⟨bitOf_setBit_self _ _, (testBit_setBit_false _ _ _).trans ?_⟩
  rw [decide_eq_false (not_not.2 rfl), Bool.and_false]

end

/-! The loss of canopy time (R357). -/

theorem clampInt_inside {lo hi x : Int} (h1 : lo ≤ x) (h2 : x ≤ hi) : clampInt lo hi x = x := by
  unfold clampInt
  rw [if_neg (Int.not_lt.2 h1), if_neg (Int.not_lt.2 h2)]

section
variable {d : Dev} {x : Int}

/-- The module's offset from canopy time noted and counted (R357). -/
def Dev.offsetCounted (d : Dev) (x : Int) (above below : Nat) : Dev :=
  (d.wrI 32 Reg.CN_DELTA x).modCn fun c => { c with above := above, below := below }

theorem offsetCounted_cnRank (d : Dev) (x : Int) (a b : Nat) : (d.offsetCounted x a b).cnRank = d.cnRank :=
  (Dev.wr_rd d Reg.CN_DELTA _ Reg.CN_RANK).trans (if_neg (by decide))

/-- Canopy time judged by the offsets counted so far, for a rank and a detail word (R357). -/
def Dev.timeJudged (e : Dev) (rank det : Nat) : Dev :=
  if !e.canopy.timeLost && e.canopy.above = 16 then (e.modCn fun c => { c with timeLost := true }).log1 0x0707 (0xFFE0 + rank) det
  else if e.canopy.timeLost && e.canopy.below = 16 then (e.modCn fun c => { c with timeLost := false }).log1 0x0708 (0xFFE0 + rank) det
  else e

theorem timeJudged_lost {e : Dev} {rank det : Nat} (ht : e.canopy.timeLost = false) (ha : e.canopy.above = 16) :
    e.timeJudged rank det = (e.modCn fun c => { c with timeLost := true }).log1 0x0707 (0xFFE0 + rank) det :=
  if_pos (by rw [ht, decide_eq_true ha]; rfl)

theorem timeJudged_back {e : Dev} {rank det : Nat} (ht : e.canopy.timeLost = true) (hb : e.canopy.below = 16) :
    e.timeJudged rank det = (e.modCn fun c => { c with timeLost := false }).log1 0x0708 (0xFFE0 + rank) det :=
  (if_neg (by rw [ht]; exact Bool.false_ne_true)).trans (if_pos (by rw [ht, decide_eq_true hb]; rfl))

theorem timeJudged_same {e : Dev} {rank det : Nat} (h1 : e.canopy.timeLost = true ∨ e.canopy.above ≠ 16)
    (h2 : e.canopy.timeLost = false ∨ e.canopy.below ≠ 16) : e.timeJudged rank det = e := by
  refine (if_neg fun h => ?_).trans (if_neg fun h => ?_)
  · obtain ⟨ht, ha⟩ := Bool.and_eq_true_iff.1 h
    rcases h1 with h1 | h1
    · rw [h1] at ht
      exact Bool.false_ne_true ht
    · exact h1 (of_decide_eq_true ha)
  · obtain ⟨ht, hb⟩ := Bool.and_eq_true_iff.1 h
    rcases h2 with h2 | h2
    · rw [h2] at ht
      exact Bool.false_ne_true ht
    · exact h2 (of_decide_eq_true hb)

theorem cnTime_far (hx : d.cnDelta = some x) (hs : x.natAbs < 2 ^ 31) (h : 1000 < x.natAbs) :
    d.cnTime = (d.offsetCounted x (min 16 (d.canopy.above + 1)) 0).timeJudged d.cnRank (ofInt 32 x) := by
  rw [← offsetCounted_cnRank d x (min 16 (d.canopy.above + 1)) 0]
  unfold Dev.cnTime
  rw [hx]
  dsimp only
  rw [clampInt_inside (by omega) (by omega), decide_eq_true h]
  rfl

theorem cnTime_near (hx : d.cnDelta = some x) (h : x.natAbs ≤ 1000) :
    d.cnTime = (d.offsetCounted x 0 (min 16 (d.canopy.below + 1))).timeJudged d.cnRank (ofInt 32 x) := by
  rw [← offsetCounted_cnRank d x 0 (min 16 (d.canopy.below + 1))]
  unfold Dev.cnTime
  rw [hx]
  dsimp only
  rw [clampInt_inside (by omega) (by omega), decide_eq_false (Nat.not_lt.2 h)]
  rfl

theorem cnTime_none (h : d.cnDelta = none) : d.cnTime = d := by
  unfold Dev.cnTime
  rw [h]

end

/-- Settles O60: a rank silent for two cycles is lost, and sixteen offsets in a row lose canopy time or bring it back. -/
theorem canopyJudges : Obligations.CanopyJudges := by
  unfold Obligations.CanopyJudges
  intro d
  refine ⟨fun r b hb hl => ⟨fun h => cnLose_fresh hb h, fun h hj hr => ?_, fun h hj hr => ?_⟩,
    fun c a hc _ h hw => later_beyond hc h hw, fun c a hc _ h hw => later_within hc h hw, fun h => cnTime_none h,
    fun x hx hs => ⟨fun h => ⟨fun ht ha => ?_, fun ht => ?_⟩, fun h => ⟨fun ht hb => ?_, fun ht => ?_⟩⟩⟩
  · rw [cnLose_lost hb hl h hr, rankLost_watched hj]
  · rw [cnLose_lost hb hl h hr]
    dsimp only
    rw [log1_canopy]
    exact rankLost_judged hj
  · rw [cnTime_far hx hs h, ha]
    exact timeJudged_lost (e := d.offsetCounted x (min 16 (15 + 1)) 0) ht rfl
  · rw [cnTime_far hx hs h]
    refine timeJudged_same (e := d.offsetCounted x (min 16 (d.canopy.above + 1)) 0) ?_ (.inr (Nat.zero_ne_add_one 15))
    exact ht.imp id fun ht => (show min 16 (d.canopy.above + 1) ≠ 16 by omega)
  · rw [cnTime_near hx h, hb]
    exact timeJudged_back (e := d.offsetCounted x 0 (min 16 (15 + 1))) ht rfl
  · rw [cnTime_near hx h]
    refine timeJudged_same (e := d.offsetCounted x 0 (min 16 (d.canopy.below + 1))) (.inr (Nat.zero_ne_add_one 15)) ?_
    exact ht.imp id fun ht => (show min 16 (d.canopy.below + 1) ≠ 16 by omega)

end Sys2Proof.Machine
end
